-- ==== Sys2Proof/Word.lean ====
section
/-! DEFINITION. The word types of the part and their plainest arithmetic (R8: 32-bit registers, little-endian). -/

namespace Sys2Proof

/-- A 32-bit register word (R8). -/
abbrev Word := BitVec 32

/-- One octet. -/
abbrev Byte := BitVec 8

/-- A channel's global index, 0 to 31 (R6). -/
abbrev Ch := Fin 32

end Sys2Proof
end

