-- ==== Sys2Proof/Syntax.lean ====
section
/-! DEFINITION. The commands the block takes: one constructor of `Instr` for each row of the operation and event table,
with what the row's event carries in from outside (a written word, a measured value, a received message). -/

namespace Sys2Proof

/-- Who makes a software access, in the fixed order of R261. -/
inductive Src where
  | sideband | mdio | debug | prog
  deriving DecidableEq, Repr

/-- The four ways an address reaches a register (R255): plain, SET, CLR, TGL. -/
inductive WrOp where
  | plain | set | clr | tgl
  deriving DecidableEq, Repr

/-- A software access as it reaches the part (R256): its source, whether it is a read, its address with any alias, its data,
and its size in bytes. -/
structure Access where
  src : Src
  rd : Bool
  addr : Word
  v : Word
  size : Nat
  deriving DecidableEq, Repr

/-- What hardware does to bits of a register in the cycle of an access (R267): sets or clears them, adds to the counter
they are, or gives them a new value. -/
inductive HwHow where
  | set | clr | add (k : Nat) | put (v : Nat)
  deriving DecidableEq, Repr

/-- A hardware update in the cycle of an access (R267): the register's plain address and the lowest bit of the field. -/
structure HwUpd where
  addr : Word
  lsb : Nat
  how : HwHow
  deriving DecidableEq, Repr

/-- What else falls in the cycle in which an access reaches its block: accesses of other sources (R261), hardware updates
(R267), a natural boundary that applies shadows (R262, R267), an enabled wake source whose condition holds (R302), the
device's entry to Safe (R19), a supply warning's start (R315), and, for the channel concerned, its program's `unvote` of
target 0 (R304) and its leaving MAINT (R53). -/
structure Along where
  others : List Access
  hw : List HwUpd
  boundary : Bool
  wake : Bool
  toSafe : Bool
  supply : Bool
  unvote : Bool
  leave : Bool
  deriving DecidableEq, Repr

/-- Nothing else falls in the cycle. -/
def Along.none : Along := ⟨[], [], false, false, false, false, false, false⟩

/-- The two reference inputs (R275). -/
inductive RefIn where
  | refA | refB
  deriving DecidableEq, Repr

/-- The PLLs of the part: one per channel, one line PLL per trunk (R280), the service PLL. -/
inductive Pll where
  | channel (c : Ch) | line (t : Fin 8) | service
  deriving DecidableEq, Repr

/-- The clock-enable registers (R281, R288). -/
inductive EnReg where
  | svcen | chen (c : Ch)
  deriving DecidableEq, Repr

/-- The block slots of a channel window that a clock gate covers (R288, CLK_CHEN). -/
inductive Slot where
  | chctl | afe | dsp | pcs | link | diag | lpi | frame | queue | seq | calg | seg
  deriving DecidableEq, Repr

/-- A gate that waits to close: one of a channel's blocks, or one of the five service blocks (R281, R282). -/
inductive Gate where
  | chan (c : Ch) (b : Slot) | svc (i : Fin 5)
  deriving DecidableEq, Repr

/-- The engines that count acquisition of their own (R64): the dense section, one floating window, FFE, DFE. -/
inductive Engine where
  | ecD | win (w : Fin 8) | ffe | dfe
  deriving DecidableEq, Repr

/-- One averaged gradient of an update block, for one coefficient (R64). `area` and `index` are as in `DSP_TAPSEL`. -/
structure Grad where
  area : Fin 4
  index : Nat
  g : Int
  deriving DecidableEq, Repr

/-- What the analog side delivers to one update-block boundary: the gradients that are not 0, the averaged phase-detector
output of R65 in units of 1/128 UI, the gain the AGC chose (R54), the block's averaged squared slicer error in units of
2^-24 of the outer level's square (R70), and the sliced values with the place of a symbol at which the partner's precoder
was cleared (R63). -/
structure BlockIn where
  grads : List Grad
  pd : Int
  pga : Nat
  err2 : Nat
  syms : List (Fin 4)
  clear : Option Nat
  deriving DecidableEq, Repr

/-- A Clause 98 page as received from the partner (R85 to R88). -/
inductive AnPage where
  | base (types : BitVec 7) (eee : Bool) (role : Fin 4) (seed : BitVec 16)
  | ouiMessage (oui : BitVec 24)
  | unformatted (code : Word)
  | other
  deriving DecidableEq, Repr

/-- The clause link monitor's reason for FAIL (R128, codes 0x10 to 0x12). -/
inductive MonFail where
  | blockLock | frameSync | other
  deriving DecidableEq, Repr

/-- An eight-octet shift or sleep message (R98, R149), octet 0 in the low byte. -/
structure LinkMsg where
  bits : BitVec 64
  deriving DecidableEq, Repr

/-- The TC10 line messages the clause of R148 names. -/
inductive Tc10 where
  | sleepReq | sleepAck | sleepRej | complete | wakeUp
  deriving DecidableEq, Repr

/-- A wake in the cycle in which SLEEP would be entered (R151): qualified on the line, or a WAKE command. -/
inductive CycWake where
  | line | command
  deriving DecidableEq, Repr

/-- A word of a context record, or of a CAM entry, with an uncorrectable ECC error (R209, R227). -/
structure EccAt where
  idx : Nat
  cam : Bool
  word : Fin 32
  deriving DecidableEq, Repr

/-- An ingress frame as the MAC takes it from the line: its octets from the DA, without FCS; the FCS result; whether an
error block or an invalid code group lies in it (R202, R225); the outcome of the integrity check that MACsec makes when it
makes one (R217); an uncorrectable word that its lookup meets (R209); how many of the FEC codewords decoded last it lies in
(R51); and whether it began before a withdrawal of the channel's last vote (R247). On a segment also its signal in mVpp
(R111), how many invalid code groups have been received outside idle since the frame before it, its own among them (R120),
and whether a COMMIT follows it (R115). -/
structure LineFrame where
  octets : List Byte
  fcsOk : Bool
  lineErr : Bool
  icvOk : Bool
  ecc : Option EccAt
  cws : Nat
  early : Bool
  mv : Nat
  badGroups : Nat
  commit : Bool
  deriving DecidableEq, Repr

/-- A Nguid message as it is taken from the flit stream: its 16-byte header, byte 0 lowest (R234), and its body; and how
many flits failed their CRC and how many were replayed since the message before it (R229, R253). -/
structure NgMsg where
  hdr : BitVec 128
  body : List Byte
  crc : Nat
  replay : Nat
  deriving DecidableEq, Repr

/-- What the analog side finds as a calibration is commanded (R313, R314): no line activity for 1 ms; the differential load
in ohms; CAL_R in ohms under the 10 uA probe; CAL_V in units of 0.1 mV, and its peak change over 100 us in microvolts. -/
structure CalMeas where
  quiet : Bool
  load : Nat
  calR : Nat
  calV : Nat
  calVpp : Nat
  deriving DecidableEq, Repr

/-- What channel BIST found (R324): failing memories and rows. -/
structure BistResult where
  failMem : Byte
  ctxRows : List Nat
  seqRows : List Nat
  deriving DecidableEq, Repr

/-- What an element's wear is measured by (R318): the frequency of the ring oscillator beside it, at the factory and now; and
for a row its corrected ECC errors in the current hour of operation, and whether one was uncorrectable. -/
structure WearMeas where
  pool : Fin 5
  elem : Nat
  fFac : Nat
  fNow : Nat
  corr : Nat
  uncorr : Bool
  deriving DecidableEq, Repr

/-- Where a UCIe data lane failed (R230): its direction (true: receive) and logical lane. -/
structure LaneFail where
  rx : Bool
  lane : Fin 64
  halfWorks : Bool
  deriving DecidableEq, Repr

/-- Where a level source asserts (R335): a channel source or a device source. -/
inductive FSrc where
  | chan (c : Ch) (k : Fin 12) | dev (i : Fin 18)
  deriving DecidableEq, Repr

/-- A fault record or status word that a read marks (R335). -/
inductive FRead where
  | first0 (c : Ch) | fcFirst0 | status (c : Ch) (k : Fin 12) | fcStatus (i : Fin 18)
  deriving DecidableEq, Repr

/-- The commands. Each constructor is one row of the table; its docstring names the row's requirement. -/
inductive Instr where
  /-- R304 -/ | vsupPowerOn (xsd : Fin 4)
  /-- R18 -/ | vsupBrownOut (mv : Nat)
  /-- R287 -/ | rcReady
  /-- R277 -/ | xsdDelayExpire
  /-- R284 -/ | refQualify (r : RefIn)
  /-- R284 -/ | refLost
  /-- R285 -/ | svcClockRestart
  /-- R286 -/ | pllLock (p : Pll)
  /-- R330 -/ | pllLockLoss (p : Pll)
  /-- R330 -/ | pllUnlockTimeout (p : Pll)
  /-- R282 -/ | clockEnableWrite (src : Src) (r : EnReg) (v : Word)
  /-- R282 -/ | gateClose (g : Gate)
  /-- R18 -/ | dormantWake
  /-- R391 -/ | dormantExitToBoot
  /-- R18 -/ | railupTimeout (railsOk : Bool)
  /-- R303 -/ | wakePinQualify
  /-- R303 -/ | mdioAddressWake (prtad : Fin 32)
  /-- R152 -/ | lineWakeQualify (c : Ch)
  /-- R304 -/ | resetNAssert (toSafe : Bool)
  /-- R304 -/ | resetNRelease
  /-- R304 -/ | softrst (src : Src) (v : Word) (toSafe : Bool)
  /-- R304 -/ | heartWatchdogExpire (toSafe : Bool)
  /-- R290 -/ | supplyWarnStart (rail : Fin 6) (mv : Nat)
  /-- R290 -/ | supplyWarnEnd (rail : Fin 6) (minMv : Nat)
  /-- R290 -/ | dipholdExpire
  /-- R291 -/ | supplyReset (rail : Fin 6) (minMv : Nat) (toSafe : Bool)
  /-- R304 -/ | supplyResetRelease
  /-- R295 -/ | tempMeasure (quarterDeg : Int)
  /-- R295 -/ | xthotExpire
  /-- R293 -/ | opRaiseStart
  /-- R293 -/ | opHoldExpire
  /-- R293 -/ | pgoodRise
  /-- R293 -/ | vsettleExpire
  /-- R302 -/ | reqDormant (src : Src) (wake : Bool)
  /-- R302 -/ | dormantEntryDone
  /-- R301 -/ | reqStandby (src : Src)
  /-- R301 -/ | standbyPrepDone
  /-- R301 -/ | reqActive (src : Src)
  /-- R18 -/ | reqService (src : Src)
  /-- R18 -/ | serviceEnter
  /-- R232 -/ | hostL2Request
  /-- R301 -/ | standbyExit
  /-- R297 -/ | chpwrVoteWrite (src : Src) (c : Ch) (op : WrOp) (v : Word)
  /-- R247 -/ | drainEnd (c : Ch)
  /-- R247 -/ | drainTimeout (c : Ch)
  /-- R300 -/ | domainPowerUpDone (c : Ch)
  /-- R300 -/ | pdonTimeout (c : Ch)
  /-- R304 -/ | channelReset (src : Src) (c : Ch) (unvote : Bool)
  /-- R304 -/ | channelResetDone (c : Ch)
  /-- R347 -/ | bootOtpLoadDone (romOk ftOk : Bool) (bad : List Word)
  /-- R347 -/ | bootDone (src : Src)
  /-- R347 -/ | bootWaitExpire
  /-- R347 -/ | bootEnd
  /-- R351 -/ | submit (src : Src)
  /-- R349 -/ | heartDataWrite (src : Src) (v : Word)
  /-- R351 -/ | imageVerdict
  /-- R179 -/ | loadComplete (c : Ch)
  /-- R360 -/ | attest (src : Src)
  /-- R361 -/ | attestDone
  /-- R349 -/ | heartAbort (src : Src)
  /-- R353 -/ | keyProg (src : Src) (v : Word)
  /-- R356 -/ | deploy (src : Src) (v : Word)
  /-- R357 -/ | lcReturn (src : Src) (v : Word)
  /-- R357 -/ | scrap (src : Src) (v : Word)
  /-- R354 -/ | rbSet (src : Src) (v : Word)
  /-- R352 -/ | lcProgDone (bad : Option Word)
  /-- R362 -/ | dbgNonce (src : Src) (n : BitVec 128)
  /-- R362 -/ | nonceExpire
  /-- R364 -/ | dbgOpen (src : Src)
  /-- R365 -/ | tokenCheckDone
  /-- R366 -/ | dbgClose (src : Src)
  /-- R366 -/ | sessionExpire
  /-- R160 -/ | seqStart (c : Ch)
  /-- R160 -/ | seqCmdRun (src : Src) (c : Ch)
  /-- R160 -/ | seqCmdHalt (src : Src) (c : Ch) (issue wdog : Bool)
  /-- R160 -/ | seqCmdResume (src : Src) (c : Ch)
  /-- R160 -/ | seqCmdStep (src : Src) (c : Ch)
  /-- R170 -/ | waitWake (c : Ch)
  /-- R170 -/ | waitTimeout (c : Ch)
  /-- R172 -/ | timerExpire (c : Ch) (n : Fin 8)
  /-- R176 -/ | watchdogExpire (c : Ch)
  /-- R175 -/ | seqTrapack (src : Src) (c : Ch) (v : Word)
  /-- R176 -/ | seqWdkick (src : Src) (c : Ch) (v : Word)
  /-- R176 -/ | seqWdogWrite (src : Src) (c : Ch) (v : Word)
  /-- R171 -/ | seqMboxInWrite (src : Src) (c : Ch) (v : Word)
  /-- R162 -/ | pramWrite (src : Src) (c : Ch) (off : BitVec 16) (v : Word)
  /-- R191 -/ | add (c : Ch)
  /-- R191 -/ | sub (c : Ch)
  /-- R191 -/ | and (c : Ch)
  /-- R191 -/ | or (c : Ch)
  /-- R191 -/ | xor (c : Ch)
  /-- R191 -/ | shl (c : Ch)
  /-- R191 -/ | shr (c : Ch)
  /-- R191 -/ | sar (c : Ch)
  /-- R191 -/ | min (c : Ch)
  /-- R191 -/ | max (c : Ch)
  /-- R191 -/ | abs (c : Ch)
  /-- R191 -/ | cmp (c : Ch)
  /-- R191 -/ | mov (c : Ch)
  /-- R193 -/ | mac (c : Ch)
  /-- R193 -/ | msu (c : Ch)
  /-- R193 -/ | clra (c : Ch)
  /-- R193 -/ | rda (c : Ch)
  /-- R172 -/ | tset (c : Ch)
  /-- R199 -/ | raise (c : Ch)
  /-- R199 -/ | post (c : Ch)
  /-- R263 -/ | commit (c : Ch)
  /-- R199 -/ | halt (c : Ch)
  /-- R192 -/ | addi (c : Ch)
  /-- R192 -/ | andi (c : Ch)
  /-- R192 -/ | ori (c : Ch)
  /-- R192 -/ | cmpi (c : Ch)
  /-- R192 -/ | movi (c : Ch)
  /-- R192 -/ | movh (c : Ch)
  /-- R194 -/ | ld (c : Ch)
  /-- R194 -/ | st (c : Ch)
  /-- R196 -/ | loop (c : Ch)
  /-- R199 -/ | vote (c : Ch)
  /-- R199 -/ | unvote (c : Ch)
  /-- R195 -/ | br (c : Ch)
  /-- R195 -/ | call (c : Ch)
  /-- R195 -/ | ret (c : Ch)
  /-- R197 -/ | prd (c : Ch)
  /-- R165 -/ | pwr (c : Ch)
  /-- R170 -/ | wait (c : Ch)
  /-- R198 -/ | frz (c : Ch)
  /-- R198 -/ | thw (c : Ch)
  /-- R256 -/ | registerWrite (a : Access) (al : Along)
  /-- R258 -/ | postedWriteLand (c : Ch) (al : Along)
  /-- R257 -/ | aliasSetWrite (src : Src) (addr : Word) (v : Word)
  /-- R257 -/ | aliasClrWrite (src : Src) (addr : Word) (v : Word)
  /-- R257 -/ | aliasTglWrite (src : Src) (addr : Word) (v : Word)
  /-- R26 -/ | rcCounterRead (src : Src) (addr : Word) (size : Nat) (inc : Nat) (others : List Access)
  /-- R262 -/ | shWrite (src : Src) (addr : Word) (v : Word)
  /-- R262 -/ | shadowApply (c : Ch)
  /-- R263 -/ | integCommit (src : Src) (v : Word)
  /-- R264 -/ | keygateWrite (src : Src) (v : Word)
  /-- R264 -/ | keygateTimeout
  /-- R270 -/ | sweepComplete
  /-- R271 -/ | cfgrefWrite (src : Src) (addr : Word) (v : Word)
  /-- R273 -/ | fprint0Read (src : Src)
  /-- R53 -/ | afeCtlWrite (src : Src) (c : Ch) (v : Word) (leave : Bool)
  /-- R53 -/ | pcsCtlWrite (src : Src) (c : Ch) (v : Word) (leave : Bool)
  /-- R55 -/ | pcsTestmodeWrite (src : Src) (c : Ch) (v : Word) (leave : Bool)
  /-- R50 -/ | satBlockEnd (c : Ch) (fullScale : Nat)
  /-- R51 -/ | fecCodewordDecode (c : Ch) (corrected : Option Nat)
  /-- R52 -/ | fecBurstWindowEnd (c : Ch)
  /-- R43 -/ | alignmentSearch (c : Ch) (wrongBits : Nat)
  /-- R44 -/ | oamFieldReceive (c : Ch) (octets : List Byte)
  /-- R69 -/ | updateBlockBoundary (c : Ch) (inp : BlockIn)
  /-- R64 -/ | acqToTrack (c : Ch) (e : Engine)
  /-- R60 -/ | probeDwellEnd (c : Ch) (est : List Int)
  /-- R61 -/ | dspWinWrite (src : Src) (c : Ch) (w : Fin 8) (v : Word)
  /-- R73 -/ | capt (src : Src) (c : Ch)
  /-- R73 -/ | captDone (c : Ch)
  /-- R71 -/ | snap (src : Src) (c : Ch)
  /-- R71 -/ | snapPeriodic (c : Ch)
  /-- R82 -/ | clr (src : Src) (c : Ch)
  /-- R77 -/ | rebase (src : Src) (c : Ch)
  /-- R77 -/ | rebaseDone (c : Ch)
  /-- R60 -/ | probeRst (src : Src) (c : Ch)
  /-- R75 -/ | dspTapdataWrite (src : Src) (c : Ch) (v : Word)
  /-- R75 -/ | dspTapdataRead (src : Src) (c : Ch)
  /-- R77 -/ | stbyTypeWrite (src : Src) (c : Ch) (v : Word)
  /-- R68 -/ | divergedClear (src : Src) (c : Ch)
  /-- R70 -/ | mseWindowEnd (c : Ch)
  /-- R72 -/ | tapSatCountExpire (c : Ch)
  /-- R84 -/ | start (src : Src) (c : Ch)
  /-- R84 -/ | stop (src : Src) (c : Ch)
  /-- R84 -/ | restart (src : Src) (c : Ch)
  /-- R97 -/ | shift (src : Src) (c : Ch)
  /-- R102 -/ | shiftCancel (src : Src) (c : Ch)
  /-- R84 -/ | holdoffEnd (c : Ch)
  /-- R87 -/ | anPageReceive (c : Ch) (p : AnPage)
  /-- R86 -/ | anResolve (c : Ch)
  /-- R90 -/ | anTimeout (c : Ch)
  /-- R94 -/ | trainTimeout (c : Ch)
  /-- R90 -/ | linkUp (c : Ch) (lpReq : Option (Fin 4)) (ack : Bool)
  /-- R93 -/ | xsilExpire (c : Ch)
  /-- R91 -/ | infofieldReceive (c : Ch) (bits : BitVec 192) (crc : BitVec 16)
  /-- R93 -/ | infofieldSend (c : Ch)
  /-- R95 -/ | linkMonitorFail (c : Ch) (why : MonFail)
  /-- R100 -/ | shiftReqReceive (c : Ch) (m : LinkMsg)
  /-- R100 -/ | shiftAckReceive (c : Ch) (m : LinkMsg)
  /-- R102 -/ | shiftNakReceive (c : Ch) (m : LinkMsg)
  /-- R100 -/ | shiftSetReceive (c : Ch) (m : LinkMsg)
  /-- R100 -/ | shiftSetackReceive (c : Ch) (m : LinkMsg)
  /-- R104 -/ | shiftDoneReceive (c : Ch) (m : LinkMsg)
  /-- R102 -/ | shiftCancelReceive (c : Ch) (m : LinkMsg)
  /-- R102 -/ | shiftRspTimeout (c : Ch)
  /-- R103 -/ | shiftSwitch (c : Ch)
  /-- R105 -/ | shiftResumeTimeout (c : Ch)
  /-- R107 -/ | chctlCtlWrite (src : Src) (c : Ch) (v : Word)
  /-- R21 -/ | maintEntry (c : Ch)
  /-- R338 -/ | qrel (src : Src) (c : Ch)
  /-- R113 -/ | segStart (src : Src) (c : Ch)
  /-- R113 -/ | segStop (src : Src) (c : Ch)
  /-- R109 -/ | segCtlWrite (src : Src) (c : Ch) (v : Word)
  /-- R112 -/ | segJoinExpire (c : Ch)
  /-- R112 -/ | segJoinTimeout (c : Ch)
  /-- R115 -/ | beaconReceive (c : Ch) (mv : Nat)
  /-- R116 -/ | beaconLoss (c : Ch)
  /-- R115 -/ | plcaToExpire (c : Ch)
  /-- R118 -/ | collision (c : Ch) (bitTime : Nat) (diff : Option Nat)
  /-- R118 -/ | backoffExpire (c : Ch)
  /-- R123 -/ | retryStart (c : Ch)
  /-- R122 -/ | rewindOvertake (c : Ch)
  /-- R130 -/ | tdr (src : Src) (c : Ch)
  /-- R131 -/ | isr (src : Src) (c : Ch)
  /-- R129 -/ | diagAbort (src : Src) (c : Ch)
  /-- R136 -/ | trendClr (src : Src) (c : Ch)
  /-- R127 -/ | sqiRst (src : Src) (c : Ch)
  /-- R136 -/ | diagCtlWrite (src : Src) (c : Ch) (v : Word)
  /-- R130 -/ | tdrActivityDetect (c : Ch)
  /-- R130 -/ | tdrListenEnd (c : Ch)
  /-- R130 -/ | tdrAcquireEnd (c : Ch)
  /-- R135 -/ | diagRunComplete (c : Ch) (bursts : List (List Int)) (clr : Bool)
  /-- R136 -/ | trendIntervalEnd (c : Ch) (clr : Bool)
  /-- R144 -/ | txReq (src : Src) (c : Ch) (v : Word)
  /-- R144 -/ | lpiTxEnter (c : Ch)
  /-- R146 -/ | lpiRxEnter (c : Ch)
  /-- R146 -/ | lpiRxExit (c : Ch)
  /-- R144 -/ | lpiIdleExpire (c : Ch)
  /-- R150 -/ | sleep (src : Src) (c : Ch)
  /-- R152 -/ | wake (src : Src) (c : Ch)
  /-- R154 -/ | padRelease (src : Src) (c : Ch) (latch : Bool)
  /-- R152 -/ | wakeSignalEnd (c : Ch)
  /-- R148 -/ | tc10MessageReceive (c : Ch) (m : Tc10)
  /-- R150 -/ | slpReqReceive (c : Ch) (m : LinkMsg)
  /-- R150 -/ | slpAckReceive (c : Ch) (m : LinkMsg)
  /-- R150 -/ | slpNakReceive (c : Ch) (m : LinkMsg)
  /-- R150 -/ | slpGoReceive (c : Ch) (m : LinkMsg)
  /-- R150 -/ | slpCancelReceive (c : Ch) (m : LinkMsg)
  /-- R150 -/ | sleepRspTimeout (c : Ch)
  /-- R150 -/ | sleepEnter (c : Ch) (wake : Option CycWake) (loss : Option (Fin 256))
  /-- R207 -/ | ctxInsert (src : Src) (c : Ch)
  /-- R213 -/ | ctxUpdate (src : Src) (c : Ch) (index : Nat) (wmask : BitVec 5)
  /-- R207 -/ | ctxDelete (src : Src) (c : Ch) (index : Nat)
  /-- R207 -/ | ctxLookup (src : Src) (c : Ch)
  /-- R207 -/ | ctxRead (src : Src) (c : Ch) (index : Nat)
  /-- R207 -/ | ctxCmdComplete (c : Ch) (ecc : Option (Fin 32))
  /-- R207 -/ | frameCtlWrite (src : Src) (c : Ch) (v : Word)
  /-- R202 -/ | ingressFrameReceive (c : Ch) (fr : LineFrame)
  /-- R213 -/ | meterRefresh (c : Ch) (index : Nat)
  /-- R244 -/ | egressFrameStart (c : Ch) (ecc : Option EccAt)
  /-- R24 -/ | egressFrameDelivered (c : Ch)
  /-- R244 -/ | egressUnderrun (c : Ch) (eps : Int)
  /-- R218 -/ | msInstall (src : Src) (c : Ch)
  /-- R218 -/ | msRetire (src : Src) (c : Ch)
  /-- R218 -/ | msSwitch (src : Src) (c : Ch)
  /-- R218 -/ | msWriteSc (src : Src) (c : Ch)
  /-- R221 -/ | tsSet (src : Src) (c : Ch)
  /-- R221 -/ | tsAdj (src : Src) (c : Ch)
  /-- R226 -/ | acctSnap (src : Src) (c : Ch)
  /-- R230 -/ | laneFailure (l : LaneFail)
  /-- R248 -/ | ucieLinkReset (linkError : Bool)
  /-- R248 -/ | hpreset (src : Src)
  /-- R253 -/ | hostRetrain (src : Src)
  /-- R243 -/ | adapterActive
  /-- R232 -/ | l1IdleExpire
  /-- R232 -/ | hostL1Request
  /-- R236 -/ | nguidFrameStart (m : NgMsg)
  /-- R236 -/ | nguidFrameCont (m : NgMsg)
  /-- R236 -/ | nguidFrameEnd (m : NgMsg)
  /-- R240 -/ | nguidCreditGrant (m : NgMsg)
  /-- R240 -/ | nguidCreditReturn (m : NgMsg)
  /-- R243 -/ | nguidCreditResync (m : NgMsg)
  /-- R249 -/ | todSet (m : NgMsg)
  /-- R249 -/ | todLoad
  /-- R250 -/ | controlFlush (m : NgMsg)
  /-- R250 -/ | controlMbox (m : NgMsg)
  /-- R250 -/ | controlSnap (m : NgMsg)
  /-- R240 -/ | creditGrantTimer (c : Ch) (cls : Fin 8)
  /-- R237 -/ | hostSegmentSend
  /-- R246 -/ | queueFlush (src : Src) (c : Ch) (v : Word)
  /-- R246 -/ | flushComplete (c : Ch)
  /-- R241 -/ | qEgclsWrite (src : Src) (c : Ch) (cls : Fin 8) (v : Word)
  /-- R313 -/ | calRref (src : Src) (m : CalMeas)
  /-- R313 -/ | calVref (src : Src) (m : CalMeas)
  /-- R311 -/ | imgSave (src : Src)
  /-- R312 -/ | imgLoad (src : Src)
  /-- R310 -/ | calCommit (src : Src) (dev : Bool)
  /-- R310 -/ | bankCopyDone
  /-- R315 -/ | calAbort (src : Src) (supply : Bool)
  /-- R313 -/ | calgHyb (src : Src) (c : Ch) (m : CalMeas)
  /-- R313 -/ | calgAmp (src : Src) (c : Ch) (m : CalMeas)
  /-- R313 -/ | calgRxg (src : Src) (c : Ch) (m : CalMeas)
  /-- R324 -/ | calgBist (src : Src) (c : Ch)
  /-- R315 -/ | calgAbort (src : Src) (c : Ch) (supply : Bool)
  /-- R315 -/ | calComplete (c : Option Ch) (meas target target2 : Int)
  /-- R324 -/ | bistComplete (c : Ch) (r : BistResult)
  /-- R316 -/ | sliceCalUpdate (c : Ch) (slice : Nat) (off gain skew : Int) (fault : Option (Fin 2))
  /-- R318 -/ | wearUpdate (c : Ch) (l : List WearMeas)
  /-- R319 -/ | approve (src : Src) (c : Ch)
  /-- R319 -/ | deny (src : Src) (c : Ch)
  /-- R319 -/ | swap (src : Src) (c : Ch) (v : Word)
  /-- R321 -/ | graftRecordDone (c : Ch) (bad : Option Word)
  /-- R321 -/ | graftSwitch (c : Ch)
  /-- R323 -/ | lifeEstimate (c : Ch)
  /-- R335 -/ | faultLevelFall (x : FSrc)
  /-- R336 -/ | fltAck (src : Src) (c : Ch) (v : Word)
  /-- R336 -/ | fcAck (src : Src) (v : Word)
  /-- R339 -/ | safeExit (src : Src) (v : Word)
  /-- R343 -/ | smbist (src : Src) (v : Word)
  /-- R343 -/ | smbistDone (fail : BitVec 3) (rows : Nat)
  /-- R342 -/ | faultForce (src : Src) (addr : Word) (v : Word)
  /-- R329 -/ | fcClassWrite (src : Src) (w : Fin 8) (v : Word)
  /-- R345 -/ | fcTime0Read (src : Src)
  /-- R381 -/ | mdioAddress (prtad : Ch) (devad : Fin 32) (reg : BitVec 16)
  /-- R379 -/ | mdioWrite (prtad : Ch) (devad : Fin 32) (v : BitVec 16)
  /-- R381 -/ | mdioRead (prtad : Ch) (devad : Fin 32) (late : Bool)
  /-- R381 -/ | mdioReadInc (prtad : Ch) (devad : Fin 32) (late : Bool)
  /-- R384 -/ | mdioNativeRd (prtad : Ch)
  /-- R384 -/ | mdioNativeWrite (prtad : Ch) (v : BitVec 16)
  /-- R384 -/ | mdioNativeReadDone (prtad : Ch)
  /-- R385 -/ | bypass
  /-- R385 -/ | idcode
  /-- R385 -/ | samplePreload (preload : BitVec 34) (sampled : BitVec 34)
  /-- R386 -/ | extest (boundary : BitVec 34)
  /-- R385 -/ | clamp
  /-- R385 -/ | highz
  /-- R387 -/ | instrAccess (sib : BitVec 33)
  /-- R385 -/ | trst (low : Bool)
  /-- R146 -/ | lpiRefresh (c : Ch) (rx : Bool) (begins : Bool)
  /-- R104 -/ | blockLockChange (c : Ch) (lock : Bool) (aligned : Bool)
  /-- R293 -/ | pgoodFall
  /-- R284 -/ | refMonitorBad (r : RefIn)
  /-- R250 -/ | eventMessageSend (c : Ch)
  /-- R249 -/ | tstampMessageSend (c : Ch)
  /-- R185 -/ | undefinedOpcode (c : Ch)
  /-- R162 -/ | fetchOutsideLoadedRange (c : Ch)
  /-- R238 -/ | nguidTypeError (m : NgMsg)
  /-- R250 -/ | controlUnknownCode (m : NgMsg)
  /-- R335 -/ | faultRecordRead (src : Src) (x : FRead)
  /-- R328 -/ | glitchDetect
  /-- R369 -/ | keyStoreIntegrityFail
  /-- R328 -/ | svcMemEccError (pd : Fin 4) (row : Nat)
  /-- R343 -/ | canopyRamEccError (row : Nat)
  deriving DecidableEq, Repr

end Sys2Proof
end

