-- ==== Sys2Proof/Decode.lean ====
section
/-! DEFINITION. The command a word spells by the bits of the operation and event table. The table gives no row any bits: its
rows are accesses, messages and events, and none has an encoding. So no word spells a command. -/

namespace Sys2Proof

/-- The command that the low `nbits` bits of `w` spell: none, since the table gives no row bits (log entry 2). -/
def decodeTableWord (_nbits _w : Nat) : Option Instr := none

end Sys2Proof
end

