-- ==== Sys2Proof/Config.lean ====
section
/-! DEFINITION. What the spec leaves open: opaque constants without a body, so that no proof can lean on a value. -/

namespace Sys2Proof.Config

/-- A fresh free value for each use, in place of a value the spec does not state (log entry 5). -/
opaque freeValue : Nat → BitVec 64

/-- The AES encryption of an all-zero block under a key, low 24 bits: the key check value of R215. The spec names the
cipher and does not restate it (log entry 6). -/
opaque keyCheckValue : (key256 : BitVec 256) → (is256 : Bool) → BitVec 24

/-- An octet of the GCM key stream of a cipher suite under a key, salt, SSCI, SCI and packet number (R214). The spec names
the suites and does not restate them (log entry 6). -/
opaque gcmStream : (cipher key salt ssci sci pn i : Nat) → BitVec 8

/-- The integrity check value of a protected frame's octets under a cipher suite, key, salt, SSCI, SCI and packet number
(R214, log entry 6). -/
opaque gcmIcv : (cipher key salt ssci sci pn : Nat) → List (BitVec 8) → BitVec 128

/-- A backoff generator (R118): draw `k` of the segment channel `chan` of the die `did`. Two channels, and two dies, never
draw the same sequence: some draw differs in the ten bits that R118 uses at most. -/
structure BackoffGen where
  draw : (did chan k : Nat) → Nat
  distinct : ∀ did chan did' chan', (did, chan) ≠ (did', chan') → ∃ k, draw did chan k % 1024 ≠ draw did' chan' k % 1024

/-- There is a backoff generator: draw `k` is bit `k` of a number that names die and channel. -/
def BackoffGen.some : BackoffGen where
  draw did chan k := ((Nat.pair did chan).testBit k).toNat
  distinct did chan did' chan' h := by
    by_contra hc
    push Not at hc
    refine h (Prod.ext_iff.2 (Nat.pair_eq_pair.1 (Nat.eq_of_testBit_eq fun k => ?_)))
    have := hc k
    revert this
    cases (Nat.pair did chan).testBit k <;> cases (Nat.pair did' chan').testBit k <;> simp

/-- The backoff generator of the part; the spec gives no algorithm (R118, log entry 37). -/
opaque backoffGen [Inhabited BackoffGen] : BackoffGen

/-- Draw `k` of the backoff generator of a segment channel, seeded from the device ID and the channel's index (R118). -/
def backoffDraw (did chan k : Nat) : Nat := (@backoffGen ⟨BackoffGen.some⟩).draw did chan k

/-- The collision-detect threshold of an extended segment in mVpp, and by how much more than 1 mVpp that of a standard segment
lies above it; the spec gives no figure, only that EXT lowers it (R111, log entry 37). -/
opaque collisionExt : Nat
opaque collisionGap : Nat

/-- The collision-detect threshold in mVpp, for a standard and for an extended segment (R111). -/
def collisionMv (ext : Bool) : Nat := if ext then collisionExt else collisionExt + collisionGap + 1

/-- Whether chip `i` of the 1,023-chip PRBS of a link-down reflectometry burst is positive; the spec gives no polynomial (R130,
log entry 38). -/
opaque prbsChip : (i : Nat) → Bool

/-- The places of the cells of the boundary register (R386): a data cell for each of its thirteen pins and a control cell for
each of the six that can drive, no two in one place. -/
structure BndCells where
  cell : Fin 19 → Fin 34
  inj : ∀ i j, cell i = cell j → i = j

/-- There are such places. -/
def BndCells.some : BndCells where
  cell i := ⟨i.val, Nat.lt_trans i.isLt (by decide)⟩
  inj i j h := Fin.ext (Fin.mk.inj h)

/-- The places of the boundary register's cells; the spec gives no order (R386, log entry 21). -/
opaque bndCells [Inhabited BndCells] : BndCells

/-- The place of boundary cell `i`. -/
def bndCell (i : Fin 19) : Fin 34 := (@bndCells ⟨BndCells.some⟩).cell i

/-- The value of a control cell that lets its pin drive; the spec does not give it (R386, log entry 21). -/
opaque bndDrives : Bool

/-- The near-end response in factory trim, by channel, kind of run (true: in service) and sample; the spec gives no layout
for it (R130, R131, log entry 38). -/
opaque nearEnd : (chan : Nat) → (isr : Bool) → (k : Nat) → Int

/-- The factory launch-to-receive gain of a channel, in 2^-16 of 1/1,024 for each unit of a profile (R134, log entry 38). -/
opaque launchGain : (chan : Nat) → (isr : Bool) → Nat

/-- The factory baseline of a slice's offset correction, in 1/256 ADC LSB, by channel and slice; the spec gives no place for it
(R316, log entry 35). -/
opaque sliceBase : (chan slice : Nat) → Int

/-- The CLASS of a message type for which the spec names no class: CONTROL answers and EVENT (R234, log entry 48). -/
opaque ngClass : (typ : Nat) → BitVec 3

/-- A byte of a ROM link program, by program ID and byte address in program RAM (R181). The spec names the programs and does
not list their words (log entry 8). -/
opaque romByte : (id addr : Nat) → BitVec 8

/-- The load address and length of a ROM program, in words, before the limits of the program RAM (R181, log entry 8). -/
opaque romPlace : (id : Nat) → Nat × Nat

end Sys2Proof.Config
end

