-- ==== Sys2Proof/Machine/Fields.lean ====
section
/-! DEFINITION. The register fields of the part: one name for each field of the spec's register tables (R8, R10), with
where it lies, its access code (R11), its reset value, its retention class (R305), and whether it is a configuration
field (R269). The offsets follow the register tables of the owning chapters and R399, R400. -/

namespace Sys2Proof.Machine

/-- The class of a channel (R6): trunk 0 to 7, branch 8 to 23, segment 24 to 31. -/
inductive ChClass where
  | trunk | branch | segment
  deriving DecidableEq, Repr

/-- The class of channel `c` (R6). -/
def classOf (c : Ch) : ChClass :=
  if c.val < 8 then .trunk else if c.val < 24 then .branch else .segment

/-- The register blocks of a channel window, in ascending window offset (R400). -/
inductive CBlk where
  | chctl | afe | dsp | pcs | link | diag | lpi | frame | queue | seq | calg | chpwr | fault | seg
  deriving DecidableEq, Repr

/-- The device-service blocks, in ascending base order (R400). -/
inductive DBlk where
  | tap | clk | pwr | canopy | heart | cal | host | integ | id | debug | mgmt
  deriving DecidableEq, Repr

/-- The fields of the common trailer (R268), but for `BLK_ID`, which is constant, and `WBUSY`, which is a view. -/
inductive TrF where
  | ID | CFGCRC | CFGREF | HWUPD_LOST | REF_ARMED | CRC_MM_SEEN | CRC_MM | WPOST_OVF | WBUSY
  deriving DecidableEq, Repr

/-- The access codes (R11). `rwp`, `w1cp` and `wop` are the codes the SEQ tables write "RW, prog" and so on: software
writes by the code, and the link program may write the field too (R183). -/
inductive Acc where
  | ro | rw | wo | w1c | w1s | rc | rwk | woc | sh | rwp | w1cp | wop
  deriving DecidableEq, Repr

/-- The retention class of a field (R305): C Taproot, D user calibration, E channel configuration, F counters and
status, `s` service configuration, `sk` what a warm reset keeps and Dormant loses (some service configuration, the
reference status, and Canopy's records and counts, R336), `p` the other registers of a device-service block, which a warm
reset and Dormant clear. -/
inductive Keep where
  | c | d | e | f | s | sk | p
  deriving DecidableEq, Repr

/-- A reset value: one for every instance, or one per channel class. -/
inductive Rst where
  | n (v : Nat) | byClass (t b s : Nat)
  deriving DecidableEq, Repr

/-- What the register tables say of a field. -/
structure FInfo where
  off : Nat
  lsb : Nat
  wid : Nat
  acc : Acc
  rst : Rst
  keep : Keep
  crc : Bool
  deriving DecidableEq, Repr

/-- The retention class of a block's configuration fields, which is that of its trailer (R271). -/
def CBlk.cfgKeep : CBlk → Keep
  | .chpwr => .s
  | .fault => .s
  | .chctl | .afe | .dsp | .pcs | .link | .diag | .lpi | .frame | .queue | .seq | .calg | .seg => .e

/-- As `CBlk.cfgKeep`, for a device-service block (R271, R305). -/
def DBlk.cfgKeep : DBlk → Keep
  | .tap => .c
  | .clk | .pwr | .host | .integ | .mgmt | .canopy => .s
  | .heart => .sk
  | .cal | .id | .debug => .p

/-- The trailer's fields (R268); `k` is the retention class of the block's configuration. -/
def TrF.info (k : Keep) : TrF → FInfo
  | .ID => ⟨0x3FF0, 0, 32, .ro, .n 0, k, false⟩
  | .CFGCRC => ⟨0x3FF4, 0, 32, .ro, .n 0, k, false⟩
  | .CFGREF => ⟨0x3FF8, 0, 32, .rw, .n 0, k, false⟩
  | .HWUPD_LOST => ⟨0x3FFC, 5, 1, .w1c, .n 0, k, false⟩
  | .REF_ARMED => ⟨0x3FFC, 4, 1, .ro, .n 0, k, false⟩
  | .CRC_MM_SEEN => ⟨0x3FFC, 3, 1, .w1c, .n 0, k, false⟩
  | .CRC_MM => ⟨0x3FFC, 2, 1, .ro, .n 0, k, false⟩
  | .WPOST_OVF => ⟨0x3FFC, 1, 1, .w1c, .n 0, k, false⟩
  | .WBUSY => ⟨0x3FFC, 0, 1, .ro, .n 0, k, false⟩

/-- The trailer's fields by offset (R268). -/
def trailerAt (o : Nat) : List TrF :=
  if o = 0x3FF0 then [.ID] else
  if o = 0x3FF4 then [.CFGCRC] else
  if o = 0x3FF8 then [.CFGREF] else
  if o = 0x3FFC then [.HWUPD_LOST, .REF_ARMED, .CRC_MM_SEEN, .CRC_MM, .WPOST_OVF, .WBUSY] else []

/-- The fields of the channel blocks. -/
inductive CFld where
  -- the trailer of each block (R268), then the register arrays of every block, then its single registers
  | tr (b : CBlk) (t : TrF)
  -- AFE (R54, 02_line_interface.md)
  | AFE_SLICEMAP_SLICE_USED (k : Nat)
  -- DSP (R82, 03_receive_dsp.md)
  | DSP_WIN_EN (k : Nat) | DSP_WIN_START (k : Nat)
  | DSP_WINE_ENERGY (k : Nat)
  -- LINK (R108, 04_link_bringup.md)
  | LINK_XINFO_BITS (k : Nat)
  -- DIAG (R142, 06_link_health.md)
  | DIAG_FEATA_TRACKED (k : Nat) | DIAG_FEATA_TRK (k : Nat) | DIAG_FEATA_CLASS (k : Nat) | DIAG_FEATA_DIST (k : Nat)
  | DIAG_FEATB_GAMMA_C (k : Nat) | DIAG_FEATB_GAMMA_RAW (k : Nat)
  | DIAG_TRACKA_VALID (k : Nat) | DIAG_TRACKA_CLASS (k : Nat) | DIAG_TRACKA_DIST (k : Nat)
  | DIAG_TRACKB_PRED (k : Nat) | DIAG_TRACKB_GAMMA_C (k : Nat)
  -- FRAME (R228, 10_frame_path.md)
  | MS_KEY_DATA (k : Nat)
  | MS_SALT_DATA (k : Nat)
  | CTX_STAGE_WORD (k : Nat)
  | TS_SET_VALUE (k : Nat)
  -- QUEUE (R254, 11_host_port.md)
  | Q_EGCLS_RSV (k : Nat) | Q_EGCLS_CAP (k : Nat)
  | Q_INCLS_CAP (k : Nat)
  | Q_EGG_N (k : Nat)
  | Q_EGR_N (k : Nat)
  | Q_EGOCC_N (k : Nat)
  | Q_ING_N (k : Nat)
  | Q_INS_N (k : Nat)
  | Q_INB_N (k : Nat)
  | Q_INOCC_N (k : Nat)
  -- SEQ (R183, 08_svali_model.md)
  | SEQ_EVEN_EN (k : Nat)
  | SEQ_TMR_COUNT (k : Nat)
  -- CALG (R326, 15_calibration_spares.md)
  | GRAFT_POOL_USED (k : Nat) | GRAFT_POOL_BUILT (k : Nat) | GRAFT_POOL_WEAR (k : Nat)
  -- FAULT (R344, 16_faults.md)
  | FLT_FIRST_REC (k : Nat)
  | FLT_SRC_STICKY (k : Nat) | FLT_SRC_CONSEQ (k : Nat) | FLT_SRC_TRANSIENT (k : Nat) | FLT_SRC_LIVE (k : Nat) | FLT_SRC_KIND (k : Nat)
  | FLT_TOTAL_COUNT (k : Nat)
  | FLT_OVFCNT_COUNT (k : Nat)
  -- CHCTL (R107, 04_link_bringup.md)
  | CHCTL_CTL_HOLD | CHCTL_CTL_MAINT_REQ | CHCTL_CTL_TYPE_REQ | CHCTL_CTL_ROLE_REQ | CHCTL_CTL_AN_REQ
  | CHCTL_STATE_CMD_REJ | CHCTL_STATE_CHG | CHCTL_STATE_PREV | CHCTL_STATE_SUBSTATE
  | CHCTL_RETAIN_EN
  | CHCTL_CMD_QREL
  -- AFE (R54, 02_line_interface.md)
  | AFE_CTL_ADC_EN | AFE_CTL_HYB_EN | AFE_CTL_LOOP | AFE_CTL_DRV_MODE
  | AFE_TXAMP_AMP_EFF | AFE_TXAMP_AMP
  | AFE_TXEQ_POST | AFE_TXEQ_PRE
  | AFE_HYB_HYB_C | AFE_HYB_HYB_R
  | AFE_RXGAIN_AGC_EN | AFE_RXGAIN_PGA
  | AFE_SATCFG_SAT_N | AFE_SATCFG_SAT_FAULT
  | AFE_STAT_PAD_HELD | AFE_STAT_LOOP_REJ | AFE_STAT_AMP_CLAMPED | AFE_STAT_SAT
  | AFE_SATCNT_SAT_EVENTS
  | AFE_SEGMAP_SEG_USED
  -- DSP (R82, 03_receive_dsp.md)
  | DSP_CTL_MSE_WIN | DSP_CTL_DFE_EN | DSP_CTL_EC_EN
  | DSP_FRZ_HOST
  | DSP_FRZSTAT_SEQ | DSP_FRZSTAT_EFF
  | DSP_FRZHW_DIV | DSP_FRZHW_SUPPLY | DSP_FRZHW_LPI | DSP_FRZHW_LINK
  | DSP_MU_EC_ACQLEN | DSP_MU_EC_LEAK | DSP_MU_EC_TRK | DSP_MU_EC_ACQ
  | DSP_MU_FFE_ACQLEN | DSP_MU_FFE_MAIN | DSP_MU_FFE_TRK | DSP_MU_FFE_ACQ
  | DSP_MU_DFE_ACQLEN | DSP_MU_DFE_TRK | DSP_MU_DFE_ACQ
  | DSP_TR_KI | DSP_TR_KP
  | DSP_TRSTAT_LOCK_LOST | DSP_TRSTAT_LOCK | DSP_TRSTAT_PHASE | DSP_TRSTAT_FOFS
  | DSP_MSE_VALID | DSP_MSE_SNR
  | DSP_WINCTL_FLOOR | DSP_WINCTL_HYST | DSP_WINCTL_AUTO
  | DSP_PROBE_DWELL | DSP_PROBE_EN
  | DSP_PROBESTAT_POS | DSP_PROBESTAT_SWEEPS
  | DSP_STAT_TAP_SAT | DSP_STAT_SNAP_VALID | DSP_STAT_CAPT_DONE | DSP_STAT_CAPT_BUSY | DSP_STAT_CMD_REJ | DSP_STAT_TAP_REJ | DSP_STAT_WIN_REJ | DSP_STAT_DIVERGED
  | DSP_DIVCFG_SNAP_MIN | DSP_DIVCFG_SAT_DIV | DSP_DIVCFG_SNAP_INT | DSP_DIVCFG_DIV_N | DSP_DIVCFG_DROP
  | DSP_SNAPSNR_AGE | DSP_SNAPSNR_SNR
  | DSP_CMD_PROBE_RST | DSP_CMD_REBASE | DSP_CMD_CLR | DSP_CMD_SNAP | DSP_CMD_CAPT
  | DSP_TAPSEL_AUTOINC | DSP_TAPSEL_BANK | DSP_TAPSEL_AREA | DSP_TAPSEL_INDEX
  | DSP_TAPDATA_DATA
  | DSP_BANK_ACTIVE_TYPE | DSP_BANK_STBY_VALID | DSP_BANK_STBY_TYPE | DSP_BANK_ACTIVE
  | DSP_CAPTSTAMP_BLOCK
  -- PCS (R55, 02_line_interface.md)
  | PCS_CTL_SCR_BYPASS | PCS_CTL_PCS_LOOP | PCS_CTL_RX_PRECODE | PCS_CTL_TX_PRECODE | PCS_CTL_TYPE
  | PCS_STAT_LOOP_REJ | PCS_STAT_FEC_BURST | PCS_STAT_ALIGNED | PCS_STAT_BLOCK_LOCK
  | PCS_FEC_CW_COUNT
  | PCS_FEC_CORRCW_COUNT
  | PCS_FEC_CORRSYM_COUNT
  | PCS_FEC_UNCORR_COUNT
  | PCS_FRCOUNT_RX_FR | PCS_FRCOUNT_TX_FR
  | PCS_BURSTCFG_BURST_WIN | PCS_BURSTCFG_BURST_N
  | PCS_TESTMODE_MODE
  -- LINK (R108, 04_link_bringup.md)
  | LINK_CTL_VNP_EN | LINK_CTL_SHIFT_EN | LINK_CTL_ROLE | LINK_CTL_FTYPE | LINK_CTL_AN_EN
  | LINK_ANADV_EEE | LINK_ANADV_TYPES
  | LINK_ANLP_LP_FJ | LINK_ANLP_EEE | LINK_ANLP_TYPES
  | LINK_ANSTAT_MS_FAULT | LINK_ANSTAT_NO_HCD | LINK_ANSTAT_AN_DONE | LINK_ANSTAT_MASTER | LINK_ANSTAT_RESOLVED
  | LINK_STAT_XSTATE | LINK_STAT_LSTATE
  | LINK_CMD_SHIFT_CANCEL | LINK_CMD_SHIFT | LINK_CMD_RESTART | LINK_CMD_STOP | LINK_CMD_START
  | LINK_SHIFTCFG_RESUME_SNR | LINK_SHIFTCFG_RSP | LINK_SHIFTCFG_TMO | LINK_SHIFTCFG_TGT
  | LINK_SHIFTSTAT_TID | LINK_SHIFTSTAT_F | LINK_SHIFTSTAT_CONTEND | LINK_SHIFTSTAT_REASON | LINK_SHIFTSTAT_PHASE
  | LINK_XREQ_VALID | LINK_XREQ_PRC | LINK_XREQ_POST | LINK_XREQ_PRE
  | LINK_XTHR_PAM2_SNR
  | LINK_LOSSCFG_LOSS_N | LINK_LOSSCFG_SNR_MIN
  | LINK_DROP_TYPE | LINK_DROP_CAUSE
  | LINK_DROPCNT_COUNT
  | LINK_TRFAIL_COUNT
  | LINK_EVT_CMD_REJ | LINK_EVT_SHIFT_FAIL | LINK_EVT_SHIFT_DONE | LINK_EVT_TRAIN_TMO | LINK_EVT_AN_FAIL | LINK_EVT_DOWN | LINK_EVT_UP
  | LINK_LPCAP_CAP
  | LINK_SHIFTLEAD_LEAD
  -- DIAG (R142, 06_link_health.md)
  | DIAG_CTL_TREND_FIT | DIAG_CTL_TREND_INT | DIAG_CTL_AUTO_TRACK | DIAG_CTL_TREND_EN
  | DIAG_CFG_REFPL | DIAG_CFG_VF
  | DIAG_CLSCFG_HARD | DIAG_CLSCFG_STEP_MIN
  | DIAG_LOSS_MAXCOMP | DIAG_LOSS_ATT
  | DIAG_TDRCFG_RAW_START | DIAG_TDRCFG_RAW_DEC | DIAG_TDRCFG_AVG
  | DIAG_CMD_SQI_RST | DIAG_CMD_TREND_CLR | DIAG_CMD_ABORT | DIAG_CMD_ISR | DIAG_CMD_TDR
  | DIAG_STAT_RUN | DIAG_STAT_BUSY
  | DIAG_EVT_SQI_LOW | DIAG_EVT_PRED_WARN | DIAG_EVT_CLASS_CHANGE | DIAG_EVT_NEW_FEATURE | DIAG_EVT_PARTNER_ACTIVE | DIAG_EVT_ABORTED | DIAG_EVT_CMD_REJ | DIAG_EVT_DONE
  | DIAG_SQI_WORST | DIAG_SQI_VALID | DIAG_SQI_SQI
  | DIAG_SNRTRK_MAX | DIAG_SNRTRK_MIN
  | DIAG_TRSTAT_PRED_MIN | DIAG_TRSTAT_WRAPPED | DIAG_TRSTAT_NEXT
  | DIAG_PREDCFG_PRED_HRS | DIAG_PREDCFG_PRED_SQI | DIAG_PREDCFG_PRED_LIM
  | DIAG_SNRPRED_SLOPE | DIAG_SNRPRED_HOURS
  | DIAG_OPTIME_SECONDS
  | DIAG_RES_HDR_TYPE | DIAG_RES_HDR_BEYOND | DIAG_RES_HDR_PARTIAL | DIAG_RES_HDR_OA | DIAG_RES_HDR_NFEAT | DIAG_RES_HDR_STATUS | DIAG_RES_HDR_KIND | DIAG_RES_HDR_SEQ
  | DIAG_RES_TIME_SECONDS
  | DIAG_RES_RES_ACC | DIAG_RES_RES_RES
  -- LPI (R156, 07_sleep_wake_lpi.md)
  | LPI_CTL_TX_REQ
  | LPI_CMD_PAD_RELEASE | LPI_CMD_WAKE | LPI_CMD_SLEEP
  | LPI_STAT_METHOD | LPI_STAT_SLP_PHASE | LPI_STAT_RX_LPI | LPI_STAT_TX_LPI
  | LPI_EVT_CMD_REJ | LPI_EVT_SLEEP_ABORTED_WAKE | LPI_EVT_WAKE_LINE | LPI_EVT_SLEEP_FAIL | LPI_EVT_SLEEP_DONE | LPI_EVT_IDLE | LPI_EVT_RX_EXIT | LPI_EVT_RX_ENTER | LPI_EVT_TX_EXIT | LPI_EVT_TX_ENTER
  | LPI_IDLECFG_IDLE_US
  | LPI_SLPCFG_LEAD | LPI_SLPCFG_RSP | LPI_SLPCFG_ACCEPT | LPI_SLPCFG_REASON
  | LPI_IDLE_QEMPTY | LPI_IDLE_TIME
  | LPI_TXTIME_COUNT
  | LPI_RXTIME_COUNT
  | LPI_TXCNT_COUNT
  | LPI_WAKECNT_COUNT
  -- FRAME (R228, 10_frame_path.md)
  | FRAME_CTL_MAX_LEN | FRAME_CTL_KEYMASK | FRAME_CTL_PTP_AUTO | FRAME_CTL_MS_EN
  | FRAME_MISS_EG_SC | FRAME_MISS_EG_SC_EN | FRAME_MISS_EG_DROP | FRAME_MISS_IN_DROP
  | FRAME_STAT_CTX_COUNT | FRAME_STAT_CAM_USED
  | FRAME_EVT_ECC | FRAME_EVT_TS_LOST | FRAME_EVT_MS_FAULT | FRAME_EVT_SA_SWITCHED | FRAME_EVT_PN_EXHAUST | FRAME_EVT_PN_THRESH | FRAME_EVT_MARK_RED | FRAME_EVT_CMD_REJ
  | CTX_CMD_OP | CTX_CMD_WMASK | CTX_CMD_INDEX
  | CTX_STAT_BUSY | CTX_STAT_RESULT | CTX_STAT_KICKS | CTX_STAT_INDEX
  | MS_CFG_EVT_N
  | MS_SEL_DIR | MS_SEL_SC | MS_SEL_AN
  | MS_SCI_LO_VALUE
  | MS_SCI_HI_VALUE
  | MS_SCCFG_EN | MS_SCCFG_CIPHER | MS_SCCFG_CONF | MS_SCCFG_SCI_EN | MS_SCCFG_ES | MS_SCCFG_SCB | MS_SCCFG_TAG_CLEAR | MS_SCCFG_VALIDATE | MS_SCCFG_REPLAY | MS_SCCFG_ENC_AN
  | MS_WIN_VALUE
  | MS_SSCI_VALUE
  | MS_PN_LO_VALUE
  | MS_PN_HI_VALUE
  | MS_CMD_OP
  | MS_STAT_BUSY | MS_STAT_INUSE | MS_STAT_KCV
  | MS_PNTHR_VALUE
  | TS_RATE_VALUE
  | TS_LAT_EG | TS_LAT_IN
  | TS_ADJ_VALUE
  | TS_CMD_ADJ | TS_CMD_SET
  | TS_STAT_STEPS
  | TS_LOST_COUNT
  | ACCT_CMD_SNAP
  | ACCT_STAT_SNAP_DONE | ACCT_STAT_SEQ
  -- QUEUE (R254, 11_host_port.md)
  | Q_CTL_PCPMAP_EN | Q_CTL_IN_DEFCLASS | Q_CTL_CT_THRESH
  | Q_PCPMAP_MAP
  | Q_STAT_DRAIN | Q_STAT_FLUSH_BUSY | Q_STAT_IN_FREE | Q_STAT_EG_FREE
  | Q_EVT_CAP_REJ | Q_EVT_RESYNC | Q_EVT_DRAIN_TMO | Q_EVT_DRAIN_DONE | Q_EVT_FLUSH_DONE | Q_EVT_QUEUE_FULL | Q_EVT_UNDERRUN
  | Q_FLUSH_IN | Q_FLUSH_EG
  -- SEQ (R183, 08_svali_model.md)
  | SEQ_CTL_CMD
  | SEQ_STAT_QHALT | SEQ_STAT_PRAM_WREJ | SEQ_STAT_CMD_REJ | SEQ_STAT_INTRAP | SEQ_STAT_STATE
  | SEQ_PC_PC
  | SEQ_TRAP_TRAP_PC | SEQ_TRAP_CAUSE | SEQ_TRAP_TRAP_CNT
  | SEQ_TRAPINSN_INSN
  | SEQ_TRAPVEC_EN | SEQ_TRAPVEC_VEC
  | SEQ_TRAPACK_ACK
  | SEQ_WDOG_PERIOD
  | SEQ_WDKICK_KICK
  | SEQ_EVPEND_GROUPS
  | SEQ_EVHIT_GROUPS
  | SEQ_SYSEVT_REF_LOST | SEQ_SYSEVT_FAULT | SEQ_SYSEVT_MODE | SEQ_SYSEVT_TEMP_OK | SEQ_SYSEVT_TEMP_HI | SEQ_SYSEVT_OP_DONE | SEQ_SYSEVT_SUPPLY_OK | SEQ_SYSEVT_SUPPLY_WARN
  | SEQ_TMRSTAT_PERIODIC | SEQ_TMRSTAT_RUN | SEQ_TMRSTAT_EXP
  | SEQ_HOSTEVT_CTL_CHG | SEQ_HOSTEVT_MBOX
  | SEQ_MBOX_IN_DATA
  | SEQ_MBOX_OUT_DATA
  | SEQ_IMG_SRC | SEQ_IMG_MODIFIED | SEQ_IMG_PROG_ID | SEQ_IMG_ROLLBACK
  | SEQ_CAP0_CAP
  | SEQ_CAP1_CAP
  | SEQ_STACK_LEN | SEQ_STACK_LOOPS | SEQ_STACK_DEPTH
  | SEQ_CYCLES_COUNT
  | SEQ_LOAD_END | SEQ_LOAD_BASE
  -- CALG (R326, 15_calibration_spares.md)
  | CALG_CMD_ABORT | CALG_CMD_CMD
  | CALG_RES_MEAS | CALG_RES_BUSY | CALG_RES_TARGET | CALG_RES_PRECOND | CALG_RES_STATUS
  | UT_HYB_UT
  | UT_AMP_UT
  | UT_RXG_UT
  | FT_HYB_FT
  | FT_AMP_FT
  | FT_RXG_FT
  | CALG_EFF_SAT | CALG_EFF_AMP | CALG_EFF_HYB
  | CALG_EFFRX_RXG
  | CALG_BIST_PASS | CALG_BIST_UNREP | CALG_BIST_REPAIRED | CALG_BIST_FAILMEM
  | GRAFT_CTL_TRIG | GRAFT_CTL_ECC_N | GRAFT_CTL_POLICY
  | GRAFT_CMD_ELEM | GRAFT_CMD_POOL | GRAFT_CMD_SWAP | GRAFT_CMD_DENY | GRAFT_CMD_APPROVE
  | GRAFT_PEND_VALID | GRAFT_PEND_RUNNING | GRAFT_PEND_COMMITTED | GRAFT_PEND_REASON | GRAFT_PEND_POOL | GRAFT_PEND_ELEM
  | GRAFT_EVT_CMD_REJ | GRAFT_EVT_LIFE_WARN | GRAFT_EVT_BIST_DONE | GRAFT_EVT_CAL_FAIL | GRAFT_EVT_CAL_DONE | GRAFT_EVT_DENIED | GRAFT_EVT_DEFER | GRAFT_EVT_EXHAUST | GRAFT_EVT_DONE | GRAFT_EVT_REQ
  | GRAFT_LIFE_POOL | GRAFT_LIFE_HOURS
  | GRAFT_LOG_POOL | GRAFT_LOG_NEW | GRAFT_LOG_OLD
  | GRAFT_LIFEWARN_HRS
  -- CHPWR (R308, 14_power_reset.md)
  | CHPWR_VOTE_CLIENTS | CHPWR_VOTE_HOST
  | CHPWR_STAT_OPNEED | CHPWR_STAT_PAD_HELD | CHPWR_STAT_ISO | CHPWR_STAT_PSTATE
  | CHPWR_CFG_PD_DRAIN_MAX
  | CHPWR_CMD_CHRST
  | CHPWR_EVT_CMD_REJ | CHPWR_EVT_RST_DONE | CHPWR_EVT_OFF | CHPWR_EVT_ON
  -- FAULT (R344, 16_faults.md)
  | FLT_STAT_OVF | FLT_STAT_WIN
  | FLT_ACK_ACK
  | FLT_LIVE_LIVE
  | FLT_FIRSTCNT_COUNT
  | FLT_MRGCNT_COUNT
  | FLT_CLASS_CLASS
  | FLT_CFG_C2ACT
  | FLT_FORCE_FORCE
  -- SEG (R125, 05_segments.md)
  | SEG_CTL_ATTEMPTS | SEG_CTL_FALLBACK | SEG_CTL_EXT | SEG_CTL_TERM | SEG_CTL_MODE
  | SEG_PLCA_BURST_TMR | SEG_PLCA_MAX_BC | SEG_PLCA_NODE_CNT | SEG_PLCA_NODE_ID
  | SEG_PLCA_TO_TO_TMR
  | SEG_CMD_STOP | SEG_CMD_START
  | SEG_STAT_SSTATE | SEG_STAT_REWIND_VALID | SEG_STAT_CSMA | SEG_STAT_COORD | SEG_STAT_PLCA_OK
  | SEG_EVT_JOIN_TMO | SEG_EVT_CMD_REJ | SEG_EVT_REWIND_REL | SEG_EVT_DUP_COORD | SEG_EVT_BCN_FOUND | SEG_EVT_BCN_LOST | SEG_EVT_DOWN | SEG_EVT_UP
  | SEG_DROP_CAUSE
  | SEG_PLCASTAT_LAST_CYCLE | SEG_PLCASTAT_CUR_TO
  | SEG_COLCNT_COUNT
  | SEG_LATECOL_COUNT
  | SEG_RETX_COUNT
  | SEG_SYMERR_COUNT
  | SEG_BCNTX_COUNT
  | SEG_BCNRX_COUNT
  | SEG_BCNLOST_COUNT
  | SEG_DUPCOORD_COUNT
  | SEG_DROPCNT_COUNT
  | SEG_RWDREL_COUNT
  deriving DecidableEq, Repr

/-- The fields of the device-service blocks. -/
inductive DFld where
  -- the trailer of each block (R268), then the register arrays of every block, then its single registers
  | tr (b : DBlk) (t : TrF)
  -- CLK (R288, 13_clocks.md)
  | CLK_CHEN_SEG (k : Nat) | CLK_CHEN_FAULT (k : Nat) | CLK_CHEN_CHPWR (k : Nat) | CLK_CHEN_CALG (k : Nat) | CLK_CHEN_RAM (k : Nat) | CLK_CHEN_EN (k : Nat)
  | CLK_LPPM_OFS (k : Nat)
  -- CANOPY (R345, 16_faults.md)
  | FC_FIRST_REC (k : Nat)
  | FC_FORCE_BITS (k : Nat)
  | FC_LIVE_BITS (k : Nat)
  | FC_CLASS_CLASS (k : Nat)
  | FC_SRC_STICKY (k : Nat) | FC_SRC_CONSEQ (k : Nat) | FC_SRC_TRANSIENT (k : Nat) | FC_SRC_LIVE (k : Nat) | FC_SRC_KIND (k : Nat)
  | FC_TOTAL_COUNT (k : Nat)
  | FC_OVFCNT_COUNT (k : Nat)
  -- HEART (R370, 17_security.md)
  | HEART_KEYHASH_DATA (k : Nat)
  | HEART_ANONCE_DATA (k : Nat)
  | HEART_RETREC_DATA (k : Nat)
  | HEART_HDR_DATA (k : Nat)
  | HEART_CERT_DATA (k : Nat)
  -- ID (R32, 01_architecture.md)
  | DEVICE_ID_DID (k : Nat)
  -- DEBUG (R371, 17_security.md)
  | DBG_NONCE_DATA (k : Nat)
  | DBG_TOKEN_DATA (k : Nat)
  -- TAP (R306, 14_power_reset.md)
  | TAP_WAKEEN_PIN | TAP_WAKEEN_MDIO
  | TAP_LWAKEEN_LINE
  | TAP_WAKECAUSE_PRTAD | TAP_WAKECAUSE_CHANNEL | TAP_WAKECAUSE_CAUSE
  | TAP_STAT_REF_TIMEOUT | TAP_STAT_LATE_WAKE | TAP_STAT_SLEEP_ABORTED_WAKE | TAP_STAT_RAIL_TIMEOUT
  | TAP_RSTCAUSE_RAIL | TAP_RSTCAUSE_KIND
  | TAP_STRAP_XSD
  | TAP_DIPLOG_MIN_MV | TAP_DIPLOG_RAIL
  | TAP_DIPDUR_US
  | TAP_DIPCNT_COUNT
  | TAP_VSUP_MV
  | KEYGATE_KEY | KEYGATE_FAILS | KEYGATE_OPEN
  -- CLK (R288, 13_clocks.md)
  | CLK_REFCTL_XSD | CLK_REFCTL_SEL
  | CLK_REFSTAT_ACTIVE | CLK_REFSTAT_SPLL_LOCK | CLK_REFSTAT_REF_LOST | CLK_REFSTAT_REFB_OK | CLK_REFSTAT_REFA_OK | CLK_REFSTAT_RC_RDY | CLK_REFSTAT_SVC_SRC
  | CLK_EVT_GATED_CH | CLK_EVT_GATED_ACC | CLK_EVT_SVC_SWITCH | CLK_EVT_REF_BACK | CLK_EVT_REF_LOST
  | CLK_SVCEN_MGMT | CLK_SVCEN_DEBUG | CLK_SVCEN_ID | CLK_SVCEN_INTEG | CLK_SVCEN_CAL
  | CLK_GPEND_CH
  | CLK_RCMEAS_KHZ
  | CLK_PLLSTAT_LOCK
  | CLK_LPLLSTAT_LOCK
  -- PWR (R307, 14_power_reset.md)
  | PWR_MODE_STAT_BUSY | PWR_MODE_STAT_STBY_READY | PWR_MODE_STAT_PREV | PWR_MODE_STAT_MODE
  | PWR_MODE_REQ_REQ
  | PWR_CMD_SOFTRST
  | PWR_OP_CTL_OPHOLD | PWR_OP_CTL_VSETTLE | PWR_OP_CTL_FLOOR | PWR_OP_CTL_PGOOD_EN
  | PWR_OP_STAT_VID | PWR_OP_STAT_PGOOD | PWR_OP_STAT_BUSY | PWR_OP_STAT_TARGET | PWR_OP_STAT_OP
  | PWR_OPFLOOR1_CH
  | PWR_OPFLOOR2_CH
  | PWR_DOMSTAT0_ON
  | PWR_DOMSTAT1_ON
  | PWR_DBGVOTE_DEBUG | PWR_DBGVOTE_HOST
  | PWR_SUPSTAT_WARN
  | PWR_EVT_REQ_REJ | PWR_EVT_MODE_CHG | PWR_EVT_TEMP_OK | PWR_EVT_TEMP_HI | PWR_EVT_PGOOD_TMO | PWR_EVT_OP_DONE | PWR_EVT_DIP_END | PWR_EVT_DIP_START
  | PWR_TEMP_TEMP
  -- CANOPY (R345, 16_faults.md)
  | FC_STAT_CMD_REJ | FC_STAT_CLS_REJ | FC_STAT_OVF | FC_STAT_WIN
  | FC_ACK_ACK
  | FC_FIRSTCNT_COUNT
  | FC_MRGCNT_COUNT
  | FC_INTEN_CLS
  | FC_IRQ_INT | FC_IRQ_PEND
  | FC_CMD_SMBIST | FC_CMD_SAFE_EXIT
  | FC_TESTCFG_DRYRUN
  | FC_CHSUM_CH
  | FC_TIME0_TIME
  | FC_TIME1_TIME
  | FC_SMBIST_FAIL | FC_SMBIST_DONE
  -- HEART (R370, 17_security.md)
  | HEART_CMD_CMD
  | HEART_STAT_BUSY | HEART_STAT_BOOTWIN | HEART_STAT_VTEST | HEART_STAT_RR_VALID | HEART_STAT_IDKEY | HEART_STAT_LC
  | HEART_RES_REASON | HEART_RES_OP | HEART_RES_STATUS
  | HEART_EVT_BOOT_END | HEART_EVT_RB_CHG | HEART_EVT_LC_CHG | HEART_EVT_ATTEST_DONE | HEART_EVT_CMD_REJ | HEART_EVT_REJ | HEART_EVT_DONE
  | HEART_BOOTCFG_WAIT
  | HEART_SLOTS_REV | HEART_SLOTS_POP
  | HEART_RB_RB1 | HEART_RB_RB0
  | HEART_LCCMD_VALUE | HEART_LCCMD_CNT | HEART_LCCMD_SLOT | HEART_LCCMD_OP
  | HEART_DCOUNT_VALUE
  | HEART_DATA_VALUE
  -- CAL (R325, 15_calibration_spares.md)
  | CAL_CMD_DEV | CAL_CMD_ABORT | CAL_CMD_CMD
  | CAL_RES_MEAS | CAL_RES_BUSY | CAL_RES_TARGET | CAL_RES_PRECOND | CAL_RES_STATUS
  | CAL_MASK_CH
  | CAL_BANK_CH
  | CAL_BANKD_ACTIVE
  | UT_RREF_UT
  | UT_VREF_UT
  | CAL_EFF_SAT | CAL_EFF_VREF | CAL_EFF_RREF
  | CAL_GEN_GEN
  | CAL_EVT_CMD_REJ | CAL_EVT_COMMITTED | CAL_EVT_FAIL | CAL_EVT_DONE
  | GRAFT_SUM_CH
  | GRAFT_EXH_CH
  | GRAFT_LIFEMIN_CHANNEL | GRAFT_LIFEMIN_HOURS
  -- HOST (R253, 11_host_port.md)
  | HOST_CTL_L1_EN | HOST_CTL_DEGRADE_EN | HOST_CTL_RATE_MAX
  | HOST_STAT_SPARE_RX | HOST_STAT_SPARE_TX | HOST_STAT_NG_UP | HOST_STAT_WIDTH | HOST_STAT_RATE | HOST_STAT_LSTATE
  | HOST_EVT_RESYNC_DONE | HOST_EVT_NG_ERR | HOST_EVT_HPRESET | HOST_EVT_LINKERROR | HOST_EVT_L2_EXIT | HOST_EVT_L1_EXIT | HOST_EVT_DEGRADE | HOST_EVT_REPAIR | HOST_EVT_RETRAIN | HOST_EVT_ACTIVE
  | HOST_CMD_RETRAIN | HOST_CMD_HPRESET
  | HOST_PMCFG_L1_IDLE
  | HOST_NGERR_CODE | HOST_NGERR_TYPE | HOST_NGERR_CLASS | HOST_NGERR_CHANNEL
  | HOST_NGERRCNT_COUNT
  | HOST_CRCERR_COUNT
  | HOST_REPLAY_COUNT
  | HOST_RETRAINS_COUNT
  | HOST_REPAIR_LAST_LANE | HOST_REPAIR_LAST_DIR | HOST_REPAIR_USED_RX | HOST_REPAIR_USED_TX
  -- INTEG (R274, 12_register_behaviour.md)
  | INTEG_CTL_MM_REACT
  | INTEG_FPRINT0_FP
  | INTEG_FPRINT1_FP
  | INTEG_FPSEQ_SEQ
  | INTEG_CHBUSY_BUSY
  | INTEG_WPOVF_OVF
  | INTEG_SHPEND_PEND
  | INTEG_COMMIT_CH
  | INTEG_MMCH_MM
  | INTEG_MMSVC_MM
  | INTEG_LOCKV_ADDR
  | INTEG_LOCKVCNT_COUNT
  | INTEG_EVT_CRC_MM | INTEG_EVT_FP_CHG | INTEG_EVT_KEY_FAIL | INTEG_EVT_LOCK_VIOLATION
  -- ID (R32, 01_architecture.md)
  | ID_PART_VENDOR | ID_PART_PART
  | ID_REV_FAMILY | ID_REV_STEP | ID_REV_METAL
  | ID_GRADE_XT50_MASK | ID_GRADE_GRADE
  | ID_CHCFG_N_SEG | ID_CHCFG_N_BRANCH | ID_CHCFG_N_TRUNK
  | ID_ROMVER_BOOTROM | ID_ROMVER_SEQLIB
  | ID_OTPSTAT_FT_VALID | ID_OTPSTAT_OTP_LOADED
  -- DEBUG (R371, 17_security.md)
  | DBG_CMD_CMD
  | DBG_STAT_SLOT | DBG_STAT_RIGHTS | DBG_STAT_BUSY | DBG_STAT_NONCE_VALID | DBG_STAT_VTEST | DBG_STAT_OPEN
  | DBG_CHMASK_CH
  | DBG_EVT_CMD_REJ | DBG_EVT_TOKEN_REJ | DBG_EVT_CLOSED | DBG_EVT_OPENED
  | DBG_RES_END | DBG_RES_REASON
  | DBG_REMAIN_SECONDS
  | DBG_TRCTL_EN | DBG_TRCTL_CH
  | DBG_TRSTAT_WRAP | DBG_TRSTAT_COUNT
  -- MGMT (R398, 18_pins_electrical.md)
  | MGMT_MDCTL_EN
  | MGMT_MDLOCK_NAT_SVC | MGMT_MDLOCK_NAT_EN
  | MGMT_MDSTAT_LAST_DEVAD | MGMT_MDSTAT_LAST_PRTAD | MGMT_MDSTAT_DEVAD_UNK | MGMT_MDSTAT_BUSERR | MGMT_MDSTAT_LATE
  | MGMT_MDFRAMES_COUNT
  | MGMT_MDERR_COUNT
  | MGMT_PINSTAT_XSD | MGMT_PINSTAT_VID | MGMT_PINSTAT_INH | MGMT_PINSTAT_INT_N | MGMT_PINSTAT_RESET_N | MGMT_PINSTAT_PGOOD | MGMT_PINSTAT_WAKE
  deriving DecidableEq, Repr

/-- A register field of the part: of a channel's block or of a device-service block. -/
inductive Fld where
  | ch (c : Ch) (f : CFld) | dev (f : DFld)
  deriving DecidableEq, Repr

/-- Where each field of the register tables lies, its access code, reset value, retention class, and whether
it is a configuration field (R269). -/
def CFld.info : CFld → FInfo
  | .CHCTL_CTL_HOLD => ⟨0x0, 9, 1, .rw, .n 0, .e, true⟩
  | .CHCTL_CTL_MAINT_REQ => ⟨0x0, 8, 1, .rw, .n 0, .e, true⟩
  | .CHCTL_CTL_TYPE_REQ => ⟨0x0, 4, 4, .rw, .n 0, .e, true⟩
  | .CHCTL_CTL_ROLE_REQ => ⟨0x0, 2, 2, .rw, .n 1, .e, true⟩
  | .CHCTL_CTL_AN_REQ => ⟨0x0, 0, 1, .rw, .n 1, .e, true⟩
  | .CHCTL_STATE_CMD_REJ => ⟨0x4, 9, 1, .w1c, .n 0, .f, false⟩
  | .CHCTL_STATE_CHG => ⟨0x4, 8, 1, .w1c, .n 0, .f, false⟩
  | .CHCTL_STATE_PREV => ⟨0x4, 4, 3, .ro, .n 0, .f, false⟩
  | .CHCTL_STATE_SUBSTATE => ⟨0x4, 0, 3, .ro, .n 0, .f, false⟩
  | .CHCTL_RETAIN_EN => ⟨0x8, 0, 1, .rw, .n 0, .e, true⟩
  | .CHCTL_CMD_QREL => ⟨0xC, 0, 1, .wo, .n 0, .f, false⟩
  | .AFE_CTL_ADC_EN => ⟨0x0, 7, 1, .rw, .n 0, .e, true⟩
  | .AFE_CTL_HYB_EN => ⟨0x0, 6, 1, .rw, .n 0, .e, true⟩
  | .AFE_CTL_LOOP => ⟨0x0, 4, 2, .rw, .n 0, .e, true⟩
  | .AFE_CTL_DRV_MODE => ⟨0x0, 0, 2, .rw, .n 0, .e, true⟩
  | .AFE_TXAMP_AMP_EFF => ⟨0x4, 16, 10, .ro, .n 0, .f, false⟩
  | .AFE_TXAMP_AMP => ⟨0x4, 0, 10, .sh, .n 0, .e, true⟩
  | .AFE_TXEQ_POST => ⟨0x8, 8, 4, .sh, .n 0, .e, false⟩
  | .AFE_TXEQ_PRE => ⟨0x8, 0, 4, .sh, .n 0, .e, false⟩
  | .AFE_HYB_HYB_C => ⟨0xC, 8, 8, .sh, .n 0, .e, true⟩
  | .AFE_HYB_HYB_R => ⟨0xC, 0, 8, .sh, .n 0, .e, true⟩
  | .AFE_RXGAIN_AGC_EN => ⟨0x10, 8, 1, .rw, .n 1, .e, true⟩
  | .AFE_RXGAIN_PGA => ⟨0x10, 0, 6, .rw, .n 0, .e, false⟩
  | .AFE_SATCFG_SAT_N => ⟨0x14, 16, 8, .rw, .n 16, .e, true⟩
  | .AFE_SATCFG_SAT_FAULT => ⟨0x14, 0, 8, .rw, .n 8, .e, true⟩
  | .AFE_STAT_PAD_HELD => ⟨0x18, 3, 1, .ro, .n 1, .f, false⟩
  | .AFE_STAT_LOOP_REJ => ⟨0x18, 2, 1, .w1c, .n 0, .f, false⟩
  | .AFE_STAT_AMP_CLAMPED => ⟨0x18, 1, 1, .ro, .n 0, .f, false⟩
  | .AFE_STAT_SAT => ⟨0x18, 0, 1, .w1c, .n 0, .f, false⟩
  | .AFE_SATCNT_SAT_EVENTS => ⟨0x1C, 0, 32, .rc, .n 0, .f, false⟩
  | .AFE_SEGMAP_SEG_USED => ⟨0x20, 0, 26, .ro, .n 0, .f, false⟩
  | .AFE_SLICEMAP_SLICE_USED k => ⟨(0x24 + 4 * k), 0, 32, .ro, .n 0, .f, false⟩
  | .DSP_CTL_MSE_WIN => ⟨0x0, 8, 4, .rw, .n 14, .e, true⟩
  | .DSP_CTL_DFE_EN => ⟨0x0, 1, 1, .rw, .n 1, .e, true⟩
  | .DSP_CTL_EC_EN => ⟨0x0, 0, 1, .rw, .n 1, .e, true⟩
  | .DSP_FRZ_HOST => ⟨0x4, 0, 8, .rw, .n 0, .e, true⟩
  | .DSP_FRZSTAT_SEQ => ⟨0x8, 8, 8, .ro, .n 0, .f, false⟩
  | .DSP_FRZSTAT_EFF => ⟨0x8, 0, 8, .ro, .n 0, .f, false⟩
  | .DSP_FRZHW_DIV => ⟨0xC, 24, 8, .ro, .n 0, .f, false⟩
  | .DSP_FRZHW_SUPPLY => ⟨0xC, 16, 8, .ro, .n 0, .f, false⟩
  | .DSP_FRZHW_LPI => ⟨0xC, 8, 8, .ro, .n 0, .f, false⟩
  | .DSP_FRZHW_LINK => ⟨0xC, 0, 8, .ro, .n 0, .f, false⟩
  | .DSP_MU_EC_ACQLEN => ⟨0x10, 24, 5, .rw, .n 20, .e, true⟩
  | .DSP_MU_EC_LEAK => ⟨0x10, 16, 6, .rw, .n 0, .e, true⟩
  | .DSP_MU_EC_TRK => ⟨0x10, 8, 5, .rw, .n 14, .e, true⟩
  | .DSP_MU_EC_ACQ => ⟨0x10, 0, 5, .rw, .n 8, .e, true⟩
  | .DSP_MU_FFE_ACQLEN => ⟨0x14, 24, 5, .rw, .n 20, .e, true⟩
  | .DSP_MU_FFE_MAIN => ⟨0x14, 16, 6, .rw, .byClass 8 4 0, .e, true⟩
  | .DSP_MU_FFE_TRK => ⟨0x14, 8, 5, .rw, .n 16, .e, true⟩
  | .DSP_MU_FFE_ACQ => ⟨0x14, 0, 5, .rw, .n 10, .e, true⟩
  | .DSP_MU_DFE_ACQLEN => ⟨0x18, 24, 5, .rw, .n 20, .e, true⟩
  | .DSP_MU_DFE_TRK => ⟨0x18, 8, 5, .rw, .n 16, .e, true⟩
  | .DSP_MU_DFE_ACQ => ⟨0x18, 0, 5, .rw, .n 10, .e, true⟩
  | .DSP_TR_KI => ⟨0x1C, 8, 5, .rw, .n 14, .e, true⟩
  | .DSP_TR_KP => ⟨0x1C, 0, 5, .rw, .n 6, .e, true⟩
  | .DSP_TRSTAT_LOCK_LOST => ⟨0x20, 25, 1, .w1c, .n 0, .f, false⟩
  | .DSP_TRSTAT_LOCK => ⟨0x20, 24, 1, .ro, .n 0, .f, false⟩
  | .DSP_TRSTAT_PHASE => ⟨0x20, 16, 7, .ro, .n 0, .f, false⟩
  | .DSP_TRSTAT_FOFS => ⟨0x20, 0, 16, .ro, .n 0, .f, false⟩
  | .DSP_MSE_VALID => ⟨0x24, 16, 1, .ro, .n 0, .f, false⟩
  | .DSP_MSE_SNR => ⟨0x24, 0, 12, .ro, .n 0, .f, false⟩
  | .DSP_WINCTL_FLOOR => ⟨0x28, 16, 16, .rw, .n 256, .e, true⟩
  | .DSP_WINCTL_HYST => ⟨0x28, 8, 4, .rw, .n 6, .e, true⟩
  | .DSP_WINCTL_AUTO => ⟨0x28, 0, 1, .rw, .n 0, .e, true⟩
  | .DSP_PROBE_DWELL => ⟨0x2C, 8, 5, .rw, .n 18, .e, true⟩
  | .DSP_PROBE_EN => ⟨0x2C, 0, 1, .rw, .n 0, .e, true⟩
  | .DSP_PROBESTAT_POS => ⟨0x30, 16, 12, .ro, .n 0, .f, false⟩
  | .DSP_PROBESTAT_SWEEPS => ⟨0x30, 0, 16, .ro, .n 0, .f, false⟩
  | .DSP_STAT_TAP_SAT => ⟨0x34, 7, 1, .ro, .n 0, .f, false⟩
  | .DSP_STAT_SNAP_VALID => ⟨0x34, 6, 1, .ro, .n 0, .f, false⟩
  | .DSP_STAT_CAPT_DONE => ⟨0x34, 5, 1, .w1c, .n 0, .f, false⟩
  | .DSP_STAT_CAPT_BUSY => ⟨0x34, 4, 1, .ro, .n 0, .f, false⟩
  | .DSP_STAT_CMD_REJ => ⟨0x34, 3, 1, .w1c, .n 0, .f, false⟩
  | .DSP_STAT_TAP_REJ => ⟨0x34, 2, 1, .w1c, .n 0, .f, false⟩
  | .DSP_STAT_WIN_REJ => ⟨0x34, 1, 1, .w1c, .n 0, .f, false⟩
  | .DSP_STAT_DIVERGED => ⟨0x34, 0, 1, .w1c, .n 0, .f, false⟩
  | .DSP_DIVCFG_SNAP_MIN => ⟨0x38, 20, 12, .rw, .n 0, .e, true⟩
  | .DSP_DIVCFG_SAT_DIV => ⟨0x38, 19, 1, .rw, .n 1, .e, true⟩
  | .DSP_DIVCFG_SNAP_INT => ⟨0x38, 16, 3, .rw, .n 4, .e, true⟩
  | .DSP_DIVCFG_DIV_N => ⟨0x38, 8, 8, .rw, .n 4, .e, true⟩
  | .DSP_DIVCFG_DROP => ⟨0x38, 0, 6, .rw, .n 12, .e, true⟩
  | .DSP_SNAPSNR_AGE => ⟨0x3C, 16, 16, .ro, .n 0, .f, false⟩
  | .DSP_SNAPSNR_SNR => ⟨0x3C, 0, 12, .ro, .n 0, .f, false⟩
  | .DSP_CMD_PROBE_RST => ⟨0x40, 4, 1, .wo, .n 0, .f, false⟩
  | .DSP_CMD_REBASE => ⟨0x40, 3, 1, .wo, .n 0, .f, false⟩
  | .DSP_CMD_CLR => ⟨0x40, 2, 1, .wo, .n 0, .f, false⟩
  | .DSP_CMD_SNAP => ⟨0x40, 1, 1, .wo, .n 0, .f, false⟩
  | .DSP_CMD_CAPT => ⟨0x40, 0, 1, .wo, .n 0, .f, false⟩
  | .DSP_TAPSEL_AUTOINC => ⟨0x44, 20, 1, .rw, .n 0, .e, false⟩
  | .DSP_TAPSEL_BANK => ⟨0x44, 16, 1, .rw, .n 0, .e, false⟩
  | .DSP_TAPSEL_AREA => ⟨0x44, 12, 3, .rw, .n 0, .e, false⟩
  | .DSP_TAPSEL_INDEX => ⟨0x44, 0, 10, .rw, .n 0, .e, false⟩
  | .DSP_TAPDATA_DATA => ⟨0x48, 0, 32, .rw, .n 0, .e, false⟩
  | .DSP_BANK_ACTIVE_TYPE => ⟨0x4C, 12, 4, .ro, .n 0, .f, false⟩
  | .DSP_BANK_STBY_VALID => ⟨0x4C, 8, 1, .ro, .n 0, .f, false⟩
  | .DSP_BANK_STBY_TYPE => ⟨0x4C, 4, 4, .rw, .n 0, .e, true⟩
  | .DSP_BANK_ACTIVE => ⟨0x4C, 0, 1, .ro, .n 0, .f, false⟩
  | .DSP_CAPTSTAMP_BLOCK => ⟨0x50, 0, 32, .ro, .n 0, .f, false⟩
  | .DSP_WIN_EN k => ⟨(0x60 + 4 * k), 31, 1, .sh, .n 0, .e, false⟩
  | .DSP_WIN_START k => ⟨(0x60 + 4 * k), 0, 13, .sh, .n 0, .e, false⟩
  | .DSP_WINE_ENERGY k => ⟨(0x80 + 4 * k), 0, 32, .ro, .n 0, .f, false⟩
  | .PCS_CTL_SCR_BYPASS => ⟨0x0, 11, 1, .rw, .n 0, .e, true⟩
  | .PCS_CTL_PCS_LOOP => ⟨0x0, 10, 1, .rw, .n 0, .e, true⟩
  | .PCS_CTL_RX_PRECODE => ⟨0x0, 6, 2, .sh, .n 0, .e, false⟩
  | .PCS_CTL_TX_PRECODE => ⟨0x0, 4, 2, .sh, .n 0, .e, false⟩
  | .PCS_CTL_TYPE => ⟨0x0, 0, 4, .ro, .n 0, .f, false⟩
  | .PCS_STAT_LOOP_REJ => ⟨0x4, 3, 1, .w1c, .n 0, .f, false⟩
  | .PCS_STAT_FEC_BURST => ⟨0x4, 2, 1, .w1c, .n 0, .f, false⟩
  | .PCS_STAT_ALIGNED => ⟨0x4, 1, 1, .ro, .n 0, .f, false⟩
  | .PCS_STAT_BLOCK_LOCK => ⟨0x4, 0, 1, .ro, .n 0, .f, false⟩
  | .PCS_FEC_CW_COUNT => ⟨0x8, 0, 32, .rc, .n 0, .f, false⟩
  | .PCS_FEC_CORRCW_COUNT => ⟨0xC, 0, 32, .rc, .n 0, .f, false⟩
  | .PCS_FEC_CORRSYM_COUNT => ⟨0x10, 0, 32, .rc, .n 0, .f, false⟩
  | .PCS_FEC_UNCORR_COUNT => ⟨0x14, 0, 32, .rc, .n 0, .f, false⟩
  | .PCS_FRCOUNT_RX_FR => ⟨0x18, 16, 16, .ro, .n 0, .f, false⟩
  | .PCS_FRCOUNT_TX_FR => ⟨0x18, 0, 16, .ro, .n 0, .f, false⟩
  | .PCS_BURSTCFG_BURST_WIN => ⟨0x1C, 8, 16, .rw, .n 1024, .e, true⟩
  | .PCS_BURSTCFG_BURST_N => ⟨0x1C, 0, 8, .rw, .n 4, .e, true⟩
  | .PCS_TESTMODE_MODE => ⟨0x20, 0, 4, .rw, .n 0, .e, true⟩
  | .LINK_CTL_VNP_EN => ⟨0x0, 17, 1, .rw, .n 1, .e, true⟩
  | .LINK_CTL_SHIFT_EN => ⟨0x0, 16, 1, .rw, .n 1, .e, true⟩
  | .LINK_CTL_ROLE => ⟨0x0, 8, 2, .rw, .n 1, .e, true⟩
  | .LINK_CTL_FTYPE => ⟨0x0, 4, 4, .rw, .n 0, .e, true⟩
  | .LINK_CTL_AN_EN => ⟨0x0, 0, 1, .rw, .n 1, .e, true⟩
  | .LINK_ANADV_EEE => ⟨0x4, 8, 1, .rw, .n 1, .e, true⟩
  | .LINK_ANADV_TYPES => ⟨0x4, 0, 7, .rw, .byClass 62 7 0, .e, true⟩
  | .LINK_ANLP_LP_FJ => ⟨0x8, 16, 1, .ro, .n 0, .f, false⟩
  | .LINK_ANLP_EEE => ⟨0x8, 8, 1, .ro, .n 0, .f, false⟩
  | .LINK_ANLP_TYPES => ⟨0x8, 0, 7, .ro, .n 0, .f, false⟩
  | .LINK_ANSTAT_MS_FAULT => ⟨0xC, 7, 1, .ro, .n 0, .f, false⟩
  | .LINK_ANSTAT_NO_HCD => ⟨0xC, 6, 1, .ro, .n 0, .f, false⟩
  | .LINK_ANSTAT_AN_DONE => ⟨0xC, 5, 1, .ro, .n 0, .f, false⟩
  | .LINK_ANSTAT_MASTER => ⟨0xC, 4, 1, .ro, .n 0, .f, false⟩
  | .LINK_ANSTAT_RESOLVED => ⟨0xC, 0, 4, .ro, .n 0, .f, false⟩
  | .LINK_STAT_XSTATE => ⟨0x10, 4, 4, .ro, .n 15, .f, false⟩
  | .LINK_STAT_LSTATE => ⟨0x10, 0, 3, .ro, .n 0, .f, false⟩
  | .LINK_CMD_SHIFT_CANCEL => ⟨0x14, 4, 1, .wo, .n 0, .f, false⟩
  | .LINK_CMD_SHIFT => ⟨0x14, 3, 1, .wo, .n 0, .f, false⟩
  | .LINK_CMD_RESTART => ⟨0x14, 2, 1, .wo, .n 0, .f, false⟩
  | .LINK_CMD_STOP => ⟨0x14, 1, 1, .wo, .n 0, .f, false⟩
  | .LINK_CMD_START => ⟨0x14, 0, 1, .wo, .n 0, .f, false⟩
  | .LINK_SHIFTCFG_RESUME_SNR => ⟨0x18, 20, 12, .rw, .n 352, .e, true⟩
  | .LINK_SHIFTCFG_RSP => ⟨0x18, 16, 4, .rw, .n 2, .e, true⟩
  | .LINK_SHIFTCFG_TMO => ⟨0x18, 8, 8, .rw, .n 10, .e, true⟩
  | .LINK_SHIFTCFG_TGT => ⟨0x18, 0, 4, .rw, .n 0, .e, true⟩
  | .LINK_SHIFTSTAT_TID => ⟨0x1C, 24, 8, .ro, .n 0, .f, false⟩
  | .LINK_SHIFTSTAT_F => ⟨0x1C, 8, 16, .ro, .n 0, .f, false⟩
  | .LINK_SHIFTSTAT_CONTEND => ⟨0x1C, 7, 1, .w1c, .n 0, .f, false⟩
  | .LINK_SHIFTSTAT_REASON => ⟨0x1C, 3, 4, .ro, .n 0, .f, false⟩
  | .LINK_SHIFTSTAT_PHASE => ⟨0x1C, 0, 3, .ro, .n 0, .f, false⟩
  | .LINK_XREQ_VALID => ⟨0x20, 10, 1, .rw, .n 0, .e, true⟩
  | .LINK_XREQ_PRC => ⟨0x20, 8, 2, .rw, .n 0, .e, true⟩
  | .LINK_XREQ_POST => ⟨0x20, 4, 4, .rw, .n 0, .e, true⟩
  | .LINK_XREQ_PRE => ⟨0x20, 0, 4, .rw, .n 0, .e, true⟩
  | .LINK_XTHR_PAM2_SNR => ⟨0x24, 0, 12, .rw, .n 288, .e, true⟩
  | .LINK_LOSSCFG_LOSS_N => ⟨0x28, 16, 4, .rw, .n 4, .e, true⟩
  | .LINK_LOSSCFG_SNR_MIN => ⟨0x28, 0, 12, .rw, .n 0, .e, true⟩
  | .LINK_DROP_TYPE => ⟨0x2C, 8, 4, .ro, .n 0, .f, false⟩
  | .LINK_DROP_CAUSE => ⟨0x2C, 0, 8, .ro, .n 0, .f, false⟩
  | .LINK_DROPCNT_COUNT => ⟨0x30, 0, 32, .rc, .n 0, .f, false⟩
  | .LINK_TRFAIL_COUNT => ⟨0x34, 0, 32, .rc, .n 0, .f, false⟩
  | .LINK_EVT_CMD_REJ => ⟨0x38, 6, 1, .w1c, .n 0, .f, false⟩
  | .LINK_EVT_SHIFT_FAIL => ⟨0x38, 5, 1, .w1c, .n 0, .f, false⟩
  | .LINK_EVT_SHIFT_DONE => ⟨0x38, 4, 1, .w1c, .n 0, .f, false⟩
  | .LINK_EVT_TRAIN_TMO => ⟨0x38, 3, 1, .w1c, .n 0, .f, false⟩
  | .LINK_EVT_AN_FAIL => ⟨0x38, 2, 1, .w1c, .n 0, .f, false⟩
  | .LINK_EVT_DOWN => ⟨0x38, 1, 1, .w1c, .n 0, .f, false⟩
  | .LINK_EVT_UP => ⟨0x38, 0, 1, .w1c, .n 0, .f, false⟩
  | .LINK_LPCAP_CAP => ⟨0x3C, 0, 32, .ro, .n 0, .f, false⟩
  | .LINK_XINFO_BITS k => ⟨(0x40 + 4 * k), 0, 32, .ro, .n 0, .f, false⟩
  | .LINK_SHIFTLEAD_LEAD => ⟨0x58, 0, 15, .rw, .n 64, .e, true⟩
  | .DIAG_CTL_TREND_FIT => ⟨0x0, 16, 6, .rw, .n 16, .e, true⟩
  | .DIAG_CTL_TREND_INT => ⟨0x0, 8, 4, .rw, .n 10, .e, true⟩
  | .DIAG_CTL_AUTO_TRACK => ⟨0x0, 1, 1, .rw, .n 0, .e, true⟩
  | .DIAG_CTL_TREND_EN => ⟨0x0, 0, 1, .rw, .n 0, .e, true⟩
  | .DIAG_CFG_REFPL => ⟨0x4, 16, 10, .rw, .n 0, .e, true⟩
  | .DIAG_CFG_VF => ⟨0x4, 0, 10, .rw, .n 660, .e, true⟩
  | .DIAG_CLSCFG_HARD => ⟨0x8, 16, 12, .rw, .n 614, .e, true⟩
  | .DIAG_CLSCFG_STEP_MIN => ⟨0x8, 0, 12, .rw, .n 51, .e, true⟩
  | .DIAG_LOSS_MAXCOMP => ⟨0xC, 8, 8, .rw, .n 12, .e, true⟩
  | .DIAG_LOSS_ATT => ⟨0xC, 0, 8, .rw, .n 16, .e, true⟩
  | .DIAG_TDRCFG_RAW_START => ⟨0x10, 16, 16, .rw, .n 0, .e, true⟩
  | .DIAG_TDRCFG_RAW_DEC => ⟨0x10, 8, 2, .rw, .n 0, .e, true⟩
  | .DIAG_TDRCFG_AVG => ⟨0x10, 0, 4, .rw, .n 10, .e, true⟩
  | .DIAG_CMD_SQI_RST => ⟨0x14, 4, 1, .wo, .n 0, .f, false⟩
  | .DIAG_CMD_TREND_CLR => ⟨0x14, 3, 1, .wo, .n 0, .f, false⟩
  | .DIAG_CMD_ABORT => ⟨0x14, 2, 1, .wo, .n 0, .f, false⟩
  | .DIAG_CMD_ISR => ⟨0x14, 1, 1, .wo, .n 0, .f, false⟩
  | .DIAG_CMD_TDR => ⟨0x14, 0, 1, .wo, .n 0, .f, false⟩
  | .DIAG_STAT_RUN => ⟨0x18, 1, 3, .ro, .n 0, .f, false⟩
  | .DIAG_STAT_BUSY => ⟨0x18, 0, 1, .ro, .n 0, .f, false⟩
  | .DIAG_EVT_SQI_LOW => ⟨0x1C, 7, 1, .w1c, .n 0, .f, false⟩
  | .DIAG_EVT_PRED_WARN => ⟨0x1C, 6, 1, .w1c, .n 0, .f, false⟩
  | .DIAG_EVT_CLASS_CHANGE => ⟨0x1C, 5, 1, .w1c, .n 0, .f, false⟩
  | .DIAG_EVT_NEW_FEATURE => ⟨0x1C, 4, 1, .w1c, .n 0, .f, false⟩
  | .DIAG_EVT_PARTNER_ACTIVE => ⟨0x1C, 3, 1, .w1c, .n 0, .f, false⟩
  | .DIAG_EVT_ABORTED => ⟨0x1C, 2, 1, .w1c, .n 0, .f, false⟩
  | .DIAG_EVT_CMD_REJ => ⟨0x1C, 1, 1, .w1c, .n 0, .f, false⟩
  | .DIAG_EVT_DONE => ⟨0x1C, 0, 1, .w1c, .n 0, .f, false⟩
  | .DIAG_SQI_WORST => ⟨0x20, 4, 3, .ro, .n 0, .f, false⟩
  | .DIAG_SQI_VALID => ⟨0x20, 3, 1, .ro, .n 0, .f, false⟩
  | .DIAG_SQI_SQI => ⟨0x20, 0, 3, .ro, .n 0, .f, false⟩
  | .DIAG_SNRTRK_MAX => ⟨0x24, 16, 12, .ro, .n 0, .f, false⟩
  | .DIAG_SNRTRK_MIN => ⟨0x24, 0, 12, .ro, .n 0, .f, false⟩
  | .DIAG_TRSTAT_PRED_MIN => ⟨0x28, 16, 16, .ro, .n 0xFFFF, .f, false⟩
  | .DIAG_TRSTAT_WRAPPED => ⟨0x28, 6, 1, .ro, .n 0, .f, false⟩
  | .DIAG_TRSTAT_NEXT => ⟨0x28, 0, 6, .ro, .n 0, .f, false⟩
  | .DIAG_PREDCFG_PRED_HRS => ⟨0x2C, 16, 16, .rw, .n 2000, .e, true⟩
  | .DIAG_PREDCFG_PRED_SQI => ⟨0x2C, 12, 3, .rw, .n 3, .e, true⟩
  | .DIAG_PREDCFG_PRED_LIM => ⟨0x2C, 0, 12, .rw, .n 307, .e, true⟩
  | .DIAG_SNRPRED_SLOPE => ⟨0x30, 16, 16, .ro, .n 0, .f, false⟩
  | .DIAG_SNRPRED_HOURS => ⟨0x30, 0, 16, .ro, .n 0xFFFF, .f, false⟩
  | .DIAG_OPTIME_SECONDS => ⟨0x34, 0, 32, .ro, .n 0, .f, false⟩
  | .DIAG_RES_HDR_TYPE => ⟨0x40, 28, 4, .ro, .n 0, .f, false⟩
  | .DIAG_RES_HDR_BEYOND => ⟨0x40, 27, 1, .ro, .n 0, .f, false⟩
  | .DIAG_RES_HDR_PARTIAL => ⟨0x40, 26, 1, .ro, .n 0, .f, false⟩
  | .DIAG_RES_HDR_OA => ⟨0x40, 24, 2, .ro, .n 3, .f, false⟩
  | .DIAG_RES_HDR_NFEAT => ⟨0x40, 15, 5, .ro, .n 0, .f, false⟩
  | .DIAG_RES_HDR_STATUS => ⟨0x40, 12, 3, .ro, .n 0, .f, false⟩
  | .DIAG_RES_HDR_KIND => ⟨0x40, 8, 2, .ro, .n 0, .f, false⟩
  | .DIAG_RES_HDR_SEQ => ⟨0x40, 0, 8, .ro, .n 0, .f, false⟩
  | .DIAG_RES_TIME_SECONDS => ⟨0x44, 0, 32, .ro, .n 0, .f, false⟩
  | .DIAG_RES_RES_ACC => ⟨0x48, 16, 16, .ro, .n 0, .f, false⟩
  | .DIAG_RES_RES_RES => ⟨0x48, 0, 16, .ro, .n 0, .f, false⟩
  | .DIAG_FEATA_TRACKED k => ⟨(0x80 + 8 * k), 31, 1, .ro, .n 0, .f, false⟩
  | .DIAG_FEATA_TRK k => ⟨(0x80 + 8 * k), 28, 3, .ro, .n 0, .f, false⟩
  | .DIAG_FEATA_CLASS k => ⟨(0x80 + 8 * k), 24, 4, .ro, .n 0, .f, false⟩
  | .DIAG_FEATA_DIST k => ⟨(0x80 + 8 * k), 0, 21, .ro, .n 0, .f, false⟩
  | .DIAG_FEATB_GAMMA_C k => ⟨(0x84 + 8 * k), 16, 12, .ro, .n 0, .f, false⟩
  | .DIAG_FEATB_GAMMA_RAW k => ⟨(0x84 + 8 * k), 0, 12, .ro, .n 0, .f, false⟩
  | .DIAG_TRACKA_VALID k => ⟨(0x100 + 8 * k), 31, 1, .rw, .n 0, .f, false⟩
  | .DIAG_TRACKA_CLASS k => ⟨(0x100 + 8 * k), 21, 4, .ro, .n 0, .f, false⟩
  | .DIAG_TRACKA_DIST k => ⟨(0x100 + 8 * k), 0, 21, .rw, .n 0, .f, false⟩
  | .DIAG_TRACKB_PRED k => ⟨(0x104 + 8 * k), 16, 16, .ro, .n 0xFFFF, .f, false⟩
  | .DIAG_TRACKB_GAMMA_C k => ⟨(0x104 + 8 * k), 0, 12, .ro, .n 0, .f, false⟩
  | .LPI_CTL_TX_REQ => ⟨0x0, 0, 1, .rw, .n 0, .e, false⟩
  | .LPI_CMD_PAD_RELEASE => ⟨0x4, 2, 1, .wo, .n 0, .f, false⟩
  | .LPI_CMD_WAKE => ⟨0x4, 1, 1, .wo, .n 0, .f, false⟩
  | .LPI_CMD_SLEEP => ⟨0x4, 0, 1, .wo, .n 0, .f, false⟩
  | .LPI_STAT_METHOD => ⟨0x8, 7, 1, .ro, .n 0, .f, false⟩
  | .LPI_STAT_SLP_PHASE => ⟨0x8, 4, 3, .ro, .n 0, .f, false⟩
  | .LPI_STAT_RX_LPI => ⟨0x8, 1, 1, .ro, .n 0, .f, false⟩
  | .LPI_STAT_TX_LPI => ⟨0x8, 0, 1, .ro, .n 0, .f, false⟩
  | .LPI_EVT_CMD_REJ => ⟨0xC, 9, 1, .w1c, .n 0, .f, false⟩
  | .LPI_EVT_SLEEP_ABORTED_WAKE => ⟨0xC, 8, 1, .w1c, .n 0, .f, false⟩
  | .LPI_EVT_WAKE_LINE => ⟨0xC, 7, 1, .w1c, .n 0, .f, false⟩
  | .LPI_EVT_SLEEP_FAIL => ⟨0xC, 6, 1, .w1c, .n 0, .f, false⟩
  | .LPI_EVT_SLEEP_DONE => ⟨0xC, 5, 1, .w1c, .n 0, .f, false⟩
  | .LPI_EVT_IDLE => ⟨0xC, 4, 1, .w1c, .n 0, .f, false⟩
  | .LPI_EVT_RX_EXIT => ⟨0xC, 3, 1, .w1c, .n 0, .f, false⟩
  | .LPI_EVT_RX_ENTER => ⟨0xC, 2, 1, .w1c, .n 0, .f, false⟩
  | .LPI_EVT_TX_EXIT => ⟨0xC, 1, 1, .w1c, .n 0, .f, false⟩
  | .LPI_EVT_TX_ENTER => ⟨0xC, 0, 1, .w1c, .n 0, .f, false⟩
  | .LPI_IDLECFG_IDLE_US => ⟨0x10, 0, 20, .rw, .n 1000, .e, true⟩
  | .LPI_SLPCFG_LEAD => ⟨0x14, 16, 8, .rw, .n 64, .e, true⟩
  | .LPI_SLPCFG_RSP => ⟨0x14, 12, 4, .rw, .n 4, .e, true⟩
  | .LPI_SLPCFG_ACCEPT => ⟨0x14, 8, 1, .rw, .n 0, .e, true⟩
  | .LPI_SLPCFG_REASON => ⟨0x14, 0, 4, .ro, .n 0, .f, false⟩
  | .LPI_IDLE_QEMPTY => ⟨0x18, 31, 1, .ro, .n 0, .f, false⟩
  | .LPI_IDLE_TIME => ⟨0x18, 0, 20, .ro, .n 0, .f, false⟩
  | .LPI_TXTIME_COUNT => ⟨0x1C, 0, 32, .rc, .n 0, .f, false⟩
  | .LPI_RXTIME_COUNT => ⟨0x20, 0, 32, .rc, .n 0, .f, false⟩
  | .LPI_TXCNT_COUNT => ⟨0x24, 0, 32, .rc, .n 0, .f, false⟩
  | .LPI_WAKECNT_COUNT => ⟨0x28, 0, 32, .rc, .n 0, .f, false⟩
  | .FRAME_CTL_MAX_LEN => ⟨0x0, 16, 14, .rw, .n 1522, .e, true⟩
  | .FRAME_CTL_KEYMASK => ⟨0x0, 12, 4, .rw, .n 15, .e, true⟩
  | .FRAME_CTL_PTP_AUTO => ⟨0x0, 1, 1, .rw, .n 1, .e, true⟩
  | .FRAME_CTL_MS_EN => ⟨0x0, 0, 1, .rw, .n 0, .e, true⟩
  | .FRAME_MISS_EG_SC => ⟨0x4, 16, 8, .rw, .n 0, .e, true⟩
  | .FRAME_MISS_EG_SC_EN => ⟨0x4, 8, 1, .rw, .n 0, .e, true⟩
  | .FRAME_MISS_EG_DROP => ⟨0x4, 1, 1, .rw, .n 0, .e, true⟩
  | .FRAME_MISS_IN_DROP => ⟨0x4, 0, 1, .rw, .n 0, .e, true⟩
  | .FRAME_STAT_CTX_COUNT => ⟨0x8, 16, 12, .ro, .n 0, .f, false⟩
  | .FRAME_STAT_CAM_USED => ⟨0x8, 0, 7, .ro, .n 0, .f, false⟩
  | .FRAME_EVT_ECC => ⟨0xC, 7, 1, .w1c, .n 0, .f, false⟩
  | .FRAME_EVT_TS_LOST => ⟨0xC, 6, 1, .w1c, .n 0, .f, false⟩
  | .FRAME_EVT_MS_FAULT => ⟨0xC, 5, 1, .w1c, .n 0, .f, false⟩
  | .FRAME_EVT_SA_SWITCHED => ⟨0xC, 4, 1, .w1c, .n 0, .f, false⟩
  | .FRAME_EVT_PN_EXHAUST => ⟨0xC, 3, 1, .w1c, .n 0, .f, false⟩
  | .FRAME_EVT_PN_THRESH => ⟨0xC, 2, 1, .w1c, .n 0, .f, false⟩
  | .FRAME_EVT_MARK_RED => ⟨0xC, 1, 1, .w1c, .n 0, .f, false⟩
  | .FRAME_EVT_CMD_REJ => ⟨0xC, 0, 1, .w1c, .n 0, .f, false⟩
  | .CTX_CMD_OP => ⟨0x10, 28, 4, .wo, .n 0, .f, false⟩
  | .CTX_CMD_WMASK => ⟨0x10, 16, 5, .wo, .n 0, .f, false⟩
  | .CTX_CMD_INDEX => ⟨0x10, 0, 12, .wo, .n 0, .f, false⟩
  | .CTX_STAT_BUSY => ⟨0x14, 31, 1, .ro, .n 0, .f, false⟩
  | .CTX_STAT_RESULT => ⟨0x14, 28, 3, .ro, .n 0, .f, false⟩
  | .CTX_STAT_KICKS => ⟨0x14, 16, 3, .ro, .n 0, .f, false⟩
  | .CTX_STAT_INDEX => ⟨0x14, 0, 12, .ro, .n 0, .f, false⟩
  | .MS_CFG_EVT_N => ⟨0x20, 16, 8, .rw, .n 16, .e, true⟩
  | .MS_SEL_DIR => ⟨0x24, 16, 1, .rw, .n 0, .e, false⟩
  | .MS_SEL_SC => ⟨0x24, 8, 6, .rw, .n 0, .e, false⟩
  | .MS_SEL_AN => ⟨0x24, 0, 2, .rw, .n 0, .e, false⟩
  | .MS_SCI_LO_VALUE => ⟨0x28, 0, 32, .rw, .n 0, .e, false⟩
  | .MS_SCI_HI_VALUE => ⟨0x2C, 0, 32, .rw, .n 0, .e, false⟩
  | .MS_SCCFG_EN => ⟨0x30, 31, 1, .rw, .n 0, .e, false⟩
  | .MS_SCCFG_CIPHER => ⟨0x30, 28, 3, .rw, .n 0, .e, false⟩
  | .MS_SCCFG_CONF => ⟨0x30, 27, 1, .rw, .n 1, .e, false⟩
  | .MS_SCCFG_SCI_EN => ⟨0x30, 26, 1, .rw, .n 1, .e, false⟩
  | .MS_SCCFG_ES => ⟨0x30, 25, 1, .rw, .n 0, .e, false⟩
  | .MS_SCCFG_SCB => ⟨0x30, 24, 1, .rw, .n 0, .e, false⟩
  | .MS_SCCFG_TAG_CLEAR => ⟨0x30, 23, 1, .rw, .n 0, .e, false⟩
  | .MS_SCCFG_VALIDATE => ⟨0x30, 20, 2, .rw, .n 2, .e, false⟩
  | .MS_SCCFG_REPLAY => ⟨0x30, 19, 1, .rw, .n 1, .e, false⟩
  | .MS_SCCFG_ENC_AN => ⟨0x30, 16, 2, .ro, .n 0, .f, false⟩
  | .MS_WIN_VALUE => ⟨0x34, 0, 32, .rw, .n 0, .e, false⟩
  | .MS_KEY_DATA k => ⟨(0x38 + 4 * k), 0, 32, .wo, .n 0, .f, false⟩
  | .MS_SALT_DATA k => ⟨(0x58 + 4 * k), 0, 32, .wo, .n 0, .f, false⟩
  | .MS_SSCI_VALUE => ⟨0x64, 0, 32, .rw, .n 0, .e, false⟩
  | .MS_PN_LO_VALUE => ⟨0x68, 0, 32, .rw, .n 0, .e, false⟩
  | .MS_PN_HI_VALUE => ⟨0x6C, 0, 32, .rw, .n 0, .e, false⟩
  | .MS_CMD_OP => ⟨0x70, 0, 3, .wo, .n 0, .f, false⟩
  | .MS_STAT_BUSY => ⟨0x74, 31, 1, .ro, .n 0, .f, false⟩
  | .MS_STAT_INUSE => ⟨0x74, 30, 1, .ro, .n 0, .f, false⟩
  | .MS_STAT_KCV => ⟨0x74, 0, 24, .ro, .n 0, .f, false⟩
  | .MS_PNTHR_VALUE => ⟨0x78, 0, 32, .rw, .n 0, .e, true⟩
  | .CTX_STAGE_WORD k => ⟨(0x80 + 4 * k), 0, 32, .rw, .n 0, .e, false⟩
  | .TS_RATE_VALUE => ⟨0x100, 0, 32, .rw, .n 0, .e, false⟩
  | .TS_LAT_EG => ⟨0x104, 16, 16, .rw, .n 0, .e, true⟩
  | .TS_LAT_IN => ⟨0x104, 0, 16, .rw, .n 0, .e, true⟩
  | .TS_SET_VALUE k => ⟨(0x108 + 4 * k), 0, 32, .rw, .n 0, .e, false⟩
  | .TS_ADJ_VALUE => ⟨0x114, 0, 32, .rw, .n 0, .e, false⟩
  | .TS_CMD_ADJ => ⟨0x118, 1, 1, .wo, .n 0, .f, false⟩
  | .TS_CMD_SET => ⟨0x118, 0, 1, .wo, .n 0, .f, false⟩
  | .TS_STAT_STEPS => ⟨0x11C, 0, 8, .ro, .n 0, .f, false⟩
  | .TS_LOST_COUNT => ⟨0x120, 0, 32, .rc, .n 0, .f, false⟩
  | .ACCT_CMD_SNAP => ⟨0x180, 0, 1, .wo, .n 0, .f, false⟩
  | .ACCT_STAT_SNAP_DONE => ⟨0x184, 16, 1, .w1c, .n 0, .f, false⟩
  | .ACCT_STAT_SEQ => ⟨0x184, 0, 16, .ro, .n 0, .f, false⟩
  | .Q_CTL_PCPMAP_EN => ⟨0x0, 16, 1, .rw, .n 1, .e, true⟩
  | .Q_CTL_IN_DEFCLASS => ⟨0x0, 8, 3, .rw, .n 0, .e, true⟩
  | .Q_CTL_CT_THRESH => ⟨0x0, 0, 6, .rw, .n 4, .e, true⟩
  | .Q_PCPMAP_MAP => ⟨0x4, 0, 24, .rw, .n 0xFAC688, .e, true⟩
  | .Q_STAT_DRAIN => ⟨0x8, 31, 1, .ro, .n 0, .f, false⟩
  | .Q_STAT_FLUSH_BUSY => ⟨0x8, 30, 1, .ro, .n 0, .f, false⟩
  | .Q_STAT_IN_FREE => ⟨0x8, 16, 13, .ro, .n 0, .f, false⟩
  | .Q_STAT_EG_FREE => ⟨0x8, 0, 13, .ro, .n 0, .f, false⟩
  | .Q_EVT_CAP_REJ => ⟨0xC, 6, 1, .w1c, .n 0, .f, false⟩
  | .Q_EVT_RESYNC => ⟨0xC, 5, 1, .w1c, .n 0, .f, false⟩
  | .Q_EVT_DRAIN_TMO => ⟨0xC, 4, 1, .w1c, .n 0, .f, false⟩
  | .Q_EVT_DRAIN_DONE => ⟨0xC, 3, 1, .w1c, .n 0, .f, false⟩
  | .Q_EVT_FLUSH_DONE => ⟨0xC, 2, 1, .w1c, .n 0, .f, false⟩
  | .Q_EVT_QUEUE_FULL => ⟨0xC, 1, 1, .w1c, .n 0, .f, false⟩
  | .Q_EVT_UNDERRUN => ⟨0xC, 0, 1, .w1c, .n 0, .f, false⟩
  | .Q_FLUSH_IN => ⟨0x10, 8, 8, .wo, .n 0, .f, false⟩
  | .Q_FLUSH_EG => ⟨0x10, 0, 8, .wo, .n 0, .f, false⟩
  | .Q_EGCLS_RSV k => ⟨(0x40 + 4 * k), 16, 13, .rw, .n 0, .e, true⟩
  | .Q_EGCLS_CAP k => ⟨(0x40 + 4 * k), 0, 13, .rw, .byClass 512 128 32, .e, true⟩
  | .Q_INCLS_CAP k => ⟨(0x60 + 4 * k), 0, 13, .rw, .byClass 4096 1024 256, .e, true⟩
  | .Q_EGG_N k => ⟨(0x80 + 4 * k), 0, 32, .ro, .n 0, .f, false⟩
  | .Q_EGR_N k => ⟨(0xA0 + 4 * k), 0, 32, .ro, .n 0, .f, false⟩
  | .Q_EGOCC_N k => ⟨(0xC0 + 4 * k), 0, 13, .ro, .n 0, .f, false⟩
  | .Q_ING_N k => ⟨(0x100 + 4 * k), 0, 32, .ro, .n 0, .f, false⟩
  | .Q_INS_N k => ⟨(0x120 + 4 * k), 0, 32, .ro, .n 0, .f, false⟩
  | .Q_INB_N k => ⟨(0x140 + 4 * k), 0, 32, .ro, .n 0, .f, false⟩
  | .Q_INOCC_N k => ⟨(0x160 + 4 * k), 0, 13, .ro, .n 0, .f, false⟩
  | .SEQ_CTL_CMD => ⟨0x0, 0, 3, .wo, .n 0, .f, false⟩
  | .SEQ_STAT_QHALT => ⟨0x4, 7, 1, .ro, .n 0, .f, false⟩
  | .SEQ_STAT_PRAM_WREJ => ⟨0x4, 6, 1, .w1c, .n 0, .f, false⟩
  | .SEQ_STAT_CMD_REJ => ⟨0x4, 5, 1, .w1c, .n 0, .f, false⟩
  | .SEQ_STAT_INTRAP => ⟨0x4, 4, 1, .ro, .n 0, .f, false⟩
  | .SEQ_STAT_STATE => ⟨0x4, 0, 3, .ro, .n 0, .f, false⟩
  | .SEQ_PC_PC => ⟨0x8, 0, 13, .ro, .n 0, .f, false⟩
  | .SEQ_TRAP_TRAP_PC => ⟨0xC, 16, 13, .ro, .n 0, .f, false⟩
  | .SEQ_TRAP_CAUSE => ⟨0xC, 8, 4, .ro, .n 0, .f, false⟩
  | .SEQ_TRAP_TRAP_CNT => ⟨0xC, 0, 8, .ro, .n 0, .f, false⟩
  | .SEQ_TRAPINSN_INSN => ⟨0x10, 0, 32, .ro, .n 0, .f, false⟩
  | .SEQ_TRAPVEC_EN => ⟨0x14, 31, 1, .rwp, .n 0, .e, true⟩
  | .SEQ_TRAPVEC_VEC => ⟨0x14, 0, 13, .rwp, .n 0, .e, true⟩
  | .SEQ_TRAPACK_ACK => ⟨0x18, 0, 1, .wop, .n 0, .f, false⟩
  | .SEQ_WDOG_PERIOD => ⟨0x1C, 0, 32, .rw, .n 0x100000, .e, true⟩
  | .SEQ_WDKICK_KICK => ⟨0x20, 0, 32, .wop, .n 0, .f, false⟩
  | .SEQ_EVPEND_GROUPS => ⟨0x24, 0, 8, .ro, .n 0, .f, false⟩
  | .SEQ_EVHIT_GROUPS => ⟨0x28, 0, 8, .ro, .n 0, .f, false⟩
  | .SEQ_SYSEVT_REF_LOST => ⟨0x2C, 7, 1, .w1cp, .n 0, .f, false⟩
  | .SEQ_SYSEVT_FAULT => ⟨0x2C, 6, 1, .w1cp, .n 0, .f, false⟩
  | .SEQ_SYSEVT_MODE => ⟨0x2C, 5, 1, .w1cp, .n 0, .f, false⟩
  | .SEQ_SYSEVT_TEMP_OK => ⟨0x2C, 4, 1, .w1cp, .n 0, .f, false⟩
  | .SEQ_SYSEVT_TEMP_HI => ⟨0x2C, 3, 1, .w1cp, .n 0, .f, false⟩
  | .SEQ_SYSEVT_OP_DONE => ⟨0x2C, 2, 1, .w1cp, .n 0, .f, false⟩
  | .SEQ_SYSEVT_SUPPLY_OK => ⟨0x2C, 1, 1, .w1cp, .n 0, .f, false⟩
  | .SEQ_SYSEVT_SUPPLY_WARN => ⟨0x2C, 0, 1, .w1cp, .n 0, .f, false⟩
  | .SEQ_TMRSTAT_PERIODIC => ⟨0x30, 16, 8, .rwp, .n 0, .e, true⟩
  | .SEQ_TMRSTAT_RUN => ⟨0x30, 8, 8, .ro, .n 0, .f, false⟩
  | .SEQ_TMRSTAT_EXP => ⟨0x30, 0, 8, .w1cp, .n 0, .f, false⟩
  | .SEQ_HOSTEVT_CTL_CHG => ⟨0x34, 1, 1, .w1cp, .n 0, .f, false⟩
  | .SEQ_HOSTEVT_MBOX => ⟨0x34, 0, 1, .w1cp, .n 0, .f, false⟩
  | .SEQ_MBOX_IN_DATA => ⟨0x38, 0, 32, .rw, .n 0, .e, false⟩
  | .SEQ_MBOX_OUT_DATA => ⟨0x3C, 0, 32, .rwp, .n 0, .e, false⟩
  | .SEQ_EVEN_EN k => ⟨(0x40 + 4 * k), 0, 32, .rwp, .n 0, .e, true⟩
  | .SEQ_TMR_COUNT k => ⟨(0x60 + 4 * k), 0, 32, .ro, .n 0, .f, false⟩
  | .SEQ_IMG_SRC => ⟨0x80, 30, 2, .ro, .n 0, .e, false⟩
  | .SEQ_IMG_MODIFIED => ⟨0x80, 29, 1, .ro, .n 0, .e, false⟩
  | .SEQ_IMG_PROG_ID => ⟨0x80, 16, 8, .ro, .n 0, .e, false⟩
  | .SEQ_IMG_ROLLBACK => ⟨0x80, 0, 16, .ro, .n 0, .e, false⟩
  | .SEQ_CAP0_CAP => ⟨0x84, 0, 32, .ro, .n 0, .e, false⟩
  | .SEQ_CAP1_CAP => ⟨0x88, 0, 32, .ro, .n 0, .e, false⟩
  | .SEQ_STACK_LEN => ⟨0x8C, 16, 14, .ro, .n 0, .e, false⟩
  | .SEQ_STACK_LOOPS => ⟨0x8C, 4, 2, .ro, .n 0, .f, false⟩
  | .SEQ_STACK_DEPTH => ⟨0x8C, 0, 4, .ro, .n 0, .f, false⟩
  | .SEQ_CYCLES_COUNT => ⟨0x90, 0, 32, .rc, .n 0, .f, false⟩
  | .SEQ_LOAD_END => ⟨0x94, 16, 14, .ro, .n 0, .e, false⟩
  | .SEQ_LOAD_BASE => ⟨0x94, 0, 13, .ro, .n 0, .e, false⟩
  | .CALG_CMD_ABORT => ⟨0x0, 4, 1, .wo, .n 0, .f, false⟩
  | .CALG_CMD_CMD => ⟨0x0, 0, 4, .wo, .n 0, .f, false⟩
  | .CALG_RES_MEAS => ⟨0x4, 16, 16, .ro, .n 0, .f, false⟩
  | .CALG_RES_BUSY => ⟨0x4, 12, 1, .ro, .n 0, .f, false⟩
  | .CALG_RES_TARGET => ⟨0x4, 8, 4, .ro, .n 0, .f, false⟩
  | .CALG_RES_PRECOND => ⟨0x4, 4, 4, .ro, .n 0, .f, false⟩
  | .CALG_RES_STATUS => ⟨0x4, 0, 3, .ro, .n 0, .f, false⟩
  | .UT_HYB_UT => ⟨0x8, 0, 16, .rw, .n 0, .d, false⟩
  | .UT_AMP_UT => ⟨0xC, 0, 12, .rw, .n 0, .d, false⟩
  | .UT_RXG_UT => ⟨0x10, 0, 12, .rw, .n 0, .d, false⟩
  | .FT_HYB_FT => ⟨0x14, 0, 16, .ro, .n 0, .f, false⟩
  | .FT_AMP_FT => ⟨0x18, 0, 12, .ro, .n 0, .f, false⟩
  | .FT_RXG_FT => ⟨0x1C, 0, 12, .ro, .n 0, .f, false⟩
  | .CALG_EFF_SAT => ⟨0x20, 31, 1, .ro, .n 0, .f, false⟩
  | .CALG_EFF_AMP => ⟨0x20, 16, 12, .ro, .n 0, .f, false⟩
  | .CALG_EFF_HYB => ⟨0x20, 0, 16, .ro, .n 0, .f, false⟩
  | .CALG_EFFRX_RXG => ⟨0x24, 0, 12, .ro, .n 0, .f, false⟩
  | .CALG_BIST_PASS => ⟨0x28, 31, 1, .ro, .n 0, .f, false⟩
  | .CALG_BIST_UNREP => ⟨0x28, 16, 8, .ro, .n 0, .f, false⟩
  | .CALG_BIST_REPAIRED => ⟨0x28, 8, 8, .ro, .n 0, .f, false⟩
  | .CALG_BIST_FAILMEM => ⟨0x28, 0, 8, .ro, .n 0, .f, false⟩
  | .GRAFT_CTL_TRIG => ⟨0x40, 16, 10, .rw, .n 1000, .e, true⟩
  | .GRAFT_CTL_ECC_N => ⟨0x40, 8, 8, .rw, .n 8, .e, true⟩
  | .GRAFT_CTL_POLICY => ⟨0x40, 0, 2, .rw, .n 1, .e, true⟩
  | .GRAFT_CMD_ELEM => ⟨0x44, 12, 16, .wo, .n 0, .f, false⟩
  | .GRAFT_CMD_POOL => ⟨0x44, 8, 4, .wo, .n 0, .f, false⟩
  | .GRAFT_CMD_SWAP => ⟨0x44, 2, 1, .wo, .n 0, .f, false⟩
  | .GRAFT_CMD_DENY => ⟨0x44, 1, 1, .wo, .n 0, .f, false⟩
  | .GRAFT_CMD_APPROVE => ⟨0x44, 0, 1, .wo, .n 0, .f, false⟩
  | .GRAFT_PEND_VALID => ⟨0x48, 31, 1, .ro, .n 0, .f, false⟩
  | .GRAFT_PEND_RUNNING => ⟨0x48, 30, 1, .ro, .n 0, .f, false⟩
  | .GRAFT_PEND_COMMITTED => ⟨0x48, 29, 1, .ro, .n 0, .f, false⟩
  | .GRAFT_PEND_REASON => ⟨0x48, 24, 4, .ro, .n 0, .f, false⟩
  | .GRAFT_PEND_POOL => ⟨0x48, 16, 4, .ro, .n 0, .f, false⟩
  | .GRAFT_PEND_ELEM => ⟨0x48, 0, 16, .ro, .n 0, .f, false⟩
  | .GRAFT_EVT_CMD_REJ => ⟨0x4C, 10, 1, .w1c, .n 0, .f, false⟩
  | .GRAFT_EVT_LIFE_WARN => ⟨0x4C, 9, 1, .w1c, .n 0, .f, false⟩
  | .GRAFT_EVT_BIST_DONE => ⟨0x4C, 8, 1, .w1c, .n 0, .f, false⟩
  | .GRAFT_EVT_CAL_FAIL => ⟨0x4C, 7, 1, .w1c, .n 0, .f, false⟩
  | .GRAFT_EVT_CAL_DONE => ⟨0x4C, 6, 1, .w1c, .n 0, .f, false⟩
  | .GRAFT_EVT_DENIED => ⟨0x4C, 5, 1, .w1c, .n 0, .f, false⟩
  | .GRAFT_EVT_DEFER => ⟨0x4C, 4, 1, .w1c, .n 0, .f, false⟩
  | .GRAFT_EVT_EXHAUST => ⟨0x4C, 3, 1, .w1c, .n 0, .f, false⟩
  | .GRAFT_EVT_DONE => ⟨0x4C, 2, 1, .w1c, .n 0, .f, false⟩
  | .GRAFT_EVT_REQ => ⟨0x4C, 0, 1, .w1c, .n 0, .f, false⟩
  | .GRAFT_POOL_USED k => ⟨(0x50 + 4 * k), 24, 8, .ro, .n 0, .f, false⟩
  | .GRAFT_POOL_BUILT k => ⟨(0x50 + 4 * k), 16, 8, .ro, .n 0, .f, false⟩
  | .GRAFT_POOL_WEAR k => ⟨(0x50 + 4 * k), 0, 10, .ro, .n 0, .f, false⟩
  | .GRAFT_LIFE_POOL => ⟨0x64, 16, 3, .ro, .n 0, .f, false⟩
  | .GRAFT_LIFE_HOURS => ⟨0x64, 0, 16, .ro, .n 0xFFFF, .f, false⟩
  | .GRAFT_LOG_POOL => ⟨0x68, 28, 4, .ro, .n 0, .f, false⟩
  | .GRAFT_LOG_NEW => ⟨0x68, 14, 14, .ro, .n 0, .f, false⟩
  | .GRAFT_LOG_OLD => ⟨0x68, 0, 14, .ro, .n 0, .f, false⟩
  | .GRAFT_LIFEWARN_HRS => ⟨0x6C, 0, 16, .rw, .n 0x2238, .e, true⟩
  | .CHPWR_VOTE_CLIENTS => ⟨0x0, 4, 5, .ro, .n 0, .s, false⟩
  | .CHPWR_VOTE_HOST => ⟨0x0, 0, 4, .rw, .n 1, .s, true⟩
  | .CHPWR_STAT_OPNEED => ⟨0x4, 12, 2, .ro, .n 0, .s, false⟩
  | .CHPWR_STAT_PAD_HELD => ⟨0x4, 9, 1, .ro, .n 1, .s, false⟩
  | .CHPWR_STAT_ISO => ⟨0x4, 8, 1, .ro, .n 1, .s, false⟩
  | .CHPWR_STAT_PSTATE => ⟨0x4, 0, 3, .ro, .n 0, .s, false⟩
  | .CHPWR_CFG_PD_DRAIN_MAX => ⟨0x8, 0, 7, .rw, .n 100, .s, true⟩
  | .CHPWR_CMD_CHRST => ⟨0xC, 0, 1, .wo, .n 0, .s, false⟩
  | .CHPWR_EVT_CMD_REJ => ⟨0x10, 3, 1, .w1c, .n 0, .s, false⟩
  | .CHPWR_EVT_RST_DONE => ⟨0x10, 2, 1, .w1c, .n 0, .s, false⟩
  | .CHPWR_EVT_OFF => ⟨0x10, 1, 1, .w1c, .n 0, .s, false⟩
  | .CHPWR_EVT_ON => ⟨0x10, 0, 1, .w1c, .n 0, .s, false⟩
  | .FLT_FIRST_REC k => ⟨(0x0 + 4 * k), 0, 32, .ro, .n 0, .sk, false⟩
  | .FLT_STAT_OVF => ⟨0x10, 1, 1, .w1c, .n 0, .sk, false⟩
  | .FLT_STAT_WIN => ⟨0x10, 0, 1, .ro, .n 0, .sk, false⟩
  | .FLT_ACK_ACK => ⟨0x14, 0, 1, .wo, .n 0, .sk, false⟩
  | .FLT_LIVE_LIVE => ⟨0x18, 0, 12, .ro, .n 0, .sk, false⟩
  | .FLT_FIRSTCNT_COUNT => ⟨0x1C, 0, 32, .ro, .n 0, .sk, false⟩
  | .FLT_MRGCNT_COUNT => ⟨0x20, 0, 32, .ro, .n 0, .sk, false⟩
  | .FLT_CLASS_CLASS => ⟨0x24, 0, 24, .rwk, .n 0xA5414, .s, true⟩
  | .FLT_CFG_C2ACT => ⟨0x28, 0, 1, .rwk, .n 0, .s, true⟩
  | .FLT_FORCE_FORCE => ⟨0x2C, 0, 12, .rwk, .n 0, .s, false⟩
  | .FLT_SRC_STICKY k => ⟨(0x40 + 4 * k), 31, 1, .w1c, .n 0, .sk, false⟩
  | .FLT_SRC_CONSEQ k => ⟨(0x40 + 4 * k), 30, 1, .w1c, .n 0, .sk, false⟩
  | .FLT_SRC_TRANSIENT k => ⟨(0x40 + 4 * k), 29, 1, .w1c, .n 0, .sk, false⟩
  | .FLT_SRC_LIVE k => ⟨(0x40 + 4 * k), 28, 1, .ro, .n 0, .sk, false⟩
  | .FLT_SRC_KIND k => ⟨(0x40 + 4 * k), 16, 4, .ro, .n 0, .sk, false⟩
  | .FLT_TOTAL_COUNT k => ⟨(0x80 + 4 * k), 0, 32, .ro, .n 0, .sk, false⟩
  | .FLT_OVFCNT_COUNT k => ⟨(0xC0 + 4 * k), 0, 32, .ro, .n 0, .sk, false⟩
  | .SEG_CTL_ATTEMPTS => ⟨0x0, 16, 5, .rw, .n 16, .e, true⟩
  | .SEG_CTL_FALLBACK => ⟨0x0, 11, 1, .rw, .n 1, .e, true⟩
  | .SEG_CTL_EXT => ⟨0x0, 10, 1, .rw, .n 0, .e, true⟩
  | .SEG_CTL_TERM => ⟨0x0, 8, 1, .rw, .n 0, .e, true⟩
  | .SEG_CTL_MODE => ⟨0x0, 0, 2, .rw, .n 0, .e, true⟩
  | .SEG_PLCA_BURST_TMR => ⟨0x4, 24, 8, .rw, .n 128, .e, true⟩
  | .SEG_PLCA_MAX_BC => ⟨0x4, 16, 8, .rw, .n 0, .e, true⟩
  | .SEG_PLCA_NODE_CNT => ⟨0x4, 8, 8, .rw, .n 8, .e, true⟩
  | .SEG_PLCA_NODE_ID => ⟨0x4, 0, 8, .rw, .n 255, .e, true⟩
  | .SEG_PLCA_TO_TO_TMR => ⟨0x8, 0, 8, .rw, .n 32, .e, true⟩
  | .SEG_CMD_STOP => ⟨0xC, 1, 1, .wo, .n 0, .f, false⟩
  | .SEG_CMD_START => ⟨0xC, 0, 1, .wo, .n 0, .f, false⟩
  | .SEG_STAT_SSTATE => ⟨0x10, 8, 2, .ro, .n 0, .f, false⟩
  | .SEG_STAT_REWIND_VALID => ⟨0x10, 3, 1, .ro, .n 0, .f, false⟩
  | .SEG_STAT_CSMA => ⟨0x10, 2, 1, .ro, .n 0, .f, false⟩
  | .SEG_STAT_COORD => ⟨0x10, 1, 1, .ro, .n 0, .f, false⟩
  | .SEG_STAT_PLCA_OK => ⟨0x10, 0, 1, .ro, .n 0, .f, false⟩
  | .SEG_EVT_JOIN_TMO => ⟨0x14, 7, 1, .w1c, .n 0, .f, false⟩
  | .SEG_EVT_CMD_REJ => ⟨0x14, 6, 1, .w1c, .n 0, .f, false⟩
  | .SEG_EVT_REWIND_REL => ⟨0x14, 5, 1, .w1c, .n 0, .f, false⟩
  | .SEG_EVT_DUP_COORD => ⟨0x14, 4, 1, .w1c, .n 0, .f, false⟩
  | .SEG_EVT_BCN_FOUND => ⟨0x14, 3, 1, .w1c, .n 0, .f, false⟩
  | .SEG_EVT_BCN_LOST => ⟨0x14, 2, 1, .w1c, .n 0, .f, false⟩
  | .SEG_EVT_DOWN => ⟨0x14, 1, 1, .w1c, .n 0, .f, false⟩
  | .SEG_EVT_UP => ⟨0x14, 0, 1, .w1c, .n 0, .f, false⟩
  | .SEG_DROP_CAUSE => ⟨0x18, 0, 8, .ro, .n 0, .f, false⟩
  | .SEG_PLCASTAT_LAST_CYCLE => ⟨0x1C, 16, 16, .ro, .n 0, .f, false⟩
  | .SEG_PLCASTAT_CUR_TO => ⟨0x1C, 0, 8, .ro, .n 0, .f, false⟩
  | .SEG_COLCNT_COUNT => ⟨0x20, 0, 32, .rc, .n 0, .f, false⟩
  | .SEG_LATECOL_COUNT => ⟨0x24, 0, 32, .rc, .n 0, .f, false⟩
  | .SEG_RETX_COUNT => ⟨0x28, 0, 32, .rc, .n 0, .f, false⟩
  | .SEG_SYMERR_COUNT => ⟨0x2C, 0, 32, .rc, .n 0, .f, false⟩
  | .SEG_BCNTX_COUNT => ⟨0x30, 0, 32, .rc, .n 0, .f, false⟩
  | .SEG_BCNRX_COUNT => ⟨0x34, 0, 32, .rc, .n 0, .f, false⟩
  | .SEG_BCNLOST_COUNT => ⟨0x38, 0, 32, .rc, .n 0, .f, false⟩
  | .SEG_DUPCOORD_COUNT => ⟨0x3C, 0, 32, .rc, .n 0, .f, false⟩
  | .SEG_DROPCNT_COUNT => ⟨0x40, 0, 32, .rc, .n 0, .f, false⟩
  | .SEG_RWDREL_COUNT => ⟨0x44, 0, 32, .rc, .n 0, .f, false⟩
  | .tr b t => t.info (b.cfgKeep)

/-- The block of a field. -/
def CFld.blk : CFld → CBlk
  | .CHCTL_CTL_HOLD | .CHCTL_CTL_MAINT_REQ | .CHCTL_CTL_TYPE_REQ | .CHCTL_CTL_ROLE_REQ | .CHCTL_CTL_AN_REQ | .CHCTL_STATE_CMD_REJ | .CHCTL_STATE_CHG | .CHCTL_STATE_PREV | .CHCTL_STATE_SUBSTATE | .CHCTL_RETAIN_EN | .CHCTL_CMD_QREL => .chctl
  | .AFE_CTL_ADC_EN | .AFE_CTL_HYB_EN | .AFE_CTL_LOOP | .AFE_CTL_DRV_MODE | .AFE_TXAMP_AMP_EFF | .AFE_TXAMP_AMP | .AFE_TXEQ_POST | .AFE_TXEQ_PRE | .AFE_HYB_HYB_C | .AFE_HYB_HYB_R | .AFE_RXGAIN_AGC_EN | .AFE_RXGAIN_PGA | .AFE_SATCFG_SAT_N | .AFE_SATCFG_SAT_FAULT | .AFE_STAT_PAD_HELD | .AFE_STAT_LOOP_REJ | .AFE_STAT_AMP_CLAMPED | .AFE_STAT_SAT | .AFE_SATCNT_SAT_EVENTS | .AFE_SEGMAP_SEG_USED | .AFE_SLICEMAP_SLICE_USED _ => .afe
  | .DSP_CTL_MSE_WIN | .DSP_CTL_DFE_EN | .DSP_CTL_EC_EN | .DSP_FRZ_HOST | .DSP_FRZSTAT_SEQ | .DSP_FRZSTAT_EFF | .DSP_FRZHW_DIV | .DSP_FRZHW_SUPPLY | .DSP_FRZHW_LPI | .DSP_FRZHW_LINK | .DSP_MU_EC_ACQLEN | .DSP_MU_EC_LEAK | .DSP_MU_EC_TRK | .DSP_MU_EC_ACQ | .DSP_MU_FFE_ACQLEN | .DSP_MU_FFE_MAIN | .DSP_MU_FFE_TRK | .DSP_MU_FFE_ACQ | .DSP_MU_DFE_ACQLEN | .DSP_MU_DFE_TRK | .DSP_MU_DFE_ACQ | .DSP_TR_KI | .DSP_TR_KP | .DSP_TRSTAT_LOCK_LOST | .DSP_TRSTAT_LOCK | .DSP_TRSTAT_PHASE | .DSP_TRSTAT_FOFS | .DSP_MSE_VALID | .DSP_MSE_SNR | .DSP_WINCTL_FLOOR | .DSP_WINCTL_HYST | .DSP_WINCTL_AUTO | .DSP_PROBE_DWELL | .DSP_PROBE_EN | .DSP_PROBESTAT_POS | .DSP_PROBESTAT_SWEEPS | .DSP_STAT_TAP_SAT | .DSP_STAT_SNAP_VALID | .DSP_STAT_CAPT_DONE | .DSP_STAT_CAPT_BUSY | .DSP_STAT_CMD_REJ | .DSP_STAT_TAP_REJ | .DSP_STAT_WIN_REJ | .DSP_STAT_DIVERGED | .DSP_DIVCFG_SNAP_MIN | .DSP_DIVCFG_SAT_DIV | .DSP_DIVCFG_SNAP_INT | .DSP_DIVCFG_DIV_N | .DSP_DIVCFG_DROP | .DSP_SNAPSNR_AGE | .DSP_SNAPSNR_SNR | .DSP_CMD_PROBE_RST | .DSP_CMD_REBASE | .DSP_CMD_CLR | .DSP_CMD_SNAP | .DSP_CMD_CAPT | .DSP_TAPSEL_AUTOINC | .DSP_TAPSEL_BANK | .DSP_TAPSEL_AREA | .DSP_TAPSEL_INDEX | .DSP_TAPDATA_DATA | .DSP_BANK_ACTIVE_TYPE | .DSP_BANK_STBY_VALID | .DSP_BANK_STBY_TYPE | .DSP_BANK_ACTIVE | .DSP_CAPTSTAMP_BLOCK | .DSP_WIN_EN _ | .DSP_WIN_START _ | .DSP_WINE_ENERGY _ => .dsp
  | .PCS_CTL_SCR_BYPASS | .PCS_CTL_PCS_LOOP | .PCS_CTL_RX_PRECODE | .PCS_CTL_TX_PRECODE | .PCS_CTL_TYPE | .PCS_STAT_LOOP_REJ | .PCS_STAT_FEC_BURST | .PCS_STAT_ALIGNED | .PCS_STAT_BLOCK_LOCK | .PCS_FEC_CW_COUNT | .PCS_FEC_CORRCW_COUNT | .PCS_FEC_CORRSYM_COUNT | .PCS_FEC_UNCORR_COUNT | .PCS_FRCOUNT_RX_FR | .PCS_FRCOUNT_TX_FR | .PCS_BURSTCFG_BURST_WIN | .PCS_BURSTCFG_BURST_N | .PCS_TESTMODE_MODE => .pcs
  | .LINK_CTL_VNP_EN | .LINK_CTL_SHIFT_EN | .LINK_CTL_ROLE | .LINK_CTL_FTYPE | .LINK_CTL_AN_EN | .LINK_ANADV_EEE | .LINK_ANADV_TYPES | .LINK_ANLP_LP_FJ | .LINK_ANLP_EEE | .LINK_ANLP_TYPES | .LINK_ANSTAT_MS_FAULT | .LINK_ANSTAT_NO_HCD | .LINK_ANSTAT_AN_DONE | .LINK_ANSTAT_MASTER | .LINK_ANSTAT_RESOLVED | .LINK_STAT_XSTATE | .LINK_STAT_LSTATE | .LINK_CMD_SHIFT_CANCEL | .LINK_CMD_SHIFT | .LINK_CMD_RESTART | .LINK_CMD_STOP | .LINK_CMD_START | .LINK_SHIFTCFG_RESUME_SNR | .LINK_SHIFTCFG_RSP | .LINK_SHIFTCFG_TMO | .LINK_SHIFTCFG_TGT | .LINK_SHIFTSTAT_TID | .LINK_SHIFTSTAT_F | .LINK_SHIFTSTAT_CONTEND | .LINK_SHIFTSTAT_REASON | .LINK_SHIFTSTAT_PHASE | .LINK_XREQ_VALID | .LINK_XREQ_PRC | .LINK_XREQ_POST | .LINK_XREQ_PRE | .LINK_XTHR_PAM2_SNR | .LINK_LOSSCFG_LOSS_N | .LINK_LOSSCFG_SNR_MIN | .LINK_DROP_TYPE | .LINK_DROP_CAUSE | .LINK_DROPCNT_COUNT | .LINK_TRFAIL_COUNT | .LINK_EVT_CMD_REJ | .LINK_EVT_SHIFT_FAIL | .LINK_EVT_SHIFT_DONE | .LINK_EVT_TRAIN_TMO | .LINK_EVT_AN_FAIL | .LINK_EVT_DOWN | .LINK_EVT_UP | .LINK_LPCAP_CAP | .LINK_XINFO_BITS _ | .LINK_SHIFTLEAD_LEAD => .link
  | .DIAG_CTL_TREND_FIT | .DIAG_CTL_TREND_INT | .DIAG_CTL_AUTO_TRACK | .DIAG_CTL_TREND_EN | .DIAG_CFG_REFPL | .DIAG_CFG_VF | .DIAG_CLSCFG_HARD | .DIAG_CLSCFG_STEP_MIN | .DIAG_LOSS_MAXCOMP | .DIAG_LOSS_ATT | .DIAG_TDRCFG_RAW_START | .DIAG_TDRCFG_RAW_DEC | .DIAG_TDRCFG_AVG | .DIAG_CMD_SQI_RST | .DIAG_CMD_TREND_CLR | .DIAG_CMD_ABORT | .DIAG_CMD_ISR | .DIAG_CMD_TDR | .DIAG_STAT_RUN | .DIAG_STAT_BUSY | .DIAG_EVT_SQI_LOW | .DIAG_EVT_PRED_WARN | .DIAG_EVT_CLASS_CHANGE | .DIAG_EVT_NEW_FEATURE | .DIAG_EVT_PARTNER_ACTIVE | .DIAG_EVT_ABORTED | .DIAG_EVT_CMD_REJ | .DIAG_EVT_DONE | .DIAG_SQI_WORST | .DIAG_SQI_VALID | .DIAG_SQI_SQI | .DIAG_SNRTRK_MAX | .DIAG_SNRTRK_MIN | .DIAG_TRSTAT_PRED_MIN | .DIAG_TRSTAT_WRAPPED | .DIAG_TRSTAT_NEXT | .DIAG_PREDCFG_PRED_HRS | .DIAG_PREDCFG_PRED_SQI | .DIAG_PREDCFG_PRED_LIM | .DIAG_SNRPRED_SLOPE | .DIAG_SNRPRED_HOURS | .DIAG_OPTIME_SECONDS | .DIAG_RES_HDR_TYPE | .DIAG_RES_HDR_BEYOND | .DIAG_RES_HDR_PARTIAL | .DIAG_RES_HDR_OA | .DIAG_RES_HDR_NFEAT | .DIAG_RES_HDR_STATUS | .DIAG_RES_HDR_KIND | .DIAG_RES_HDR_SEQ | .DIAG_RES_TIME_SECONDS | .DIAG_RES_RES_ACC | .DIAG_RES_RES_RES | .DIAG_FEATA_TRACKED _ | .DIAG_FEATA_TRK _ | .DIAG_FEATA_CLASS _ | .DIAG_FEATA_DIST _ | .DIAG_FEATB_GAMMA_C _ | .DIAG_FEATB_GAMMA_RAW _ | .DIAG_TRACKA_VALID _ | .DIAG_TRACKA_CLASS _ | .DIAG_TRACKA_DIST _ | .DIAG_TRACKB_PRED _ | .DIAG_TRACKB_GAMMA_C _ => .diag
  | .LPI_CTL_TX_REQ | .LPI_CMD_PAD_RELEASE | .LPI_CMD_WAKE | .LPI_CMD_SLEEP | .LPI_STAT_METHOD | .LPI_STAT_SLP_PHASE | .LPI_STAT_RX_LPI | .LPI_STAT_TX_LPI | .LPI_EVT_CMD_REJ | .LPI_EVT_SLEEP_ABORTED_WAKE | .LPI_EVT_WAKE_LINE | .LPI_EVT_SLEEP_FAIL | .LPI_EVT_SLEEP_DONE | .LPI_EVT_IDLE | .LPI_EVT_RX_EXIT | .LPI_EVT_RX_ENTER | .LPI_EVT_TX_EXIT | .LPI_EVT_TX_ENTER | .LPI_IDLECFG_IDLE_US | .LPI_SLPCFG_LEAD | .LPI_SLPCFG_RSP | .LPI_SLPCFG_ACCEPT | .LPI_SLPCFG_REASON | .LPI_IDLE_QEMPTY | .LPI_IDLE_TIME | .LPI_TXTIME_COUNT | .LPI_RXTIME_COUNT | .LPI_TXCNT_COUNT | .LPI_WAKECNT_COUNT => .lpi
  | .FRAME_CTL_MAX_LEN | .FRAME_CTL_KEYMASK | .FRAME_CTL_PTP_AUTO | .FRAME_CTL_MS_EN | .FRAME_MISS_EG_SC | .FRAME_MISS_EG_SC_EN | .FRAME_MISS_EG_DROP | .FRAME_MISS_IN_DROP | .FRAME_STAT_CTX_COUNT | .FRAME_STAT_CAM_USED | .FRAME_EVT_ECC | .FRAME_EVT_TS_LOST | .FRAME_EVT_MS_FAULT | .FRAME_EVT_SA_SWITCHED | .FRAME_EVT_PN_EXHAUST | .FRAME_EVT_PN_THRESH | .FRAME_EVT_MARK_RED | .FRAME_EVT_CMD_REJ | .CTX_CMD_OP | .CTX_CMD_WMASK | .CTX_CMD_INDEX | .CTX_STAT_BUSY | .CTX_STAT_RESULT | .CTX_STAT_KICKS | .CTX_STAT_INDEX | .MS_CFG_EVT_N | .MS_SEL_DIR | .MS_SEL_SC | .MS_SEL_AN | .MS_SCI_LO_VALUE | .MS_SCI_HI_VALUE | .MS_SCCFG_EN | .MS_SCCFG_CIPHER | .MS_SCCFG_CONF | .MS_SCCFG_SCI_EN | .MS_SCCFG_ES | .MS_SCCFG_SCB | .MS_SCCFG_TAG_CLEAR | .MS_SCCFG_VALIDATE | .MS_SCCFG_REPLAY | .MS_SCCFG_ENC_AN | .MS_WIN_VALUE | .MS_KEY_DATA _ | .MS_SALT_DATA _ | .MS_SSCI_VALUE | .MS_PN_LO_VALUE | .MS_PN_HI_VALUE | .MS_CMD_OP | .MS_STAT_BUSY | .MS_STAT_INUSE | .MS_STAT_KCV | .MS_PNTHR_VALUE | .CTX_STAGE_WORD _ | .TS_RATE_VALUE | .TS_LAT_EG | .TS_LAT_IN | .TS_SET_VALUE _ | .TS_ADJ_VALUE | .TS_CMD_ADJ | .TS_CMD_SET | .TS_STAT_STEPS | .TS_LOST_COUNT | .ACCT_CMD_SNAP | .ACCT_STAT_SNAP_DONE | .ACCT_STAT_SEQ => .frame
  | .Q_CTL_PCPMAP_EN | .Q_CTL_IN_DEFCLASS | .Q_CTL_CT_THRESH | .Q_PCPMAP_MAP | .Q_STAT_DRAIN | .Q_STAT_FLUSH_BUSY | .Q_STAT_IN_FREE | .Q_STAT_EG_FREE | .Q_EVT_CAP_REJ | .Q_EVT_RESYNC | .Q_EVT_DRAIN_TMO | .Q_EVT_DRAIN_DONE | .Q_EVT_FLUSH_DONE | .Q_EVT_QUEUE_FULL | .Q_EVT_UNDERRUN | .Q_FLUSH_IN | .Q_FLUSH_EG | .Q_EGCLS_RSV _ | .Q_EGCLS_CAP _ | .Q_INCLS_CAP _ | .Q_EGG_N _ | .Q_EGR_N _ | .Q_EGOCC_N _ | .Q_ING_N _ | .Q_INS_N _ | .Q_INB_N _ | .Q_INOCC_N _ => .queue
  | .SEQ_CTL_CMD | .SEQ_STAT_QHALT | .SEQ_STAT_PRAM_WREJ | .SEQ_STAT_CMD_REJ | .SEQ_STAT_INTRAP | .SEQ_STAT_STATE | .SEQ_PC_PC | .SEQ_TRAP_TRAP_PC | .SEQ_TRAP_CAUSE | .SEQ_TRAP_TRAP_CNT | .SEQ_TRAPINSN_INSN | .SEQ_TRAPVEC_EN | .SEQ_TRAPVEC_VEC | .SEQ_TRAPACK_ACK | .SEQ_WDOG_PERIOD | .SEQ_WDKICK_KICK | .SEQ_EVPEND_GROUPS | .SEQ_EVHIT_GROUPS | .SEQ_SYSEVT_REF_LOST | .SEQ_SYSEVT_FAULT | .SEQ_SYSEVT_MODE | .SEQ_SYSEVT_TEMP_OK | .SEQ_SYSEVT_TEMP_HI | .SEQ_SYSEVT_OP_DONE | .SEQ_SYSEVT_SUPPLY_OK | .SEQ_SYSEVT_SUPPLY_WARN | .SEQ_TMRSTAT_PERIODIC | .SEQ_TMRSTAT_RUN | .SEQ_TMRSTAT_EXP | .SEQ_HOSTEVT_CTL_CHG | .SEQ_HOSTEVT_MBOX | .SEQ_MBOX_IN_DATA | .SEQ_MBOX_OUT_DATA | .SEQ_EVEN_EN _ | .SEQ_TMR_COUNT _ | .SEQ_IMG_SRC | .SEQ_IMG_MODIFIED | .SEQ_IMG_PROG_ID | .SEQ_IMG_ROLLBACK | .SEQ_CAP0_CAP | .SEQ_CAP1_CAP | .SEQ_STACK_LEN | .SEQ_STACK_LOOPS | .SEQ_STACK_DEPTH | .SEQ_CYCLES_COUNT | .SEQ_LOAD_END | .SEQ_LOAD_BASE => .seq
  | .CALG_CMD_ABORT | .CALG_CMD_CMD | .CALG_RES_MEAS | .CALG_RES_BUSY | .CALG_RES_TARGET | .CALG_RES_PRECOND | .CALG_RES_STATUS | .UT_HYB_UT | .UT_AMP_UT | .UT_RXG_UT | .FT_HYB_FT | .FT_AMP_FT | .FT_RXG_FT | .CALG_EFF_SAT | .CALG_EFF_AMP | .CALG_EFF_HYB | .CALG_EFFRX_RXG | .CALG_BIST_PASS | .CALG_BIST_UNREP | .CALG_BIST_REPAIRED | .CALG_BIST_FAILMEM | .GRAFT_CTL_TRIG | .GRAFT_CTL_ECC_N | .GRAFT_CTL_POLICY | .GRAFT_CMD_ELEM | .GRAFT_CMD_POOL | .GRAFT_CMD_SWAP | .GRAFT_CMD_DENY | .GRAFT_CMD_APPROVE | .GRAFT_PEND_VALID | .GRAFT_PEND_RUNNING | .GRAFT_PEND_COMMITTED | .GRAFT_PEND_REASON | .GRAFT_PEND_POOL | .GRAFT_PEND_ELEM | .GRAFT_EVT_CMD_REJ | .GRAFT_EVT_LIFE_WARN | .GRAFT_EVT_BIST_DONE | .GRAFT_EVT_CAL_FAIL | .GRAFT_EVT_CAL_DONE | .GRAFT_EVT_DENIED | .GRAFT_EVT_DEFER | .GRAFT_EVT_EXHAUST | .GRAFT_EVT_DONE | .GRAFT_EVT_REQ | .GRAFT_POOL_USED _ | .GRAFT_POOL_BUILT _ | .GRAFT_POOL_WEAR _ | .GRAFT_LIFE_POOL | .GRAFT_LIFE_HOURS | .GRAFT_LOG_POOL | .GRAFT_LOG_NEW | .GRAFT_LOG_OLD | .GRAFT_LIFEWARN_HRS => .calg
  | .CHPWR_VOTE_CLIENTS | .CHPWR_VOTE_HOST | .CHPWR_STAT_OPNEED | .CHPWR_STAT_PAD_HELD | .CHPWR_STAT_ISO | .CHPWR_STAT_PSTATE | .CHPWR_CFG_PD_DRAIN_MAX | .CHPWR_CMD_CHRST | .CHPWR_EVT_CMD_REJ | .CHPWR_EVT_RST_DONE | .CHPWR_EVT_OFF | .CHPWR_EVT_ON => .chpwr
  | .FLT_FIRST_REC _ | .FLT_STAT_OVF | .FLT_STAT_WIN | .FLT_ACK_ACK | .FLT_LIVE_LIVE | .FLT_FIRSTCNT_COUNT | .FLT_MRGCNT_COUNT | .FLT_CLASS_CLASS | .FLT_CFG_C2ACT | .FLT_FORCE_FORCE | .FLT_SRC_STICKY _ | .FLT_SRC_CONSEQ _ | .FLT_SRC_TRANSIENT _ | .FLT_SRC_LIVE _ | .FLT_SRC_KIND _ | .FLT_TOTAL_COUNT _ | .FLT_OVFCNT_COUNT _ => .fault
  | .SEG_CTL_ATTEMPTS | .SEG_CTL_FALLBACK | .SEG_CTL_EXT | .SEG_CTL_TERM | .SEG_CTL_MODE | .SEG_PLCA_BURST_TMR | .SEG_PLCA_MAX_BC | .SEG_PLCA_NODE_CNT | .SEG_PLCA_NODE_ID | .SEG_PLCA_TO_TO_TMR | .SEG_CMD_STOP | .SEG_CMD_START | .SEG_STAT_SSTATE | .SEG_STAT_REWIND_VALID | .SEG_STAT_CSMA | .SEG_STAT_COORD | .SEG_STAT_PLCA_OK | .SEG_EVT_JOIN_TMO | .SEG_EVT_CMD_REJ | .SEG_EVT_REWIND_REL | .SEG_EVT_DUP_COORD | .SEG_EVT_BCN_FOUND | .SEG_EVT_BCN_LOST | .SEG_EVT_DOWN | .SEG_EVT_UP | .SEG_DROP_CAUSE | .SEG_PLCASTAT_LAST_CYCLE | .SEG_PLCASTAT_CUR_TO | .SEG_COLCNT_COUNT | .SEG_LATECOL_COUNT | .SEG_RETX_COUNT | .SEG_SYMERR_COUNT | .SEG_BCNTX_COUNT | .SEG_BCNRX_COUNT | .SEG_BCNLOST_COUNT | .SEG_DUPCOORD_COUNT | .SEG_DROPCNT_COUNT | .SEG_RWDREL_COUNT => .seg
  | .tr b _ => b

/-- Where each field of the register tables lies, its access code, reset value, retention class, and whether
it is a configuration field (R269). -/
def DFld.info : DFld → FInfo
  | .TAP_WAKEEN_PIN => ⟨0x0, 1, 1, .rw, .n 1, .c, true⟩
  | .TAP_WAKEEN_MDIO => ⟨0x0, 0, 1, .rw, .n 0, .c, true⟩
  | .TAP_LWAKEEN_LINE => ⟨0x4, 0, 32, .rw, .n 0, .c, true⟩
  | .TAP_WAKECAUSE_PRTAD => ⟨0x8, 16, 5, .ro, .n 0, .c, false⟩
  | .TAP_WAKECAUSE_CHANNEL => ⟨0x8, 8, 5, .ro, .n 0, .c, false⟩
  | .TAP_WAKECAUSE_CAUSE => ⟨0x8, 0, 4, .ro, .n 1, .c, false⟩
  | .TAP_STAT_REF_TIMEOUT => ⟨0xC, 3, 1, .w1c, .n 0, .c, false⟩
  | .TAP_STAT_LATE_WAKE => ⟨0xC, 2, 1, .w1c, .n 0, .c, false⟩
  | .TAP_STAT_SLEEP_ABORTED_WAKE => ⟨0xC, 1, 1, .w1c, .n 0, .c, false⟩
  | .TAP_STAT_RAIL_TIMEOUT => ⟨0xC, 0, 1, .w1c, .n 0, .c, false⟩
  | .TAP_RSTCAUSE_RAIL => ⟨0x10, 8, 3, .ro, .n 0, .c, false⟩
  | .TAP_RSTCAUSE_KIND => ⟨0x10, 0, 4, .ro, .n 1, .c, false⟩
  | .TAP_STRAP_XSD => ⟨0x14, 0, 2, .ro, .n 0, .c, false⟩
  | .TAP_DIPLOG_MIN_MV => ⟨0x18, 16, 13, .ro, .n 0, .c, false⟩
  | .TAP_DIPLOG_RAIL => ⟨0x18, 0, 3, .ro, .n 0, .c, false⟩
  | .TAP_DIPDUR_US => ⟨0x1C, 0, 32, .ro, .n 0, .c, false⟩
  | .TAP_DIPCNT_COUNT => ⟨0x20, 0, 32, .ro, .n 0, .c, false⟩
  | .TAP_VSUP_MV => ⟨0x24, 0, 13, .ro, .n 0, .c, false⟩
  | .KEYGATE_KEY => ⟨0xFF0, 0, 32, .wo, .n 0, .c, false⟩
  | .KEYGATE_FAILS => ⟨0xFF0, 8, 2, .ro, .n 0, .c, false⟩
  | .KEYGATE_OPEN => ⟨0xFF0, 0, 1, .ro, .n 0, .c, false⟩
  | .CLK_REFCTL_XSD => ⟨0x0, 8, 2, .ro, .n 0, .s, false⟩
  | .CLK_REFCTL_SEL => ⟨0x0, 0, 2, .rw, .n 0, .sk, true⟩
  | .CLK_REFSTAT_ACTIVE => ⟨0x4, 8, 2, .ro, .n 0, .sk, false⟩
  | .CLK_REFSTAT_SPLL_LOCK => ⟨0x4, 6, 1, .ro, .n 0, .sk, false⟩
  | .CLK_REFSTAT_REF_LOST => ⟨0x4, 5, 1, .ro, .n 0, .sk, false⟩
  | .CLK_REFSTAT_REFB_OK => ⟨0x4, 4, 1, .ro, .n 0, .sk, false⟩
  | .CLK_REFSTAT_REFA_OK => ⟨0x4, 3, 1, .ro, .n 0, .sk, false⟩
  | .CLK_REFSTAT_RC_RDY => ⟨0x4, 2, 1, .ro, .n 0, .sk, false⟩
  | .CLK_REFSTAT_SVC_SRC => ⟨0x4, 0, 1, .ro, .n 0, .sk, false⟩
  | .CLK_EVT_GATED_CH => ⟨0x8, 8, 5, .ro, .n 0, .s, false⟩
  | .CLK_EVT_GATED_ACC => ⟨0x8, 3, 1, .w1c, .n 0, .s, false⟩
  | .CLK_EVT_SVC_SWITCH => ⟨0x8, 2, 1, .w1c, .n 0, .s, false⟩
  | .CLK_EVT_REF_BACK => ⟨0x8, 1, 1, .w1c, .n 0, .s, false⟩
  | .CLK_EVT_REF_LOST => ⟨0x8, 0, 1, .w1c, .n 0, .s, false⟩
  | .CLK_SVCEN_MGMT => ⟨0x10, 4, 1, .rw, .n 0, .s, true⟩
  | .CLK_SVCEN_DEBUG => ⟨0x10, 3, 1, .rw, .n 0, .s, true⟩
  | .CLK_SVCEN_ID => ⟨0x10, 2, 1, .rw, .n 0, .s, true⟩
  | .CLK_SVCEN_INTEG => ⟨0x10, 1, 1, .rw, .n 0, .s, true⟩
  | .CLK_SVCEN_CAL => ⟨0x10, 0, 1, .rw, .n 0, .s, true⟩
  | .CLK_GPEND_CH => ⟨0x14, 0, 32, .ro, .n 0, .s, false⟩
  | .CLK_RCMEAS_KHZ => ⟨0x18, 0, 16, .ro, .n 0, .s, false⟩
  | .CLK_CHEN_SEG k => ⟨(0x100 + 4 * k), 15, 1, .rw, .n 0, .s, true⟩
  | .CLK_CHEN_FAULT k => ⟨(0x100 + 4 * k), 14, 1, .ro, .n 1, .s, false⟩
  | .CLK_CHEN_CHPWR k => ⟨(0x100 + 4 * k), 13, 1, .ro, .n 1, .s, false⟩
  | .CLK_CHEN_CALG k => ⟨(0x100 + 4 * k), 12, 1, .rw, .n 0, .s, true⟩
  | .CLK_CHEN_RAM k => ⟨(0x100 + 4 * k), 10, 2, .ro, .n 0, .s, false⟩
  | .CLK_CHEN_EN k => ⟨(0x100 + 4 * k), 0, 10, .rw, .n 0, .s, true⟩
  | .CLK_PLLSTAT_LOCK => ⟨0x200, 0, 32, .ro, .n 0, .s, false⟩
  | .CLK_LPLLSTAT_LOCK => ⟨0x204, 0, 8, .ro, .n 0, .s, false⟩
  | .CLK_LPPM_OFS k => ⟨(0x240 + 4 * k), 0, 11, .rw, .n 0, .s, true⟩
  | .PWR_MODE_STAT_BUSY => ⟨0x0, 9, 1, .ro, .n 0, .s, false⟩
  | .PWR_MODE_STAT_STBY_READY => ⟨0x0, 8, 1, .ro, .n 0, .s, false⟩
  | .PWR_MODE_STAT_PREV => ⟨0x0, 4, 3, .ro, .n 0, .s, false⟩
  | .PWR_MODE_STAT_MODE => ⟨0x0, 0, 3, .ro, .n 3, .s, false⟩
  | .PWR_MODE_REQ_REQ => ⟨0x4, 0, 3, .wo, .n 0, .s, false⟩
  | .PWR_CMD_SOFTRST => ⟨0x8, 0, 1, .rwk, .n 0, .s, true⟩
  | .PWR_OP_CTL_OPHOLD => ⟨0xC, 16, 8, .rw, .n 10, .sk, true⟩
  | .PWR_OP_CTL_VSETTLE => ⟨0xC, 8, 8, .rw, .n 50, .sk, true⟩
  | .PWR_OP_CTL_FLOOR => ⟨0xC, 4, 2, .rw, .n 0, .sk, true⟩
  | .PWR_OP_CTL_PGOOD_EN => ⟨0xC, 0, 1, .rw, .n 1, .sk, true⟩
  | .PWR_OP_STAT_VID => ⟨0x10, 8, 3, .ro, .n 0, .s, false⟩
  | .PWR_OP_STAT_PGOOD => ⟨0x10, 5, 1, .ro, .n 0, .s, false⟩
  | .PWR_OP_STAT_BUSY => ⟨0x10, 4, 1, .ro, .n 0, .s, false⟩
  | .PWR_OP_STAT_TARGET => ⟨0x10, 2, 2, .ro, .n 0, .s, false⟩
  | .PWR_OP_STAT_OP => ⟨0x10, 0, 2, .ro, .n 0, .s, false⟩
  | .PWR_OPFLOOR1_CH => ⟨0x14, 0, 32, .ro, .n 0, .s, false⟩
  | .PWR_OPFLOOR2_CH => ⟨0x18, 0, 32, .ro, .n 0, .s, false⟩
  | .PWR_DOMSTAT0_ON => ⟨0x20, 0, 32, .ro, .n 0, .s, false⟩
  | .PWR_DOMSTAT1_ON => ⟨0x24, 0, 32, .ro, .n 0, .s, false⟩
  | .PWR_DBGVOTE_DEBUG => ⟨0x28, 8, 1, .ro, .n 0, .s, false⟩
  | .PWR_DBGVOTE_HOST => ⟨0x28, 0, 4, .rw, .n 0, .s, true⟩
  | .PWR_SUPSTAT_WARN => ⟨0x2C, 0, 6, .ro, .n 0, .s, false⟩
  | .PWR_EVT_REQ_REJ => ⟨0x30, 7, 1, .w1c, .n 0, .s, false⟩
  | .PWR_EVT_MODE_CHG => ⟨0x30, 6, 1, .w1c, .n 0, .s, false⟩
  | .PWR_EVT_TEMP_OK => ⟨0x30, 5, 1, .w1c, .n 0, .s, false⟩
  | .PWR_EVT_TEMP_HI => ⟨0x30, 4, 1, .w1c, .n 0, .s, false⟩
  | .PWR_EVT_PGOOD_TMO => ⟨0x30, 3, 1, .w1c, .n 0, .s, false⟩
  | .PWR_EVT_OP_DONE => ⟨0x30, 2, 1, .w1c, .n 0, .s, false⟩
  | .PWR_EVT_DIP_END => ⟨0x30, 1, 1, .w1c, .n 0, .s, false⟩
  | .PWR_EVT_DIP_START => ⟨0x30, 0, 1, .w1c, .n 0, .s, false⟩
  | .PWR_TEMP_TEMP => ⟨0x34, 0, 16, .ro, .n 0, .s, false⟩
  | .FC_FIRST_REC k => ⟨(0x0 + 4 * k), 0, 32, .ro, .n 0, .sk, false⟩
  | .FC_STAT_CMD_REJ => ⟨0x10, 3, 1, .w1c, .n 0, .sk, false⟩
  | .FC_STAT_CLS_REJ => ⟨0x10, 2, 1, .w1c, .n 0, .sk, false⟩
  | .FC_STAT_OVF => ⟨0x10, 1, 1, .w1c, .n 0, .sk, false⟩
  | .FC_STAT_WIN => ⟨0x10, 0, 1, .ro, .n 0, .sk, false⟩
  | .FC_ACK_ACK => ⟨0x14, 0, 1, .wo, .n 0, .sk, false⟩
  | .FC_FIRSTCNT_COUNT => ⟨0x18, 0, 32, .ro, .n 0, .sk, false⟩
  | .FC_MRGCNT_COUNT => ⟨0x1C, 0, 32, .ro, .n 0, .sk, false⟩
  | .FC_INTEN_CLS => ⟨0x20, 0, 4, .rw, .n 14, .s, true⟩
  | .FC_IRQ_INT => ⟨0x24, 4, 1, .ro, .n 0, .sk, false⟩
  | .FC_IRQ_PEND => ⟨0x24, 0, 4, .w1c, .n 0, .sk, false⟩
  | .FC_CMD_SMBIST => ⟨0x28, 1, 1, .rwk, .n 0, .s, false⟩
  | .FC_CMD_SAFE_EXIT => ⟨0x28, 0, 1, .rwk, .n 0, .s, false⟩
  | .FC_TESTCFG_DRYRUN => ⟨0x2C, 0, 1, .rwk, .n 0, .s, true⟩
  | .FC_CHSUM_CH => ⟨0x30, 0, 32, .ro, .n 0, .sk, false⟩
  | .FC_TIME0_TIME => ⟨0x34, 0, 32, .ro, .n 0, .sk, false⟩
  | .FC_TIME1_TIME => ⟨0x38, 0, 32, .ro, .n 0, .sk, false⟩
  | .FC_SMBIST_FAIL => ⟨0x3C, 16, 3, .ro, .n 0, .sk, false⟩
  | .FC_SMBIST_DONE => ⟨0x3C, 0, 1, .ro, .n 0, .sk, false⟩
  | .FC_FORCE_BITS k => ⟨(0x40 + 4 * k), 0, 32, .rwk, .n 0, .s, false⟩
  | .FC_LIVE_BITS k => ⟨(0x50 + 4 * k), 0, 32, .ro, .n 0, .sk, false⟩
  | .FC_CLASS_CLASS k => ⟨(0x60 + 4 * k), 0, 32, .rwk, .n (if k = 0 then 0xC9104655 else if k = 1 then 0x3 else 0), .s, true⟩
  | .FC_SRC_STICKY k => ⟨(0x100 + 4 * k), 31, 1, .w1c, .n 0, .sk, false⟩
  | .FC_SRC_CONSEQ k => ⟨(0x100 + 4 * k), 30, 1, .w1c, .n 0, .sk, false⟩
  | .FC_SRC_TRANSIENT k => ⟨(0x100 + 4 * k), 29, 1, .w1c, .n 0, .sk, false⟩
  | .FC_SRC_LIVE k => ⟨(0x100 + 4 * k), 28, 1, .ro, .n 0, .sk, false⟩
  | .FC_SRC_KIND k => ⟨(0x100 + 4 * k), 16, 4, .ro, .n 0, .sk, false⟩
  | .FC_TOTAL_COUNT k => ⟨(0x300 + 4 * k), 0, 32, .ro, .n 0, .sk, false⟩
  | .FC_OVFCNT_COUNT k => ⟨(0x500 + 4 * k), 0, 32, .ro, .n 0, .sk, false⟩
  | .HEART_CMD_CMD => ⟨0x0, 0, 3, .wo, .n 0, .p, false⟩
  | .HEART_STAT_BUSY => ⟨0x4, 7, 1, .ro, .n 0, .p, false⟩
  | .HEART_STAT_BOOTWIN => ⟨0x4, 6, 1, .ro, .n 0, .p, false⟩
  | .HEART_STAT_VTEST => ⟨0x4, 5, 1, .ro, .n 0, .p, false⟩
  | .HEART_STAT_RR_VALID => ⟨0x4, 4, 1, .ro, .n 0, .p, false⟩
  | .HEART_STAT_IDKEY => ⟨0x4, 3, 1, .ro, .n 0, .p, false⟩
  | .HEART_STAT_LC => ⟨0x4, 0, 3, .ro, .n 0, .p, false⟩
  | .HEART_RES_REASON => ⟨0x8, 8, 4, .ro, .n 0, .p, false⟩
  | .HEART_RES_OP => ⟨0x8, 4, 4, .ro, .n 0, .p, false⟩
  | .HEART_RES_STATUS => ⟨0x8, 0, 3, .ro, .n 0, .p, false⟩
  | .HEART_EVT_BOOT_END => ⟨0xC, 6, 1, .w1c, .n 0, .p, false⟩
  | .HEART_EVT_RB_CHG => ⟨0xC, 5, 1, .w1c, .n 0, .p, false⟩
  | .HEART_EVT_LC_CHG => ⟨0xC, 4, 1, .w1c, .n 0, .p, false⟩
  | .HEART_EVT_ATTEST_DONE => ⟨0xC, 3, 1, .w1c, .n 0, .p, false⟩
  | .HEART_EVT_CMD_REJ => ⟨0xC, 2, 1, .w1c, .n 0, .p, false⟩
  | .HEART_EVT_REJ => ⟨0xC, 1, 1, .w1c, .n 0, .p, false⟩
  | .HEART_EVT_DONE => ⟨0xC, 0, 1, .w1c, .n 0, .p, false⟩
  | .HEART_BOOTCFG_WAIT => ⟨0x10, 0, 16, .rw, .n 50, .sk, true⟩
  | .HEART_SLOTS_REV => ⟨0x14, 8, 5, .ro, .n 0, .p, false⟩
  | .HEART_SLOTS_POP => ⟨0x14, 0, 5, .ro, .n 0, .p, false⟩
  | .HEART_RB_RB1 => ⟨0x18, 8, 7, .ro, .n 0, .p, false⟩
  | .HEART_RB_RB0 => ⟨0x18, 0, 7, .ro, .n 0, .p, false⟩
  | .HEART_LCCMD_VALUE => ⟨0x1C, 16, 7, .rwk, .n 0, .p, false⟩
  | .HEART_LCCMD_CNT => ⟨0x1C, 8, 1, .rwk, .n 0, .p, false⟩
  | .HEART_LCCMD_SLOT => ⟨0x1C, 4, 3, .rwk, .n 0, .p, false⟩
  | .HEART_LCCMD_OP => ⟨0x1C, 0, 3, .rwk, .n 0, .p, false⟩
  | .HEART_DCOUNT_VALUE => ⟨0x20, 0, 32, .ro, .n 0, .p, false⟩
  | .HEART_DATA_VALUE => ⟨0x24, 0, 32, .wo, .n 0, .p, false⟩
  | .HEART_KEYHASH_DATA k => ⟨(0x40 + 4 * k), 0, 32, .rw, .n 0, .p, false⟩
  | .HEART_ANONCE_DATA k => ⟨(0x60 + 4 * k), 0, 32, .rw, .n 0, .p, false⟩
  | .HEART_RETREC_DATA k => ⟨(0x80 + 4 * k), 0, 32, .ro, .n 0, .p, false⟩
  | .HEART_HDR_DATA k => ⟨(0x100 + 4 * k), 0, 32, .rw, .n 0, .p, false⟩
  | .HEART_CERT_DATA k => ⟨(0x800 + 4 * k), 0, 32, .ro, .n 0, .p, false⟩
  | .CAL_CMD_DEV => ⟨0x0, 8, 1, .wo, .n 0, .p, false⟩
  | .CAL_CMD_ABORT => ⟨0x0, 4, 1, .wo, .n 0, .p, false⟩
  | .CAL_CMD_CMD => ⟨0x0, 0, 4, .wo, .n 0, .p, false⟩
  | .CAL_RES_MEAS => ⟨0x4, 16, 16, .ro, .n 0, .p, false⟩
  | .CAL_RES_BUSY => ⟨0x4, 12, 1, .ro, .n 0, .p, false⟩
  | .CAL_RES_TARGET => ⟨0x4, 8, 4, .ro, .n 0, .p, false⟩
  | .CAL_RES_PRECOND => ⟨0x4, 4, 4, .ro, .n 0, .p, false⟩
  | .CAL_RES_STATUS => ⟨0x4, 0, 3, .ro, .n 0, .p, false⟩
  | .CAL_MASK_CH => ⟨0x8, 0, 32, .rw, .n 0, .p, true⟩
  | .CAL_BANK_CH => ⟨0xC, 0, 32, .ro, .n 0, .p, false⟩
  | .CAL_BANKD_ACTIVE => ⟨0x10, 0, 1, .ro, .n 0, .p, false⟩
  | .UT_RREF_UT => ⟨0x14, 0, 10, .rw, .n 0, .d, false⟩
  | .UT_VREF_UT => ⟨0x18, 0, 10, .rw, .n 0, .d, false⟩
  | .CAL_EFF_SAT => ⟨0x1C, 31, 1, .ro, .n 0, .p, false⟩
  | .CAL_EFF_VREF => ⟨0x1C, 16, 10, .ro, .n 0, .p, false⟩
  | .CAL_EFF_RREF => ⟨0x1C, 0, 10, .ro, .n 0, .p, false⟩
  | .CAL_GEN_GEN => ⟨0x20, 0, 32, .rw, .n 0, .p, false⟩
  | .CAL_EVT_CMD_REJ => ⟨0x24, 3, 1, .w1c, .n 0, .p, false⟩
  | .CAL_EVT_COMMITTED => ⟨0x24, 2, 1, .w1c, .n 0, .p, false⟩
  | .CAL_EVT_FAIL => ⟨0x24, 1, 1, .w1c, .n 0, .p, false⟩
  | .CAL_EVT_DONE => ⟨0x24, 0, 1, .w1c, .n 0, .p, false⟩
  | .GRAFT_SUM_CH => ⟨0x28, 0, 32, .ro, .n 0, .p, false⟩
  | .GRAFT_EXH_CH => ⟨0x2C, 0, 32, .ro, .n 0, .p, false⟩
  | .GRAFT_LIFEMIN_CHANNEL => ⟨0x30, 16, 5, .ro, .n 0, .p, false⟩
  | .GRAFT_LIFEMIN_HOURS => ⟨0x30, 0, 16, .ro, .n 0xFFFF, .p, false⟩
  | .HOST_CTL_L1_EN => ⟨0x0, 7, 1, .rw, .n 1, .sk, true⟩
  | .HOST_CTL_DEGRADE_EN => ⟨0x0, 6, 1, .rw, .n 1, .sk, true⟩
  | .HOST_CTL_RATE_MAX => ⟨0x0, 0, 2, .rw, .n 0, .sk, true⟩
  | .HOST_STAT_SPARE_RX => ⟨0x4, 20, 4, .ro, .n 4, .s, false⟩
  | .HOST_STAT_SPARE_TX => ⟨0x4, 16, 4, .ro, .n 4, .s, false⟩
  | .HOST_STAT_NG_UP => ⟨0x4, 8, 1, .ro, .n 0, .s, false⟩
  | .HOST_STAT_WIDTH => ⟨0x4, 7, 1, .ro, .n 0, .s, false⟩
  | .HOST_STAT_RATE => ⟨0x4, 5, 2, .ro, .n 0, .s, false⟩
  | .HOST_STAT_LSTATE => ⟨0x4, 0, 4, .ro, .n 0, .s, false⟩
  | .HOST_EVT_RESYNC_DONE => ⟨0x8, 9, 1, .w1c, .n 0, .s, false⟩
  | .HOST_EVT_NG_ERR => ⟨0x8, 8, 1, .w1c, .n 0, .s, false⟩
  | .HOST_EVT_HPRESET => ⟨0x8, 7, 1, .w1c, .n 0, .s, false⟩
  | .HOST_EVT_LINKERROR => ⟨0x8, 6, 1, .w1c, .n 0, .s, false⟩
  | .HOST_EVT_L2_EXIT => ⟨0x8, 5, 1, .w1c, .n 0, .s, false⟩
  | .HOST_EVT_L1_EXIT => ⟨0x8, 4, 1, .w1c, .n 0, .s, false⟩
  | .HOST_EVT_DEGRADE => ⟨0x8, 3, 1, .w1c, .n 0, .s, false⟩
  | .HOST_EVT_REPAIR => ⟨0x8, 2, 1, .w1c, .n 0, .s, false⟩
  | .HOST_EVT_RETRAIN => ⟨0x8, 1, 1, .w1c, .n 0, .s, false⟩
  | .HOST_EVT_ACTIVE => ⟨0x8, 0, 1, .w1c, .n 0, .s, false⟩
  | .HOST_CMD_RETRAIN => ⟨0xC, 1, 1, .wo, .n 0, .s, false⟩
  | .HOST_CMD_HPRESET => ⟨0xC, 0, 1, .wo, .n 0, .s, false⟩
  | .HOST_PMCFG_L1_IDLE => ⟨0x10, 0, 16, .rw, .n 10, .sk, true⟩
  | .HOST_NGERR_CODE => ⟨0x14, 16, 4, .ro, .n 0, .s, false⟩
  | .HOST_NGERR_TYPE => ⟨0x14, 12, 4, .ro, .n 0, .s, false⟩
  | .HOST_NGERR_CLASS => ⟨0x14, 8, 3, .ro, .n 0, .s, false⟩
  | .HOST_NGERR_CHANNEL => ⟨0x14, 0, 5, .ro, .n 0, .s, false⟩
  | .HOST_NGERRCNT_COUNT => ⟨0x18, 0, 32, .rc, .n 0, .s, false⟩
  | .HOST_CRCERR_COUNT => ⟨0x1C, 0, 32, .rc, .n 0, .s, false⟩
  | .HOST_REPLAY_COUNT => ⟨0x20, 0, 32, .rc, .n 0, .s, false⟩
  | .HOST_RETRAINS_COUNT => ⟨0x24, 0, 32, .rc, .n 0, .s, false⟩
  | .HOST_REPAIR_LAST_LANE => ⟨0x28, 16, 8, .ro, .n 0, .s, false⟩
  | .HOST_REPAIR_LAST_DIR => ⟨0x28, 15, 1, .ro, .n 0, .s, false⟩
  | .HOST_REPAIR_USED_RX => ⟨0x28, 4, 4, .ro, .n 0, .s, false⟩
  | .HOST_REPAIR_USED_TX => ⟨0x28, 0, 4, .ro, .n 0, .s, false⟩
  | .INTEG_CTL_MM_REACT => ⟨0x0, 0, 1, .rwk, .n 1, .s, true⟩
  | .INTEG_FPRINT0_FP => ⟨0x4, 0, 32, .ro, .n 0, .s, false⟩
  | .INTEG_FPRINT1_FP => ⟨0x8, 0, 32, .ro, .n 0, .s, false⟩
  | .INTEG_FPSEQ_SEQ => ⟨0xC, 0, 32, .ro, .n 0, .s, false⟩
  | .INTEG_CHBUSY_BUSY => ⟨0x10, 0, 32, .ro, .n 0, .s, false⟩
  | .INTEG_WPOVF_OVF => ⟨0x14, 0, 32, .w1c, .n 0, .s, false⟩
  | .INTEG_SHPEND_PEND => ⟨0x18, 0, 32, .ro, .n 0, .s, false⟩
  | .INTEG_COMMIT_CH => ⟨0x1C, 0, 32, .wo, .n 0, .s, false⟩
  | .INTEG_MMCH_MM => ⟨0x20, 0, 32, .ro, .n 0, .s, false⟩
  | .INTEG_MMSVC_MM => ⟨0x24, 0, 11, .ro, .n 0, .s, false⟩
  | .INTEG_LOCKV_ADDR => ⟨0x28, 0, 32, .ro, .n 0, .s, false⟩
  | .INTEG_LOCKVCNT_COUNT => ⟨0x2C, 0, 32, .rc, .n 0, .s, false⟩
  | .INTEG_EVT_CRC_MM => ⟨0x30, 3, 1, .w1c, .n 0, .s, false⟩
  | .INTEG_EVT_FP_CHG => ⟨0x30, 2, 1, .w1c, .n 0, .s, false⟩
  | .INTEG_EVT_KEY_FAIL => ⟨0x30, 1, 1, .w1c, .n 0, .s, false⟩
  | .INTEG_EVT_LOCK_VIOLATION => ⟨0x30, 0, 1, .w1c, .n 0, .s, false⟩
  | .ID_PART_VENDOR => ⟨0x0, 16, 16, .ro, .n 0xF1A4, .p, false⟩
  | .ID_PART_PART => ⟨0x0, 0, 16, .ro, .n 0x6432, .p, false⟩
  | .ID_REV_FAMILY => ⟨0x4, 16, 8, .ro, .n 1, .p, false⟩
  | .ID_REV_STEP => ⟨0x4, 8, 8, .ro, .n 0, .p, false⟩
  | .ID_REV_METAL => ⟨0x4, 0, 8, .ro, .n 0, .p, false⟩
  | .ID_GRADE_XT50_MASK => ⟨0x8, 8, 8, .ro, .n 0, .p, false⟩
  | .ID_GRADE_GRADE => ⟨0x8, 0, 2, .ro, .n 0, .p, false⟩
  | .ID_CHCFG_N_SEG => ⟨0xC, 16, 8, .ro, .n 8, .p, false⟩
  | .ID_CHCFG_N_BRANCH => ⟨0xC, 8, 8, .ro, .n 16, .p, false⟩
  | .ID_CHCFG_N_TRUNK => ⟨0xC, 0, 8, .ro, .n 8, .p, false⟩
  | .DEVICE_ID_DID k => ⟨(0x10 + 4 * k), 0, 32, .ro, .n 0, .p, false⟩
  | .ID_ROMVER_BOOTROM => ⟨0x20, 16, 16, .ro, .n 0, .p, false⟩
  | .ID_ROMVER_SEQLIB => ⟨0x20, 0, 16, .ro, .n 0, .p, false⟩
  | .ID_OTPSTAT_FT_VALID => ⟨0x24, 1, 1, .ro, .n 0, .p, false⟩
  | .ID_OTPSTAT_OTP_LOADED => ⟨0x24, 0, 1, .ro, .n 0, .p, false⟩
  | .DBG_CMD_CMD => ⟨0x0, 0, 2, .wo, .n 0, .p, false⟩
  | .DBG_STAT_SLOT => ⟨0x4, 8, 3, .ro, .n 0, .p, false⟩
  | .DBG_STAT_RIGHTS => ⟨0x4, 4, 3, .ro, .n 0, .p, false⟩
  | .DBG_STAT_BUSY => ⟨0x4, 3, 1, .ro, .n 0, .p, false⟩
  | .DBG_STAT_NONCE_VALID => ⟨0x4, 2, 1, .ro, .n 0, .p, false⟩
  | .DBG_STAT_VTEST => ⟨0x4, 1, 1, .ro, .n 0, .p, false⟩
  | .DBG_STAT_OPEN => ⟨0x4, 0, 1, .ro, .n 0, .p, false⟩
  | .DBG_CHMASK_CH => ⟨0x8, 0, 32, .ro, .n 0, .p, false⟩
  | .DBG_EVT_CMD_REJ => ⟨0xC, 3, 1, .w1c, .n 0, .p, false⟩
  | .DBG_EVT_TOKEN_REJ => ⟨0xC, 2, 1, .w1c, .n 0, .p, false⟩
  | .DBG_EVT_CLOSED => ⟨0xC, 1, 1, .w1c, .n 0, .p, false⟩
  | .DBG_EVT_OPENED => ⟨0xC, 0, 1, .w1c, .n 0, .p, false⟩
  | .DBG_RES_END => ⟨0x10, 8, 4, .ro, .n 0, .p, false⟩
  | .DBG_RES_REASON => ⟨0x10, 0, 4, .ro, .n 0, .p, false⟩
  | .DBG_REMAIN_SECONDS => ⟨0x14, 0, 32, .ro, .n 0, .p, false⟩
  | .DBG_NONCE_DATA k => ⟨(0x20 + 4 * k), 0, 32, .ro, .n 0, .p, false⟩
  | .DBG_TRCTL_EN => ⟨0x40, 8, 1, .rw, .n 0, .p, true⟩
  | .DBG_TRCTL_CH => ⟨0x40, 0, 5, .rw, .n 0, .p, true⟩
  | .DBG_TRSTAT_WRAP => ⟨0x44, 16, 1, .ro, .n 0, .p, false⟩
  | .DBG_TRSTAT_COUNT => ⟨0x44, 0, 11, .ro, .n 0, .p, false⟩
  | .DBG_TOKEN_DATA k => ⟨(0x100 + 4 * k), 0, 32, .rw, .n 0, .p, false⟩
  | .MGMT_MDCTL_EN => ⟨0x0, 0, 1, .rw, .n 1, .s, true⟩
  | .MGMT_MDLOCK_NAT_SVC => ⟨0x4, 1, 1, .rwk, .n 1, .s, true⟩
  | .MGMT_MDLOCK_NAT_EN => ⟨0x4, 0, 1, .rwk, .n 1, .s, true⟩
  | .MGMT_MDSTAT_LAST_DEVAD => ⟨0x8, 16, 5, .ro, .n 0, .s, false⟩
  | .MGMT_MDSTAT_LAST_PRTAD => ⟨0x8, 8, 5, .ro, .n 0, .s, false⟩
  | .MGMT_MDSTAT_DEVAD_UNK => ⟨0x8, 2, 1, .w1c, .n 0, .s, false⟩
  | .MGMT_MDSTAT_BUSERR => ⟨0x8, 1, 1, .w1c, .n 0, .s, false⟩
  | .MGMT_MDSTAT_LATE => ⟨0x8, 0, 1, .w1c, .n 0, .s, false⟩
  | .MGMT_MDFRAMES_COUNT => ⟨0xC, 0, 32, .rc, .n 0, .s, false⟩
  | .MGMT_MDERR_COUNT => ⟨0x10, 0, 32, .rc, .n 0, .s, false⟩
  | .MGMT_PINSTAT_XSD => ⟨0x14, 8, 2, .ro, .n 0, .s, false⟩
  | .MGMT_PINSTAT_VID => ⟨0x14, 5, 3, .ro, .n 0, .s, false⟩
  | .MGMT_PINSTAT_INH => ⟨0x14, 4, 1, .ro, .n 1, .s, false⟩
  | .MGMT_PINSTAT_INT_N => ⟨0x14, 3, 1, .ro, .n 1, .s, false⟩
  | .MGMT_PINSTAT_RESET_N => ⟨0x14, 2, 1, .ro, .n 1, .s, false⟩
  | .MGMT_PINSTAT_PGOOD => ⟨0x14, 1, 1, .ro, .n 0, .s, false⟩
  | .MGMT_PINSTAT_WAKE => ⟨0x14, 0, 1, .ro, .n 0, .s, false⟩
  | .tr b t => t.info (b.cfgKeep)

/-- The block of a field. -/
def DFld.blk : DFld → DBlk
  | .TAP_WAKEEN_PIN | .TAP_WAKEEN_MDIO | .TAP_LWAKEEN_LINE | .TAP_WAKECAUSE_PRTAD | .TAP_WAKECAUSE_CHANNEL | .TAP_WAKECAUSE_CAUSE | .TAP_STAT_REF_TIMEOUT | .TAP_STAT_LATE_WAKE | .TAP_STAT_SLEEP_ABORTED_WAKE | .TAP_STAT_RAIL_TIMEOUT | .TAP_RSTCAUSE_RAIL | .TAP_RSTCAUSE_KIND | .TAP_STRAP_XSD | .TAP_DIPLOG_MIN_MV | .TAP_DIPLOG_RAIL | .TAP_DIPDUR_US | .TAP_DIPCNT_COUNT | .TAP_VSUP_MV | .KEYGATE_KEY | .KEYGATE_FAILS | .KEYGATE_OPEN => .tap
  | .CLK_REFCTL_XSD | .CLK_REFCTL_SEL | .CLK_REFSTAT_ACTIVE | .CLK_REFSTAT_SPLL_LOCK | .CLK_REFSTAT_REF_LOST | .CLK_REFSTAT_REFB_OK | .CLK_REFSTAT_REFA_OK | .CLK_REFSTAT_RC_RDY | .CLK_REFSTAT_SVC_SRC | .CLK_EVT_GATED_CH | .CLK_EVT_GATED_ACC | .CLK_EVT_SVC_SWITCH | .CLK_EVT_REF_BACK | .CLK_EVT_REF_LOST | .CLK_SVCEN_MGMT | .CLK_SVCEN_DEBUG | .CLK_SVCEN_ID | .CLK_SVCEN_INTEG | .CLK_SVCEN_CAL | .CLK_GPEND_CH | .CLK_RCMEAS_KHZ | .CLK_CHEN_SEG _ | .CLK_CHEN_FAULT _ | .CLK_CHEN_CHPWR _ | .CLK_CHEN_CALG _ | .CLK_CHEN_RAM _ | .CLK_CHEN_EN _ | .CLK_PLLSTAT_LOCK | .CLK_LPLLSTAT_LOCK | .CLK_LPPM_OFS _ => .clk
  | .PWR_MODE_STAT_BUSY | .PWR_MODE_STAT_STBY_READY | .PWR_MODE_STAT_PREV | .PWR_MODE_STAT_MODE | .PWR_MODE_REQ_REQ | .PWR_CMD_SOFTRST | .PWR_OP_CTL_OPHOLD | .PWR_OP_CTL_VSETTLE | .PWR_OP_CTL_FLOOR | .PWR_OP_CTL_PGOOD_EN | .PWR_OP_STAT_VID | .PWR_OP_STAT_PGOOD | .PWR_OP_STAT_BUSY | .PWR_OP_STAT_TARGET | .PWR_OP_STAT_OP | .PWR_OPFLOOR1_CH | .PWR_OPFLOOR2_CH | .PWR_DOMSTAT0_ON | .PWR_DOMSTAT1_ON | .PWR_DBGVOTE_DEBUG | .PWR_DBGVOTE_HOST | .PWR_SUPSTAT_WARN | .PWR_EVT_REQ_REJ | .PWR_EVT_MODE_CHG | .PWR_EVT_TEMP_OK | .PWR_EVT_TEMP_HI | .PWR_EVT_PGOOD_TMO | .PWR_EVT_OP_DONE | .PWR_EVT_DIP_END | .PWR_EVT_DIP_START | .PWR_TEMP_TEMP => .pwr
  | .FC_FIRST_REC _ | .FC_STAT_CMD_REJ | .FC_STAT_CLS_REJ | .FC_STAT_OVF | .FC_STAT_WIN | .FC_ACK_ACK | .FC_FIRSTCNT_COUNT | .FC_MRGCNT_COUNT | .FC_INTEN_CLS | .FC_IRQ_INT | .FC_IRQ_PEND | .FC_CMD_SMBIST | .FC_CMD_SAFE_EXIT | .FC_TESTCFG_DRYRUN | .FC_CHSUM_CH | .FC_TIME0_TIME | .FC_TIME1_TIME | .FC_SMBIST_FAIL | .FC_SMBIST_DONE | .FC_FORCE_BITS _ | .FC_LIVE_BITS _ | .FC_CLASS_CLASS _ | .FC_SRC_STICKY _ | .FC_SRC_CONSEQ _ | .FC_SRC_TRANSIENT _ | .FC_SRC_LIVE _ | .FC_SRC_KIND _ | .FC_TOTAL_COUNT _ | .FC_OVFCNT_COUNT _ => .canopy
  | .HEART_CMD_CMD | .HEART_STAT_BUSY | .HEART_STAT_BOOTWIN | .HEART_STAT_VTEST | .HEART_STAT_RR_VALID | .HEART_STAT_IDKEY | .HEART_STAT_LC | .HEART_RES_REASON | .HEART_RES_OP | .HEART_RES_STATUS | .HEART_EVT_BOOT_END | .HEART_EVT_RB_CHG | .HEART_EVT_LC_CHG | .HEART_EVT_ATTEST_DONE | .HEART_EVT_CMD_REJ | .HEART_EVT_REJ | .HEART_EVT_DONE | .HEART_BOOTCFG_WAIT | .HEART_SLOTS_REV | .HEART_SLOTS_POP | .HEART_RB_RB1 | .HEART_RB_RB0 | .HEART_LCCMD_VALUE | .HEART_LCCMD_CNT | .HEART_LCCMD_SLOT | .HEART_LCCMD_OP | .HEART_DCOUNT_VALUE | .HEART_DATA_VALUE | .HEART_KEYHASH_DATA _ | .HEART_ANONCE_DATA _ | .HEART_RETREC_DATA _ | .HEART_HDR_DATA _ | .HEART_CERT_DATA _ => .heart
  | .CAL_CMD_DEV | .CAL_CMD_ABORT | .CAL_CMD_CMD | .CAL_RES_MEAS | .CAL_RES_BUSY | .CAL_RES_TARGET | .CAL_RES_PRECOND | .CAL_RES_STATUS | .CAL_MASK_CH | .CAL_BANK_CH | .CAL_BANKD_ACTIVE | .UT_RREF_UT | .UT_VREF_UT | .CAL_EFF_SAT | .CAL_EFF_VREF | .CAL_EFF_RREF | .CAL_GEN_GEN | .CAL_EVT_CMD_REJ | .CAL_EVT_COMMITTED | .CAL_EVT_FAIL | .CAL_EVT_DONE | .GRAFT_SUM_CH | .GRAFT_EXH_CH | .GRAFT_LIFEMIN_CHANNEL | .GRAFT_LIFEMIN_HOURS => .cal
  | .HOST_CTL_L1_EN | .HOST_CTL_DEGRADE_EN | .HOST_CTL_RATE_MAX | .HOST_STAT_SPARE_RX | .HOST_STAT_SPARE_TX | .HOST_STAT_NG_UP | .HOST_STAT_WIDTH | .HOST_STAT_RATE | .HOST_STAT_LSTATE | .HOST_EVT_RESYNC_DONE | .HOST_EVT_NG_ERR | .HOST_EVT_HPRESET | .HOST_EVT_LINKERROR | .HOST_EVT_L2_EXIT | .HOST_EVT_L1_EXIT | .HOST_EVT_DEGRADE | .HOST_EVT_REPAIR | .HOST_EVT_RETRAIN | .HOST_EVT_ACTIVE | .HOST_CMD_RETRAIN | .HOST_CMD_HPRESET | .HOST_PMCFG_L1_IDLE | .HOST_NGERR_CODE | .HOST_NGERR_TYPE | .HOST_NGERR_CLASS | .HOST_NGERR_CHANNEL | .HOST_NGERRCNT_COUNT | .HOST_CRCERR_COUNT | .HOST_REPLAY_COUNT | .HOST_RETRAINS_COUNT | .HOST_REPAIR_LAST_LANE | .HOST_REPAIR_LAST_DIR | .HOST_REPAIR_USED_RX | .HOST_REPAIR_USED_TX => .host
  | .INTEG_CTL_MM_REACT | .INTEG_FPRINT0_FP | .INTEG_FPRINT1_FP | .INTEG_FPSEQ_SEQ | .INTEG_CHBUSY_BUSY | .INTEG_WPOVF_OVF | .INTEG_SHPEND_PEND | .INTEG_COMMIT_CH | .INTEG_MMCH_MM | .INTEG_MMSVC_MM | .INTEG_LOCKV_ADDR | .INTEG_LOCKVCNT_COUNT | .INTEG_EVT_CRC_MM | .INTEG_EVT_FP_CHG | .INTEG_EVT_KEY_FAIL | .INTEG_EVT_LOCK_VIOLATION => .integ
  | .ID_PART_VENDOR | .ID_PART_PART | .ID_REV_FAMILY | .ID_REV_STEP | .ID_REV_METAL | .ID_GRADE_XT50_MASK | .ID_GRADE_GRADE | .ID_CHCFG_N_SEG | .ID_CHCFG_N_BRANCH | .ID_CHCFG_N_TRUNK | .DEVICE_ID_DID _ | .ID_ROMVER_BOOTROM | .ID_ROMVER_SEQLIB | .ID_OTPSTAT_FT_VALID | .ID_OTPSTAT_OTP_LOADED => .id
  | .DBG_CMD_CMD | .DBG_STAT_SLOT | .DBG_STAT_RIGHTS | .DBG_STAT_BUSY | .DBG_STAT_NONCE_VALID | .DBG_STAT_VTEST | .DBG_STAT_OPEN | .DBG_CHMASK_CH | .DBG_EVT_CMD_REJ | .DBG_EVT_TOKEN_REJ | .DBG_EVT_CLOSED | .DBG_EVT_OPENED | .DBG_RES_END | .DBG_RES_REASON | .DBG_REMAIN_SECONDS | .DBG_NONCE_DATA _ | .DBG_TRCTL_EN | .DBG_TRCTL_CH | .DBG_TRSTAT_WRAP | .DBG_TRSTAT_COUNT | .DBG_TOKEN_DATA _ => .debug
  | .MGMT_MDCTL_EN | .MGMT_MDLOCK_NAT_SVC | .MGMT_MDLOCK_NAT_EN | .MGMT_MDSTAT_LAST_DEVAD | .MGMT_MDSTAT_LAST_PRTAD | .MGMT_MDSTAT_DEVAD_UNK | .MGMT_MDSTAT_BUSERR | .MGMT_MDSTAT_LATE | .MGMT_MDFRAMES_COUNT | .MGMT_MDERR_COUNT | .MGMT_PINSTAT_XSD | .MGMT_PINSTAT_VID | .MGMT_PINSTAT_INH | .MGMT_PINSTAT_INT_N | .MGMT_PINSTAT_RESET_N | .MGMT_PINSTAT_PGOOD | .MGMT_PINSTAT_WAKE => .mgmt
  | .tr b _ => b

/-- The fields of the CHCTL register at offset `o`, in the order of its table. -/
def chctlAt (o : Nat) : List CFld :=
  if o = 0x0 then [.CHCTL_CTL_HOLD, .CHCTL_CTL_MAINT_REQ, .CHCTL_CTL_TYPE_REQ, .CHCTL_CTL_ROLE_REQ, .CHCTL_CTL_AN_REQ] else
  if o = 0x4 then [.CHCTL_STATE_CMD_REJ, .CHCTL_STATE_CHG, .CHCTL_STATE_PREV, .CHCTL_STATE_SUBSTATE] else
  if o = 0x8 then [.CHCTL_RETAIN_EN] else
  if o = 0xC then [.CHCTL_CMD_QREL] else
  trailerAt o |>.map (.tr .chctl)

/-- The fields of the AFE register at offset `o`, in the order of its table. -/
def afeAt (o : Nat) : List CFld :=
  if o = 0x0 then [.AFE_CTL_ADC_EN, .AFE_CTL_HYB_EN, .AFE_CTL_LOOP, .AFE_CTL_DRV_MODE] else
  if o = 0x4 then [.AFE_TXAMP_AMP_EFF, .AFE_TXAMP_AMP] else
  if o = 0x8 then [.AFE_TXEQ_POST, .AFE_TXEQ_PRE] else
  if o = 0xC then [.AFE_HYB_HYB_C, .AFE_HYB_HYB_R] else
  if o = 0x10 then [.AFE_RXGAIN_AGC_EN, .AFE_RXGAIN_PGA] else
  if o = 0x14 then [.AFE_SATCFG_SAT_N, .AFE_SATCFG_SAT_FAULT] else
  if o = 0x18 then [.AFE_STAT_PAD_HELD, .AFE_STAT_LOOP_REJ, .AFE_STAT_AMP_CLAMPED, .AFE_STAT_SAT] else
  if o = 0x1C then [.AFE_SATCNT_SAT_EVENTS] else
  if o = 0x20 then [.AFE_SEGMAP_SEG_USED] else
  if 0x24 ≤ o ∧ o < 0x30 then [.AFE_SLICEMAP_SLICE_USED ((o - 0x24) / 4)] else
  trailerAt o |>.map (.tr .afe)

/-- The fields of the DSP register at offset `o`, in the order of its table. -/
def dspAt (o : Nat) : List CFld :=
  if o = 0x0 then [.DSP_CTL_MSE_WIN, .DSP_CTL_DFE_EN, .DSP_CTL_EC_EN] else
  if o = 0x4 then [.DSP_FRZ_HOST] else
  if o = 0x8 then [.DSP_FRZSTAT_SEQ, .DSP_FRZSTAT_EFF] else
  if o = 0xC then [.DSP_FRZHW_DIV, .DSP_FRZHW_SUPPLY, .DSP_FRZHW_LPI, .DSP_FRZHW_LINK] else
  if o = 0x10 then [.DSP_MU_EC_ACQLEN, .DSP_MU_EC_LEAK, .DSP_MU_EC_TRK, .DSP_MU_EC_ACQ] else
  if o = 0x14 then [.DSP_MU_FFE_ACQLEN, .DSP_MU_FFE_MAIN, .DSP_MU_FFE_TRK, .DSP_MU_FFE_ACQ] else
  if o = 0x18 then [.DSP_MU_DFE_ACQLEN, .DSP_MU_DFE_TRK, .DSP_MU_DFE_ACQ] else
  if o = 0x1C then [.DSP_TR_KI, .DSP_TR_KP] else
  if o = 0x20 then [.DSP_TRSTAT_LOCK_LOST, .DSP_TRSTAT_LOCK, .DSP_TRSTAT_PHASE, .DSP_TRSTAT_FOFS] else
  if o = 0x24 then [.DSP_MSE_VALID, .DSP_MSE_SNR] else
  if o = 0x28 then [.DSP_WINCTL_FLOOR, .DSP_WINCTL_HYST, .DSP_WINCTL_AUTO] else
  if o = 0x2C then [.DSP_PROBE_DWELL, .DSP_PROBE_EN] else
  if o = 0x30 then [.DSP_PROBESTAT_POS, .DSP_PROBESTAT_SWEEPS] else
  if o = 0x34 then [.DSP_STAT_TAP_SAT, .DSP_STAT_SNAP_VALID, .DSP_STAT_CAPT_DONE, .DSP_STAT_CAPT_BUSY, .DSP_STAT_CMD_REJ, .DSP_STAT_TAP_REJ, .DSP_STAT_WIN_REJ, .DSP_STAT_DIVERGED] else
  if o = 0x38 then [.DSP_DIVCFG_SNAP_MIN, .DSP_DIVCFG_SAT_DIV, .DSP_DIVCFG_SNAP_INT, .DSP_DIVCFG_DIV_N, .DSP_DIVCFG_DROP] else
  if o = 0x3C then [.DSP_SNAPSNR_AGE, .DSP_SNAPSNR_SNR] else
  if o = 0x40 then [.DSP_CMD_PROBE_RST, .DSP_CMD_REBASE, .DSP_CMD_CLR, .DSP_CMD_SNAP, .DSP_CMD_CAPT] else
  if o = 0x44 then [.DSP_TAPSEL_AUTOINC, .DSP_TAPSEL_BANK, .DSP_TAPSEL_AREA, .DSP_TAPSEL_INDEX] else
  if o = 0x48 then [.DSP_TAPDATA_DATA] else
  if o = 0x4C then [.DSP_BANK_ACTIVE_TYPE, .DSP_BANK_STBY_VALID, .DSP_BANK_STBY_TYPE, .DSP_BANK_ACTIVE] else
  if o = 0x50 then [.DSP_CAPTSTAMP_BLOCK] else
  if 0x60 ≤ o ∧ o < 0x80 then [.DSP_WIN_EN ((o - 0x60) / 4), .DSP_WIN_START ((o - 0x60) / 4)] else
  if 0x80 ≤ o ∧ o < 0xA0 then [.DSP_WINE_ENERGY ((o - 0x80) / 4)] else
  trailerAt o |>.map (.tr .dsp)

/-- The fields of the PCS register at offset `o`, in the order of its table. -/
def pcsAt (o : Nat) : List CFld :=
  if o = 0x0 then [.PCS_CTL_SCR_BYPASS, .PCS_CTL_PCS_LOOP, .PCS_CTL_RX_PRECODE, .PCS_CTL_TX_PRECODE, .PCS_CTL_TYPE] else
  if o = 0x4 then [.PCS_STAT_LOOP_REJ, .PCS_STAT_FEC_BURST, .PCS_STAT_ALIGNED, .PCS_STAT_BLOCK_LOCK] else
  if o = 0x8 then [.PCS_FEC_CW_COUNT] else
  if o = 0xC then [.PCS_FEC_CORRCW_COUNT] else
  if o = 0x10 then [.PCS_FEC_CORRSYM_COUNT] else
  if o = 0x14 then [.PCS_FEC_UNCORR_COUNT] else
  if o = 0x18 then [.PCS_FRCOUNT_RX_FR, .PCS_FRCOUNT_TX_FR] else
  if o = 0x1C then [.PCS_BURSTCFG_BURST_WIN, .PCS_BURSTCFG_BURST_N] else
  if o = 0x20 then [.PCS_TESTMODE_MODE] else
  trailerAt o |>.map (.tr .pcs)

/-- The fields of the LINK register at offset `o`, in the order of its table. -/
def linkAt (o : Nat) : List CFld :=
  if o = 0x0 then [.LINK_CTL_VNP_EN, .LINK_CTL_SHIFT_EN, .LINK_CTL_ROLE, .LINK_CTL_FTYPE, .LINK_CTL_AN_EN] else
  if o = 0x4 then [.LINK_ANADV_EEE, .LINK_ANADV_TYPES] else
  if o = 0x8 then [.LINK_ANLP_LP_FJ, .LINK_ANLP_EEE, .LINK_ANLP_TYPES] else
  if o = 0xC then [.LINK_ANSTAT_MS_FAULT, .LINK_ANSTAT_NO_HCD, .LINK_ANSTAT_AN_DONE, .LINK_ANSTAT_MASTER, .LINK_ANSTAT_RESOLVED] else
  if o = 0x10 then [.LINK_STAT_XSTATE, .LINK_STAT_LSTATE] else
  if o = 0x14 then [.LINK_CMD_SHIFT_CANCEL, .LINK_CMD_SHIFT, .LINK_CMD_RESTART, .LINK_CMD_STOP, .LINK_CMD_START] else
  if o = 0x18 then [.LINK_SHIFTCFG_RESUME_SNR, .LINK_SHIFTCFG_RSP, .LINK_SHIFTCFG_TMO, .LINK_SHIFTCFG_TGT] else
  if o = 0x1C then [.LINK_SHIFTSTAT_TID, .LINK_SHIFTSTAT_F, .LINK_SHIFTSTAT_CONTEND, .LINK_SHIFTSTAT_REASON, .LINK_SHIFTSTAT_PHASE] else
  if o = 0x20 then [.LINK_XREQ_VALID, .LINK_XREQ_PRC, .LINK_XREQ_POST, .LINK_XREQ_PRE] else
  if o = 0x24 then [.LINK_XTHR_PAM2_SNR] else
  if o = 0x28 then [.LINK_LOSSCFG_LOSS_N, .LINK_LOSSCFG_SNR_MIN] else
  if o = 0x2C then [.LINK_DROP_TYPE, .LINK_DROP_CAUSE] else
  if o = 0x30 then [.LINK_DROPCNT_COUNT] else
  if o = 0x34 then [.LINK_TRFAIL_COUNT] else
  if o = 0x38 then [.LINK_EVT_CMD_REJ, .LINK_EVT_SHIFT_FAIL, .LINK_EVT_SHIFT_DONE, .LINK_EVT_TRAIN_TMO, .LINK_EVT_AN_FAIL, .LINK_EVT_DOWN, .LINK_EVT_UP] else
  if o = 0x3C then [.LINK_LPCAP_CAP] else
  if 0x40 ≤ o ∧ o < 0x58 then [.LINK_XINFO_BITS ((o - 0x40) / 4)] else
  if o = 0x58 then [.LINK_SHIFTLEAD_LEAD] else
  trailerAt o |>.map (.tr .link)

/-- The fields of the DIAG register at offset `o`, in the order of its table. -/
def diagAt (o : Nat) : List CFld :=
  if o = 0x0 then [.DIAG_CTL_TREND_FIT, .DIAG_CTL_TREND_INT, .DIAG_CTL_AUTO_TRACK, .DIAG_CTL_TREND_EN] else
  if o = 0x4 then [.DIAG_CFG_REFPL, .DIAG_CFG_VF] else
  if o = 0x8 then [.DIAG_CLSCFG_HARD, .DIAG_CLSCFG_STEP_MIN] else
  if o = 0xC then [.DIAG_LOSS_MAXCOMP, .DIAG_LOSS_ATT] else
  if o = 0x10 then [.DIAG_TDRCFG_RAW_START, .DIAG_TDRCFG_RAW_DEC, .DIAG_TDRCFG_AVG] else
  if o = 0x14 then [.DIAG_CMD_SQI_RST, .DIAG_CMD_TREND_CLR, .DIAG_CMD_ABORT, .DIAG_CMD_ISR, .DIAG_CMD_TDR] else
  if o = 0x18 then [.DIAG_STAT_RUN, .DIAG_STAT_BUSY] else
  if o = 0x1C then [.DIAG_EVT_SQI_LOW, .DIAG_EVT_PRED_WARN, .DIAG_EVT_CLASS_CHANGE, .DIAG_EVT_NEW_FEATURE, .DIAG_EVT_PARTNER_ACTIVE, .DIAG_EVT_ABORTED, .DIAG_EVT_CMD_REJ, .DIAG_EVT_DONE] else
  if o = 0x20 then [.DIAG_SQI_WORST, .DIAG_SQI_VALID, .DIAG_SQI_SQI] else
  if o = 0x24 then [.DIAG_SNRTRK_MAX, .DIAG_SNRTRK_MIN] else
  if o = 0x28 then [.DIAG_TRSTAT_PRED_MIN, .DIAG_TRSTAT_WRAPPED, .DIAG_TRSTAT_NEXT] else
  if o = 0x2C then [.DIAG_PREDCFG_PRED_HRS, .DIAG_PREDCFG_PRED_SQI, .DIAG_PREDCFG_PRED_LIM] else
  if o = 0x30 then [.DIAG_SNRPRED_SLOPE, .DIAG_SNRPRED_HOURS] else
  if o = 0x34 then [.DIAG_OPTIME_SECONDS] else
  if o = 0x40 then [.DIAG_RES_HDR_TYPE, .DIAG_RES_HDR_BEYOND, .DIAG_RES_HDR_PARTIAL, .DIAG_RES_HDR_OA, .DIAG_RES_HDR_NFEAT, .DIAG_RES_HDR_STATUS, .DIAG_RES_HDR_KIND, .DIAG_RES_HDR_SEQ] else
  if o = 0x44 then [.DIAG_RES_TIME_SECONDS] else
  if o = 0x48 then [.DIAG_RES_RES_ACC, .DIAG_RES_RES_RES] else
  if 0x80 ≤ o ∧ o < 0x100 ∧ (o - 0x80) % 8 = 0 then [.DIAG_FEATA_TRACKED ((o - 0x80) / 8), .DIAG_FEATA_TRK ((o - 0x80) / 8), .DIAG_FEATA_CLASS ((o - 0x80) / 8), .DIAG_FEATA_DIST ((o - 0x80) / 8)] else
  if 0x84 ≤ o ∧ o < 0x104 ∧ (o - 0x84) % 8 = 0 then [.DIAG_FEATB_GAMMA_C ((o - 0x84) / 8), .DIAG_FEATB_GAMMA_RAW ((o - 0x84) / 8)] else
  if 0x100 ≤ o ∧ o < 0x140 ∧ (o - 0x100) % 8 = 0 then [.DIAG_TRACKA_VALID ((o - 0x100) / 8), .DIAG_TRACKA_CLASS ((o - 0x100) / 8), .DIAG_TRACKA_DIST ((o - 0x100) / 8)] else
  if 0x104 ≤ o ∧ o < 0x144 ∧ (o - 0x104) % 8 = 0 then [.DIAG_TRACKB_PRED ((o - 0x104) / 8), .DIAG_TRACKB_GAMMA_C ((o - 0x104) / 8)] else
  trailerAt o |>.map (.tr .diag)

/-- The fields of the LPI register at offset `o`, in the order of its table. -/
def lpiAt (o : Nat) : List CFld :=
  if o = 0x0 then [.LPI_CTL_TX_REQ] else
  if o = 0x4 then [.LPI_CMD_PAD_RELEASE, .LPI_CMD_WAKE, .LPI_CMD_SLEEP] else
  if o = 0x8 then [.LPI_STAT_METHOD, .LPI_STAT_SLP_PHASE, .LPI_STAT_RX_LPI, .LPI_STAT_TX_LPI] else
  if o = 0xC then [.LPI_EVT_CMD_REJ, .LPI_EVT_SLEEP_ABORTED_WAKE, .LPI_EVT_WAKE_LINE, .LPI_EVT_SLEEP_FAIL, .LPI_EVT_SLEEP_DONE, .LPI_EVT_IDLE, .LPI_EVT_RX_EXIT, .LPI_EVT_RX_ENTER, .LPI_EVT_TX_EXIT, .LPI_EVT_TX_ENTER] else
  if o = 0x10 then [.LPI_IDLECFG_IDLE_US] else
  if o = 0x14 then [.LPI_SLPCFG_LEAD, .LPI_SLPCFG_RSP, .LPI_SLPCFG_ACCEPT, .LPI_SLPCFG_REASON] else
  if o = 0x18 then [.LPI_IDLE_QEMPTY, .LPI_IDLE_TIME] else
  if o = 0x1C then [.LPI_TXTIME_COUNT] else
  if o = 0x20 then [.LPI_RXTIME_COUNT] else
  if o = 0x24 then [.LPI_TXCNT_COUNT] else
  if o = 0x28 then [.LPI_WAKECNT_COUNT] else
  trailerAt o |>.map (.tr .lpi)

/-- The fields of the FRAME register at offset `o`, in the order of its table. -/
def frameAt (o : Nat) : List CFld :=
  if o = 0x0 then [.FRAME_CTL_MAX_LEN, .FRAME_CTL_KEYMASK, .FRAME_CTL_PTP_AUTO, .FRAME_CTL_MS_EN] else
  if o = 0x4 then [.FRAME_MISS_EG_SC, .FRAME_MISS_EG_SC_EN, .FRAME_MISS_EG_DROP, .FRAME_MISS_IN_DROP] else
  if o = 0x8 then [.FRAME_STAT_CTX_COUNT, .FRAME_STAT_CAM_USED] else
  if o = 0xC then [.FRAME_EVT_ECC, .FRAME_EVT_TS_LOST, .FRAME_EVT_MS_FAULT, .FRAME_EVT_SA_SWITCHED, .FRAME_EVT_PN_EXHAUST, .FRAME_EVT_PN_THRESH, .FRAME_EVT_MARK_RED, .FRAME_EVT_CMD_REJ] else
  if o = 0x10 then [.CTX_CMD_OP, .CTX_CMD_WMASK, .CTX_CMD_INDEX] else
  if o = 0x14 then [.CTX_STAT_BUSY, .CTX_STAT_RESULT, .CTX_STAT_KICKS, .CTX_STAT_INDEX] else
  if o = 0x20 then [.MS_CFG_EVT_N] else
  if o = 0x24 then [.MS_SEL_DIR, .MS_SEL_SC, .MS_SEL_AN] else
  if o = 0x28 then [.MS_SCI_LO_VALUE] else
  if o = 0x2C then [.MS_SCI_HI_VALUE] else
  if o = 0x30 then [.MS_SCCFG_EN, .MS_SCCFG_CIPHER, .MS_SCCFG_CONF, .MS_SCCFG_SCI_EN, .MS_SCCFG_ES, .MS_SCCFG_SCB, .MS_SCCFG_TAG_CLEAR, .MS_SCCFG_VALIDATE, .MS_SCCFG_REPLAY, .MS_SCCFG_ENC_AN] else
  if o = 0x34 then [.MS_WIN_VALUE] else
  if 0x38 ≤ o ∧ o < 0x58 then [.MS_KEY_DATA ((o - 0x38) / 4)] else
  if 0x58 ≤ o ∧ o < 0x64 then [.MS_SALT_DATA ((o - 0x58) / 4)] else
  if o = 0x64 then [.MS_SSCI_VALUE] else
  if o = 0x68 then [.MS_PN_LO_VALUE] else
  if o = 0x6C then [.MS_PN_HI_VALUE] else
  if o = 0x70 then [.MS_CMD_OP] else
  if o = 0x74 then [.MS_STAT_BUSY, .MS_STAT_INUSE, .MS_STAT_KCV] else
  if o = 0x78 then [.MS_PNTHR_VALUE] else
  if 0x80 ≤ o ∧ o < 0x100 then [.CTX_STAGE_WORD ((o - 0x80) / 4)] else
  if o = 0x100 then [.TS_RATE_VALUE] else
  if o = 0x104 then [.TS_LAT_EG, .TS_LAT_IN] else
  if 0x108 ≤ o ∧ o < 0x114 then [.TS_SET_VALUE ((o - 0x108) / 4)] else
  if o = 0x114 then [.TS_ADJ_VALUE] else
  if o = 0x118 then [.TS_CMD_ADJ, .TS_CMD_SET] else
  if o = 0x11C then [.TS_STAT_STEPS] else
  if o = 0x120 then [.TS_LOST_COUNT] else
  if o = 0x180 then [.ACCT_CMD_SNAP] else
  if o = 0x184 then [.ACCT_STAT_SNAP_DONE, .ACCT_STAT_SEQ] else
  trailerAt o |>.map (.tr .frame)

/-- The fields of the QUEUE register at offset `o`, in the order of its table. -/
def queueAt (o : Nat) : List CFld :=
  if o = 0x0 then [.Q_CTL_PCPMAP_EN, .Q_CTL_IN_DEFCLASS, .Q_CTL_CT_THRESH] else
  if o = 0x4 then [.Q_PCPMAP_MAP] else
  if o = 0x8 then [.Q_STAT_DRAIN, .Q_STAT_FLUSH_BUSY, .Q_STAT_IN_FREE, .Q_STAT_EG_FREE] else
  if o = 0xC then [.Q_EVT_CAP_REJ, .Q_EVT_RESYNC, .Q_EVT_DRAIN_TMO, .Q_EVT_DRAIN_DONE, .Q_EVT_FLUSH_DONE, .Q_EVT_QUEUE_FULL, .Q_EVT_UNDERRUN] else
  if o = 0x10 then [.Q_FLUSH_IN, .Q_FLUSH_EG] else
  if 0x40 ≤ o ∧ o < 0x60 then [.Q_EGCLS_RSV ((o - 0x40) / 4), .Q_EGCLS_CAP ((o - 0x40) / 4)] else
  if 0x60 ≤ o ∧ o < 0x80 then [.Q_INCLS_CAP ((o - 0x60) / 4)] else
  if 0x80 ≤ o ∧ o < 0xA0 then [.Q_EGG_N ((o - 0x80) / 4)] else
  if 0xA0 ≤ o ∧ o < 0xC0 then [.Q_EGR_N ((o - 0xA0) / 4)] else
  if 0xC0 ≤ o ∧ o < 0xE0 then [.Q_EGOCC_N ((o - 0xC0) / 4)] else
  if 0x100 ≤ o ∧ o < 0x120 then [.Q_ING_N ((o - 0x100) / 4)] else
  if 0x120 ≤ o ∧ o < 0x140 then [.Q_INS_N ((o - 0x120) / 4)] else
  if 0x140 ≤ o ∧ o < 0x160 then [.Q_INB_N ((o - 0x140) / 4)] else
  if 0x160 ≤ o ∧ o < 0x180 then [.Q_INOCC_N ((o - 0x160) / 4)] else
  trailerAt o |>.map (.tr .queue)

/-- The fields of the SEQ register at offset `o`, in the order of its table. -/
def seqAt (o : Nat) : List CFld :=
  if o = 0x0 then [.SEQ_CTL_CMD] else
  if o = 0x4 then [.SEQ_STAT_QHALT, .SEQ_STAT_PRAM_WREJ, .SEQ_STAT_CMD_REJ, .SEQ_STAT_INTRAP, .SEQ_STAT_STATE] else
  if o = 0x8 then [.SEQ_PC_PC] else
  if o = 0xC then [.SEQ_TRAP_TRAP_PC, .SEQ_TRAP_CAUSE, .SEQ_TRAP_TRAP_CNT] else
  if o = 0x10 then [.SEQ_TRAPINSN_INSN] else
  if o = 0x14 then [.SEQ_TRAPVEC_EN, .SEQ_TRAPVEC_VEC] else
  if o = 0x18 then [.SEQ_TRAPACK_ACK] else
  if o = 0x1C then [.SEQ_WDOG_PERIOD] else
  if o = 0x20 then [.SEQ_WDKICK_KICK] else
  if o = 0x24 then [.SEQ_EVPEND_GROUPS] else
  if o = 0x28 then [.SEQ_EVHIT_GROUPS] else
  if o = 0x2C then [.SEQ_SYSEVT_REF_LOST, .SEQ_SYSEVT_FAULT, .SEQ_SYSEVT_MODE, .SEQ_SYSEVT_TEMP_OK, .SEQ_SYSEVT_TEMP_HI, .SEQ_SYSEVT_OP_DONE, .SEQ_SYSEVT_SUPPLY_OK, .SEQ_SYSEVT_SUPPLY_WARN] else
  if o = 0x30 then [.SEQ_TMRSTAT_PERIODIC, .SEQ_TMRSTAT_RUN, .SEQ_TMRSTAT_EXP] else
  if o = 0x34 then [.SEQ_HOSTEVT_CTL_CHG, .SEQ_HOSTEVT_MBOX] else
  if o = 0x38 then [.SEQ_MBOX_IN_DATA] else
  if o = 0x3C then [.SEQ_MBOX_OUT_DATA] else
  if 0x40 ≤ o ∧ o < 0x60 then [.SEQ_EVEN_EN ((o - 0x40) / 4)] else
  if 0x60 ≤ o ∧ o < 0x80 then [.SEQ_TMR_COUNT ((o - 0x60) / 4)] else
  if o = 0x80 then [.SEQ_IMG_SRC, .SEQ_IMG_MODIFIED, .SEQ_IMG_PROG_ID, .SEQ_IMG_ROLLBACK] else
  if o = 0x84 then [.SEQ_CAP0_CAP] else
  if o = 0x88 then [.SEQ_CAP1_CAP] else
  if o = 0x8C then [.SEQ_STACK_LEN, .SEQ_STACK_LOOPS, .SEQ_STACK_DEPTH] else
  if o = 0x90 then [.SEQ_CYCLES_COUNT] else
  if o = 0x94 then [.SEQ_LOAD_END, .SEQ_LOAD_BASE] else
  trailerAt o |>.map (.tr .seq)

/-- The fields of the CALG register at offset `o`, in the order of its table. -/
def calgAt (o : Nat) : List CFld :=
  if o = 0x0 then [.CALG_CMD_ABORT, .CALG_CMD_CMD] else
  if o = 0x4 then [.CALG_RES_MEAS, .CALG_RES_BUSY, .CALG_RES_TARGET, .CALG_RES_PRECOND, .CALG_RES_STATUS] else
  if o = 0x8 then [.UT_HYB_UT] else
  if o = 0xC then [.UT_AMP_UT] else
  if o = 0x10 then [.UT_RXG_UT] else
  if o = 0x14 then [.FT_HYB_FT] else
  if o = 0x18 then [.FT_AMP_FT] else
  if o = 0x1C then [.FT_RXG_FT] else
  if o = 0x20 then [.CALG_EFF_SAT, .CALG_EFF_AMP, .CALG_EFF_HYB] else
  if o = 0x24 then [.CALG_EFFRX_RXG] else
  if o = 0x28 then [.CALG_BIST_PASS, .CALG_BIST_UNREP, .CALG_BIST_REPAIRED, .CALG_BIST_FAILMEM] else
  if o = 0x40 then [.GRAFT_CTL_TRIG, .GRAFT_CTL_ECC_N, .GRAFT_CTL_POLICY] else
  if o = 0x44 then [.GRAFT_CMD_ELEM, .GRAFT_CMD_POOL, .GRAFT_CMD_SWAP, .GRAFT_CMD_DENY, .GRAFT_CMD_APPROVE] else
  if o = 0x48 then [.GRAFT_PEND_VALID, .GRAFT_PEND_RUNNING, .GRAFT_PEND_COMMITTED, .GRAFT_PEND_REASON, .GRAFT_PEND_POOL, .GRAFT_PEND_ELEM] else
  if o = 0x4C then [.GRAFT_EVT_CMD_REJ, .GRAFT_EVT_LIFE_WARN, .GRAFT_EVT_BIST_DONE, .GRAFT_EVT_CAL_FAIL, .GRAFT_EVT_CAL_DONE, .GRAFT_EVT_DENIED, .GRAFT_EVT_DEFER, .GRAFT_EVT_EXHAUST, .GRAFT_EVT_DONE, .GRAFT_EVT_REQ] else
  if 0x50 ≤ o ∧ o < 0x64 then [.GRAFT_POOL_USED ((o - 0x50) / 4), .GRAFT_POOL_BUILT ((o - 0x50) / 4), .GRAFT_POOL_WEAR ((o - 0x50) / 4)] else
  if o = 0x64 then [.GRAFT_LIFE_POOL, .GRAFT_LIFE_HOURS] else
  if o = 0x68 then [.GRAFT_LOG_POOL, .GRAFT_LOG_NEW, .GRAFT_LOG_OLD] else
  if o = 0x6C then [.GRAFT_LIFEWARN_HRS] else
  trailerAt o |>.map (.tr .calg)

/-- The fields of the CHPWR register at offset `o`, in the order of its table. -/
def chpwrAt (o : Nat) : List CFld :=
  if o = 0x0 then [.CHPWR_VOTE_CLIENTS, .CHPWR_VOTE_HOST] else
  if o = 0x4 then [.CHPWR_STAT_OPNEED, .CHPWR_STAT_PAD_HELD, .CHPWR_STAT_ISO, .CHPWR_STAT_PSTATE] else
  if o = 0x8 then [.CHPWR_CFG_PD_DRAIN_MAX] else
  if o = 0xC then [.CHPWR_CMD_CHRST] else
  if o = 0x10 then [.CHPWR_EVT_CMD_REJ, .CHPWR_EVT_RST_DONE, .CHPWR_EVT_OFF, .CHPWR_EVT_ON] else
  trailerAt o |>.map (.tr .chpwr)

/-- The fields of the FAULT register at offset `o`, in the order of its table. -/
def faultAt (o : Nat) : List CFld :=
  if 0x0 ≤ o ∧ o < 0x10 then [.FLT_FIRST_REC ((o - 0x0) / 4)] else
  if o = 0x10 then [.FLT_STAT_OVF, .FLT_STAT_WIN] else
  if o = 0x14 then [.FLT_ACK_ACK] else
  if o = 0x18 then [.FLT_LIVE_LIVE] else
  if o = 0x1C then [.FLT_FIRSTCNT_COUNT] else
  if o = 0x20 then [.FLT_MRGCNT_COUNT] else
  if o = 0x24 then [.FLT_CLASS_CLASS] else
  if o = 0x28 then [.FLT_CFG_C2ACT] else
  if o = 0x2C then [.FLT_FORCE_FORCE] else
  if 0x40 ≤ o ∧ o < 0x70 then [.FLT_SRC_STICKY ((o - 0x40) / 4), .FLT_SRC_CONSEQ ((o - 0x40) / 4), .FLT_SRC_TRANSIENT ((o - 0x40) / 4), .FLT_SRC_LIVE ((o - 0x40) / 4), .FLT_SRC_KIND ((o - 0x40) / 4)] else
  if 0x80 ≤ o ∧ o < 0xB0 then [.FLT_TOTAL_COUNT ((o - 0x80) / 4)] else
  if 0xC0 ≤ o ∧ o < 0xF0 then [.FLT_OVFCNT_COUNT ((o - 0xC0) / 4)] else
  trailerAt o |>.map (.tr .fault)

/-- The fields of the SEG register at offset `o`, in the order of its table. -/
def segAt (o : Nat) : List CFld :=
  if o = 0x0 then [.SEG_CTL_ATTEMPTS, .SEG_CTL_FALLBACK, .SEG_CTL_EXT, .SEG_CTL_TERM, .SEG_CTL_MODE] else
  if o = 0x4 then [.SEG_PLCA_BURST_TMR, .SEG_PLCA_MAX_BC, .SEG_PLCA_NODE_CNT, .SEG_PLCA_NODE_ID] else
  if o = 0x8 then [.SEG_PLCA_TO_TO_TMR] else
  if o = 0xC then [.SEG_CMD_STOP, .SEG_CMD_START] else
  if o = 0x10 then [.SEG_STAT_SSTATE, .SEG_STAT_REWIND_VALID, .SEG_STAT_CSMA, .SEG_STAT_COORD, .SEG_STAT_PLCA_OK] else
  if o = 0x14 then [.SEG_EVT_JOIN_TMO, .SEG_EVT_CMD_REJ, .SEG_EVT_REWIND_REL, .SEG_EVT_DUP_COORD, .SEG_EVT_BCN_FOUND, .SEG_EVT_BCN_LOST, .SEG_EVT_DOWN, .SEG_EVT_UP] else
  if o = 0x18 then [.SEG_DROP_CAUSE] else
  if o = 0x1C then [.SEG_PLCASTAT_LAST_CYCLE, .SEG_PLCASTAT_CUR_TO] else
  if o = 0x20 then [.SEG_COLCNT_COUNT] else
  if o = 0x24 then [.SEG_LATECOL_COUNT] else
  if o = 0x28 then [.SEG_RETX_COUNT] else
  if o = 0x2C then [.SEG_SYMERR_COUNT] else
  if o = 0x30 then [.SEG_BCNTX_COUNT] else
  if o = 0x34 then [.SEG_BCNRX_COUNT] else
  if o = 0x38 then [.SEG_BCNLOST_COUNT] else
  if o = 0x3C then [.SEG_DUPCOORD_COUNT] else
  if o = 0x40 then [.SEG_DROPCNT_COUNT] else
  if o = 0x44 then [.SEG_RWDREL_COUNT] else
  trailerAt o |>.map (.tr .seg)

/-- The fields of the register at offset `o` of a block. -/
def CFld.at : CBlk → Nat → List CFld
  | .chctl, o => chctlAt o
  | .afe, o => afeAt o
  | .dsp, o => dspAt o
  | .pcs, o => pcsAt o
  | .link, o => linkAt o
  | .diag, o => diagAt o
  | .lpi, o => lpiAt o
  | .frame, o => frameAt o
  | .queue, o => queueAt o
  | .seq, o => seqAt o
  | .calg, o => calgAt o
  | .chpwr, o => chpwrAt o
  | .fault, o => faultAt o
  | .seg, o => segAt o

/-- The offsets that hold registers in a block, ascending. -/
def CBlk.offs : CBlk → List Nat
  | .chctl => [0x0, 0x4, 0x8, 0xC]
  | .afe => [0x0, 0x4, 0x8, 0xC, 0x10, 0x14, 0x18, 0x1C, 0x20] ++ (List.range 3).map (0x24 + 4 * ·)
  | .dsp => [0x0, 0x4, 0x8, 0xC, 0x10, 0x14, 0x18, 0x1C, 0x20, 0x24, 0x28, 0x2C, 0x30, 0x34, 0x38, 0x3C, 0x40, 0x44, 0x48, 0x4C, 0x50] ++ (List.range 8).map (0x60 + 4 * ·) ++ (List.range 8).map (0x80 + 4 * ·)
  | .pcs => [0x0, 0x4, 0x8, 0xC, 0x10, 0x14, 0x18, 0x1C, 0x20]
  | .link => [0x0, 0x4, 0x8, 0xC, 0x10, 0x14, 0x18, 0x1C, 0x20, 0x24, 0x28, 0x2C, 0x30, 0x34, 0x38, 0x3C] ++ (List.range 6).map (0x40 + 4 * ·) ++ [0x58]
  | .diag => [0x0, 0x4, 0x8, 0xC, 0x10, 0x14, 0x18, 0x1C, 0x20, 0x24, 0x28, 0x2C, 0x30, 0x34, 0x40, 0x44, 0x48] ++ (List.range 16).map (0x80 + 8 * ·) ++ (List.range 16).map (0x84 + 8 * ·) ++ (List.range 8).map (0x100 + 8 * ·) ++ (List.range 8).map (0x104 + 8 * ·)
  | .lpi => [0x0, 0x4, 0x8, 0xC, 0x10, 0x14, 0x18, 0x1C, 0x20, 0x24, 0x28]
  | .frame => [0x0, 0x4, 0x8, 0xC, 0x10, 0x14, 0x20, 0x24, 0x28, 0x2C, 0x30, 0x34] ++ (List.range 8).map (0x38 + 4 * ·) ++ (List.range 3).map (0x58 + 4 * ·) ++ [0x64, 0x68, 0x6C, 0x70, 0x74, 0x78] ++ (List.range 32).map (0x80 + 4 * ·) ++ [0x100, 0x104] ++ (List.range 3).map (0x108 + 4 * ·) ++ [0x114, 0x118, 0x11C, 0x120, 0x180, 0x184]
  | .queue => [0x0, 0x4, 0x8, 0xC, 0x10] ++ (List.range 8).map (0x40 + 4 * ·) ++ (List.range 8).map (0x60 + 4 * ·) ++ (List.range 8).map (0x80 + 4 * ·) ++ (List.range 8).map (0xA0 + 4 * ·) ++ (List.range 8).map (0xC0 + 4 * ·) ++ (List.range 8).map (0x100 + 4 * ·) ++ (List.range 8).map (0x120 + 4 * ·) ++ (List.range 8).map (0x140 + 4 * ·) ++ (List.range 8).map (0x160 + 4 * ·)
  | .seq => [0x0, 0x4, 0x8, 0xC, 0x10, 0x14, 0x18, 0x1C, 0x20, 0x24, 0x28, 0x2C, 0x30, 0x34, 0x38, 0x3C] ++ (List.range 8).map (0x40 + 4 * ·) ++ (List.range 8).map (0x60 + 4 * ·) ++ [0x80, 0x84, 0x88, 0x8C, 0x90, 0x94]
  | .calg => [0x0, 0x4, 0x8, 0xC, 0x10, 0x14, 0x18, 0x1C, 0x20, 0x24, 0x28, 0x40, 0x44, 0x48, 0x4C] ++ (List.range 5).map (0x50 + 4 * ·) ++ [0x64, 0x68, 0x6C]
  | .chpwr => [0x0, 0x4, 0x8, 0xC, 0x10]
  | .fault => (List.range 4).map (0x0 + 4 * ·) ++ [0x10, 0x14, 0x18, 0x1C, 0x20, 0x24, 0x28, 0x2C] ++ (List.range 12).map (0x40 + 4 * ·) ++ (List.range 12).map (0x80 + 4 * ·) ++ (List.range 12).map (0xC0 + 4 * ·)
  | .seg => [0x0, 0x4, 0x8, 0xC, 0x10, 0x14, 0x18, 0x1C, 0x20, 0x24, 0x28, 0x2C, 0x30, 0x34, 0x38, 0x3C, 0x40, 0x44]

/-- The fields of the TAP register at offset `o`, in the order of its table. -/
def tapAt (o : Nat) : List DFld :=
  if o = 0x0 then [.TAP_WAKEEN_PIN, .TAP_WAKEEN_MDIO] else
  if o = 0x4 then [.TAP_LWAKEEN_LINE] else
  if o = 0x8 then [.TAP_WAKECAUSE_PRTAD, .TAP_WAKECAUSE_CHANNEL, .TAP_WAKECAUSE_CAUSE] else
  if o = 0xC then [.TAP_STAT_REF_TIMEOUT, .TAP_STAT_LATE_WAKE, .TAP_STAT_SLEEP_ABORTED_WAKE, .TAP_STAT_RAIL_TIMEOUT] else
  if o = 0x10 then [.TAP_RSTCAUSE_RAIL, .TAP_RSTCAUSE_KIND] else
  if o = 0x14 then [.TAP_STRAP_XSD] else
  if o = 0x18 then [.TAP_DIPLOG_MIN_MV, .TAP_DIPLOG_RAIL] else
  if o = 0x1C then [.TAP_DIPDUR_US] else
  if o = 0x20 then [.TAP_DIPCNT_COUNT] else
  if o = 0x24 then [.TAP_VSUP_MV] else
  if o = 0xFF0 then [.KEYGATE_KEY, .KEYGATE_FAILS, .KEYGATE_OPEN] else
  trailerAt o |>.map (.tr .tap)

/-- The fields of the CLK register at offset `o`, in the order of its table. -/
def clkAt (o : Nat) : List DFld :=
  if o = 0x0 then [.CLK_REFCTL_XSD, .CLK_REFCTL_SEL] else
  if o = 0x4 then [.CLK_REFSTAT_ACTIVE, .CLK_REFSTAT_SPLL_LOCK, .CLK_REFSTAT_REF_LOST, .CLK_REFSTAT_REFB_OK, .CLK_REFSTAT_REFA_OK, .CLK_REFSTAT_RC_RDY, .CLK_REFSTAT_SVC_SRC] else
  if o = 0x8 then [.CLK_EVT_GATED_CH, .CLK_EVT_GATED_ACC, .CLK_EVT_SVC_SWITCH, .CLK_EVT_REF_BACK, .CLK_EVT_REF_LOST] else
  if o = 0x10 then [.CLK_SVCEN_MGMT, .CLK_SVCEN_DEBUG, .CLK_SVCEN_ID, .CLK_SVCEN_INTEG, .CLK_SVCEN_CAL] else
  if o = 0x14 then [.CLK_GPEND_CH] else
  if o = 0x18 then [.CLK_RCMEAS_KHZ] else
  if 0x100 ≤ o ∧ o < 0x180 then [.CLK_CHEN_SEG ((o - 0x100) / 4), .CLK_CHEN_FAULT ((o - 0x100) / 4), .CLK_CHEN_CHPWR ((o - 0x100) / 4), .CLK_CHEN_CALG ((o - 0x100) / 4), .CLK_CHEN_RAM ((o - 0x100) / 4), .CLK_CHEN_EN ((o - 0x100) / 4)] else
  if o = 0x200 then [.CLK_PLLSTAT_LOCK] else
  if o = 0x204 then [.CLK_LPLLSTAT_LOCK] else
  if 0x240 ≤ o ∧ o < 0x260 then [.CLK_LPPM_OFS ((o - 0x240) / 4)] else
  trailerAt o |>.map (.tr .clk)

/-- The fields of the PWR register at offset `o`, in the order of its table. -/
def pwrAt (o : Nat) : List DFld :=
  if o = 0x0 then [.PWR_MODE_STAT_BUSY, .PWR_MODE_STAT_STBY_READY, .PWR_MODE_STAT_PREV, .PWR_MODE_STAT_MODE] else
  if o = 0x4 then [.PWR_MODE_REQ_REQ] else
  if o = 0x8 then [.PWR_CMD_SOFTRST] else
  if o = 0xC then [.PWR_OP_CTL_OPHOLD, .PWR_OP_CTL_VSETTLE, .PWR_OP_CTL_FLOOR, .PWR_OP_CTL_PGOOD_EN] else
  if o = 0x10 then [.PWR_OP_STAT_VID, .PWR_OP_STAT_PGOOD, .PWR_OP_STAT_BUSY, .PWR_OP_STAT_TARGET, .PWR_OP_STAT_OP] else
  if o = 0x14 then [.PWR_OPFLOOR1_CH] else
  if o = 0x18 then [.PWR_OPFLOOR2_CH] else
  if o = 0x20 then [.PWR_DOMSTAT0_ON] else
  if o = 0x24 then [.PWR_DOMSTAT1_ON] else
  if o = 0x28 then [.PWR_DBGVOTE_DEBUG, .PWR_DBGVOTE_HOST] else
  if o = 0x2C then [.PWR_SUPSTAT_WARN] else
  if o = 0x30 then [.PWR_EVT_REQ_REJ, .PWR_EVT_MODE_CHG, .PWR_EVT_TEMP_OK, .PWR_EVT_TEMP_HI, .PWR_EVT_PGOOD_TMO, .PWR_EVT_OP_DONE, .PWR_EVT_DIP_END, .PWR_EVT_DIP_START] else
  if o = 0x34 then [.PWR_TEMP_TEMP] else
  trailerAt o |>.map (.tr .pwr)

/-- The fields of the CANOPY register at offset `o`, in the order of its table. -/
def canopyAt (o : Nat) : List DFld :=
  if 0x0 ≤ o ∧ o < 0x10 then [.FC_FIRST_REC ((o - 0x0) / 4)] else
  if o = 0x10 then [.FC_STAT_CMD_REJ, .FC_STAT_CLS_REJ, .FC_STAT_OVF, .FC_STAT_WIN] else
  if o = 0x14 then [.FC_ACK_ACK] else
  if o = 0x18 then [.FC_FIRSTCNT_COUNT] else
  if o = 0x1C then [.FC_MRGCNT_COUNT] else
  if o = 0x20 then [.FC_INTEN_CLS] else
  if o = 0x24 then [.FC_IRQ_INT, .FC_IRQ_PEND] else
  if o = 0x28 then [.FC_CMD_SMBIST, .FC_CMD_SAFE_EXIT] else
  if o = 0x2C then [.FC_TESTCFG_DRYRUN] else
  if o = 0x30 then [.FC_CHSUM_CH] else
  if o = 0x34 then [.FC_TIME0_TIME] else
  if o = 0x38 then [.FC_TIME1_TIME] else
  if o = 0x3C then [.FC_SMBIST_FAIL, .FC_SMBIST_DONE] else
  if 0x40 ≤ o ∧ o < 0x50 then [.FC_FORCE_BITS ((o - 0x40) / 4)] else
  if 0x50 ≤ o ∧ o < 0x60 then [.FC_LIVE_BITS ((o - 0x50) / 4)] else
  if 0x60 ≤ o ∧ o < 0x80 then [.FC_CLASS_CLASS ((o - 0x60) / 4)] else
  if 0x100 ≤ o ∧ o < 0x300 then [.FC_SRC_STICKY ((o - 0x100) / 4), .FC_SRC_CONSEQ ((o - 0x100) / 4), .FC_SRC_TRANSIENT ((o - 0x100) / 4), .FC_SRC_LIVE ((o - 0x100) / 4), .FC_SRC_KIND ((o - 0x100) / 4)] else
  if 0x300 ≤ o ∧ o < 0x500 then [.FC_TOTAL_COUNT ((o - 0x300) / 4)] else
  if 0x500 ≤ o ∧ o < 0x700 then [.FC_OVFCNT_COUNT ((o - 0x500) / 4)] else
  trailerAt o |>.map (.tr .canopy)

/-- The fields of the HEART register at offset `o`, in the order of its table. -/
def heartAt (o : Nat) : List DFld :=
  if o = 0x0 then [.HEART_CMD_CMD] else
  if o = 0x4 then [.HEART_STAT_BUSY, .HEART_STAT_BOOTWIN, .HEART_STAT_VTEST, .HEART_STAT_RR_VALID, .HEART_STAT_IDKEY, .HEART_STAT_LC] else
  if o = 0x8 then [.HEART_RES_REASON, .HEART_RES_OP, .HEART_RES_STATUS] else
  if o = 0xC then [.HEART_EVT_BOOT_END, .HEART_EVT_RB_CHG, .HEART_EVT_LC_CHG, .HEART_EVT_ATTEST_DONE, .HEART_EVT_CMD_REJ, .HEART_EVT_REJ, .HEART_EVT_DONE] else
  if o = 0x10 then [.HEART_BOOTCFG_WAIT] else
  if o = 0x14 then [.HEART_SLOTS_REV, .HEART_SLOTS_POP] else
  if o = 0x18 then [.HEART_RB_RB1, .HEART_RB_RB0] else
  if o = 0x1C then [.HEART_LCCMD_VALUE, .HEART_LCCMD_CNT, .HEART_LCCMD_SLOT, .HEART_LCCMD_OP] else
  if o = 0x20 then [.HEART_DCOUNT_VALUE] else
  if o = 0x24 then [.HEART_DATA_VALUE] else
  if 0x40 ≤ o ∧ o < 0x60 then [.HEART_KEYHASH_DATA ((o - 0x40) / 4)] else
  if 0x60 ≤ o ∧ o < 0x80 then [.HEART_ANONCE_DATA ((o - 0x60) / 4)] else
  if 0x80 ≤ o ∧ o < 0xA0 then [.HEART_RETREC_DATA ((o - 0x80) / 4)] else
  if 0x100 ≤ o ∧ o < 0x200 then [.HEART_HDR_DATA ((o - 0x100) / 4)] else
  if 0x800 ≤ o ∧ o < 0x880 then [.HEART_CERT_DATA ((o - 0x800) / 4)] else
  trailerAt o |>.map (.tr .heart)

/-- The fields of the CAL register at offset `o`, in the order of its table. -/
def calAt (o : Nat) : List DFld :=
  if o = 0x0 then [.CAL_CMD_DEV, .CAL_CMD_ABORT, .CAL_CMD_CMD] else
  if o = 0x4 then [.CAL_RES_MEAS, .CAL_RES_BUSY, .CAL_RES_TARGET, .CAL_RES_PRECOND, .CAL_RES_STATUS] else
  if o = 0x8 then [.CAL_MASK_CH] else
  if o = 0xC then [.CAL_BANK_CH] else
  if o = 0x10 then [.CAL_BANKD_ACTIVE] else
  if o = 0x14 then [.UT_RREF_UT] else
  if o = 0x18 then [.UT_VREF_UT] else
  if o = 0x1C then [.CAL_EFF_SAT, .CAL_EFF_VREF, .CAL_EFF_RREF] else
  if o = 0x20 then [.CAL_GEN_GEN] else
  if o = 0x24 then [.CAL_EVT_CMD_REJ, .CAL_EVT_COMMITTED, .CAL_EVT_FAIL, .CAL_EVT_DONE] else
  if o = 0x28 then [.GRAFT_SUM_CH] else
  if o = 0x2C then [.GRAFT_EXH_CH] else
  if o = 0x30 then [.GRAFT_LIFEMIN_CHANNEL, .GRAFT_LIFEMIN_HOURS] else
  trailerAt o |>.map (.tr .cal)

/-- The fields of the HOST register at offset `o`, in the order of its table. -/
def hostAt (o : Nat) : List DFld :=
  if o = 0x0 then [.HOST_CTL_L1_EN, .HOST_CTL_DEGRADE_EN, .HOST_CTL_RATE_MAX] else
  if o = 0x4 then [.HOST_STAT_SPARE_RX, .HOST_STAT_SPARE_TX, .HOST_STAT_NG_UP, .HOST_STAT_WIDTH, .HOST_STAT_RATE, .HOST_STAT_LSTATE] else
  if o = 0x8 then [.HOST_EVT_RESYNC_DONE, .HOST_EVT_NG_ERR, .HOST_EVT_HPRESET, .HOST_EVT_LINKERROR, .HOST_EVT_L2_EXIT, .HOST_EVT_L1_EXIT, .HOST_EVT_DEGRADE, .HOST_EVT_REPAIR, .HOST_EVT_RETRAIN, .HOST_EVT_ACTIVE] else
  if o = 0xC then [.HOST_CMD_RETRAIN, .HOST_CMD_HPRESET] else
  if o = 0x10 then [.HOST_PMCFG_L1_IDLE] else
  if o = 0x14 then [.HOST_NGERR_CODE, .HOST_NGERR_TYPE, .HOST_NGERR_CLASS, .HOST_NGERR_CHANNEL] else
  if o = 0x18 then [.HOST_NGERRCNT_COUNT] else
  if o = 0x1C then [.HOST_CRCERR_COUNT] else
  if o = 0x20 then [.HOST_REPLAY_COUNT] else
  if o = 0x24 then [.HOST_RETRAINS_COUNT] else
  if o = 0x28 then [.HOST_REPAIR_LAST_LANE, .HOST_REPAIR_LAST_DIR, .HOST_REPAIR_USED_RX, .HOST_REPAIR_USED_TX] else
  trailerAt o |>.map (.tr .host)

/-- The fields of the INTEG register at offset `o`, in the order of its table. -/
def integAt (o : Nat) : List DFld :=
  if o = 0x0 then [.INTEG_CTL_MM_REACT] else
  if o = 0x4 then [.INTEG_FPRINT0_FP] else
  if o = 0x8 then [.INTEG_FPRINT1_FP] else
  if o = 0xC then [.INTEG_FPSEQ_SEQ] else
  if o = 0x10 then [.INTEG_CHBUSY_BUSY] else
  if o = 0x14 then [.INTEG_WPOVF_OVF] else
  if o = 0x18 then [.INTEG_SHPEND_PEND] else
  if o = 0x1C then [.INTEG_COMMIT_CH] else
  if o = 0x20 then [.INTEG_MMCH_MM] else
  if o = 0x24 then [.INTEG_MMSVC_MM] else
  if o = 0x28 then [.INTEG_LOCKV_ADDR] else
  if o = 0x2C then [.INTEG_LOCKVCNT_COUNT] else
  if o = 0x30 then [.INTEG_EVT_CRC_MM, .INTEG_EVT_FP_CHG, .INTEG_EVT_KEY_FAIL, .INTEG_EVT_LOCK_VIOLATION] else
  trailerAt o |>.map (.tr .integ)

/-- The fields of the ID register at offset `o`, in the order of its table. -/
def idAt (o : Nat) : List DFld :=
  if o = 0x0 then [.ID_PART_VENDOR, .ID_PART_PART] else
  if o = 0x4 then [.ID_REV_FAMILY, .ID_REV_STEP, .ID_REV_METAL] else
  if o = 0x8 then [.ID_GRADE_XT50_MASK, .ID_GRADE_GRADE] else
  if o = 0xC then [.ID_CHCFG_N_SEG, .ID_CHCFG_N_BRANCH, .ID_CHCFG_N_TRUNK] else
  if 0x10 ≤ o ∧ o < 0x20 then [.DEVICE_ID_DID ((o - 0x10) / 4)] else
  if o = 0x20 then [.ID_ROMVER_BOOTROM, .ID_ROMVER_SEQLIB] else
  if o = 0x24 then [.ID_OTPSTAT_FT_VALID, .ID_OTPSTAT_OTP_LOADED] else
  trailerAt o |>.map (.tr .id)

/-- The fields of the DEBUG register at offset `o`, in the order of its table. -/
def debugAt (o : Nat) : List DFld :=
  if o = 0x0 then [.DBG_CMD_CMD] else
  if o = 0x4 then [.DBG_STAT_SLOT, .DBG_STAT_RIGHTS, .DBG_STAT_BUSY, .DBG_STAT_NONCE_VALID, .DBG_STAT_VTEST, .DBG_STAT_OPEN] else
  if o = 0x8 then [.DBG_CHMASK_CH] else
  if o = 0xC then [.DBG_EVT_CMD_REJ, .DBG_EVT_TOKEN_REJ, .DBG_EVT_CLOSED, .DBG_EVT_OPENED] else
  if o = 0x10 then [.DBG_RES_END, .DBG_RES_REASON] else
  if o = 0x14 then [.DBG_REMAIN_SECONDS] else
  if 0x20 ≤ o ∧ o < 0x30 then [.DBG_NONCE_DATA ((o - 0x20) / 4)] else
  if o = 0x40 then [.DBG_TRCTL_EN, .DBG_TRCTL_CH] else
  if o = 0x44 then [.DBG_TRSTAT_WRAP, .DBG_TRSTAT_COUNT] else
  if 0x100 ≤ o ∧ o < 0x1C0 then [.DBG_TOKEN_DATA ((o - 0x100) / 4)] else
  trailerAt o |>.map (.tr .debug)

/-- The fields of the MGMT register at offset `o`, in the order of its table. -/
def mgmtAt (o : Nat) : List DFld :=
  if o = 0x0 then [.MGMT_MDCTL_EN] else
  if o = 0x4 then [.MGMT_MDLOCK_NAT_SVC, .MGMT_MDLOCK_NAT_EN] else
  if o = 0x8 then [.MGMT_MDSTAT_LAST_DEVAD, .MGMT_MDSTAT_LAST_PRTAD, .MGMT_MDSTAT_DEVAD_UNK, .MGMT_MDSTAT_BUSERR, .MGMT_MDSTAT_LATE] else
  if o = 0xC then [.MGMT_MDFRAMES_COUNT] else
  if o = 0x10 then [.MGMT_MDERR_COUNT] else
  if o = 0x14 then [.MGMT_PINSTAT_XSD, .MGMT_PINSTAT_VID, .MGMT_PINSTAT_INH, .MGMT_PINSTAT_INT_N, .MGMT_PINSTAT_RESET_N, .MGMT_PINSTAT_PGOOD, .MGMT_PINSTAT_WAKE] else
  trailerAt o |>.map (.tr .mgmt)

/-- The fields of the register at offset `o` of a block. -/
def DFld.at : DBlk → Nat → List DFld
  | .tap, o => tapAt o
  | .clk, o => clkAt o
  | .pwr, o => pwrAt o
  | .canopy, o => canopyAt o
  | .heart, o => heartAt o
  | .cal, o => calAt o
  | .host, o => hostAt o
  | .integ, o => integAt o
  | .id, o => idAt o
  | .debug, o => debugAt o
  | .mgmt, o => mgmtAt o

/-- The offsets that hold registers in a block, ascending. -/
def DBlk.offs : DBlk → List Nat
  | .tap => [0x0, 0x4, 0x8, 0xC, 0x10, 0x14, 0x18, 0x1C, 0x20, 0x24, 0xFF0]
  | .clk => [0x0, 0x4, 0x8, 0x10, 0x14, 0x18] ++ (List.range 32).map (0x100 + 4 * ·) ++ [0x200, 0x204] ++ (List.range 8).map (0x240 + 4 * ·)
  | .pwr => [0x0, 0x4, 0x8, 0xC, 0x10, 0x14, 0x18, 0x20, 0x24, 0x28, 0x2C, 0x30, 0x34]
  | .canopy => (List.range 4).map (0x0 + 4 * ·) ++ [0x10, 0x14, 0x18, 0x1C, 0x20, 0x24, 0x28, 0x2C, 0x30, 0x34, 0x38, 0x3C] ++ (List.range 4).map (0x40 + 4 * ·) ++ (List.range 4).map (0x50 + 4 * ·) ++ (List.range 8).map (0x60 + 4 * ·) ++ (List.range 128).map (0x100 + 4 * ·) ++ (List.range 128).map (0x300 + 4 * ·) ++ (List.range 128).map (0x500 + 4 * ·)
  | .heart => [0x0, 0x4, 0x8, 0xC, 0x10, 0x14, 0x18, 0x1C, 0x20, 0x24] ++ (List.range 8).map (0x40 + 4 * ·) ++ (List.range 8).map (0x60 + 4 * ·) ++ (List.range 8).map (0x80 + 4 * ·) ++ (List.range 64).map (0x100 + 4 * ·) ++ (List.range 32).map (0x800 + 4 * ·)
  | .cal => [0x0, 0x4, 0x8, 0xC, 0x10, 0x14, 0x18, 0x1C, 0x20, 0x24, 0x28, 0x2C, 0x30]
  | .host => [0x0, 0x4, 0x8, 0xC, 0x10, 0x14, 0x18, 0x1C, 0x20, 0x24, 0x28]
  | .integ => [0x0, 0x4, 0x8, 0xC, 0x10, 0x14, 0x18, 0x1C, 0x20, 0x24, 0x28, 0x2C, 0x30]
  | .id => [0x0, 0x4, 0x8, 0xC] ++ (List.range 4).map (0x10 + 4 * ·) ++ [0x20, 0x24]
  | .debug => [0x0, 0x4, 0x8, 0xC, 0x10, 0x14] ++ (List.range 4).map (0x20 + 4 * ·) ++ [0x40, 0x44] ++ (List.range 48).map (0x100 + 4 * ·)
  | .mgmt => [0x0, 0x4, 0x8, 0xC, 0x10, 0x14]

/-- What the register tables say of a field. -/
def Fld.info : Fld → FInfo
  | .ch _ f => f.info
  | .dev f => f.info

/-- The reset value of a field. -/
def Fld.reset (f : Fld) : Nat :=
  match f, f.info.rst with
  | _, .n v => v
  | .ch c _, .byClass t b s => match classOf c with | .trunk => t | .branch => b | .segment => s
  | .dev _, .byClass _ _ _ => 0

end Sys2Proof.Machine
end

