-- ==== Sys2Proof/Machine/State.lean ====
section
/-! DEFINITION. The state of the part as plain data, the reasons a step can stop, and the state after reset. -/

namespace Sys2Proof.Machine

/-! ### Modes and states the spec names -/

/-- The device modes (R17). -/
inductive DevMode where
  | off | dormant | standby | boot | active | service | safe | lockedOut
  deriving DecidableEq, Repr

/-- The code of a device mode (R17). -/
def DevMode.code : DevMode → Nat
  | .off => 0 | .dormant => 1 | .standby => 2 | .boot => 3 | .active => 4 | .service => 5 | .safe => 6 | .lockedOut => 7

/-- The channel sub-states (R20). -/
inductive SubState where
  | off | idle | training | up | lpi | sleep | maint | quarantine
  deriving DecidableEq, Repr

/-- The code of a sub-state (R20). -/
def SubState.code : SubState → Nat
  | .off => 0 | .idle => 1 | .training => 2 | .up => 3 | .lpi => 4 | .sleep => 5 | .maint => 6 | .quarantine => 7

/-- The states of link control (R83). -/
inductive LState where
  | stop | an | train | up | shift | holdoff
  deriving DecidableEq, Repr

/-- The code of a link-control state (R83). -/
def LState.code : LState → Nat
  | .stop => 0 | .an => 1 | .train => 2 | .up => 3 | .shift => 4 | .holdoff => 5

/-- The states of segment link control (R112). -/
inductive SState where
  | stop | join | up
  deriving DecidableEq, Repr

/-- The code of a segment state (R112). -/
def SState.code : SState → Nat
  | .stop => 0 | .join => 1 | .up => 2

/-- The states of a channel domain (R308). -/
inductive PState where
  | off | poweringUp | on | draining | poweringDown
  deriving DecidableEq, Repr

/-- The code of a domain state (R308). -/
def PState.code : PState → Nat
  | .off => 0 | .poweringUp => 1 | .on => 2 | .draining => 3 | .poweringDown => 4

/-- The sequencer states (R159). -/
inductive QState where
  | stopped | loading | running | waiting | halted | trapped
  deriving DecidableEq, Repr

/-- The code of a sequencer state (R159). -/
def QState.code : QState → Nat
  | .stopped => 0 | .loading => 1 | .running => 2 | .waiting => 3 | .halted => 4 | .trapped => 5

/-- The states of the UCIe link (R253). -/
inductive ULState where
  | reset | training | active | retrain | l1 | l2 | linkError
  deriving DecidableEq, Repr

/-- The code of a UCIe link state (R253). -/
def ULState.code : ULState → Nat
  | .reset => 0 | .training => 1 | .active => 2 | .retrain => 3 | .l1 => 4 | .l2 => 5 | .linkError => 6

/-- A device-mode change under way (R18, R301, R302). -/
inductive ModeChg where
  /-- no change is running -/ | none
  /-- steps 2 and 3 of Standby entry (R301) -/ | stbyPrep
  /-- STBY_READY: waiting for the L2 request or for REQ = 4 (R301) -/ | stbyReady
  /-- the exit from Standby (R301), with what it leads to -/ | stbyExit
  /-- every powered channel drains toward Service (R18) -/ | service
  /-- past the commit point of Dormant entry (R302) -/ | dormantEntry
  /-- a wake qualified in Dormant: INH asserted, rails rising (R18, R391) -/ | dormantExit
  deriving DecidableEq, Repr

/-- The kinds of warm reset (R304), with their codes in `TAP_RSTCAUSE`. -/
inductive RstKind where
  | resetN | soft | heartWdog | supply
  deriving DecidableEq, Repr

/-- The code of a warm reset (R304). -/
def RstKind.code : RstKind → Nat
  | .resetN => 2 | .soft => 3 | .heartWdog => 4 | .supply => 5

/-- A register block of the part. -/
inductive Blk where
  | ch (c : Ch) (b : CBlk) | dev (b : DBlk)
  deriving DecidableEq, Repr

/-! ### Memory -/

/-- An addressed byte memory: the listed cells, addresses strictly rising, none equal to what an unlisted address
reads as. An unlisted byte reads 0. -/
abbrev Mem := List Host.Cell

/-! ### One channel -/

/-- A write waiting in a channel's posted-write buffer (R258): its source, its offset in the channel window with any
alias, its data, and, for a write of a standard MDIO register, the bits of the native register that it changes (R379). -/
structure Posted where
  src : Src
  off : Nat
  v : Word
  only : Option Nat
  deriving DecidableEq, Repr

/-- What makes a pad held, and what it presents (R153). -/
structure Pad where
  held : Bool
  /-- segment channels: the on-die termination in effect when the latch closed -/
  term : Bool
  /-- the driver is quiet and terminated because the reference is lost (R284) -/
  drvHold : Bool
  /-- segment channels: the termination that MODE and TERM of the last START select; `none` before the first one since the
  domain powered up (R109, R154) -/
  sel : Option Bool
  deriving DecidableEq, Repr

/-- The counts of a credit pair in one direction (R239), modulo 2^32. -/
structure Cred where
  granted : Nat
  spent : Nat
  givenBack : Nat
  returned : Nat
  deriving DecidableEq, Repr

/-- What the adapter keeps for one channel and class (R236, R239, R240, R243). -/
structure Pair where
  eg : Cred
  ing : Cred
  /-- the SEQ the next egress FRAME_START must carry -/
  egSeq : Nat
  /-- the SEQ the next ingress frame takes -/
  inSeq : Nat
  /-- GRANTED as last announced to the host -/
  announced : Nat
  /-- a RESYNC is due; how many are sent and not answered; and the pair is resynchronised -/
  due : Bool
  owed : Nat
  synced : Bool
  deriving DecidableEq, Repr

/-- An egress frame as the queue holds it (R236, R244). -/
structure EgFrame where
  seq : Nat
  octets : List Byte
  cells : Nat
  complete : Bool
  deriving DecidableEq, Repr

/-- A short-format time stamp (R224) and what it belongs to. -/
structure Stamp where
  cls : Fin 8
  seq : Nat
  handle : Nat
  isMatched : Bool
  time : Nat
  deriving DecidableEq, Repr

/-- An ingress frame as the queue holds it (R235, R242). -/
structure InFrame where
  octets : List Byte
  stamp : Option Nat
  handle : Option Nat
  yellow : Bool
  secured : Bool
  unverified : Bool
  /-- octets already sent to the host; `none` before its FRAME_START -/
  sent : Option Nat
  seq : Nat
  deriving DecidableEq, Repr

/-- One egress class (R244, R246): its frames, oldest first, and the SEQ of an open frame whose later segments are
discarded on arrival. -/
structure EgCls where
  frames : List EgFrame
  drop : Option Nat
  deriving DecidableEq, Repr

/-- A security association (R215): 256 key bits, 96 salt bits, SSCI, packet number, and whether it is exhausted. -/
structure Sa where
  key : Nat
  salt : Nat
  ssci : Nat
  pn : Nat
  exhausted : Bool
  deriving DecidableEq, Repr

/-- What protects an egress frame (R214, R216): the transmit SC with its SCI and configuration word, the AN, and the
association with the packet number the frame takes. -/
structure SecTx where
  sc : Nat
  sci : Nat
  cfg : Nat
  an : Nat
  sa : Sa
  deriving DecidableEq, Repr

/-- The match key of a context (R204, words 0 to 2). -/
structure CtxKey where
  da : Nat
  etype : Nat
  vid : Nat
  pcp : Nat
  tagged : Bool
  egress : Bool
  deriving DecidableEq, Repr

/-- The flow meter of a context (R204, words 5 to 12; R211). -/
structure Meter where
  cir : Nat
  eir : Nat
  cbs : Nat
  ebs : Nat
  cf : Bool
  cm : Bool
  dropYellow : Bool
  markRedEn : Bool
  markRed : Bool
  en : Bool
  ct : Nat
  et : Nat
  last : Nat
  deriving DecidableEq, Repr

/-- A context record (R204). An unused context is absent from the list that holds it. -/
structure Ctx where
  key : CtxKey
  handle : Nat
  cam : Bool
  action : Nat
  tsClass : Nat
  msBypass : Bool
  sc : Nat
  maxSdu : Nat
  meter : Meter
  frames : Nat
  octets : Nat
  yellow : Nat
  red : Nat
  drops : Nat
  deriving DecidableEq, Repr

/-- The egress frame on the line (R244), with what the flow engine found for it. -/
structure LineEg where
  cls : Fin 8
  frame : EgFrame
  /-- the stamp taken at its start, where it is stamped (R222, R223) -/
  stamp : Option Nat
  handle : Option Nat
  /-- the context it matched, and what protects it -/
  idx : Option Nat
  sec : Option SecTx
  /-- of a frame that started before its end arrived: when its lookup was, and the record it then read (R208, R211) -/
  look : Option (Nat × Ctx)
  /-- when the attempt that runs began, and the frame's sent cells already freed (R122) -/
  t0 : Nat
  freed : Nat
  deriving DecidableEq, Repr

/-- A direction's frame counts (R226): accepted, delivered, resident and the sixteen discard reasons of R225. -/
structure Acct where
  accepted : Nat
  delivered : Nat
  resident : Nat
  disc : List Nat
  deriving DecidableEq, Repr

/-- A channel's queues (R244, R246, R247). -/
structure QueueSt where
  eg : Vector EgCls 8
  ing : Vector (List InFrame) 8
  line : Option LineEg
  drain : Bool
  /-- the accounting checks of R330 that fail now: kind and class -/
  bad : List (Nat × Nat)
  flushBusy : Bool
  /-- the TAGs of CONTROL FLUSH messages not yet answered (R250) -/
  flushTags : List Nat
  deriving DecidableEq, Repr

/-- A secure channel (R215, R218): its SCI, the configuration word of `MS_SCCFG`, its replay window, the transmit AN in
use, and its four slots. -/
structure Sc where
  sci : Nat
  cfg : Nat
  win : Nat
  encAn : Fin 4
  sas : Vector (Option Sa) 4
  deriving DecidableEq, Repr

/-- A time-stamp clock (R221): seconds, nanoseconds, 1/65,536 ns, and the part of a fraction it carries over, in units
of 2^-26 * 10^-9 / 25 ns. -/
structure TsClock where
  sec : Nat
  ns : Nat
  frac : Nat
  carry : Nat
  deriving DecidableEq, Repr

/-- A context command in progress (R207). -/
structure CtxCmd where
  op : Nat
  index : Nat
  wmask : Nat
  /-- the staged record as it stood when the command was written -/
  stage : List Nat
  deriving DecidableEq, Repr

/-- A channel's frame path beside its register fields (R203 to R226). -/
structure FrameSt where
  ctxs : List (Nat × Ctx)
  /-- the contexts reached through the overflow CAM, by entry (R206) -/
  cam : List (Nat × Nat)
  cmd : Option CtxCmd
  /-- the words of contexts and CAM entries with an uncorrectable ECC error not yet rewritten (R209, R227) -/
  bad : List EccAt
  tx : List (Nat × Sc)
  rx : List (Nat × Sc)
  /-- the MACsec discard window of R217: its start and count, and whether it has asserted -/
  msWin : Option (Nat × Nat × Bool)
  ts : TsClock
  /-- the egress stamp queue (R223) -/
  stamps : List Stamp
  /-- the frames delivered to the line, oldest first, from the DA through the FCS (R202) -/
  sent : List (List Byte)
  egLive : Acct
  inLive : Acct
  egSnap : Acct
  inSnap : Acct
  deriving DecidableEq, Repr

/-- What the AFE and PCS keep beside their fields (R43, R44, R50, R52). -/
structure LineSt where
  /-- the saturation window of R50: its start, its events, and whether it has asserted -/
  satWin : Option (Nat × Nat × Bool)
  /-- the burst window of R52: codewords and uncorrectables so far, whether it has asserted, and the BURST_WIN and
  BURST_N in force since it began -/
  cw : Nat
  unc : Nat
  burstDone : Bool
  burstWin : Nat
  burstN : Nat
  /-- the alignment search of R43: whether the position before matched, and expected positions missed in a row -/
  hit : Bool
  miss : Nat
  /-- the last good OAM field (R44) -/
  oam : List Byte
  /-- the count of transmitted frames: its value when frames of the active type were last counted from a known one, and
  when that was; `none` while none is sent (R103, R401) -/
  frBase : Nat
  frT0 : Option Nat
  /-- SAT_N as it was when the sample block began (R50) -/
  satN : Nat
  /-- codewords since the last uncorrectable one, up to the 144 of 16 superframes -/
  sinceUnc : Nat
  /-- the latching-low copy of BLOCK_LOCK that the port's register 3.0001 holds (R380) -/
  llPcs : Bool
  deriving DecidableEq, Repr

/-- One coefficient bank of the receive DSP (R56 to R58, R77): the coefficients that are not 0, by key, keys rising, in
24-bit units; and the placement of each window, whether it is enabled and its START. The key of coefficient `i` of area
`a` of `DSP_TAPSEL` is 1,024 a + i. -/
structure Bank where
  taps : List (Nat × Int)
  wins : Vector (Bool × Nat) 8
  deriving DecidableEq, Repr

/-- A last-good snapshot (R71): the coefficients and placements, the SNR, and when it was taken. -/
structure Snap where
  bank : Bank
  snr : Nat
  time : Nat
  deriving DecidableEq, Repr

/-- What class E keeps of the receive DSP (R79): the banks, which is active and for which type, whether the standby set
is valid, and the snapshot. -/
structure DspSt where
  banks : Vector Bank 2
  active : Fin 2
  actType : Nat
  stbyValid : Bool
  snap : Option Snap
  deriving DecidableEq, Repr

/-- An adapting engine's phase (R64): tracking, and the unfrozen blocks of its acquisition. -/
structure Phase where
  track : Bool
  count : Nat
  deriving DecidableEq, Repr

/-- What runs in the receive DSP (R56 to R77), as class F: the engines' phases (dense, windows 0 to 7, FFE, DFE); the
freeze mask in force since the last boundary; timing recovery in 2^-24 of 1/128 UI; the probe's estimates by position,
and the positions measured in this sweep and in the last complete one; what the next boundary is to do; the capture
being copied and the visible one; and runs of windows below a threshold (R72, R95). -/
structure DspRun where
  block : Nat
  phases : Vector Phase 11
  eff : Nat
  integ : Int
  phase : Int
  pos : Nat
  est : List (Nat × List Int)
  swept : List Nat
  lastSwept : List Nat
  /-- the update blocks for which the probe has dwelt at its position (R60) -/
  dwell : Nat
  swapReq : Bool
  restoreReq : Bool
  clrReq : Bool
  snapReq : Bool
  captReq : Bool
  rebasing : Bool
  /-- the window shadows have met a boundary of R262 and apply at the next update block (R61); and the placement words of
  R75 that wait for it: bank, window, enable and START -/
  winDue : Bool
  placeTap : List (Fin 2 × Nat × Bool × Nat)
  placeAuto : Option (Nat × Nat)
  copy : Option (Mem × Nat)
  buf : Mem
  divRun : Nat
  lossRun : Nat
  /-- the blocks of the signal-quality window that runs, with the sums of their squared slicer errors and of their squared
  phase errors (R65, R70) -/
  winN : Nat
  winErr : Nat
  winPd : Nat
  /-- the FFE and DFE coefficients at their limit, with the update blocks each has stayed there (R72) -/
  satRun : List (Nat × Nat)
  /-- the sliced value before the next one, as the decoder of R63 holds it, and the last block decoded -/
  decY : Fin 4
  decoded : List (Fin 4)
  /-- the signal-quality window that runs began before TRAINING or the last bank swap (R70, R104) -/
  mseSkip : Bool
  deriving DecidableEq, Repr

/-- The XT50 training states, in the order of `LINK_STAT.XSTATE` (R93). -/
inductive XState where
  | silent | listen | send | coef | ready | count | check | none
  deriving DecidableEq, Repr

/-- The hitless rate shift under way (R97 to R106). -/
structure ShiftSt where
  /-- this end sent the REQ -/
  init : Bool
  target : Nat
  /-- the ACK waits for the standby bank (R99) -/
  ackDue : Bool
  /-- a window that began after the swap has ended with an SNR that qualifies (R104) -/
  snrOk : Bool
  /-- past the commit point -/
  committed : Bool
  /-- the switch at frame F has been made -/
  switched : Bool
  sentDone : Bool
  gotDone : Bool
  deriving DecidableEq, Repr

/-- Link control beside its fields (R83 to R106). -/
structure LinkSt where
  st : LState
  /-- the type and role that AN resolved or LINK_CTL forced, from entry to TRAIN on -/
  typ : Nat
  master : Bool
  /-- a type whose root the channel PLL runs at; 0 before one was selected: the lowest type's (R279) -/
  rootTyp : Nat
  /-- training is held quiet until the operating point is in force (R293) -/
  opWait : Bool
  /-- a restart is due at the end of HOLDOFF (R84) -/
  restart : Bool
  x : XState
  shift : Option ShiftSt
  /-- the types this end advertised, and whether it sent the vendor pages, in the last negotiation (R85, R87) -/
  adv : Nat
  vnp : Bool
  /-- the pages this end sends in the negotiation (R85, R87), with the role wish and the seed of its base page (R88) -/
  pages : List AnPage
  role : Nat
  seed : Nat
  /-- the partner's base page, once received: its role wish and its seed (R88) -/
  lpBase : Option (Nat × Nat)
  /-- the last page was the vendor message page (R87) -/
  lpOui : Bool
  /-- the last correct infofield, how many came in this training, and each field as confirmed twice (R91) -/
  xiLast : Nat
  xiCount : Nat
  xiConf : Nat
  /-- SW_CNT of a counting master, and the last infofield sent (R93) -/
  swCnt : Nat
  xiOut : Nat
  /-- the vendor message of the running transaction that the OAM repeats (R98, R149); those sent that no frame has carried
  yet, oldest first; the one that the frame now sent carries; and every message sent, oldest first -/
  msg : Option LinkMsg
  carry : List LinkMsg
  onAir : Option LinkMsg
  sent : List LinkMsg
  /-- the (ID, TID) pairs acted on (R98) -/
  seen : List (Nat × Nat)
  /-- the latching-low copies of LSTATE = UP that the port's registers 1.0001 and 7.0201 hold (R380) -/
  llPma : Bool
  llAn : Bool
  deriving DecidableEq, Repr

/-- Segment link control beside its fields (R109 to R124). -/
structure SegSt where
  st : SState
  /-- MODE, EXT and TERM as latched at the last START (R109); MODE, EXT and TERM are 0 before one -/
  mode : Nat
  ext : Bool
  term : Bool
  /-- NODE_ID, NODE_CNT, TO_TMR, MAX_BC and BURST_TMR as latched with them (R383), the first three with 0 taken as R125
  says -/
  nid : Nat
  ncnt : Nat
  toTmr : Nat
  maxBc : Nat
  burstTmr : Nat
  /-- the access method in UP, the role, and whether BEACONs are received or sent (R115, R116, R125) -/
  csma : Bool
  coord : Bool
  plcaOk : Bool
  /-- a BEACON came in fallback and PLCA resumes when the attempt ends (R116) -/
  toPlca : Bool
  /-- when the PLCA cycle that runs began -/
  cycle : Option Nat
  /-- the attempts made with the frame on the line (R119), its rewind mark (R121), whether its last attempt has collided
  so that a retry is due, and the backoff before it, in slots (R118) -/
  att : Nat
  mark : Bool
  retry : Bool
  back : Option Nat
  /-- the draws made from the backoff generator (R118) -/
  draws : Nat
  /-- frames sent in the opportunity that runs, where it is this node's, a COMMIT that holds it for the next (R115), and when
  its silence began -/
  burst : Nat
  commit : Bool
  toT0 : Nat
  /-- the latching-low copies of SSTATE = UP that the port's registers 1.0001 and 3.0001 hold (R380) -/
  llPma : Bool
  llPcs : Bool
  deriving DecidableEq, Repr

/-- The run of the diagnostics engine (R130, R131, R142): the phases of a TDR run, and an ISR before and after its
capture. -/
inductive DRun where
  | none | listen | acquire | process | isrWait | isrCap
  deriving DecidableEq, Repr

/-- A record of the trend log (R142): the closed interval's figures and Γ_0 to Γ_7, `none` where not measured. -/
structure TrendRec where
  time : Nat
  mean : Nat
  snrMin : Nat
  corr : Nat
  isrOk : Bool
  upAll : Bool
  sqi : Nat
  losses : Nat
  unc : Nat
  gam : List (Option Int)
  deriving DecidableEq, Repr

/-- What a trend interval gathers (R136, R142): whether the link was up throughout, the windows' SNR, the lowest SQI,
corrected symbols (on a segment, code-group errors), uncorrectable codewords and link losses. -/
structure Interval where
  up : Bool
  snrSum : Nat
  snrCnt : Nat
  snrMin : Nat
  sqiMin : Nat
  corr : Nat
  unc : Nat
  losses : Nat
  deriving DecidableEq, Repr

/-- Diagnostics beside their fields (R126 to R141). -/
structure DiagSt where
  run : DRun
  /-- the type of an ISR's capture and the spans of delays it measured -/
  isrTyp : Nat
  cover : List (Nat × Nat)
  /-- the profile of that capture, by delay; `none` where nothing measured it -/
  prof : List (Option Int)
  /-- the interval that runs, when it began, and a closed one whose record waits for an ISR, with the operation time at its
  end (R142) -/
  iv : Interval
  ivT0 : Nat
  closed : Option (Interval × Nat)
  /-- the trend log, newest first -/
  log : List TrendRec
  raw : List (BitVec 16)
  /-- reference ticks of channel operation -/
  opTicks : Nat
  /-- the SQI, and a higher candidate that the last window gave (R127) -/
  sqi : Nat
  sqiPend : Option Nat
  /-- which predictions have been at or above PRED_HRS since their last warning: entries 0 to 7, then SNR (R138) -/
  armed : List Bool
  /-- no ISR has completed since the link came up (R137) -/
  firstIsr : Bool
  deriving DecidableEq, Repr

/-- A vendor or TC10 sleep transaction (R148, R150). -/
structure SleepSt where
  init : Bool
  tid : Nat
  /-- F once SLP_GO has been sent or received: the commit point has passed -/
  go : Option Nat
  deriving DecidableEq, Repr

/-- Low power and sleep beside their fields (R143 to R155). -/
structure LpiSt where
  /-- a direction in LPI is quiet: outside a refresh (R145) -/
  txQuiet : Bool
  rxQuiet : Bool
  sleep : Option SleepSt
  /-- the wake signal is being sent (R152) -/
  waking : Bool
  /-- TRAINING follows a wake from SLEEP, so queued frames stay resident (R23) -/
  fromSleep : Bool
  /-- reference ticks since the egress queue last became empty, and part-microseconds of LPI in each direction -/
  idleT : Nat
  txT : Nat
  rxT : Nat
  /-- XT50 receive LPI: the marker of the running refresh has matched, and refreshes missed in a row (R146) -/
  refHit : Bool
  refMiss : Nat
  /-- XT50 transmit LPI: the first superframe filled with LPI blocks, until the first quiet one (R146) -/
  sleepFr : Option Nat
  /-- when transmit LPI last ended, and the superframe then running: the wake time runs (R146, R147) -/
  exitAt : Option (Nat × Nat)
  /-- the TC10 messages and pulses sent, oldest first (R148) -/
  tcOut : List Tc10
  deriving DecidableEq, Repr

/-- An active hardware loop (R196). -/
structure LoopSt where
  count : Nat
  start : Nat
  fin : Nat
  deriving DecidableEq, Repr

/-- What Heartwood is loading into a channel (R160, R179): a ROM program by its ID, or the accepted image. -/
inductive Ld where
  | none | rom (id : Nat) | image
  deriving DecidableEq, Repr

/-- What a ROM program keeps for its decisions (R96): the attempts that have failed in a row, a reflectometry run due before
the next START, when link control last entered STOP or the program started, a type request not yet acted on, the types
advertised before a type request narrowed them, and an UP that it has not yet acted on. -/
structure PolSt where
  fails : Nat
  diag : Bool
  since : Nat
  typeReq : Bool
  adv : Option Nat
  up : Bool
  deriving DecidableEq, Repr

/-- The sequencer beside its fields (R157 to R180). -/
structure SeqSt where
  st : QState
  pc : Nat
  /-- s0 to s15; s0 is never written (R158) -/
  s : Vector Word 16
  /-- a0 to a3, each in the range of 40 signed bits -/
  a : Vector Int 4
  z : Bool
  n : Bool
  c : Bool
  v : Bool
  /-- the call stack, newest first -/
  stack : List Nat
  /-- the active loops, innermost first -/
  loops : List LoopSt
  /-- the counts last loaded into t0 to t7 (R172) -/
  reload : Vector Nat 8
  /-- the SEQ freeze mask (R67, R158) -/
  frz : Nat
  wdog : Nat
  /-- the mask, and the ticks left of the timeout (0: none), of the wait it stands in -/
  wait : Option (Nat × Nat)
  /-- a HALT interrupted a wait (R160) -/
  haltedWait : Bool
  /-- messages posted and not yet sent: code and payload, oldest first (R173) -/
  post : List (Nat × Nat)
  /-- when the last EVENT message left (R250) -/
  evLast : Option Nat
  pol : PolSt
  /-- the words of the TIME port as latched (R197) -/
  time : Vector Nat 4
  /-- program RAM: each byte XOR the byte of ROM program `rom` there, so that a byte of an unchanged ROM image lists
  nothing; with `rom` 0 the bytes themselves -/
  pram : Mem
  dram : Mem
  rom : Nat
  /-- what Heartwood writes while LOADING -/
  ld : Ld
  /-- the measurement of the image in program RAM (R361), 0 for a ROM program or none -/
  meas : Nat
  deriving DecidableEq, Repr

/-- The three user or factory trims of a channel as their registers hold them (R309, R326): HYB with C above R, AMP, RXG. -/
structure Ut3 where
  hyb : Nat
  amp : Nat
  rxg : Nat
  deriving DecidableEq, Repr

/-- A swap requested or running (R319 to R322). -/
structure Swap where
  pool : Nat
  elem : Nat
  reason : Nat
  /-- past approval -/
  running : Bool
  /-- the OTP record is being written -/
  recording : Bool
  committed : Bool
  /-- deferred by a supply warning: it is tried again t_DIPHOLD after the warning ends (R322) -/
  held : Bool
  deriving DecidableEq, Repr

/-- A substitution (R317): the pool, the spare brought into use and the element retired. -/
structure Subst where
  pool : Nat
  spare : Nat
  old : Nat
  deriving DecidableEq, Repr

/-- The wear of an element (R318), with the reason code of its measure. -/
structure Wear where
  pool : Nat
  elem : Nat
  index : Nat
  reason : Nat
  deriving DecidableEq, Repr

/-- A channel's calibration and spare state beside its fields (R309 to R324). -/
structure GraftSt where
  /-- the user trims the channel applies (R310) -/
  ut : Ut3
  /-- the CMD of the calibration or BIST that runs -/
  run : Option Nat
  /-- the failing rows that BIST has still to repair, by pool and row (R324) -/
  bistRows : List (Nat × Nat)
  /-- the status BIST ends with (R315, R324): 3 after an ABORT or a departure from MAINT, 2 after a supply warning -/
  bistEnd : Nat
  /-- the channel reset under way ends BIST: class E is lost whatever RETAIN holds (R324) -/
  bistReset : Bool
  /-- the slice corrections of R316: offset, gain, skew, by slice -/
  slices : List (Nat × Int × Int × Int)
  /-- the wear of the working elements whose index is not 0 -/
  wear : List Wear
  denied : List (Nat × Nat)
  exhausted : List (Nat × Nat)
  /-- up to 16 samples of each pool's WEAR, newest first (R323) -/
  hist : Vector (List Nat) 5
  swap : Option Swap
  /-- the substitutions the channel applies -/
  subst : List Subst
  /-- the row that BIST repairs now (R324) -/
  rep : Option Swap
  deriving DecidableEq, Repr

/-- Reference and calibration (R309 to R312): banks A and B of the user trims, the active banks, the image buffer, the
device calibration that runs and the bank copy under way (its channels, and whether the device section is in it). -/
structure CalSt where
  dev : Vector (Nat × Nat) 2
  chans : Vector (Vector Ut3 2) 32
  actDev : Fin 2
  act : Vector (Fin 2) 32
  buf : Mem
  run : Option Nat
  copy : Option (Nat × Bool)
  deriving DecidableEq, Repr

/-- An operation of Heartwood (R355), with what its end needs. -/
inductive HeartOp where
  /-- verification of a submitted image, and the loads of an accepted link image (R351, R179) -/ | submit
  /-- the OTP write of an accepted key-management image: its OP, slot and hash (R352) -/ | keyImage (op slot hash : Nat)
  /-- a report over the fingerprint and FPSEQ of the last fold before it began (R360) -/ | attest (fp seq : Nat)
  /-- R353 -/ | keyProg (slot hash : Nat)
  /-- R356 -/ | deploy
  /-- RETURN: the token check of a Deployed part (R364), with the fingerprint at the command -/ | retTok (fp : Nat)
  /-- RETURN: the OTP writes, with the token's reference and slot and the fingerprint at the command (R357, R358) -/
  | ret (ref slot fp : Nat)
  /-- R357 -/ | scrap
  /-- R354 -/ | rbSet (cnt v : Nat)
  /-- the token check of OPEN (R364) -/ | openTok
  deriving DecidableEq, Repr

/-- An accepted link image while it loads (R179): load address, length, rollback version, capability field, payload, and
the measurement of R361. -/
structure Img where
  addr : Nat
  len : Nat
  rollback : Nat
  cap : Nat
  payload : Mem
  meas : Nat
  deriving DecidableEq, Repr

/-- Heartwood beside its fields (R346 to R361): the operation that runs; the step of R347 reached (0 before step 3, 3 with
the window open, 4 with its end due, 5 after it); the staged payload; the report buffer; and an accepted image with the
channels it has still to load, the one being loaded first. -/
structure HeartSt where
  op : Option HeartOp
  boot : Nat
  data : Mem
  report : Mem
  img : Option Img
  todo : List Ch
  deriving DecidableEq, Repr

/-- The debug controller beside its fields (R362 to R366, R371): reference ticks left of a session with a limit, whether
a trace runs, the trace buffer and the place of its next entry, whether a session has opened since this Boot, and the
sequencer cycles of the traced channel since the last entry. -/
structure DebugSt where
  left : Option Nat
  tracing : Bool
  trace : Mem
  pos : Nat
  opened : Bool
  cyc : Nat
  deriving DecidableEq, Repr

/-- The continuous sweep beside its fields (R270 to R273): the fingerprint, the blocks that have been clocked and powered
since the last completion instant, and those whose comparison was armed before it. -/
structure IntegSt where
  fprint : Nat
  joined : List Blk
  ready : List Blk
  deriving DecidableEq, Repr

/-- The one-time programmable memory (R32, R309, R317, R346). -/
structure Otp where
  step : Nat
  metal : Nat
  xt50 : Nat
  grade : Nat
  did : Nat
  bootrom : Nat
  seqlib : Nat
  /-- factory trims: RREF and VREF, and the channels' -/
  ftDev : Nat × Nat
  ft : Vector Ut3 32
  /-- spare records by channel, oldest first -/
  subst : Vector (List Subst) 32
  /-- repaired data lanes of the host port, by direction (true: receive) and logical lane (R230) -/
  lanes : List (Bool × Nat)
  /-- the identity private key, absent once blanked, and the words of the vendor certificate -/
  idKey : Option Nat
  cert : List Word
  /-- key slots V0 and C0 to C3: 0 empty, all ones blanked; and their revocation bits -/
  slots : Vector Nat 5
  rev : Nat
  rb : Vector Nat 2
  lc : Nat
  /-- the bytes of the return record, none where there is none, and whether its write did not finish (R357) -/
  retrec : List Byte
  recBad : Bool
  vtest : Bool
  /-- a Returned or Scrapped step whose blanking is unfinished (R357) -/
  unfinished : Bool
  deriving DecidableEq, Repr

/-- One MDIO port address (R380, R381, R384): the address register and the prefetched value of each MMD, and the native
window: address halves, staged high half, data latch, AUTOINC, BUSY and the address being read; and the latched WAKE_LINE
of register 30.8002. -/
structure MdPort where
  addrs : Vector Nat 32
  pre : Vector Nat 32
  lo : Nat
  hi : Nat
  stage : Nat
  latch : Nat
  autoinc : Bool
  busy : Bool
  reading : Nat
  wakeLine : Bool
  deriving DecidableEq, Repr

/-- The MDIO frame engine (R375 to R384). -/
structure MgmtSt where
  ports : Vector MdPort 32
  deriving DecidableEq, Repr

/-- The IEEE 1149.1 controller (R385 to R387): the instruction register and what it captured last, the boundary register's
update cells and last sample, the segment-insertion bits, and whether TRST_N holds the TAP in Test-Logic-Reset. -/
structure JtagSt where
  ir : Nat
  cap : Nat
  bnd : BitVec 34
  smp : BitVec 34
  sib : BitVec 33
  trst : Bool
  deriving DecidableEq, Repr

/-- One channel: everything of it that is not a register field. -/
structure Chan where
  sub : SubState
  pst : PState
  pad : Pad
  /-- a channel reset or power-off has begun and not yet taken effect: the posted buffer takes no write (R402) -/
  closing : Bool
  /-- the power-off of step 5 of R298 has begun and waits for the posted writes (R402) -/
  offDue : Bool
  /-- the switch was left open after a failed power-up, until the next vote change (R300) -/
  stuckOff : Bool
  posted : List Posted
  /-- the pending shadows of SH fields (R262) -/
  shadow : List (CFld × Nat)
  line : LineSt
  dsp : DspSt
  rx : DspRun
  link : LinkSt
  seg : SegSt
  diag : DiagSt
  lpi : LpiSt
  seq : SeqSt
  queue : QueueSt
  frame : FrameSt
  graft : GraftSt
  /-- whether word 0 of the first record has been read since it was latched, and which status words have been read
  since their last assertion (R335) -/
  firstRead : Bool
  statRead : List Nat
  deriving DecidableEq, Repr

/-- A dip record being made (R290): the rail that went lowest so far, its minimum voltage in mV, when the first warning
began, and whether the record waits out t_DIPHOLD. -/
structure Dip where
  rail : Nat
  minMv : Nat
  start : Nat
  hold : Bool
  deriving DecidableEq, Repr

/-- A change of the VCORE operating point (R293): its target, whether it raises, whether VID has changed, and whether
PGOOD has been seen low since. -/
structure OpChange where
  target : Nat
  raise : Bool
  sawLow : Bool
  deriving DecidableEq, Repr

/-- A wake that Taproot holds (R303): its cause code, the channel of a line wake and the port of an MDIO wake. -/
structure Wake where
  cause : Nat
  chan : Nat
  prtad : Nat
  /-- when it was recorded: a wake of the same cycle with a lower code takes its place (R303) -/
  time : Nat
  deriving DecidableEq, Repr

/-- Power, supplies, temperature and the mode controller beside their fields (R17 to R19, R289 to R304). -/
structure PowerSt where
  mode : DevMode
  chg : ModeChg
  /-- a wake that qualified after the commit point of Dormant entry, or the wake being served (R302, R303) -/
  wake : Option Wake
  /-- a wake whose qualifying condition holds in the present reference tick (R302 step 1) -/
  wakeNow : Bool
  /-- the warm resets whose cause still holds the part in reset (R18, R304) -/
  held : List RstKind
  /-- waiting for RC_RDY and a good reference on the way to the first Boot (R287) -/
  clockWait : Bool
  /-- rails at or above their warning level (R289) -/
  warn : List Nat
  dip : Option Dip
  /-- the last ten temperature measurements, newest first, quarter degrees (R295) -/
  temps : List Int
  /-- TEMP_HI is in force and t_XTHOT runs -/
  hot : Bool
  opChg : Option OpChange
  /-- the PGOOD pin -/
  pgood : Bool
  /-- the RESET_N pin is low; and the level of WAKE when it was last known, with that tick (R398) -/
  rstLow : Bool
  wakePin : Bool × Nat
  inh : Bool
  deriving DecidableEq, Repr

/-- Clocks beside their fields (R275 to R287). -/
structure ClockSt where
  rcRdy : Bool
  armedA : Bool
  armedB : Bool
  /-- what the monitors report (R284) -/
  okA : Bool
  okB : Bool
  /-- the loops of every PLL are open (R284) -/
  coasting : Bool
  /-- gates that wait for accesses to retire (R282) -/
  gates : List Gate
  deriving DecidableEq, Repr

/-- A sideband message as sent (R341): its vendor ID, its code and two words. -/
structure SbMsg where
  vendor : Nat
  code : Nat
  w0 : Nat
  w1 : Nat
  deriving DecidableEq, Repr

/-- Canopy beside its fields: its time, whether word 0 of the device's first record was read, the device status words
read since their last assertion, and the sideband messages sent. -/
structure CanopySt where
  time : Nat
  firstRead : Bool
  statRead : List Nat
  sbOut : List SbMsg
  deriving DecidableEq, Repr

/-- An Nguid message the part has sent toward the host (R234, R235). -/
inductive OutMsg where
  | frame (c : Ch) (cls : Fin 8) (typ : Nat) (eof : Bool) (flags : Nat) (seq aux data : Nat) (body : List Byte)
  | tstamp (c : Ch) (st : Stamp)
  | creditGrant (c : Ch) (cls : Fin 8) (granted returned : Nat)
  | creditReturn (c : Ch) (cls : Fin 8) (givenBack : Nat)
  | creditResync (c : Ch) (cls : Fin 8) (granted returned : Nat)
  | control (c : Ch) (code tag result snapSeq : Nat)
  | event (c : Ch) (code payload : Nat)
  deriving DecidableEq, Repr

/-- The host port beside its fields (R229 to R250): the state of the link, the messages sent, the
credit state of every channel, the TOD loads that wait, and the round-robin place of R237. -/
structure HostSt where
  ul : ULState
  width32 : Bool
  out : List OutMsg
  pairs : Vector (Vector Pair 8) 32
  tod : List (Nat × Nat × Nat × Nat)
  turn : Nat
  /-- L1_EN as the last link training took it -/
  l1en : Bool
  deriving DecidableEq, Repr

/-- What the last access returned to its source (R256): the value, and whether it met a bus error.
Readings: log entry 55 (DEDUCED). -/
structure BusResp where
  value : Nat
  err : Bool
  deriving DecidableEq, Repr

/-- What the cycle of the command that is being carried out holds beside it: KEYGATE as it stood before the cycle (R264), an
enabled wake source whose condition holds (R302), the device's entry to Safe (R19), a supply warning's start (R315), the
program's `unvote` (R304), the channel's leaving MAINT (R53), and a TREND_CLR (R140). Between commands it holds nothing. -/
structure CycSt where
  gate : Option Bool
  wake : Bool
  toSafe : Bool
  supply : Bool
  unvote : Bool
  leave : Bool
  trClr : Bool
  deriving DecidableEq, Repr

/-- Nothing beside the command. -/
def CycSt.none : CycSt := ⟨.none, false, false, false, false, false, false⟩

/-- The whole part. -/
structure State where
  /-- the commands that wait, first in, first out -/
  pending : List Instr
  /-- every register field that does not hold its reset value -/
  regs : List (Fld × Nat)
  chans : Vector Chan 32
  power : PowerSt
  clock : ClockSt
  canopy : CanopySt
  host : HostSt
  cal : CalSt
  heart : HeartSt
  dbgr : DebugSt
  integ : IntegSt
  otp : Otp
  mgmt : MgmtSt
  jtag : JtagSt
  bus : BusResp
  cyc : CycSt
  /-- reference ticks since the machine began -/
  now : Nat
  /-- the model's own: how many free values have been used -/
  free : Nat
  deriving DecidableEq, Repr

/-! ### The state after reset -/

/-- A credit count from zero (R243). -/
def Cred.init : Cred := ⟨0, 0, 0, 0⟩

/-- A pair before its first resynchronisation (R243). -/
def Pair.init : Pair := ⟨Cred.init, Cred.init, 0, 0, 0, false, 0, false⟩

/-- Frame counts at zero (R226). -/
def Acct.init : Acct := ⟨0, 0, 0, List.replicate 16 0⟩

/-- Empty queues. -/
def QueueSt.init : QueueSt :=
  ⟨.replicate 8 ⟨[], none⟩, .replicate 8 [], none, false, [], false, []⟩

/-- The frame path after its domain's reset (R221: the clock restarts at zero).
Choices: log entry 54 (DESIGN CHOICE). -/
def FrameSt.init : FrameSt :=
  ⟨[], [], none, [], [], [], none, ⟨0, 0, 0, 0⟩, [], [], Acct.init, Acct.init, Acct.init, Acct.init⟩

/-- The AFE and PCS after reset. Choices: log entry 54 (DESIGN CHOICE). -/
def LineSt.init : LineSt := ⟨none, 0, 0, false, 1024, 4, false, 0, [], 0, none, 16, 144, false⟩

/-- A coefficient bank that holds zeros and no window. -/
def Bank.init : Bank := ⟨[], .replicate 8 (false, 0)⟩

/-- The coefficient banks after reset. Choices: log entry 54 (DESIGN CHOICE). -/
def DspSt.init : DspSt := ⟨.replicate 2 Bank.init, 0, 0, false, none⟩

/-- The running DSP after reset: every engine in acquisition (R64). Choices: log entry 54 (DESIGN CHOICE). -/
def DspRun.init : DspRun :=
  { block := 0, phases := .replicate 11 ⟨false, 0⟩, eff := 0, integ := 0, phase := 0, pos := 0, est := [], swept := []
    lastSwept := [], dwell := 0, swapReq := false, restoreReq := false, clrReq := false, snapReq := false, captReq := false
    rebasing := false, winDue := false, placeTap := [], placeAuto := none, copy := none, buf := [], divRun := 0
    lossRun := 0, winN := 0, winErr := 0, winPd := 0, satRun := [], decY := 0, decoded := [], mseSkip := false }

/-- Link control after reset. Choices: log entry 54 (DESIGN CHOICE). -/
def LinkSt.init : LinkSt :=
  { st := .stop, typ := 0, master := false, rootTyp := 0, opWait := false, restart := false, x := .none, shift := none, adv := 0
    vnp := false, pages := [], role := 0, seed := 0, lpBase := none, lpOui := false, xiLast := 0, xiCount := 0, xiConf := 0, swCnt := 0, xiOut := 0
    msg := none, carry := [], onAir := none, sent := [], seen := [], llPma := false, llAn := false }

/-- Segment link control after reset. -/
def SegSt.init : SegSt :=
  { st := .stop, mode := 0, ext := false, term := false, nid := 255, ncnt := 8, toTmr := 32, maxBc := 0, burstTmr := 128, csma := false, coord := false
    plcaOk := false, toPlca := false, cycle := none, att := 0, mark := false, retry := false, back := none
    draws := 0, burst := 0, commit := false, toT0 := 0
    llPma := false, llPcs := false }

/-- Diagnostics after reset. -/
def DiagSt.init : DiagSt :=
  { run := .none, isrTyp := 0, cover := [], prof := [], iv := ⟨false, 0, 0, 0, 0, 0, 0, 0⟩, ivT0 := 0, closed := none, log := []
    raw := [], opTicks := 0, sqi := 0, sqiPend := none, armed := List.replicate 9 true, firstIsr := true }

/-- Low power and sleep after reset. -/
def LpiSt.init : LpiSt := ⟨false, false, none, false, false, 0, 0, 0, false, 0, none, none, []⟩

/-- The sequencer after reset: STOPPED, with cleared memories. Choices: log entry 54 (DESIGN CHOICE). -/
def SeqSt.init : SeqSt :=
  ⟨.stopped, 0, .replicate 16 0, .replicate 4 0, false, false, false, false, [], [], .replicate 8 0, 0, 0, none, false,
    [], none, ⟨0, false, 0, false, none, false⟩, .replicate 4 0, [], [], 0, .none, 0⟩

/-- Trims of zero. -/
def Ut3.init : Ut3 := ⟨0, 0, 0⟩

/-- Spare resources of a channel that is off (R317: the substitutions are loaded at power-up). -/
def GraftSt.init : GraftSt := ⟨Ut3.init, none, [], 0, false, [], [], [], [], .replicate 5 [], none, [], none⟩

/-- What class F clears of the spare resources (R305, R326): wear, history, the request. The substitutions applied, the
trims applied and what was denied or exhausted since power-up stay. -/
def GraftSt.loseF (g : GraftSt) : GraftSt :=
  { g with run := none, bistRows := [], bistEnd := 0, slices := [], wear := [], hist := .replicate 5 [], swap := none, rep := none }

/-- Reference and calibration after a VSUP power-on (R305: class D is lost). -/
def CalSt.init : CalSt :=
  ⟨.replicate 2 (0, 0), .replicate 32 (.replicate 2 Ut3.init), 0, .replicate 32 0, [], none, none⟩

/-- What a warm reset leaves of the calibration state (R305): class D is kept, a command, a copy and the buffer are
not. -/
def CalSt.warm (c : CalSt) : CalSt := { c with buf := [], run := none, copy := none }

/-- The OTP of the part as delivered (R4): no spare used. Its identification and trim values are the model's (log entry
7). Choices: log entry 7 (DESIGN CHOICE). -/
def Otp.init : Otp :=
  { step := 1, metal := 0, xt50 := 0xFF, grade := 1, did := 1, bootrom := 1, seqlib := 1, ftDev := (0, 0)
    ft := .replicate 32 Ut3.init, subst := .replicate 32 [], lanes := []
    idKey := some 1
    cert := [0x54434A46, 1, 1, 0, 0, 0, 0x0715CCCE, 0x72DD1DDC, 0x291C9595, 0x95F08808, 0x4D04B9AD, 0x96D6731B, 0x5D06DFE6, 0xFCD43B68,
      0xF1A46432, 0] ++ List.replicate 16 0
    slots := #v[1, 0, 0, 0, 0], rev := 0, rb := #v[0, 0], lc := 1, retrec := [], recBad := false, vtest := false
    unfinished := false }

/-- Heartwood after reset. -/
def HeartSt.init : HeartSt := ⟨none, 0, [], [], none, []⟩

/-- The debug controller after reset. -/
def DebugSt.init : DebugSt := ⟨none, false, [], 0, false, 0⟩

/-- The MDIO ports after reset. -/
def MgmtSt.init : MgmtSt := ⟨.replicate 32 ⟨.replicate 32 0, .replicate 32 0, 0, 0, 0, 0, false, false, 0, false⟩⟩

/-- The TAP controller in Test-Logic-Reset (R385): IDCODE is selected. -/
def JtagSt.init : JtagSt := ⟨1, 0, 0, 0, 0, false⟩

/-- A channel whose domain is off (R153: its pads are held). Choices: log entry 54 (DESIGN CHOICE). -/
def Chan.init : Chan :=
  { sub := .off, pst := .off, pad := ⟨true, false, false, none⟩, closing := false, offDue := false, stuckOff := false
    posted := []
    shadow := [], line := LineSt.init, dsp := DspSt.init, rx := DspRun.init, link := LinkSt.init, seg := SegSt.init, diag := DiagSt.init
    lpi := LpiSt.init, seq := SeqSt.init, queue := QueueSt.init, frame := FrameSt.init, graft := GraftSt.init
    firstRead := false, statRead := [] }

/-- The part right after a VSUP power-on (R304): in Dormant, with the wake cause POWER_ON pending, every switched domain
off and every pad held (R17, R18, R153). Choices: log entry 54 (DESIGN CHOICE). -/
def State.reset : State :=
  { pending := [], regs := [], chans := .replicate 32 Chan.init
    power := { mode := .dormant, chg := .none, wake := some ⟨1, 0, 0, 0⟩, wakeNow := false, held := [], clockWait := false, warn := [], dip := none
               temps := [], hot := false, opChg := none, pgood := false, rstLow := false, wakePin := (false, 0)
               inh := false }
    clock := ⟨false, false, false, false, false, false, []⟩
    canopy := ⟨0, false, [], []⟩
    host := { ul := .reset, width32 := false, out := [], pairs := .replicate 32 (.replicate 8 Pair.init)
              tod := [], turn := 0, l1en := false }
    cal := CalSt.init, heart := HeartSt.init, dbgr := DebugSt.init, integ := ⟨0, [], []⟩, otp := Otp.init
    mgmt := MgmtSt.init, jtag := JtagSt.init
    bus := ⟨0, false⟩, cyc := CycSt.none, now := 0, free := 0 }

/-! ### Why a step can stop -/

/-- The reasons a step can fault. The model raises none: every access the spec calls an error completes with a bus
error, which is data (R256). -/
inductive Fault where
  deriving DecidableEq, Repr

/-- The reasons a step can be refused. -/
inductive Refusal where
  /-- raised by an arm of `exec` whose command has no meaning yet (safe: the machine stops) -/
  | notModelled (mnemonic : String)
  deriving DecidableEq, Repr

end Sys2Proof.Machine
end

