-- ==== Sys2Proof/Machine/Ops.lean ====
section
/-! DEFINITION. The named operations over registers, channels and byte memories that every meaning uses. -/

namespace Sys2Proof

/-! ### Shift and sleep messages (R98, R149) -/

/-- Octet `i` of a message. -/
def LinkMsg.oct (m : LinkMsg) (i : Nat) : Nat := m.bits.toNat / 256 ^ i % 256

/-- The message identifier. -/
def LinkMsg.id (m : LinkMsg) : Nat := m.oct 2

/-- The message carries the vendor's mark and the identifier `id`; others are ignored. -/
def LinkMsg.is (m : LinkMsg) (id : Nat) : Bool := m.oct 0 = 0xA4 && m.oct 1 = 0xF1 && m.id = id

/-- The transaction identifier. -/
def LinkMsg.tid (m : LinkMsg) : Nat := m.oct 3

/-- The target type code. -/
def LinkMsg.target (m : LinkMsg) : Nat := m.oct 4 % 16

/-- The active type code. -/
def LinkMsg.active (m : LinkMsg) : Nat := m.oct 4 / 16

/-- The reason. -/
def LinkMsg.reason (m : LinkMsg) : Nat := m.oct 5

/-- The switch count. -/
def LinkMsg.f (m : LinkMsg) : Nat := m.oct 6 + 256 * m.oct 7

/-- The message with the given fields. -/
def LinkMsg.build (id tid target active reason f : Nat) : LinkMsg :=
  ⟨BitVec.ofNat 64 (0xF1A4 + id % 256 * 256 ^ 2 + tid % 256 * 256 ^ 3 + (target % 16 + active % 16 * 16) * 256 ^ 4 +
    reason % 256 * 256 ^ 5 + f % 65536 * 256 ^ 6)⟩

/-- The octets of a message, in the order sent. -/
def LinkMsg.octets (m : LinkMsg) : List Byte := (List.range 8).map fun i => BitVec.ofNat 8 (m.oct i)

end Sys2Proof

namespace Sys2Proof.Machine

/-! ### Byte memories -/

/-- The byte at `a`; a byte nothing has written reads 0 (DESIGN CHOICE, log entry 3). -/
def Mem.readByte (m : Mem) (a : Nat) : Byte :=
  match m with
  | [] => 0
  | (b, v) :: t => if a = b then v else Mem.readByte t a

/-- Writes a byte, keeping the canonical form: addresses rising, no entry that holds 0. -/
def Mem.writeByte (m : Mem) (a : Nat) (v : Byte) : Mem :=
  match m with
  | [] => if v = 0 then [] else [(a, v)]
  | (b, w) :: t =>
    if a < b then (if v = 0 then (b, w) :: t else (a, v) :: (b, w) :: t)
    else if a = b then (if v = 0 then t else (a, v) :: t)
    else (b, w) :: Mem.writeByte t a v

/-- Every listed address lies above `lo` and the addresses rise strictly; no entry holds 0. -/
def Mem.wfFrom (lo : Nat) : Mem → Bool
  | [] => true
  | (a, v) :: t => decide (lo ≤ a) && decide (v ≠ 0) && Mem.wfFrom (a + 1) t

/-- The canonical form of a byte memory. -/
def Memory.wf (m : Mem) : Bool := Mem.wfFrom 0 m

/-- The little-endian word at byte address `a` (R8). -/
def Mem.readWord (m : Mem) (a : Nat) : Word :=
  m.readByte (a + 3) ++ m.readByte (a + 2) ++ m.readByte (a + 1) ++ m.readByte a

/-- Writes a little-endian word at byte address `a` (R8). -/
def Mem.writeWord (m : Mem) (a : Nat) (v : Word) : Mem :=
  (((m.writeByte a (v.extractLsb' 0 8)).writeByte (a + 1) (v.extractLsb' 8 8)).writeByte (a + 2)
    (v.extractLsb' 16 8)).writeByte (a + 3) (v.extractLsb' 24 8)

/-- Writes a list of words from byte address `a` up. -/
def Mem.writeWords (m : Mem) (a : Nat) : List Word → Mem
  | [] => m
  | v :: t => Mem.writeWords (m.writeWord a v) (a + 4) t

/-- Keeps only the cells whose address satisfies `p`; the others read 0 again. -/
def Mem.keep (m : Mem) (p : Nat → Bool) : Mem := m.filter fun c => p c.1

/-! ### Register fields -/

/-- The value a field holds. -/
def State.rd (s : State) (f : Fld) : Nat :=
  match s.regs.lookup f with
  | some v => v
  | none => f.reset

/-- Sets a field, truncated to its width. -/
def State.wr (s : State) (f : Fld) (v : Nat) : State :=
  let v' := v % 2 ^ f.info.wid
  let rest := s.regs.filter fun p => p.1 ≠ f
  { s with regs := if v' = f.reset then rest else (f, v') :: rest }

/-- The value of a field of channel `c`. -/
def State.cg (s : State) (c : Ch) (f : CFld) : Nat := s.rd (.ch c f)

/-- Sets a field of channel `c`. -/
def State.cs (s : State) (c : Ch) (f : CFld) (v : Nat) : State := s.wr (.ch c f) v

/-- A one-bit field of channel `c`, as a truth value. -/
def State.cb (s : State) (c : Ch) (f : CFld) : Bool := s.rd (.ch c f) ≠ 0

/-- The value of a field of a device-service block. -/
def State.dg (s : State) (f : DFld) : Nat := s.rd (.dev f)

/-- Sets a field of a device-service block. -/
def State.ds (s : State) (f : DFld) (v : Nat) : State := s.wr (.dev f) v

/-- A one-bit field of a device-service block, as a truth value. -/
def State.db (s : State) (f : DFld) : Bool := s.rd (.dev f) ≠ 0

/-- Adds to a wrapping counter field of channel `c` (R26). -/
def State.cinc (s : State) (c : Ch) (f : CFld) (n : Nat := 1) : State := s.cs c f (s.cg c f + n)

/-- Adds to a wrapping counter field of a device-service block (R26). -/
def State.dinc (s : State) (f : DFld) (n : Nat := 1) : State := s.ds f (s.dg f + n)

/-- 1 for true. -/
def b2n (b : Bool) : Nat := if b then 1 else 0

/-- Sets bits of a field of channel `c`. -/
def State.cor (s : State) (c : Ch) (f : CFld) (m : Nat) : State := s.cs c f (s.cg c f ||| m)

/-- Clears the bits of `m` in a field of channel `c`. -/
def State.candn (s : State) (c : Ch) (f : CFld) (m : Nat) : State := s.cs c f (s.cg c f &&& (s.cg c f ^^^ m))

/-- Sets or clears bit `i` of a value. -/
def setBitTo (v i : Nat) (b : Bool) : Nat := if b then v ||| 2 ^ i else v ^^^ (v &&& 2 ^ i)

/-- The signed value of a `w`-bit field. -/
def sint (w v : Nat) : Int := if v < 2 ^ (w - 1) then (v : Int) else (v : Int) - (2 ^ w : Nat)

/-- A signed value as a `w`-bit field. -/
def rawOf (w : Nat) (i : Int) : Nat := (i % (2 ^ w : Nat)).toNat

/-- A signed value limited to the range of `w` bits. -/
def satS (w : Nat) (i : Int) : Int := max (-(2 ^ (w - 1) : Nat)) (min ((2 ^ (w - 1) : Nat) - 1) i)

/-- Bits `hi` to `lo` of a value. -/
def bits (v hi lo : Nat) : Nat := v / 2 ^ lo % 2 ^ (hi + 1 - lo)

/-- How many of the low 32 bits of a mask are set. -/
def popc (m : Nat) : Nat := ((List.range 32).filter m.testBit).length

/-- The four bytes of a word, lowest address first (R8). -/
def leBytes (v : Nat) : List Byte :=
  [BitVec.ofNat 8 v, BitVec.ofNat 8 (v / 256), BitVec.ofNat 8 (v / 65536), BitVec.ofNat 8 (v / 16777216)]

/-- One bit of the reflected CRC-32C (R270). -/
def crcBit (c : BitVec 32) : BitVec 32 := if c.getLsbD 0 then (c >>> 1) ^^^ 0x82F63B78#32 else c >>> 1

/-- One byte of the reflected CRC-32C (R270). -/
def crcByte (c : BitVec 32) (b : Byte) : BitVec 32 :=
  crcBit (crcBit (crcBit (crcBit (crcBit (crcBit (crcBit (crcBit (c ^^^ b.setWidth 32))))))))

/-- CRC-32C (R270): polynomial 0x1EDC6F41, reflected, initial value and final XOR of all ones. -/
def crc32c (l : List Byte) : Nat := (l.foldl crcByte 0xFFFFFFFF#32 ^^^ 0xFFFFFFFF#32).toNat

/-! ### Channels -/

/-- Channel `c`. -/
def State.ch (s : State) (c : Ch) : Chan := s.chans[c.val]

/-- Changes channel `c`. -/
def State.updCh (s : State) (c : Ch) (g : Chan → Chan) : State :=
  { s with chans := s.chans.set c.val (g s.chans[c.val]) }

/-- Every channel index, ascending. -/
def allCh : List Ch := List.finRange 32

/-- Every class index, highest first. -/
def clsDown : List (Fin 8) := [7, 6, 5, 4, 3, 2, 1, 0]

/-- Every class index, ascending. -/
def clsUp : List (Fin 8) := List.finRange 8

/-- Applies `g` to every channel in ascending order. -/
def State.forCh (s : State) (g : State → Ch → State) : State := allCh.foldl g s

/-- Channel `c`'s domain is powered (R296): its blocks hold state and answer. -/
def State.powered (s : State) (c : Ch) : Bool :=
  match (s.ch c).pst with
  | .on | .draining => true
  | .off | .poweringUp | .poweringDown => false

/-- Channel `c` is a trunk. -/
def isTrunk (c : Ch) : Bool := classOf c = .trunk

/-- Channel `c` is a segment channel. -/
def isSeg (c : Ch) : Bool := classOf c = .segment

/-- Sets bits of `SEQ_SYSEVT` of channel `c`, where it is powered (R173, R299). Bits are numbered as the register's. -/
def State.sysEvt (s : State) (c : Ch) (bit : Nat) : State :=
  if s.powered c then
    match bit with
    | 0 => s.cs c .SEQ_SYSEVT_SUPPLY_WARN 1
    | 1 => s.cs c .SEQ_SYSEVT_SUPPLY_OK 1
    | 2 => s.cs c .SEQ_SYSEVT_OP_DONE 1
    | 3 => s.cs c .SEQ_SYSEVT_TEMP_HI 1
    | 4 => s.cs c .SEQ_SYSEVT_TEMP_OK 1
    | 5 => s.cs c .SEQ_SYSEVT_MODE 1
    | 6 => s.cs c .SEQ_SYSEVT_FAULT 1
    | 7 => s.cs c .SEQ_SYSEVT_REF_LOST 1
    | _ => s
  else s

/-- Sets a `SEQ_SYSEVT` bit of every powered channel. -/
def State.sysEvtAll (s : State) (bit : Nat) : State := s.forCh fun s c => s.sysEvt c bit

/-- PD36 is powered and out of reset, so registers answer. In Dormant it is still powered while entry runs (R302). -/
def State.servicesUp (s : State) : Bool :=
  (match s.power.mode with
    | .off => false
    | .dormant => s.power.chg = .dormantEntry
    | .standby | .boot | .active | .service | .safe | .lockedOut => true)
  && s.power.held.isEmpty && !s.power.clockWait

/-- Heartwood is powered and running (R17, R296): Standby entry takes PD34 before the mode changes (R301). -/
def State.heartOn (s : State) : Bool :=
  s.servicesUp && decide (s.power.chg ≠ .stbyReady) && match s.power.mode with
    | .boot | .active | .service | .safe => true
    | .off | .dormant | .standby | .lockedOut => false

/-- PD34 is powered (R17, R296): in Locked-out too, where Heartwood takes no command (R340). -/
def State.pd34 (s : State) : Bool := s.heartOn || (s.servicesUp && decide (s.power.mode = .lockedOut))

/-- A mask of the channels that satisfy `p`. -/
def chMask (p : Ch → Bool) : Nat := allCh.foldl (fun m c => if p c then m + 2 ^ c.val else m) 0

/-- A next state with no other outcome: the form of almost every meaning. -/
def ok (s : State) : Host.Outcome State Fault Refusal := .next s

/-- Takes a fresh free value of `w` bits: what the spec leaves open (Config). Choices: log entry 5 (DESIGN CHOICE). -/
def State.fresh (s : State) (w : Nat) : Nat × State :=
  ((Config.freeValue s.free).toNat % 2 ^ w, { s with free := s.free + 1 })

/-- An integer quotient whose rounding the spec leaves open: exact where it is whole, and otherwise a free choice of the
two neighbours. Choices: log entry 5 (DESIGN CHOICE). -/
def State.roundFree (s : State) (num : Int) (den : Nat) : Int × State :=
  if num % den = 0 then (num / den, s)
  else
    let r := s.fresh 1
    (num / den + r.1, r.2)

/-- Returns a value to the source of an access (R256). -/
def State.reply (s : State) (v : Nat) : State := { s with bus := ⟨v, false⟩ }

/-- Ends an access with a bus error (R256). Choices: log entry 12 (DESIGN CHOICE). -/
def State.busError (s : State) : State := { s with bus := ⟨0, true⟩ }

/-- Runs `g` in a cycle that holds `k`. -/
def State.inCyc (s : State) (k : CycSt) (g : State → State) : State := { g { s with cyc := k } with cyc := CycSt.none }

end Sys2Proof.Machine
end

