-- ==== Sys2Proof/Machine/Flags.lean ====
section
/-! DEFINITION. The sequencer's arithmetic with the flags it sets (R188, R191, R193). -/

namespace Sys2Proof.Machine

/-- The four flags (R158). -/
structure Flags where
  z : Bool
  n : Bool
  c : Bool
  v : Bool
  deriving DecidableEq, Repr

/-- ZN: Z and N of a result, with C and V cleared (R188). -/
def flagsZN (r : Word) : Flags := ⟨r = 0, r.msb, false, false⟩

/-- An addition with ZNCV (R188). -/
def addZNCV (a b : Word) : Word × Flags :=
  let r := a + b
  (r, ⟨r = 0, r.msb, decide (2 ^ 32 ≤ a.toNat + b.toNat), a.msb == b.msb && r.msb != a.msb⟩)

/-- A subtraction with ZNCV (R188): C is the borrow. -/
def subZNCV (a b : Word) : Word × Flags :=
  let r := a - b
  (r, ⟨r = 0, r.msb, decide (a.toNat < b.toNat), a.msb != b.msb && r.msb != a.msb⟩)

/-- abs (R191): C marks a negative operand and V the most negative one, which gives 0x7FFFFFFF. -/
def absFlags (a : Word) : Word × Flags :=
  let r := if a = 0x80000000#32 then 0x7FFFFFFF#32 else if a.msb then -a else a
  (r, ⟨r = 0, r.msb, a.msb, a = 0x80000000#32⟩)

/-- min as signed values (R191). -/
def minS (a b : Word) : Word := if a.toInt < b.toInt then a else b

/-- max as signed values (R191). -/
def maxS (a b : Word) : Word := if b.toInt < a.toInt then a else b

/-- The signed product of the low halves (R193). -/
def mul16 (a b : Word) : Int := (a.setWidth 16).toInt * (b.setWidth 16).toInt

/-- ZN40 of an accumulator that was to hold `x` (R188): Z and N of the saturated value, V where it saturated. -/
def flagsZN40 (x : Int) : Flags := ⟨satS 40 x = 0, decide (satS 40 x < 0), false, satS 40 x ≠ x⟩

/-- rda (R193): an accumulator shifted right with sign fill and limited to 32 bits. -/
def rdaFlags (a : Int) (sh : Nat) : Word × Flags :=
  let x := a / 2 ^ sh
  let r := BitVec.ofInt 32 (satS 32 x)
  (r, ⟨r = 0, r.msb, false, satS 32 x ≠ x⟩)

end Sys2Proof.Machine
end

