-- ==== Sys2Proof/Machine/Operands.lean ====
section
/-! DEFINITION. The sequencer's instruction words: the fields of the five formats (R184), the opcode map (R186, R191, R193,
R198, R199), the words that are ILLEGAL (R185), and the conditions of format B (R187). -/

namespace Sys2Proof.Machine

/-! ### Fields (R184) -/

/-- Bits `hi` down to `lo` of a word. -/
def wbits (w : Word) (hi lo : Nat) : Nat := bits w.toNat hi lo

/-- op[31:26]. -/
def fOp (w : Word) : Nat := wbits w 31 26

/-- d[25:22] of formats A, I and P. -/
def fD (w : Word) : Fin 16 := Fin.ofNat 16 (wbits w 25 22)

/-- a[21:18] of formats A, I and B. -/
def fA (w : Word) : Fin 16 := Fin.ofNat 16 (wbits w 21 18)

/-- b[17:14] of format A. -/
def fB (w : Word) : Fin 16 := Fin.ofNat 16 (wbits w 17 14)

/-- sub[13:8] of format A. -/
def fSub (w : Word) : Nat := wbits w 13 8

/-- zero[7:0] of format A. -/
def fZero (w : Word) : Nat := wbits w 7 0

/-- imm18 of format I and offset18 of format B, in two's complement. -/
def fImm (w : Word) : Int := sint 18 (wbits w 17 0)

/-- imm18 sign-extended to 32 bits (R192). -/
def fSext (w : Word) : Word := BitVec.ofInt 32 (fImm w)

/-- cond[25:22] of format B. -/
def fCond (w : Word) : Nat := wbits w 25 22

/-- port[21:16] of format P. -/
def fPort (w : Word) : Nat := wbits w 21 16

/-- index[15:0] of format P. -/
def fIndex (w : Word) : Nat := wbits w 15 0

/-- mask[25:18] of format W. -/
def fMask (w : Word) : Nat := wbits w 25 18

/-- timeout[17:0] of format W. -/
def fTime (w : Word) : Nat := wbits w 17 0

/-! ### Words (R184) -/

/-- A word of format A. -/
def wordA (op : Nat) (d a b : Fin 16) (sub : Nat) : Word :=
  BitVec.ofNat 32 (op * 2 ^ 26 + d.val * 2 ^ 22 + a.val * 2 ^ 18 + b.val * 2 ^ 14 + sub * 2 ^ 8)

/-- A word of format I; of format B with the condition in `d`. -/
def wordI (op : Nat) (d a : Fin 16) (imm : Int) : Word :=
  BitVec.ofNat 32 (op * 2 ^ 26 + d.val * 2 ^ 22 + a.val * 2 ^ 18 + rawOf 18 imm)

/-- A word of format P. -/
def wordP (op : Nat) (d : Fin 16) (port index : Nat) : Word :=
  BitVec.ofNat 32 (op * 2 ^ 26 + d.val * 2 ^ 22 + port * 2 ^ 16 + index)

/-- A word of format W. -/
def wordW (op mask timeout : Nat) : Word := BitVec.ofNat 32 (op * 2 ^ 26 + mask * 2 ^ 18 + timeout)

/-! ### The opcode map -/

/-- The mnemonics of the instruction set. -/
inductive Mn where
  | add | sub | and | or | xor | shl | shr | sar | min | max | abs | cmp | mov
  | mac | msu | clra | rda | tset | raise | post | commit | halt
  | addi | andi | ori | cmpi | movi | movh | ld | st | loop | vote | unvote
  | br | call | ret | prd | pwr | wait | frz | thw
  deriving DecidableEq, Repr

/-- The mnemonic that op and sub select (R186, R191, R193, R198, R199); `none` where they select nothing. -/
def mnOf (w : Word) : Option Mn :=
  match fOp w with
  | 0x00 => match fSub w with
    | 0x00 => some .add | 0x01 => some .sub | 0x02 => some .and | 0x03 => some .or | 0x04 => some .xor
    | 0x05 => some .shl | 0x06 => some .shr | 0x07 => some .sar | 0x08 => some .min | 0x09 => some .max
    | 0x0A => some .abs | 0x0B => some .cmp | 0x0C => some .mov
    | _ => none
  | 0x01 => match fSub w with
    | 0x00 => some .mac | 0x01 => some .msu | 0x02 => some .clra | 0x03 => some .rda
    | _ => none
  | 0x02 => if fSub w = 0 then some .tset else none
  | 0x03 => match fSub w with
    | 0x00 => some .raise | 0x01 => some .post | 0x02 => some .commit | 0x03 => some .halt
    | _ => none
  | 0x04 => some .addi | 0x05 => some .andi | 0x06 => some .ori | 0x07 => some .cmpi | 0x08 => some .movi
  | 0x09 => some .movh | 0x0A => some .ld | 0x0B => some .st | 0x0C => some .loop | 0x0D => some .vote
  | 0x0E => some .unvote | 0x10 => some .br | 0x11 => some .call | 0x12 => some .ret
  | 0x18 => some .prd | 0x19 => some .pwr | 0x1C => some .wait | 0x1D => some .frz | 0x1E => some .thw
  | _ => none

/-- The op of a mnemonic, and its sub in format A (R186, R191, R193, R198, R199). -/
def Mn.code : Mn → Nat × Option Nat
  | .add => (0x00, some 0x00) | .sub => (0x00, some 0x01) | .and => (0x00, some 0x02) | .or => (0x00, some 0x03)
  | .xor => (0x00, some 0x04) | .shl => (0x00, some 0x05) | .shr => (0x00, some 0x06) | .sar => (0x00, some 0x07)
  | .min => (0x00, some 0x08) | .max => (0x00, some 0x09) | .abs => (0x00, some 0x0A) | .cmp => (0x00, some 0x0B)
  | .mov => (0x00, some 0x0C)
  | .mac => (0x01, some 0x00) | .msu => (0x01, some 0x01) | .clra => (0x01, some 0x02) | .rda => (0x01, some 0x03)
  | .tset => (0x02, some 0x00)
  | .raise => (0x03, some 0x00) | .post => (0x03, some 0x01) | .commit => (0x03, some 0x02) | .halt => (0x03, some 0x03)
  | .addi => (0x04, none) | .andi => (0x05, none) | .ori => (0x06, none) | .cmpi => (0x07, none) | .movi => (0x08, none)
  | .movh => (0x09, none) | .ld => (0x0A, none) | .st => (0x0B, none) | .loop => (0x0C, none) | .vote => (0x0D, none)
  | .unvote => (0x0E, none) | .br => (0x10, none) | .call => (0x11, none) | .ret => (0x12, none)
  | .prd => (0x18, none) | .pwr => (0x19, none) | .wait => (0x1C, none) | .frz => (0x1D, none) | .thw => (0x1E, none)

/-- A word of its mnemonic is well formed: every field its table marks 0 is 0, and the other conditions of R185 hold. -/
def legal (m : Mn) (w : Word) : Bool :=
  let z := fZero w = 0
  let d0 := fD w = 0
  let a0 := fA w = 0
  let b0 := fB w = 0
  match m with
  | .add | .sub | .and | .or | .xor | .shl | .shr | .sar | .min | .max => z
  | .abs | .mov => z && b0
  | .cmp => z && d0
  | .mac | .msu => z && (fD w).val ≤ 3
  | .clra => z && (fD w).val ≤ 3 && a0 && b0
  | .rda => z && (fA w).val ≤ 3
  | .tset => z && b0
  | .raise => z && d0 && b0
  | .post => z && d0
  | .commit | .halt => z && d0 && a0 && b0
  | .addi | .andi | .ori | .ld | .st => true
  | .cmpi => d0
  | .movi => a0
  | .movh => a0 && wbits w 17 16 = 0
  | .loop => d0 && decide (1 ≤ fImm w)
  | .vote | .unvote => d0 && a0
  | .br | .call => fCond w ≠ 15
  | .ret => fCond w ≠ 15 && a0 && wbits w 17 0 = 0
  | .prd | .pwr | .wait => true
  | .frz | .thw => fTime w = 0

/-- The condition of format B holds (R187); code 15 never reaches this. -/
def condHolds (k : Nat) (z n c v : Bool) : Bool :=
  match k with
  | 0 => z
  | 1 => !z
  | 2 => n != v
  | 3 => n == v
  | 4 => !z && n == v
  | 5 => z || n != v
  | 6 => c
  | 7 => !c
  | 8 => !c && !z
  | 9 => c || z
  | 10 => n
  | 11 => !n
  | 12 => v
  | 13 => !v
  | _ => true

end Sys2Proof.Machine
end

