-- ==== Sys2Proof/Machine/Coding.lean ====
section
/-! DEFINITION. The coding of XT50 on the line (R39 to R45), as functions of what is sent: no command of the part carries
line symbols, so that of these `exec` uses the OAM field that is sent and the CRCs of received fields (log entry 44). -/

namespace Sys2Proof.Machine

/-- What a slot of an XT50 superframe carries (R39). -/
inductive XtSlot where
  | marker | oam (i : Nat) | reserved | data
  deriving DecidableEq, Repr

/-- The slot `k` of codeword `w` (R39). -/
def xtSlot (w k : Nat) : XtSlot :=
  if w ≠ 0 then .data else
  if k = 0 then .marker else if k ≤ 4 then .oam (k - 1) else if k ≤ 9 then .reserved else .data

/-- The slot is scrambled: every one but the marker (R39, R40). -/
def XtSlot.scrambled (t : XtSlot) : Bool := t ≠ .marker

/-- One payload bit through the transmit scrambler x^58 + x^39 + 1, whose state holds the last 58 scrambled bits, newest
in bit 0 (R40). Readings: log entry 44 (DEDUCED). -/
def scrBit (q : BitVec 58) (b : Bool) : BitVec 58 × Bool :=
  let o := (b ^^ q.getLsbD 38) ^^ q.getLsbD 57
  ((q <<< 1) ||| (if o then 1 else 0), o)

/-- One received bit through the descrambler of R40. -/
def descrBit (q : BitVec 58) (o : Bool) : BitVec 58 × Bool :=
  ((q <<< 1) ||| (if o then 1 else 0), (o ^^ q.getLsbD 38) ^^ q.getLsbD 57)

/-- The payload bits of the scrambled slots in order, scrambled (R40). -/
def scrBits : BitVec 58 → List Bool → List Bool
  | _, [] => []
  | q, b :: l => (scrBit q b).2 :: scrBits (scrBit q b).1 l

/-- What the descrambler makes of scrambled bits (R40). -/
def descrBits : BitVec 58 → List Bool → List Bool
  | _, [] => []
  | q, o :: l => (descrBit q o).2 :: descrBits (descrBit q o).1 l

/-! ### Forward error correction (R41) -/

/-- A symbol of GF(2^10). -/
abbrev Gf := BitVec 10

/-- A field element times alpha, modulo x^10 + x^3 + 1 (R41). -/
def gfX (a : Gf) : Gf := if a.msb then (a <<< 1) ^^^ 9#10 else a <<< 1

/-- The product in GF(2^10), the ten bits of `b` from the highest (R41). -/
def gfMul (a b : Gf) : Gf :=
  [9, 8, 7, 6, 5, 4, 3, 2, 1, 0].foldl (fun p i => if b.getLsbD i then gfX p ^^^ a else gfX p) 0#10

/-- A power of alpha. -/
def gfPow : Nat → Gf
  | 0 => 1#10
  | n + 1 => gfX (gfPow n)

/-- A polynomial, lowest coefficient first, times (x - r). -/
def polyRoot (p : List Gf) (r : Gf) : List Gf :=
  List.zipWith (· ^^^ ·) (0#10 :: p) (p.map (gfMul r) ++ [0#10])

/-- The generator polynomial with the roots alpha^0 to alpha^29 (R41), lowest coefficient first. -/
def rsGen : List Gf := ((List.range 30).map gfPow).foldl polyRoot [1#10]

/-- A message symbol through the encoder: the remainder, lowest coefficient first, modulo the generator polynomial. -/
def rsStep (g : List Gf) (r : List Gf) (m : Gf) : List Gf :=
  let f := m ^^^ r.getLastD 0#10
  List.zipWith (· ^^^ ·) (0#10 :: r.dropLast) ((g.take 30).map (gfMul f))

/-- The 30 parity symbols of a codeword, as sent after its 514 message symbols (R41). Message symbol 0 is the highest
coefficient (DEDUCED, log entry 44). -/
def rsParity (m : List Gf) : List Gf := (m.foldl (rsStep rsGen) (.replicate 30 0#10)).reverse

/-- A codeword (R41). -/
def rsCodeword (m : List Gf) : List Gf := m ++ rsParity m

/-! ### Symbol mapping (R42) -/

/-- The values v of the five PAM-4 symbols of an RS symbol, low bits first (R42). -/
def pamVals (x : Gf) : List (Fin 4) :=
  [0, 1, 2, 3, 4].map fun i => ⟨2 * b2n (x.getLsbD (2 * i + 1)) + b2n (x.getLsbD (2 * i)), by
    unfold b2n; split <;> split <;> omega⟩

/-- The Gray code of R42. -/
def pamLevel (v : Fin 4) : Int := match v with | 0 => -3 | 1 => -1 | 2 => 3 | 3 => 1

/-- The transmit precoder of R42 on one value: setting 0 off, 1 for 1/(1+D), 2 for 1/(1-D), both modulo 4. -/
def precode (m : Nat) (y v : Fin 4) : Fin 4 := if m = 1 then v - y else if m = 2 then v + y else v

/-- The levels of a superframe's values: the precoder's state is 0 at the first symbol (R42).
Readings: log entry 44 (DEDUCED). -/
def pamLevels (m : Nat) : Fin 4 → List (Fin 4) → List Int
  | _, [] => []
  | y, v :: l => pamLevel (precode m y v) :: pamLevels m (precode m y v) l

/-! ### Alignment marker and OAM field (R43, R44) -/

/-- The bits of the word of the marker, bit 0 first. -/
def markerWord (inv : Bool) : List Bool :=
  (List.range 64).map fun i => (0x9E3C7A15C84B26D1#64).getLsbD i ^^ inv

/-- The 257 bits of the alignment marker, header bit first (R43). Readings: log entry 44 (DEDUCED). -/
def marker : List Bool := false :: (markerWord false ++ markerWord true ++ markerWord false ++ markerWord true)

/-- In how many bits 257 received bits differ from the marker: what ALIGNMENT_SEARCH carries (R43). -/
def markerDiff (l : List Bool) : Nat := (List.zipWith (fun a b => b2n (a ^^ b)) l marker).sum

/-- The OAM field a transmitter sends (R44): its superframe count, flags, and a message of at most 116 octets.
Readings: log entry 44 (DEDUCED). -/
def oamField (sfc : BitVec 16) (flags : Byte) (msg : List Byte) : List Byte :=
  let body := [sfc.setWidth 8, (sfc >>> 8).setWidth 8, flags, BitVec.ofNat 8 msg.length] ++ msg ++
    List.replicate (116 - msg.length) 0 ++ List.replicate 4 0
  body ++ leBytes (crc32c body)

/-! ### The training signal (R45) -/

/-- One step of a training scrambler, whose state holds its last 33 output bits, newest in bit 0 (R45).
Readings: log entry 44 (DEDUCED). -/
def trainBit (master : Bool) (q : BitVec 33) : BitVec 33 × Bool :=
  let o := q.getLsbD 32 ^^ q.getLsbD (if master then 12 else 19)
  ((q <<< 1) ||| (if o then 1 else 0), o)

/-- A training level (R45). -/
def pam2 (b : Bool) : Int := if b then 3 else -3

/-- One bit through the CRC of R45. -/
def crc16Bit (q : BitVec 16) (b : Bool) : BitVec 16 :=
  if q.msb ^^ b then (q <<< 1) ^^^ 0x1021#16 else q <<< 1

/-- The CRC of the 192 bits of an infofield, bit 0 first (R45). -/
def crc16 (l : List Bool) : BitVec 16 := l.foldl crc16Bit 0xFFFF#16

/-- The 256 symbols of an infofield (R45): delimiter, bits, CRC and the alternating end. The CRC goes out from its highest
coefficient (PRESUMED, log entry 44). -/
def infoSymbols (info : BitVec 192) : List Int :=
  let bs := (List.range 192).map fun i => info.getLsbD i
  List.replicate 16 3 ++ List.replicate 16 (-3) ++ bs.map pam2 ++
    ((List.range 16).map fun i => pam2 ((crc16 bs).getLsbD (15 - i))) ++
    (List.range 16).map fun i => pam2 (i % 2 = 1)

end Sys2Proof.Machine
end

