-- ==== Sys2Proof/Machine/Crypto.lean ====
section
/-! DEFINITION. The hash and the signatures of Heartwood (R350, R351, R361, R363, R364): SHA-512 and pure Ed25519. The spec
names them by their standards, FIPS 180-4 and RFC 8032, and does not restate them (PRESUMED, log entry 6). -/

namespace Sys2Proof.Machine

/-- `n` bytes of a value, least significant first. -/
def leN (n v : Nat) : List Byte := (List.range n).map fun i => BitVec.ofNat 8 (v / 256 ^ i)

/-- The value of a list of bytes, least significant first. -/
def ofLe (l : List Byte) : Nat := l.foldr (fun b a => b.toNat + 256 * a) 0

/-! ### SHA-512 -/

/-- 2^64. -/
def m64 : Nat := 2 ^ 64

/-- A 64-bit value rotated right. -/
def rotr64 (n x : Nat) : Nat := x / 2 ^ n + x % 2 ^ n * 2 ^ (64 - n)

/-- The round constants of SHA-512. -/
def shaK : List Nat :=
  [0x428a2f98d728ae22, 0x7137449123ef65cd, 0xb5c0fbcfec4d3b2f, 0xe9b5dba58189dbbc, 0x3956c25bf348b538,
    0x59f111f1b605d019, 0x923f82a4af194f9b, 0xab1c5ed5da6d8118, 0xd807aa98a3030242, 0x12835b0145706fbe,
    0x243185be4ee4b28c, 0x550c7dc3d5ffb4e2, 0x72be5d74f27b896f, 0x80deb1fe3b1696b1, 0x9bdc06a725c71235,
    0xc19bf174cf692694, 0xe49b69c19ef14ad2, 0xefbe4786384f25e3, 0x0fc19dc68b8cd5b5, 0x240ca1cc77ac9c65] ++
   [0x2de92c6f592b0275, 0x4a7484aa6ea6e483, 0x5cb0a9dcbd41fbd4, 0x76f988da831153b5, 0x983e5152ee66dfab,
    0xa831c66d2db43210, 0xb00327c898fb213f, 0xbf597fc7beef0ee4, 0xc6e00bf33da88fc2, 0xd5a79147930aa725,
    0x06ca6351e003826f, 0x142929670a0e6e70, 0x27b70a8546d22ffc, 0x2e1b21385c26c926, 0x4d2c6dfc5ac42aed,
    0x53380d139d95b3df, 0x650a73548baf63de, 0x766a0abb3c77b2a8, 0x81c2c92e47edaee6, 0x92722c851482353b] ++
   [0xa2bfe8a14cf10364, 0xa81a664bbc423001, 0xc24b8b70d0f89791, 0xc76c51a30654be30, 0xd192e819d6ef5218,
    0xd69906245565a910, 0xf40e35855771202a, 0x106aa07032bbd1b8, 0x19a4c116b8d2d0c8, 0x1e376c085141ab53,
    0x2748774cdf8eeb99, 0x34b0bcb5e19b48a8, 0x391c0cb3c5c95a63, 0x4ed8aa4ae3418acb, 0x5b9cca4f7763e373,
    0x682e6ff3d6b2b8a3, 0x748f82ee5defb2fc, 0x78a5636f43172f60, 0x84c87814a1f0ab72, 0x8cc702081a6439ec] ++
   [0x90befffa23631e28, 0xa4506cebde82bde9, 0xbef9a3f7b2c67915, 0xc67178f2e372532b, 0xca273eceea26619c,
    0xd186b8c721c0c207, 0xeada7dd6cde0eb1e, 0xf57d4f7fee6ed178, 0x06f067aa72176fba, 0x0a637dc5a2c898a6,
    0x113f9804bef90dae, 0x1b710b35131c471b, 0x28db77f523047d84, 0x32caab7b40c72493, 0x3c9ebe0a15c9bebc,
    0x431d67c49c100d4c, 0x4cc5d4becb3e42b6, 0x597f299cfc657e2a, 0x5fcb6fab3ad6faec, 0x6c44198c4a475817]

/-- The eight words of a SHA-512 state. -/
structure ShaSt where
  a : Nat
  b : Nat
  c : Nat
  d : Nat
  e : Nat
  f : Nat
  g : Nat
  h : Nat
  deriving DecidableEq, Repr

/-- The initial state. -/
def ShaSt.init : ShaSt :=
  ⟨0x6a09e667f3bcc908, 0xbb67ae8584caa73b, 0x3c6ef372fe94f82b, 0xa54ff53a5f1d36f1,
    0x510e527fade682d1, 0x9b05688c2b3e6c1f, 0x1f83d9abfb41bd6b, 0x5be0cd19137e2179⟩

/-- One round with its constant and its schedule word. -/
def ShaSt.round (s : ShaSt) (k w : Nat) : ShaSt :=
  let s1 := rotr64 14 s.e ^^^ rotr64 18 s.e ^^^ rotr64 41 s.e
  let ch := (s.e &&& s.f) ^^^ ((m64 - 1 - s.e) &&& s.g)
  let t := s.h + s1 + ch + k + w
  let s0 := rotr64 28 s.a ^^^ rotr64 34 s.a ^^^ rotr64 39 s.a
  let maj := (s.a &&& s.b) ^^^ (s.a &&& s.c) ^^^ (s.b &&& s.c)
  ⟨(t + s0 + maj) % m64, s.a, s.b, s.c, (s.d + t) % m64, s.e, s.f, s.g⟩

/-- The next schedule word, from the words so far, newest first. -/
def shaNext (l : List Nat) : Nat :=
  let x := l.getD 1 0
  let y := l.getD 14 0
  let s1 := rotr64 19 x ^^^ rotr64 61 x ^^^ (x / 64)
  let s0 := rotr64 1 y ^^^ rotr64 8 y ^^^ (y / 128)
  (l.getD 15 0 + s0 + l.getD 6 0 + s1) % m64

/-- The schedule of a block from its 16 words, newest first. -/
def shaSched (w : List Nat) : List Nat := (List.range 64).foldl (fun l _ => shaNext l :: l) w.reverse

/-- The value of a list of bytes, most significant first. -/
def ofBe (l : List Byte) : Nat := l.foldl (fun a b => a * 256 + b.toNat) 0

/-- One block of 128 bytes. -/
def ShaSt.block (s : ShaSt) (b : List Byte) : ShaSt :=
  let w := (List.range 16).map fun i => ofBe ((b.drop (8 * i)).take 8)
  let t := (List.zip shaK (shaSched w).reverse).foldl (fun s x => s.round x.1 x.2) s
  ⟨(s.a + t.a) % m64, (s.b + t.b) % m64, (s.c + t.c) % m64, (s.d + t.d) % m64, (s.e + t.e) % m64, (s.f + t.f) % m64,
    (s.g + t.g) % m64, (s.h + t.h) % m64⟩

/-- `n` blocks of a padded message. -/
def ShaSt.blocks : Nat → ShaSt → List Byte → ShaSt
  | 0, s, _ => s
  | n + 1, s, l => ShaSt.blocks n (s.block (l.take 128)) (l.drop 128)

/-- `n` bytes of a value, most significant first. -/
def beN (n v : Nat) : List Byte := (leN n v).reverse

/-- SHA-512 of a message: 64 bytes. -/
def sha512 (m : List Byte) : List Byte :=
  let n := (m.length + 17 + 127) / 128
  let p := m ++ [0x80] ++ List.replicate (128 * n - m.length - 17) 0 ++ beN 16 (8 * m.length)
  let s := ShaSt.blocks n ShaSt.init p
  [s.a, s.b, s.c, s.d, s.e, s.f, s.g, s.h].flatMap fun x => beN 8 x

/-! ### Ed25519 -/

/-- The prime of the field. -/
def edP : Nat := 2 ^ 255 - 19

/-- The order of the base point. -/
def edL : Nat := 2 ^ 252 + 27742317777372353535851937790883648493

/-- The power of a residue; `n` bounds the bits of the exponent. -/
def powMod (m : Nat) : Nat → Nat → Nat → Nat
  | 0, _, _ => 1 % m
  | n + 1, b, e =>
    let h := powMod m n (b * b % m) (e / 2)
    if e % 2 = 1 then h * b % m else h

/-- The inverse in the field. -/
def edInv (x : Nat) : Nat := powMod edP 255 x (edP - 2)

/-- A difference in the field. -/
def edSub (x y : Nat) : Nat := (x + edP - y % edP) % edP

/-- The constant d of the curve: -121665/121666. -/
def edD : Nat := 37095705934669439343138083508754565189542113879843219016388785533085940283555

/-- A point in extended coordinates. -/
structure EdPt where
  x : Nat
  y : Nat
  z : Nat
  t : Nat
  deriving DecidableEq, Repr

/-- The neutral point. -/
def EdPt.zero : EdPt := ⟨0, 1, 1, 0⟩

/-- The sum of two points. -/
def EdPt.add (p q : EdPt) : EdPt :=
  let a := edSub p.y p.x * edSub q.y q.x % edP
  let b := (p.y + p.x) * (q.y + q.x) % edP
  let c := 2 * p.t * q.t * edD % edP
  let d := 2 * p.z * q.z % edP
  let e := edSub b a
  let f := edSub d c
  let g := d + c
  let h := b + a
  ⟨e * f % edP, g * h % edP, f * g % edP, e * h % edP⟩

/-- A multiple of a point; `n` bounds the bits of the factor. -/
def EdPt.mul : Nat → Nat → EdPt → EdPt
  | 0, _, _ => EdPt.zero
  | n + 1, k, p =>
    let r := EdPt.mul n (k / 2) (p.add p)
    if k % 2 = 1 then r.add p else r

/-- Two points are the same. -/
def EdPt.same (p q : EdPt) : Bool :=
  p.x * q.z % edP = q.x * p.z % edP && p.y * q.z % edP = q.y * p.z % edP

/-- The x coordinate that belongs to a y coordinate with the given parity, where there is one. -/
def edX (y : Nat) (odd : Bool) : Option Nat :=
  if edP ≤ y then none else
  let x2 := edSub (y * y) 1 * edInv (edD * y * y + 1) % edP
  if x2 = 0 then (if odd then none else some 0) else
  let r := powMod edP 255 x2 ((edP + 3) / 8)
  let x := if r * r % edP = x2 then r else r * powMod edP 255 2 ((edP - 1) / 4) % edP
  if x * x % edP ≠ x2 then none
  else some (if (x % 2 = 1) = (odd = true) then x else edP - x)

/-- The point that 32 bytes encode. -/
def edDecode (l : List Byte) : Option EdPt :=
  let v := ofLe l
  let y := v % 2 ^ 255
  (edX y (decide (2 ^ 255 ≤ v))).map fun x => ⟨x, y, 1, x * y % edP⟩

/-- The 32 bytes of a point. -/
def EdPt.encode (p : EdPt) : List Byte :=
  let i := edInv p.z
  leN 32 (p.y * i % edP + p.x * i % edP % 2 * 2 ^ 255)

/-- The base point. -/
def edBase : EdPt :=
  let x := 15112221349535400772501151409588531511454012693041857206046113283949847762202
  let y := 46316835694926478169428394003475163141307993866256225615783033603165251855960
  ⟨x, y, 1, x * y % edP⟩

/-- Ed25519 verification of a signature of 64 bytes over a message, under a public key of 32 bytes. -/
def edVerify (pub msg sig : List Byte) : Bool :=
  let rs := sig.take 32
  let k := ofLe (sig.drop 32)
  match edDecode pub, edDecode rs with
  | some a, some r =>
    let h := ofLe (sha512 (rs ++ pub ++ msg)) % edL
    decide (k < edL) && (EdPt.mul 253 k edBase).same (r.add (EdPt.mul 253 h a))
  | _, _ => false

/-- The secret scalar of a private key of 32 bytes. -/
def edScalar (h : List Byte) : Nat := ofLe (h.take 32) % 2 ^ 254 / 8 * 8 + 2 ^ 254

/-- The Ed25519 signature of a message by a private key of 32 bytes. -/
def edSign (key msg : List Byte) : List Byte :=
  let h := sha512 key
  let a := edScalar h
  let pub := (EdPt.mul 255 a edBase).encode
  let r := ofLe (sha512 (h.drop 32 ++ msg)) % edL
  let rs := (EdPt.mul 253 r edBase).encode
  let k := ofLe (sha512 (rs ++ pub ++ msg)) % edL
  rs ++ leN 32 ((r + k * a) % edL)

end Sys2Proof.Machine
end

