-- ==== Sys2Proof/Machine/Credits.lean ====
section
/-! DEFINITION. Frame accounting (R24, R225, R226), credits (R239 to R241, R243) and the discarding of queued frames
(R246 to R248), as operations that the frame path, the host port, drains and resets share. -/

namespace Sys2Proof.Machine

/-- 2^32, the modulus of every 32-bit count. -/
def m32 : Nat := 4294967296

/-- `a - b` modulo 2^32. -/
def sub32 (a b : Nat) : Nat := (a + (m32 - b % m32)) % m32

/-! ### Accounting -/

/-- Counts one accepted frame: it is resident until delivered or discarded (R24). -/
def Acct.accept (a : Acct) : Acct :=
  { a with accepted := (a.accepted + 1) % m32, resident := (a.resident + 1) % m32 }

/-- Counts one delivered frame (R24). -/
def Acct.deliver (a : Acct) : Acct :=
  { a with delivered := (a.delivered + 1) % m32, resident := sub32 a.resident 1 }

/-- Counts `n` frames discarded under reason `r` (R225). -/
def Acct.discard (a : Acct) (r : Nat) (n : Nat := 1) : Acct :=
  { a with disc := a.disc.set r ((a.disc.getD r 0 + n) % m32), resident := sub32 a.resident n }

/-- Changes the queues of channel `c`. -/
def State.updQ (s : State) (c : Ch) (g : QueueSt → QueueSt) : State :=
  s.updCh c fun x => { x with queue := g x.queue }

/-- Changes the frame path of channel `c`. -/
def State.updF (s : State) (c : Ch) (g : FrameSt → FrameSt) : State :=
  s.updCh c fun x => { x with frame := g x.frame }

/-- Changes the live egress counts of channel `c`. -/
def State.acctEg (s : State) (c : Ch) (g : Acct → Acct) : State := s.updF c fun f => { f with egLive := g f.egLive }

/-- Changes the live ingress counts of channel `c`. -/
def State.acctIn (s : State) (c : Ch) (g : Acct → Acct) : State := s.updF c fun f => { f with inLive := g f.inLive }

/-! ### Cells and credits -/

/-- The cells, and tokens, that `n` octets take (R239). -/
def cellsOf (n : Nat) : Nat := (n + 63) / 64

/-- The cells of a channel's buffer, one figure per direction (R254). -/
def bufferCells (c : Ch) : Nat :=
  match classOf c with | .trunk => 4096 | .branch => 1024 | .segment => 256

/-- The credit state of channel `c` and class `k`. -/
def State.pair (s : State) (c : Ch) (k : Fin 8) : Pair := s.host.pairs[c.val][k.val]

/-- Changes the credit state of channel `c` and class `k`. -/
def State.updPair (s : State) (c : Ch) (k : Fin 8) (g : Pair → Pair) : State :=
  { s with host := { s.host with
      pairs := s.host.pairs.set c.val (s.host.pairs[c.val].set k.val (g s.host.pairs[c.val][k.val])) } }

/-- Tokens issued and not come back (R239). -/
def Cred.outstanding (d : Cred) : Nat := sub32 d.granted d.returned

/-- Tokens the holder has neither spent nor given back (R239). -/
def Cred.unspent (d : Cred) : Nat := sub32 d.granted ((d.spent + d.givenBack) % m32)

/-- The cells the egress queue of a class holds, the frame on the line included. -/
def QueueSt.egCells (q : QueueSt) (k : Fin 8) : Nat :=
  (q.eg[k.val].frames.map EgFrame.cells).sum +
    match q.line with | some l => if l.cls = k then l.frame.cells else 0 | none => 0

/-- The cells an ingress frame still holds: those of octets not yet sent to the host. -/
def InFrame.cells (f : InFrame) : Nat := cellsOf f.octets.length - (f.sent.getD 0) / 64

/-- The cells the ingress queue of a class holds. -/
def QueueSt.inCells (q : QueueSt) (k : Fin 8) : Nat := (q.ing[k.val].map InFrame.cells).sum

/-- Egress cells that neither hold data nor are promised to an unspent token (R241). -/
def State.egFree (s : State) (c : Ch) : Nat :=
  bufferCells c - (clsUp.map fun k => (s.pair c k).eg.outstanding).sum

/-- Free ingress cells (R242). -/
def State.inFree (s : State) (c : Ch) : Nat :=
  bufferCells c - (clsUp.map fun k => (s.ch c).queue.inCells k).sum

/-- The part of class `k`'s reservation that its outstanding credit does not yet meet (R241). -/
def State.unmetRsv (s : State) (c : Ch) (k : Fin 8) : Nat :=
  s.cg c (.Q_EGCLS_RSV k.val) - (s.pair c k).eg.outstanding

/-- The UCIe link reaches ACTIVE (R253). -/
def State.hostActive (s : State) : State :=
  { s with host := { s.host with ul := .active } }.ds .HOST_EVT_ACTIVE 1

/-- Sends a message toward the host. In L1 the part leaves L1 of its own for it (R232). -/
def State.send (s : State) (m : OutMsg) : State :=
  let s := match s.host.ul with
    | .l1 => (s.ds .HOST_EVT_L1_EXIT 1).hostActive
    | _ => s
  { s with host := { s.host with out := s.host.out ++ [m] } }

/-- The adapter carries Nguid messages: the stream runs, in a mode that has one (R17), and the link is ACTIVE, or in L1,
which it leaves to send (R232). -/
def State.nguidUp (s : State) : Bool :=
  s.db .HOST_STAT_NG_UP &&
  (match s.host.ul with
    | .active | .l1 => true
    | .reset | .training | .retrain | .l2 | .linkError => false) &&
  match s.power.mode with
  | .active | .service | .safe => true
  | .off | .dormant | .standby | .boot | .lockedOut => false

/-- Announces an egress pair's counts to the host (R240). -/
def State.announce (s : State) (c : Ch) (k : Fin 8) : State :=
  let p := s.pair c k
  (s.updPair c k fun p => { p with announced := p.eg.granted }).send (.creditGrant c k p.eg.granted p.eg.returned)

/-- Announces an egress pair once sixteen of its tokens are unannounced (R240). -/
def State.announceDue (s : State) (c : Ch) (k : Fin 8) : State :=
  let p := s.pair c k
  if p.synced && s.nguidUp && sub32 p.eg.granted p.announced ≥ 16 then s.announce c k else s

/-- Issues to class `k` every token R241 allows, and announces them once sixteen are unannounced (R240). -/
def State.issueCls (s : State) (c : Ch) (k : Fin 8) : State :=
  let p := s.pair c k
  let others := ((clsUp.filter (· ≠ k)).map fun d => s.unmetRsv c d).sum
  let n := min (s.cg c (.Q_EGCLS_CAP k.val) - p.eg.outstanding) (s.egFree c - others)
  if p.synced && n ≠ 0 then
    (s.updPair c k fun p => { p with eg := { p.eg with granted := (p.eg.granted + n) % m32 } }).announceDue c k
  else s

/-- Issues every token R241 allows, the highest class first; none while the channel drains or is off (R247), or on its way
off (R298). -/
def State.issue (s : State) (c : Ch) : State :=
  if (s.ch c).queue.drain || !s.powered c then s else clsDown.foldl (fun s k => s.issueCls c k) s

/-- `n` retired cells return their tokens (R239). -/
def State.retTokens (s : State) (c : Ch) (k : Fin 8) (n : Nat) : State :=
  s.updPair c k fun p => { p with eg := { p.eg with returned := (p.eg.returned + n) % m32 } }

/-! ### Resynchronisation (R243) -/

/-- Sends the RESYNC of a pair that is due, once the pair's egress queue holds no cell. -/
def State.trySync (s : State) (c : Ch) (k : Fin 8) : State :=
  let p := s.pair c k
  if p.due && s.nguidUp && (s.ch c).queue.egCells k = 0 then
    (s.updPair c k fun p => { p with due := false, owed := p.owed + 1 }).send
      (.creditResync c k p.eg.granted p.eg.returned)
  else s

/-- Frees `n` egress cells of a class: their tokens return, and may be issued again (R239, R241), and a RESYNC that
waited for an empty queue goes out (R243). -/
def State.freeCells (s : State) (c : Ch) (k : Fin 8) (n : Nat) : State :=
  ((s.retTokens c k n).issue c).trySync c k

/-- Sends every RESYNC that is due and may be sent. -/
def State.trySyncAll (s : State) : State := s.forCh fun s c => clsUp.foldl (fun s k => s.trySync c k) s

/-- Announces every pair that has sixteen unannounced tokens (R240). -/
def State.announceAll (s : State) : State := s.forCh fun s c => clsUp.foldl (fun s k => s.announceDue c k) s

/-- Makes every pair of a channel due for resynchronisation. -/
def State.resync (s : State) (c : Ch) : State :=
  clsUp.foldl (fun s k => (s.updPair c k fun p => { p with due := true, synced := false }).trySync c k) s

/-- Makes every pair of every channel due for resynchronisation (R243, R248). -/
def State.resyncAll (s : State) : State :=
  s.forCh fun s c => s.resync c

/-! ### Discarding queued frames -/

/-- Discards the queued egress frames of a class under reason `r`, frees their cells, and discards the later segments of
a frame still open (R246). -/
def State.dropEgCls (s : State) (c : Ch) (k : Fin 8) (r : Nat) : State :=
  let q := (s.ch c).queue.eg[k.val]
  let n := (q.frames.map EgFrame.cells).sum
  let opened := q.frames.getLast?.bind fun f => if f.complete then none else some f.seq
  let s := s.updQ c fun x => { x with
    eg := x.eg.set k.val { frames := [], drop := match opened with | some v => some v | none => q.drop } }
  (s.acctEg c fun a => a.discard r q.frames.length).freeCells c k n

/-- The line is at a frame boundary, where a withdrawn vote takes effect for egress (R247): the drain begins. -/
def State.atBoundary (s : State) (c : Ch) : State :=
  if (s.ch c).pst = .draining && (s.ch c).queue.line.isNone then s.updQ c fun q => { q with drain := true } else s

/-- Ends the frame on the line under reason `r` (R23, R244): it is cut off and its cells are freed. The later segments of
a frame not yet complete are discarded on arrival. -/
def State.dropLine (s : State) (c : Ch) (r : Nat) : State :=
  match (s.ch c).queue.line with
  | none => s
  | some l =>
    let s := s.updQ c fun x => { x with
      line := none
      eg := if l.frame.complete then x.eg else x.eg.set l.cls.val { x.eg[l.cls.val] with drop := some l.frame.seq } }
    ((s.atBoundary c).acctEg c fun a => a.discard r).freeCells c l.cls l.frame.cells

/-- Discards the ingress frames of a class that satisfy `p`, under FLUSH. -/
def State.dropInCls (s : State) (c : Ch) (k : Fin 8) (p : InFrame → Bool) : State :=
  let q := (s.ch c).queue.ing[k.val]
  let gone := q.filter p
  let s := s.updQ c fun x => { x with ing := x.ing.set k.val (q.filter fun f => !p f) }
  s.acctIn c fun a => a.discard 13 gone.length

/-- The reason code FLUSH (R225). -/
def rFlush : Nat := 13

/-- Discards every queued frame of the channel under FLUSH and frees its cells (R247, R298, R304). -/
def State.dropAll (s : State) (c : Ch) : State :=
  let s := s.dropLine c rFlush
  clsUp.foldl (fun s k => (s.dropEgCls c k rFlush).dropInCls c k fun _ => true) s

/-- The queues are empty, so a flush under way is complete and each CONTROL that asked for one is answered (R246, R250). -/
def State.answerFlush (s : State) (c : Ch) : State :=
  let q := (s.ch c).queue
  if !q.flushBusy then s else
  let s := s.updQ c fun q => { q with flushBusy := false, flushTags := [] }
  q.flushTags.foldl (fun s t => s.send (.control c 1 t 0 0)) (s.cs c .Q_EVT_FLUSH_DONE 1)

/-- The part gives back the host's unspent ingress tokens (R240, R247). -/
def State.giveBack (s : State) (c : Ch) : State :=
  clsUp.foldl (fun s k =>
    let p := s.pair c k
    let n := p.ing.unspent
    if p.synced && n ≠ 0 then
      let s := s.updPair c k fun p => { p with ing := { p.ing with givenBack := (p.ing.givenBack + n) % m32 } }
      s.send (.creditReturn c k (s.pair c k).ing.givenBack)
    else s) s

end Sys2Proof.Machine
end

