-- ==== Sys2Proof/Machine/Stamp.lean ====
section
/-! DEFINITION. The time-stamp clock of a channel and its formats (R221, R222, R224). -/

namespace Sys2Proof.Machine

/-- Fractions of 1/65,536 ns in a second. -/
def fracSec : Nat := 65536000000000

/-- The clock's time as a count of 1/65,536 ns, without the carried part. -/
def TsClock.total (t : TsClock) : Nat := (t.sec * 1000000000 + t.ns) * 65536 + t.frac

/-- A clock at a count of 1/65,536 ns; seconds are 48 bits wide. -/
def TsClock.ofTotal (n : Int) (carry : Nat) : TsClock :=
  let m := (n % (2 ^ 48 * fracSec : Nat)).toNat
  ⟨m / fracSec, m % fracSec / 65536, m % 65536, carry⟩

/-- The nominal period of a frame-path cycle (R221), 1.28, 6.4 or 32 ns, in 1/25 of 1/65,536 ns. -/
def tsPeriod (c : Ch) : Nat := match classOf c with | .trunk => 2097152 | .branch => 10485760 | .segment => 52428800

/-- The frame-path cycles that begin in `t` reference ticks. -/
def tsCycles (c : Ch) (t : Nat) : Nat := t * 65536000 / tsPeriod c

/-- `n` frame-path cycles of `period`, each scaled by 1 + rate * 2^-10 * 10^-9 (R221). The carry is in units of
2^-26 * 10^-9 / 25 ns, so that no part of a fraction is lost. -/
def TsClock.run (t : TsClock) (period n : Nat) (rate : Int) : TsClock :=
  let k : Int := t.carry + n * period * (1024000000000 + rate)
  TsClock.ofTotal (t.total + k / 25600000000000) (k % 25600000000000).toNat

/-- One reference tick of 40 ns, the one after `now` others, of channel `c`'s clock: as many periods as frame-path cycles
begin in it. Readings: log entry 47 (DEDUCED). -/
def TsClock.tick (t : TsClock) (c : Ch) (now : Nat) (rate : Int) : TsClock :=
  t.run (tsPeriod c) (tsCycles c (now + 1) - tsCycles c now) rate

/-- The short format (R224). -/
def TsClock.short (t : TsClock) : Nat := t.frac + t.ns * 2 ^ 16 + t.sec % 65536 * 2 ^ 46

/-- A word of the long format (R224). -/
def TsClock.long (t : TsClock) (w : Nat) : Nat :=
  match w with
  | 0 => t.ns
  | 1 => t.sec % m32
  | _ => t.sec / m32 % 65536 + t.frac * 65536

/-- The stamp of a frame whose stamp point passes now (R222): the clock plus the signed picoseconds of TS_LAT, in a
direction, plus the factory-measured correction, which the spec does not give and which is free.
Readings: log entry 47 (DEDUCED). -/
def State.stampNow (s : State) (c : Ch) (egress : Bool) : Nat × State :=
  let t := (s.ch c).frame.ts
  let ps := sint 16 (s.cg c (if egress then .TS_LAT_EG else .TS_LAT_IN))
  let r := s.roundFree (ps * 65536) 1000
  let f := r.2.fresh 32
  ((TsClock.ofTotal (t.total + r.1 + sint 32 f.1) 0).short, f.2)

/-- A step of a channel's clock (R221). -/
def State.tsStep (s : State) (c : Ch) (t : TsClock) : State :=
  (s.updF c fun f => { f with ts := t }).cinc c .TS_STAT_STEPS

/-- Loads a channel's clock from the long format (R221, R224). Nanoseconds beyond the format's range give a free value.
Readings: log entry 47 (DEDUCED). -/
def State.tsLoad (s : State) (c : Ch) (w0 w1 w2 : Nat) : State :=
  let ns := w0 % 2 ^ 30
  let r := if ns < 1000000000 then (ns, s) else
    let f := s.fresh 30
    (f.1 % 1000000000, f.2)
  r.2.tsStep c ⟨w1 + w2 % 65536 * m32, r.1, w2 / 65536, 0⟩

/-- A write of `TS_CMD` (R221): SET loads TS_SET, ADJ steps by the signed nanoseconds of TS_ADJ.
Readings: log entry 47 (DEDUCED). -/
def State.tsCmd (s : State) (c : Ch) (v : Nat) : State :=
  let s := if v.testBit 0 then s.tsLoad c (s.cg c (.TS_SET_VALUE 0)) (s.cg c (.TS_SET_VALUE 1)) (s.cg c (.TS_SET_VALUE 2))
    else s
  if v.testBit 1 then
    let t := (s.ch c).frame.ts
    s.tsStep c (TsClock.ofTotal (t.total + sint 32 (s.cg c .TS_ADJ_VALUE) * 65536) t.carry)
  else s

end Sys2Proof.Machine
end

