-- ==== Sys2Proof/Machine/Records.lean ====
section
/-! DEFINITION. Canopy's records and accounting (R327 to R336, R341): what an assertion writes, before any reaction. -/

namespace Sys2Proof.Machine

/-- A list ordered by number, taken by class, the highest first (R334). -/
def byClass {α : Type} (cls : α → Nat) (l : List α) : List α := [3, 2, 1, 0].flatMap fun k => l.filter fun x => cls x = k

/-- A Canopy source: source `k` of a channel, or device source `384 + i` (R327, R328). -/
inductive SrcId where
  | ch (c : Ch) (k : Fin 12)
  | dev (i : Nat)
  deriving DecidableEq, Repr

/-- The number of a source (R327, R328). Readings: log entry 53 (DEDUCED). -/
def SrcId.num : SrcId → Nat
  | .ch c k => c.val * 12 + k.val
  | .dev i => 384 + i

/-- Where a source is recorded (R332): its channel's FAULT block, or CANOPY. -/
inductive Home where
  | ch (c : Ch)
  | dev
  deriving DecidableEq, Repr

/-- The home of a source. -/
def SrcId.home : SrcId → Home
  | .ch c _ => .ch c
  | .dev _ => .dev

/-- The class in force for a source (R329). -/
def State.classOfSrc (s : State) : SrcId → Nat
  | .ch c k => s.cg c .FLT_CLASS_CLASS / 4 ^ k.val % 4
  | .dev i => s.dg (.FC_CLASS_CLASS (i / 16)) / 4 ^ (i % 16) % 4

/-- Word `w` of a home's first record (R331). -/
def State.recWord (s : State) (h : Home) (w : Nat) : Nat :=
  match h with
  | .ch c => s.cg c (.FLT_FIRST_REC w)
  | .dev => s.dg (.FC_FIRST_REC w)

/-- Writes word `w` of a home's first record. -/
def State.setRecWord (s : State) (h : Home) (w v : Nat) : State :=
  match h with
  | .ch c => s.cs c (.FLT_FIRST_REC w) v
  | .dev => s.ds (.FC_FIRST_REC w) v

/-- A home holds a first record. -/
def State.recValid (s : State) (h : Home) : Bool := (s.recWord h 0).testBit 31

/-- The class of a home's first record. -/
def State.recClass (s : State) (h : Home) : Nat := s.recWord h 0 / 65536 % 4

/-- The source of a home's first record. -/
def State.recSrc (s : State) (h : Home) : Nat := s.recWord h 0 % 512

/-- A home's reaction window is open (R333): its first record is of class C1 to C3 and was no dry run (R342). -/
def State.winOpen (s : State) (h : Home) : Bool :=
  s.recValid h && s.recClass h ≠ 0 && !(s.recWord h 0).testBit 20

/-- The open window of `h` covers a source (R333). -/
def State.covers (s : State) (h : Home) (x : SrcId) : Bool :=
  let cl := s.recClass h
  let src := s.recSrc h
  s.winOpen h &&
  (if cl = 3 then true
   else if src < 384 then (match x with | .ch c _ => src / 12 = c.val | .dev _ => false)
   else if cl = 2 then true
   else match x with | .ch _ _ => false | .dev _ => true)

/-- The homes in the order R332 prefers among records of equal class. -/
def allHomes : List Home := .dev :: allCh.map .ch

/-- The record that takes a merged assertion of class `cl` (R332, case 1). -/
def State.mergeHome (s : State) (x : SrcId) (cl : Nat) : Option Home :=
  allHomes.foldl (fun best h =>
    if s.covers h x && decide (cl ≤ s.recClass h) then
      match best with
      | none => some h
      | some b => if s.recClass b < s.recClass h then some h else best
    else best) none

/-- The count, status and event effects that every assertion of a source has (R332): TOTAL, STICKY and KIND. -/
def State.countSrc (s : State) (x : SrcId) (kind : Nat) : State :=
  match x with
  | .ch c k =>
    let s := ((s.cinc c (.FLT_TOTAL_COUNT k.val)).cs c (.FLT_SRC_STICKY k.val) 1).cs c (.FLT_SRC_KIND k.val) kind
    s.updCh c fun y => { y with statRead := y.statRead.filter (· ≠ k.val) }
  | .dev i =>
    let s := ((s.dinc (.FC_TOTAL_COUNT i)).ds (.FC_SRC_STICKY i) 1).ds (.FC_SRC_KIND i) kind
    { s with canopy := { s.canopy with statRead := s.canopy.statRead.filter (· ≠ i) } }

/-- The vendor ID of the part's sideband messages (R341). -/
def vendorId : Nat := 0xF1A4

/-- The sideband is in service (R231): from Standby upward, outside a held reset and clock-wait. -/
def State.sidebandUp (s : State) : Bool := s.servicesUp

/-- Sets a PEND bit for class `cl`; its change from 0 to 1 sends the two sideband messages (R341). -/
def State.pend (s : State) (cl w0 w1 w2 w3 : Nat) : State :=
  if (s.dg .FC_INTEN_CLS).testBit cl then
    let was := (s.dg .FC_IRQ_PEND).testBit cl
    let s := s.ds .FC_IRQ_PEND (s.dg .FC_IRQ_PEND ||| 2 ^ cl)
    if !was && s.sidebandUp then
      { s with canopy := { s.canopy with sbOut := s.canopy.sbOut ++ [⟨vendorId, 1, w0, w1⟩, ⟨vendorId, 2, w2, w3⟩] } }
    else s
  else s

/-- Word 0 of a record (R331). -/
def recW0 (dry forced : Bool) (cl kind src : Nat) : Nat :=
  2 ^ 31 + b2n dry * 2 ^ 20 + b2n forced * 2 ^ 18 + cl * 65536 + kind % 16 * 4096 + src

/-- What an assertion came to (R332). -/
inductive Taken where
  | merged | first | overflow
  deriving DecidableEq, Repr

/-- Records one assertion under R332 and delivers it under R341. -/
def State.record (s : State) (x : SrcId) (kind addr : Nat) (forced : Bool := false) : State × Taken :=
  let cl := s.classOfSrc x
  let dry := forced && s.db .FC_TESTCFG_DRYRUN
  let t := s.canopy.time
  let w0 := recW0 dry forced cl kind x.num
  let s := s.countSrc x kind
  match s.mergeHome x cl with
  | some h =>
    let w3 := s.recWord h 3
    let s := s.setRecWord h 3 (if w3 / 65536 < 65535 then w3 + 65536 else w3)
    (match x with
      | .ch c k => (s.cinc c .FLT_MRGCNT_COUNT).cs c (.FLT_SRC_CONSEQ k.val) 1
      | .dev i => (s.dinc .FC_MRGCNT_COUNT).ds (.FC_SRC_CONSEQ i) 1, .merged)
  | none =>
    let w2 := t % m32
    let w3 := t / m32 % 65536
    let h := x.home
    let evt (s : State) := match x with | .ch c _ => s.sysEvt c 6 | .dev _ => s
    if s.recValid h then
      let s := match x with
        | .ch c k => (s.cinc c (.FLT_OVFCNT_COUNT k.val)).cs c .FLT_STAT_OVF 1
        | .dev i => (s.dinc (.FC_OVFCNT_COUNT i)).ds .FC_STAT_OVF 1
      (evt (s.pend cl w0 addr w2 w3), .overflow)
    else
      let s := (((s.setRecWord h 0 w0).setRecWord h 1 addr).setRecWord h 2 w2).setRecWord h 3 w3
      let s := match x with
        | .ch c _ => (s.cinc c .FLT_FIRSTCNT_COUNT).updCh c fun y => { y with firstRead := false }
        | .dev _ =>
          let s := s.dinc .FC_FIRSTCNT_COUNT
          { s with canopy := { s.canopy with firstRead := false } }
      (evt (s.pend cl w0 addr w2 w3), .first)

/-- The live level of a source (R335). -/
def State.live (s : State) : SrcId → Bool
  | .ch c k => (s.cg c .FLT_LIVE_LIVE).testBit k.val
  | .dev i => (s.dg (.FC_LIVE_BITS (i / 32))).testBit (i % 32)

/-- Sets the live level of a level source (R335). A fall marks the record and the status TRANSIENT where neither has been
read since. -/
def State.setLive (s : State) (x : SrcId) (b : Bool) : State :=
  let was := s.live x
  let s := match x with
    | .ch c k => s.cs c .FLT_LIVE_LIVE (setBitTo (s.cg c .FLT_LIVE_LIVE) k.val b)
    | .dev i => s.ds (.FC_LIVE_BITS (i / 32)) (setBitTo (s.dg (.FC_LIVE_BITS (i / 32))) (i % 32) b)
  if was && !b then
    match x with
    | .ch c k =>
      let s := if s.recValid (.ch c) && s.recSrc (.ch c) = x.num && !(s.ch c).firstRead then
          s.cs c (.FLT_FIRST_REC 0) (s.cg c (.FLT_FIRST_REC 0) ||| 2 ^ 19) else s
      if (s.ch c).statRead.contains k.val then s
      else s.cs c (.FLT_SRC_TRANSIENT k.val) 1
    | .dev i =>
      let s := if s.recValid .dev && s.recSrc .dev = x.num && !s.canopy.firstRead then
          s.ds (.FC_FIRST_REC 0) (s.dg (.FC_FIRST_REC 0) ||| 2 ^ 19) else s
      if s.canopy.statRead.contains i then s
      else s.ds (.FC_SRC_TRANSIENT i) 1
  else s

end Sys2Proof.Machine
end

