-- ==== Sys2Proof/Machine/Trend.lean ====
section
/-! DEFINITION. The SQI meter (R126, R127), the trend log with its predictions (R136, R138), and how a diagnostic run that
does not complete ends (R135, R140). -/

namespace Sys2Proof.Machine

/-- Changes the diagnostics state of channel `c`. -/
def State.updDiag (s : State) (c : Ch) (g : DiagSt → DiagSt) : State := s.updCh c fun x => { x with diag := g x.diag }

/-- Link control is in a state from which its end is a link loss (R83, R95). -/
def State.linkLive (s : State) (c : Ch) : Bool :=
  if isSeg c then (s.ch c).seg.st = .up
  else match (s.ch c).link.st with
    | .up | .shift => true
    | .stop | .an | .train | .holdoff => false

/-! ### SQI -/

/-- The SQI threshold of level 1 of a type, in 1/16 dB; levels lie 1.5 dB apart (R126). -/
def sqiBase (typ : Nat) : Nat :=
  match typ with
  | 2 => 224 | 6 => 280 | 7 => 288
  | _ => 272

/-- The SQI threshold of a level (R126); level 0 has none. -/
def sqiThr (typ level : Nat) : Nat := if level = 0 then 0 else sqiBase typ + 24 * (level - 1)

/-- The candidate level that an SNR gives (R126). -/
def sqiCand (typ snr : Nat) : Nat := ((List.range 7).filter fun i => sqiThr typ (i + 1) ≤ snr).length

/-- SQI is valid (R127). -/
def State.sqiValid (s : State) (c : Ch) : Bool :=
  !isSeg c && s.cb c .DSP_MSE_VALID && ((s.ch c).sub = .up || (s.ch c).sub = .lpi)

/-- `DIAG_SQI.SQI` as it reads (R127). -/
def State.sqiNow (s : State) (c : Ch) : Nat := if s.sqiValid c then (s.ch c).diag.sqi else 0

/-- The operation time in seconds (R136, R142). -/
def State.opTime (s : State) (c : Ch) : Nat := (s.ch c).diag.opTicks / 25000000 % m32

/-! ### The trend log -/

/-- A fresh interval (R136). Readings: log entry 38 (DEDUCED). -/
def State.newInterval (s : State) (c : Ch) : State :=
  let up := s.linkLive c
  let q := s.sqiNow c
  s.updDiag c fun d => { d with iv := ⟨up, 0, 0, 4095, q, 0, 0, 0⟩, ivT0 := d.opTicks }

/-- A least-squares line through points (t, y): their number, the determinant, and the numerators of the slope and, over
n times the determinant, of the value at `tl`. -/
def fitLine (pts : List (Nat × Int)) (tl : Nat) : Nat × Int × Int × Int :=
  let n := pts.length
  let sx : Int := (pts.map fun p => (p.1 : Int)).sum
  let sxx : Int := (pts.map fun p => (p.1 : Int) * p.1).sum
  let sy : Int := (pts.map Prod.snd).sum
  let sxy : Int := (pts.map fun p => (p.1 : Int) * p.2).sum
  let d := n * sxx - sx * sx
  let b := n * sxy - sx * sy
  (n, d, b, sy * d - b * sx + n * b * tl)

/-- Hours until a line that rises reaches `lim`, in the form of R138: 0xFFFF for too few points or no rise. -/
def predict (pts : List (Nat × Int)) (tl : Nat) (lim : Int) : Nat :=
  let f := fitLine pts tl
  if f.1 < 8 || f.2.1 ≤ 0 || f.2.2.1 ≤ 0 then 0xFFFF
  else min 0xFFFE (max 0 (lim * f.1 * f.2.1 - f.2.2.2) / (f.1 * f.2.2.1 * 3600)).toNat

/-- The records a fit uses at most (R142). -/
def State.trendFit (s : State) (c : Ch) : Nat :=
  let n := s.cg c .DIAG_CTL_TREND_FIT
  if n = 0 then 64 else max 8 n

/-- A new prediction `i` of value `v`: PRED_WARN when it falls below PRED_HRS, once until it has been back (R138). -/
def State.predWarn (s : State) (c : Ch) (i v : Nat) : State :=
  let low := decide (v < s.cg c .DIAG_PREDCFG_PRED_HRS)
  let s := if low && (s.ch c).diag.armed.getD i true then s.cs c .DIAG_EVT_PRED_WARN 1 else s
  s.updDiag c fun d => { d with armed := d.armed.set i (!low) }

/-- PREDICTION_UPDATE (R138): the predictions of the tracked entries, then of the SNR with its slope. The slope's rounding
is free. -/
def State.predictions (s : State) (c : Ch) : State :=
  let log := (s.ch c).diag.log
  let tl := match log with
    | r :: _ => r.time
    | [] => 0
  let n := s.trendFit c
  let s := (List.range 8).foldl (fun s j =>
    let pts := (log.filterMap fun r => match r.gam.getD j none with
      | some g => some (r.time, (g.natAbs : Int))
      | none => none).take n
    let v := if s.cb c (.DIAG_TRACKA_VALID j) then predict pts tl (s.cg c .DIAG_PREDCFG_PRED_LIM) else 0xFFFF
    (s.cs c (.DIAG_TRACKB_PRED j) v).predWarn c j v) s
  let s := s.cs c .DIAG_TRSTAT_PRED_MIN
    ((List.range 8).foldl (fun m j => min m (s.cg c (.DIAG_TRACKB_PRED j))) 0xFFFF)
  let pts := (log.filterMap fun r => if r.upAll then some (r.time, -(r.mean : Int)) else none).take n
  let target := sqiThr (s.cg c .PCS_CTL_TYPE) (s.cg c .DIAG_PREDCFG_PRED_SQI)
  let v := predict pts tl (-(target : Int))
  let f := fitLine pts tl
  let s := if f.1 < 8 || f.2.1 ≤ 0 then s else
    let r := s.roundFree (-f.2.2.1 * 3600 * 1000) (f.2.1 * 16).toNat
    r.2.cs c .DIAG_SNRPRED_SLOPE (rawOf 16 (satS 16 r.1))
  (s.cs c .DIAG_SNRPRED_HOURS v).predWarn c 8 v

/-- The trend log is emptied (R136): predictions start again, tracked features are kept. -/
def State.trendClear (s : State) (c : Ch) : State :=
  let s := (s.cs c .DIAG_TRSTAT_NEXT 0).cs c .DIAG_TRSTAT_WRAPPED 0
  let s := (List.range 8).foldl (fun s j => s.cs c (.DIAG_TRACKB_PRED j) 0xFFFF) s
  let s := (s.cs c .DIAG_TRSTAT_PRED_MIN 0xFFFF).cs c .DIAG_SNRPRED_HOURS 0xFFFF
  s.updDiag c fun d => { d with log := [], armed := List.replicate 9 true }

/-- Writes the record of a closed interval (R136, R142): the mean SNR's rounding is free, and so are mean and minimum of
an interval without a window. Its word 0 is the operation time `t` at the interval's end. Predictions follow. A segment
channel has no SNR and no prediction. Where a TREND_CLR falls in its cycle it is not written, and the log is empty (R140). -/
def State.writeRecord (s : State) (c : Ch) (iv : Interval) (t : Nat) (isrOk up : Bool) (gam : List (Option Int)) : State :=
  if s.cyc.trClr then (s.updDiag c fun d => { d with closed := none }).trendClear c else
  let r := if iv.snrCnt = 0 then
      let f := s.fresh 12
      ((f.1 : Int), f.2)
    else s.roundFree iv.snrSum iv.snrCnt
  let m := if iv.snrCnt = 0 then r.2.fresh 12 else (iv.snrMin, r.2)
  let s := m.2
  let snr := up && !isSeg c
  let rec' : TrendRec :=
    { time := t, mean := if snr then r.1.toNat else 0, snrMin := if snr then m.1 else 0
      corr := min (m32 - 1) iv.corr, isrOk := isrOk, upAll := up, sqi := if up then iv.sqiMin else 0
      losses := min 255 iv.losses, unc := min 65535 iv.unc, gam := if isrOk then gam else List.replicate 8 none }
  let s := s.updDiag c fun d => { d with log := (rec' :: d.log).take 64, closed := none }
  let nx := (s.cg c .DIAG_TRSTAT_NEXT + 1) % 64
  let s := s.cs c .DIAG_TRSTAT_NEXT nx
  let s := if nx = 0 then s.cs c .DIAG_TRSTAT_WRAPPED 1 else s
  if isSeg c then s else s.predictions c

/-! ### A run that does not complete -/

/-- A link-down run is in progress (R130). -/
def DRun.isTdr : DRun → Bool
  | .listen | .acquire | .process => true
  | .none | .isrWait | .isrCap => false

/-- A link-down run has its own launch, with the hybrid off: from its acquire phase until it ends (R130). -/
def DRun.launches : DRun → Bool
  | .acquire | .process => true
  | .none | .listen | .isrWait | .isrCap => false

/-- The code of `DIAG_STAT.RUN` (R142). -/
def DRun.code : DRun → Nat
  | .none => 0 | .listen => 1 | .acquire => 2 | .process => 3 | .isrWait | .isrCap => 4

/-- A run ends ABORTED (status 1) or PARTNER_ACTIVE (2): the header alone is replaced (R135). A trend record that waited
for it is written without its Γ. -/
def State.diagStop (s : State) (c : Ch) (status : Nat) : State :=
  match (s.ch c).diag.run with
  | .none => s
  | r =>
    let s := ((s.cinc c .DIAG_RES_HDR_SEQ).cs c .DIAG_RES_HDR_KIND (if r.isTdr then 1 else 2)).cs c
      .DIAG_RES_HDR_STATUS status
    let s := (s.cs c .DIAG_RES_HDR_OA 3).cs c .DIAG_RES_HDR_NFEAT 0
    let s := s.cs c (if status = 2 then .DIAG_EVT_PARTNER_ACTIVE else .DIAG_EVT_ABORTED) 1
    let s := s.updDiag c fun d => { d with run := .none }
    match (s.ch c).diag.closed with
    | some (iv, t) => s.writeRecord c iv t false true []
    | none => s

/-- What a change of sub-state from `o` to `n` does to diagnostics (R127, R137, R140): SQI starts again when the link
leaves UP and LPI, which is no fall of SQI to a lower candidate and sets no SQI_LOW (DEDUCED, log entry 38); and a run ends
where R140 says so. -/
def State.diagMoved (s : State) (c : Ch) (o n : SubState) : State :=
  let live := fun u => u = SubState.up || u = .lpi
  let s := if live o && !live n then s.updDiag c fun d => { d with sqi := 0, sqiPend := none } else s
  let s := if !live o && live n then s.updDiag c fun d => { d with firstIsr := true } else s
  let run := (s.ch c).diag.run
  match n with
  | .off => s.updDiag c fun d => { d with run := .none, closed := none }
  | .maint | .quarantine => s.diagStop c 1
  | .training => if run.isTdr || (run = .isrWait && live o) then s.diagStop c 1 else s
  | .idle | .up | .lpi | .sleep => if run = .isrWait && live o && !live n then s.diagStop c 1 else s

end Sys2Proof.Machine
end

