-- ==== Sys2Proof/Machine/Secure.lean ====
section
/-! DEFINITION. Votes (R297), the blocks of the sweep (R270, R271), the debug session (R362 to R366), and what becomes of a
Heartwood operation that is cut short (R354 to R358). -/

namespace Sys2Proof.Machine

/-- Puts every register field that satisfies `p` back to its reset value. -/
def State.clearFields (s : State) (p : Fld → Bool) : State := { s with regs := s.regs.filter fun r => !p r.1 }

/-! ### Votes -/

/-- Sets or clears a client bit of a channel's vote (R297): bits 4 to 8. -/
def State.voteBit (s : State) (c : Ch) (bit : Nat) (b : Bool) : State :=
  s.cs c .CHPWR_VOTE_CLIENTS (setBitTo (s.cg c .CHPWR_VOTE_CLIENTS) (bit - 4) b)

/-- Any vote holds the channel's domain (R297). -/
def State.voted (s : State) (c : Ch) : Bool := s.cg c .CHPWR_VOTE_HOST ≠ 0 || s.cg c .CHPWR_VOTE_CLIENTS ≠ 0

/-! ### The sweep -/

/-- The register blocks of a channel, in ascending window offset (R272, R400). -/
def CBlk.all : List CBlk :=
  [.chctl, .afe, .dsp, .pcs, .link, .diag, .lpi, .frame, .queue, .seq, .calg, .chpwr, .fault, .seg]

/-- The device-service blocks, in ascending base (R272, R400). -/
def DBlk.all : List DBlk := [.tap, .clk, .pwr, .canopy, .heart, .cal, .host, .integ, .id, .debug, .mgmt]

/-- Blocks lose clock or power, or their configuration is cleared: they leave the sweep's schedule and their comparison is
disarmed (R270, R271). -/
def State.blkOff (s : State) (p : Blk → Bool) : State :=
  let s := { s with integ := { s.integ with
    joined := s.integ.joined.filter fun b => !p b, ready := s.integ.ready.filter fun b => !p b } }
  s.clearFields fun f => match f with
    | .ch c (.tr b .REF_ARMED) => p (.ch c b)
    | .dev (.tr b .REF_ARMED) => p (.dev b)
    | _ => false

/-- A block of channel `c` lies in its own domain (R296): every block but CHPWR and FAULT. -/
def inDomain (c : Ch) : Blk → Bool
  | .ch d b => d = c && b ≠ .chpwr && b ≠ .fault
  | .dev _ => false

/-- The live level of source k = 6 follows the mismatches of the channel's blocks (R271). -/
def State.mmLevel (s : State) (c : Ch) : State :=
  s.setLive (.ch c 6) (s.db .INTEG_CTL_MM_REACT && CBlk.all.any fun b => s.cb c (.tr b .CRC_MM))

/-- The live level of source 391 follows the mismatches of the service blocks (R271). -/
def State.mmLevelSvc (s : State) : State :=
  s.setLive (.dev 7) (s.db .INTEG_CTL_MM_REACT && DBlk.all.any fun b => s.db (.tr b .CRC_MM))

/-! ### The debug domain and session -/

/-- PD37 is powered (R296): a vote holds it, or the mode is Service. Readings: log entry 51 (DEDUCED). -/
def State.pd37 (s : State) : Bool :=
  s.servicesUp && (s.dg .PWR_DBGVOTE_HOST ≠ 0 || s.db .PWR_DBGVOTE_DEBUG || s.power.mode = .service)

/-- The DEBUG block loses what it holds when PD37 is off (R362, R369, R387). -/
def State.dbgPower (s : State) : State :=
  if s.pd37 then s else
  let s := (s.blkOff (· = .dev .debug)).clearFields fun f => match f with
    | .ch _ _ => false
    | .dev g => g.blk = .debug
  { s with dbgr := { DebugSt.init with opened := s.dbgr.opened }, jtag := { s.jtag with sib := 0 } }

/-- The nonce becomes invalid and is zeroised (R362, R369). -/
def State.dropNonce (s : State) : State :=
  (s.ds .DBG_STAT_NONCE_VALID 0).clearFields fun f => match f with
    | .dev (.DBG_NONCE_DATA _) => true
    | _ => false

/-- The token buffer is cleared (R364, R369). -/
def State.clearToken (s : State) : State :=
  s.clearFields fun f => match f with
    | .dev (.DBG_TOKEN_DATA _) => true
    | _ => false

/-- A session is open, of a customer or of the vendor (R368). -/
def State.session (s : State) : Bool := s.db .DBG_STAT_OPEN || s.db .DBG_STAT_VTEST

/-- The session grants right `bit` for channel `c` (R365): 0 SEQ, 1 TRACE, 2 INSTR. In Standby it takes no effect
(R368). -/
def State.right (s : State) (bit : Nat) (c : Ch) : Bool :=
  s.db .DBG_STAT_OPEN && (s.dg .DBG_STAT_RIGHTS).testBit bit && (s.dg .DBG_CHMASK_CH).testBit c.val &&
  (match s.power.mode with
    | .active | .safe | .service => true
    | .off | .dormant | .standby | .boot | .lockedOut => false)

/-- What the end of a session clears and records (R366), but for what the lost votes lead to.
Readings: log entry 51 (DEDUCED). -/
def State.closeSession (s : State) (cause : Nat) : State :=
  let mask := s.dg .DBG_CHMASK_CH
  let s := ((((s.ds .DBG_STAT_OPEN 0).ds .DBG_STAT_VTEST 0).ds .DBG_STAT_RIGHTS 0).ds .DBG_STAT_SLOT 0).ds .DBG_CHMASK_CH 0
  let s := (((s.ds .DBG_RES_END cause).ds .DBG_EVT_CLOSED 1).ds .PWR_DBGVOTE_DEBUG 0)
  let s := s.forCh fun s c => s.voteBit c 8 false
  let s := { s with dbgr := { s.dbgr with left := none, tracing := false }, jtag := { s.jtag with sib := 0 } }
  (s.record (.dev 14) 1 mask).1

/-! ### Heartwood's results and OTP -/

/-- Changes Heartwood. -/
def State.updHeart (s : State) (g : HeartSt → HeartSt) : State := { s with heart := g s.heart }

/-- Changes the OTP. -/
def State.updOtp (s : State) (g : Otp → Otp) : State := { s with otp := g s.otp }

/-- The operation's code in `HEART_RES.OP` (R370). A token check of OPEN is none of them. -/
def HeartOp.code : HeartOp → Nat
  | .submit | .keyImage _ _ _ => 1
  | .attest _ _ => 2
  | .keyProg _ _ => 3
  | .deploy => 4
  | .retTok _ | .ret _ _ _ => 5
  | .scrap => 6
  | .rbSet _ _ => 7
  | .openTok => 0

/-- An operation ends with a status and a reason (R351, R370). -/
def State.heartRes (s : State) (op status reason : Nat) : State :=
  let s := ((s.ds .HEART_RES_OP op).ds .HEART_RES_STATUS status).ds .HEART_RES_REASON reason
  let s := s.ds .HEART_EVT_DONE 1
  if status = 1 then s.ds .HEART_EVT_REJ 1 else s

/-- No operation runs any more; a boot window whose end waited for it closes (R347). -/
def HeartSt.done (h : HeartSt) : HeartSt := { h with op := none, img := none, boot := if h.boot = 4 then 5 else h.boot }

/-- Heartwood clears the header, the data and DCOUNT (R349). -/
def State.clearStaging (s : State) : State :=
  (s.updHeart fun h => { h with data := [] }).clearFields fun f => match f with
    | .dev (.HEART_HDR_DATA _) => true
    | .dev .HEART_DCOUNT_VALUE => true
    | _ => false

/-- The blanked value of a slot (R346). -/
def blanked : Nat := 2 ^ 256 - 1

/-- A slot is populated (R346). -/
def Otp.populated (o : Otp) (k : Nat) : Bool := o.slots.toList.getD k 0 ≠ 0 && o.slots.toList.getD k 0 ≠ blanked

/-- A slot is populated and not revoked (R346). -/
def Otp.usable (o : Otp) (k : Nat) : Bool := o.populated k && !o.rev.testBit k

/-- The customer slots (R346). -/
def custSlots : List Nat := [1, 2, 3, 4]

/-- Step 3 of R357: the customer slots are blanked, and after SCRAP the identity key too. -/
def Otp.blank (o : Otp) : Otp :=
  { o with
    slots := #v[o.slots[0], blanked, blanked, blanked, blanked]
    idKey := if o.lc = 4 then none else o.idKey
    unfinished := false }

/-- The return record of R358, with the fingerprint `fp` at the command. -/
def State.retRecord (s : State) (ref slot fp : Nat) : List Byte :=
  let b := leN 8 ref ++ leN 8 fp ++ leN 1 slot ++ leN 1 s.otp.lc ++ List.replicate 10 0
  b ++ leN 4 (crc32c b)

/-- Writes slot `k`: PROGRAM with a hash, or REVOKE (R352, R353). Readings: log entry 50 (DEDUCED). -/
def Otp.keyOp (o : Otp) (op k hash : Nat) : Otp :=
  if op = 2 then { o with rev := o.rev ||| 2 ^ k }
  else { o with slots := o.slots.mapIdx fun i h => if i = k then hash else h }

/-- A rollback counter is raised to `v` (R354). -/
def Otp.rbTo (o : Otp) (cnt v : Nat) : Otp := { o with rb := o.rb.mapIdx fun i r => if i = cnt then v else r }

/-- RETURN and SCRAP pass step 1 of R357, their commit point. -/
def State.lcStep (s : State) (lc : Nat) : State :=
  (s.updOtp fun o => { o with lc := lc, unfinished := true }).ds .HEART_EVT_LC_CHG 1

/-- RETURN and SCRAP are cut after step 1 (R357): the lifecycle bit is written, the blanking is left to the next Boot, and
whether the return record is whole is free. Readings: log entry 50 (DEDUCED). -/
def State.lcCut (s : State) (op : HeartOp) : State :=
  match op with
  | .ret ref slot fp =>
    let r := s.fresh 1
    let rec_ := s.retRecord ref slot fp
    (r.2.updOtp fun o => { o with retrec := if r.1 = 0 then rec_ else [], recBad := r.1 = 1 }).lcStep 3
  | .scrap => s.lcStep 4
  | _ => s

/-- A counter that is being raised is left somewhere from its old value to the new one (R354): free.
Readings: log entry 50 (DEDUCED). -/
def State.rbCut (s : State) (cnt v : Nat) : State :=
  let old := s.otp.rb.toList.getD cnt 0
  let r := s.fresh 32
  let n := old + r.1 % (v - old + 1)
  let s := r.2.updOtp fun o => o.rbTo cnt n
  if old < n then s.ds .HEART_EVT_RB_CHG 1 else s

end Sys2Proof.Machine
end

