-- ==== Sys2Proof/Machine/Param.lean ====
section
/-! DEFINITION. The parameter block that the ROM programs read (R182), and what they count for their decisions (R96).
Choices: log entry 8 (DESIGN CHOICE). -/

namespace Sys2Proof.Machine

/-- Word `w` of the parameter block, in data RAM (R163, R182). -/
def State.pbWord (s : State) (c : Ch) (w : Nat) : Nat := ((s.ch c).seq.dram.readWord (4 * w)).toNat

/-- The block is valid: PB_VER is 0x0001 (R182). -/
def State.pbOk (s : State) (c : Ch) : Bool := s.pbWord c 0 % 65536 = 1

/-- A field of the block: its default where the block is not valid or the field is 0 (R182). -/
def State.pbField (s : State) (c : Ch) (w hi lo dflt : Nat) : Nat :=
  if s.pbOk c && bits (s.pbWord c w) hi lo ≠ 0 then bits (s.pbWord c w) hi lo else dflt

/-- A flag of word 1: as written in a valid block, else its default (R182). -/
def State.pbFlag (s : State) (c : Ch) (i : Nat) (dflt : Bool) : Bool :=
  if s.pbOk c then (s.pbWord c 1).testBit i else dflt

/-- LPI_EN. -/
def State.pbLpiEn (s : State) (c : Ch) : Bool := s.pbFlag c 0 true
/-- SLEEP_ACCEPT. -/
def State.pbSleepAccept (s : State) (c : Ch) : Bool := s.pbFlag c 1 false
/-- TREND_EN. -/
def State.pbTrendEn (s : State) (c : Ch) : Bool := s.pbFlag c 2 true
/-- DIV_RETRAIN. -/
def State.pbDivRetrain (s : State) (c : Ch) : Bool := s.pbFlag c 3 true
/-- BACKOFF_BASE in ms. -/
def State.pbBase (s : State) (c : Ch) : Nat := s.pbField c 2 15 0 10
/-- BACKOFF_MAX in ms. -/
def State.pbMax (s : State) (c : Ch) : Nat := s.pbField c 2 31 16 1280
/-- LPI_IDLE in microseconds. -/
def State.pbIdle (s : State) (c : Ch) : Nat := s.pbField c 3 19 0 1000
/-- DIAG_FIRST. -/
def State.pbFirst (s : State) (c : Ch) : Nat := s.pbField c 4 7 0 4
/-- DIAG_EVERY. -/
def State.pbEvery (s : State) (c : Ch) : Nat := s.pbField c 4 15 8 8

/-- Changes what the program keeps for its decisions. -/
def State.updPol (s : State) (c : Ch) (g : PolSt → PolSt) : State :=
  s.updCh c fun x => { x with seq := { x.seq with pol := g x.seq.pol } }

/-- The ROM program the sequencer's image is, by its ID (R181). -/
def State.romId (s : State) (c : Ch) : Option Nat :=
  if s.cg c .SEQ_IMG_SRC = 1 then some (s.cg c .SEQ_IMG_PROG_ID) else none

/-- An attempt has failed (R96): after the first failures that DIAG_FIRST gives, and then after every DIAG_EVERY, a
reflectometry run is due; LP-MIN runs none. -/
def State.polFail (s : State) (c : Ch) : State :=
  let n := (s.ch c).seq.pol.fails + 1
  let f := s.pbFirst c
  let due := s.romId c ≠ some 4 && decide (f ≤ n) && decide ((n - f) % s.pbEvery c = 0)
  s.updPol c fun p => { p with fails := n, diag := p.diag || due }

/-- Link control has entered STOP, or the program starts: the back-off runs from here (R96). -/
def State.polStop (s : State) (c : Ch) : State :=
  let t := s.now
  s.updPol c fun p => { p with since := t, typeReq := false, up := false }

/-- The back-off before START, in reference ticks (R96): it doubles with each failure in a row. On a segment it is 10 ms
(R114). -/
def State.backoff (s : State) (c : Ch) : Nat :=
  if isSeg c then 250000 else min (s.pbBase c * 2 ^ (s.ch c).seq.pol.fails) (s.pbMax c) * 25000

end Sys2Proof.Machine
end

