-- ==== Sys2Proof/Machine/Down.lean ====
section
/-! DEFINITION. How a channel goes down: sub-state changes (R20, R21), pads (R153), the forced stop of link control (R83,
R95, R112, R114), what a link loss ends, power-off and reset of a channel domain (R298, R304, R305), QUARANTINE, Safe and
Locked-out (R337, R339, R340). -/

namespace Sys2Proof.Machine

/-! ### Sub-state, pads, sequencer -/

/-- Changes the spare-resource state of channel `c`. -/
def State.updGraft (s : State) (c : Ch) (g : GraftSt → GraftSt) : State :=
  s.updCh c fun x => { x with graft := g x.graft }

/-- A channel calibration ends with a status (R315). BIST ends at its next test step, with the first status it was given,
and its reset still follows (R324). -/
def State.endCalCh (s : State) (c : Ch) (status : Nat) : State :=
  match (s.ch c).graft.run with
  | some t =>
    if t = 8 then s.updGraft c fun g => { g with bistEnd := if g.bistEnd = 0 then status else g.bistEnd } else
    let s := ((s.cs c .CALG_RES_STATUS status).cs c .CALG_RES_PRECOND 0).cs c .GRAFT_EVT_CAL_DONE 1
    let s := if status = 0 then s else s.cs c .GRAFT_EVT_CAL_FAIL 1
    s.updGraft c fun g => { g with run := none }
  | none => s

/-- The sub-states in which a swap may start (R321). -/
def swapSub : SubState → Bool
  | .up | .lpi | .idle | .maint => true
  | .off | .training | .sleep | .quarantine => false

/-- A swap's OTP record may be written (R321): no calibration or BIST runs and no supply warning is present. -/
def State.swapFree (s : State) (c : Ch) : Bool := (s.ch c).graft.run.isNone && s.power.warn.isEmpty

/-- The OTP record of a swap that is approved and not committed starts, or starts again (R321, R322); one that a supply
warning deferred waits for t_DIPHOLD after it.
Readings: log entry 35 (DEDUCED). -/
def State.swapRecord (s : State) (c : Ch) : State :=
  match (s.ch c).graft.swap with
  | some w =>
    if w.running && !w.recording && !w.committed && !w.held && swapSub (s.ch c).sub && s.swapFree c then
      s.updGraft c fun g => { g with swap := some { w with recording := true } }
    else s
  | none => s

/-- A swap before its commit point is deferred (R322), by a supply warning or by a sub-state. The record of a row that BIST
repairs is broken off (R324). -/
def State.swapDefer (s : State) (c : Ch) (supply : Bool) : State :=
  let s := if (s.ch c).graft.rep.any fun w => w.recording then
      (s.updGraft c fun g => { g with rep := g.rep.map fun w => { w with recording := false } }).cs c .GRAFT_EVT_DEFER 1
    else s
  match (s.ch c).graft.swap with
  | some w =>
    if w.recording && !w.committed then
      (s.updGraft c fun g => { g with swap := some { w with recording := false, held := supply } }).cs c .GRAFT_EVT_DEFER 1
    else s
  | none => s

/-- What a change of sub-state does to a swap (R322): leaving the sub-states of R321 other than to OFF defers it, and
their return starts its record again. A channel in OFF abandons it; the substitution of one past its commit point applies at
the next power-up from the OTP record. -/
def State.swapMoved (s : State) (c : Ch) : State :=
  if (s.ch c).sub = .off then s.updGraft c fun g => { g with swap := none, rep := none }
  else if swapSub (s.ch c).sub then s.swapRecord c else s.swapDefer c false

/-- Moves a channel to a sub-state (R20, R107): PREV and CHG record a change, the SNR loses its validity on leaving UP and
LPI (R70), and leaving MAINT clears the loopbacks, test mode and scrambler bypass in the cycle of the transition (R53). -/
def State.setSub (s : State) (c : Ch) (n : SubState) : State :=
  let o := (s.ch c).sub
  if o = n then s else
  let s := ((s.cs c .CHCTL_STATE_PREV o.code).cs c .CHCTL_STATE_CHG 1).updCh c fun x => { x with sub := n }
  let live := fun u => u = SubState.up || u = .lpi
  let s := if live o && !live n then s.cs c .DSP_MSE_VALID 0 else s
  let s := ((if o = .maint then s.endCalCh c 3 else s).diagMoved c o n).swapMoved c
  if o = .maint then
    (((s.cs c .AFE_CTL_LOOP 0).cs c .PCS_CTL_PCS_LOOP 0).cs c .PCS_TESTMODE_MODE 0).cs c .PCS_CTL_SCR_BYPASS 0
  else s

/-- The on-die termination that MODE and TERM select on a segment channel (R109, R154): as latched at the last START, or as
written before the first one. Readings: log entry 37 (DEDUCED). -/
def State.segTerm (s : State) (c : Ch) : Bool :=
  isSeg c && ((s.ch c).pad.sel.getD (s.cg c .SEG_CTL_MODE = 2 || s.cb c .SEG_CTL_TERM))

/-- The on-die termination of a segment pad is on (R153, R154): a held pad keeps what was in effect when it latched. -/
def State.terminated (s : State) (c : Ch) : Bool := if (s.ch c).pad.held then (s.ch c).pad.term else s.segTerm c

/-- The line pads latch (R153): held, with the termination in effect. Readings: log entry 37 (DEDUCED). -/
def State.padLatch (s : State) (c : Ch) : State :=
  let b := s.terminated c
  s.updCh c fun x => { x with pad := { x.pad with held := true, term := b } }

/-- Changes the sequencer of channel `c`. -/
def State.updSeq (s : State) (c : Ch) (g : SeqSt → SeqSt) : State := s.updCh c fun x => { x with seq := g x.seq }

/-- A latching-low copy falls with its condition (R380). -/
def LinkSt.drop (l : LinkSt) : LinkSt := if l.st = .up then l else { l with llPma := false, llAn := false }

/-- As `LinkSt.drop`, for a segment. -/
def SegSt.drop (g : SegSt) : SegSt := if g.st = .up then g else { g with llPma := false, llPcs := false }

/-- Changes link control of channel `c`. -/
def State.updLink (s : State) (c : Ch) (g : LinkSt → LinkSt) : State :=
  s.updCh c fun x => { x with link := (g x.link).drop }

/-- Changes the segment state of channel `c`. -/
def State.updSeg (s : State) (c : Ch) (g : SegSt → SegSt) : State :=
  s.updCh c fun x => { x with seg := (g x.seg).drop }

/-- An attempt, its jam or its backoff is in progress (R116). -/
def State.attempting (s : State) (c : Ch) : Bool :=
  let g := (s.ch c).seg
  (s.ch c).queue.line.isSome && !(g.retry && g.back.isNone)

/-- PLCA resumes after a fallback, once no attempt is in progress (R116 step 2). -/
def State.plcaBack (s : State) (c : Ch) : State :=
  if (s.ch c).seg.toPlca && !s.attempting c then
    (s.updSeg c fun g => { g with toPlca := false, csma := false, plcaOk := true }).cs c .SEG_EVT_BCN_FOUND 1
  else s

/-- Changes the receive DSP state of channel `c`. -/
def State.updDsp (s : State) (c : Ch) (g : DspSt → DspSt) : State := s.updCh c fun x => { x with dsp := g x.dsp }

/-- Changes the running receive DSP of channel `c`. -/
def State.updRx (s : State) (c : Ch) (g : DspRun → DspRun) : State := s.updCh c fun x => { x with rx := g x.rx }

/-- Changes the low-power state of channel `c`. -/
def State.updLpi (s : State) (c : Ch) (g : LpiSt → LpiSt) : State := s.updCh c fun x => { x with lpi := g x.lpi }

/-- The sequencer's program starts from its entry point (R158, R160, R175, R176): the execution state is cleared but for
the SEQ freeze mask, and so are INTRAP, TRAP_CNT and the watchdog. -/
def State.seqEnter (s : State) (c : Ch) : State :=
  let s := s.updSeq c fun q => { q with
    st := .running, pc := s.cg c .SEQ_LOAD_BASE, s := .replicate 16 0, a := .replicate 4 0
    z := false, n := false, c := false, v := false, stack := [], loops := [], reload := .replicate 8 0
    wdog := 0, wait := none, haltedWait := false }
  let s := s.polStop c
  let s := (List.range 8).foldl (fun s n => s.cs c (.SEQ_TMR_COUNT n) 0) s
  (((s.cs c .SEQ_TMRSTAT_RUN 0).cs c .SEQ_STAT_INTRAP 0).cs c .SEQ_STAT_QHALT 0).cs c .SEQ_TRAP_TRAP_CNT 0

/-- Entry to QUARANTINE halts a sequencer that runs or waits, with QHALT (R160, R337). -/
def State.seqQHalt (s : State) (c : Ch) : State :=
  match (s.ch c).seq.st with
  | .running | .waiting =>
    (s.updSeq c fun q => { q with st := .halted, wait := none, haltedWait := false }).cs c .SEQ_STAT_QHALT 1
  | .stopped | .loading | .halted | .trapped => s

/-- The sequencer stops with its channel (R160). -/
def State.seqStop (s : State) (c : Ch) : State :=
  s.updSeq c fun q => { q with st := .stopped, wait := none, haltedWait := false }

/-! ### What ends with a link -/

/-- The reference ticks of 40 ns that a frame of a type lasts, as numerator and denominator (R33, R39, R101); (0, 1) for
a type without frames. -/
def frameTicks (typ : Nat) : Nat × Nat :=
  match typ with
  | 2 => (90, 1) | 3 => (32, 1) | 4 => (16, 1) | 5 => (8, 1) | 6 => (16, 5) | 7 => (544, 25)
  | _ => (0, 1)

/-- `PCS_FRCOUNT.TX_FR` (R55): the frames sent, modulo 65,536. Without a link none is sent and the count stands (R401). -/
def State.txFr (s : State) (c : Ch) : Nat :=
  let l := (s.ch c).line
  let p := frameTicks (s.cg c .PCS_CTL_TYPE)
  match l.frT0 with
  | some t => if p.1 = 0 then 0 else (l.frBase + (s.now - t) * p.2 / p.1) % 65536
  | none => l.frBase % 65536

/-- The LPI freeze mask that R145 gives for the directions that are quiet. -/
def State.lpiMask (s : State) (c : Ch) : Nat :=
  let l := (s.ch c).lpi
  if s.cb c .LPI_STAT_RX_LPI && l.rxQuiet then 0x7F
  else if s.cb c .LPI_STAT_TX_LPI && l.txQuiet then 0x43 else 0

/-- Puts the LPI freeze mask at what R145 gives. -/
def State.setLpiMask (s : State) (c : Ch) : State := s.cs c .DSP_FRZHW_LPI (s.lpiMask c)

/-- What ends when a link goes down by any path: LPI in both directions and a pending TX_REQ (R144), a sleep
transaction (R151), a shift (R106), and the receiver's lock and alignment. No frame of the line's coding is sent from now on
(R401). The frame on the line is cut off and discarded under LINK_DOWN (R23, R95). Readings: log entry 25 (DEDUCED). -/
def State.endLine (s : State) (c : Ch) : State :=
  let s := (((s.cs c .LPI_STAT_TX_LPI 0).cs c .LPI_STAT_RX_LPI 0).cs c .LPI_CTL_TX_REQ 0).cs c .LPI_STAT_SLP_PHASE 0
  let s := s.updLpi c fun l => { l with
    txQuiet := false, rxQuiet := false, sleep := none, fromSleep := false, refHit := false, refMiss := 0
    sleepFr := none, exitAt := none }
  let s := (s.setLpiMask c).updLink c fun l => { l with
    shift := none, x := .none, opWait := false, msg := none, carry := [], onAir := none, seen := [] }
  let s := s.cs c .LINK_SHIFTSTAT_PHASE 0
  let s := (s.cs c .PCS_STAT_ALIGNED 0).cs c .PCS_STAT_BLOCK_LOCK 0
  let n := s.txFr c
  let s := s.updCh c fun x => { x with line := { x.line with
    hit := false, miss := 0, llPcs := false, frBase := n, frT0 := none } }
  s.dropLine c 0

/-- The record of a link loss (R95 steps 1 and 2, R114 steps 1 to 3, R128). -/
def State.noteLoss (s : State) (c : Ch) (cause : Nat) : State :=
  let s := s.updDiag c fun d => { d with iv := { d.iv with up := false, losses := d.iv.losses + 1 } }
  if isSeg c then ((s.cs c .SEG_DROP_CAUSE cause).cinc c .SEG_DROPCNT_COUNT).cs c .SEG_EVT_DOWN 1
  else (((s.cs c .LINK_DROP_CAUSE cause).cs c .LINK_DROP_TYPE (s.cg c .PCS_CTL_TYPE)).cinc c .LINK_DROPCNT_COUNT).cs c
    .LINK_EVT_DOWN 1

/-- Link control of either kind enters STOP. -/
def State.toStop (s : State) (c : Ch) : State :=
  let s := s.polStop c
  if isSeg c then s.updSeg c fun g => { g with
      st := .stop, csma := false, coord := false, plcaOk := false, toPlca := false, cycle := none, burst := 0
      commit := false }
  else s.updLink c fun l => { l with st := .stop, restart := false }

/-- Link control is forced to STOP (R83, R95, R112, R114). A link that was up is a link loss with cause `cause` (`none`:
no code is left, R128). -/
def State.forceStop (s : State) (c : Ch) (cause : Option Nat) : State :=
  let live := s.linkLive c
  let s := match live, cause with
    | true, some k => s.noteLoss c k
    | _, _ => s
  (s.endLine c).toStop c

/-! ### Retention -/

/-- The key store, SA slots, salts and their staging registers are overwritten with zeros (R220, R298). -/
def State.zeroKeys (s : State) (c : Ch) : State :=
  let wipe : List (Nat × Sc) → List (Nat × Sc) := fun l => l.map fun x => (x.1, { x.2 with sas := .replicate 4 none })
  let s := s.updF c fun f => { f with tx := wipe f.tx, rx := wipe f.rx }
  s.clearFields fun f => match f with
    | .ch d (.MS_KEY_DATA _) => d = c
    | .ch d (.MS_SALT_DATA _) => d = c
    | _ => false

/-- Class E of a channel is lost (R305): configuration, shadows, program and data RAM, coefficient banks, SC and SA
state. `RETAIN` itself is class E, but an ordinary channel reset keeps it (R107). -/
def State.loseE (s : State) (c : Ch) (keepRetain : Bool) : State :=
  let s := (s.zeroKeys c).clearFields fun f => match f with
    | .ch d g => d = c && g.info.keep = .e && !(keepRetain && g = .CHCTL_RETAIN_EN)
    | .dev _ => false
  s.updCh c fun x => { x with
    shadow := [], dsp := DspSt.init
    seq := { x.seq with pram := [], dram := [], rom := 0, meas := 0, pol := { x.seq.pol with adv := none } }
    frame := { x.frame with tx := [], rx := [] } }

/-- Class F of a channel is lost (R305): counters, status, contexts, queues, trends. The engines start in acquisition, also where
their coefficients are kept under RETAIN, which R64 does not say (DESIGN CHOICE, log entry 28). -/
def State.loseF (s : State) (c : Ch) : State :=
  let s := s.clearFields fun f => match f with
    | .ch d g => d = c && g.info.keep = .f
    | .dev _ => false
  s.updCh c fun x => { x with
    line := LineSt.init, rx := DspRun.init, link := LinkSt.init, seg := SegSt.init, diag := DiagSt.init, lpi := LpiSt.init
    queue := QueueSt.init, frame := { FrameSt.init with tx := x.frame.tx, rx := x.frame.rx }
    graft := x.graft.loseF
    seq := { SeqSt.init with
      st := x.seq.st, pram := x.seq.pram, dram := x.seq.dram, rom := x.seq.rom, ld := x.seq.ld, meas := x.seq.meas
      pol := { SeqSt.init.pol with adv := x.seq.pol.adv } } }

/-! ### Votes that take effect, and Heartwood's loads -/

/-- The logic clocks of every channel are stopped and each domain keeps the power state it had (R296, R301): in Standby, and
from STBY_READY on. A drain or a power-up under way goes on at the return to Active (DEDUCED, log entry 16). -/
def State.retained (s : State) : Bool := s.power.mode = .standby || s.power.chg = .stbyReady

/-- A vote that arrives during a drain ends it: the channel stays powered and tokens are issued again (R247). A Service
request drains whatever the votes say (R18). -/
def State.cancelDrain (s : State) (c : Ch) : State :=
  if (s.ch c).pst = .draining && s.power.chg ≠ .service && !s.retained then
    (s.updCh c fun x => { x with pst := .on, queue := { x.queue with drain := false } }).issue c
  else s

/-- The votes of channel domains take effect (R296, R301): no mode change holds them. Until STBY_READY the part that
prepares for Standby is in Active, and they do. -/
def ModeChg.votes : ModeChg → Bool
  | .none | .stbyPrep => true
  | .stbyReady | .stbyExit | .service | .dormantEntry | .dormantExit => false

/-- A channel domain may power up now (R296): its vote counts in Boot once step 2 of R347 is complete, in Active and in
Safe, outside a mode change that holds it. In Standby a vote takes effect at the return to Active. -/
def State.upAllowed (s : State) : Bool :=
  s.power.chg.votes && s.power.held.isEmpty &&
  match s.power.mode with
  | .boot => s.db .ID_OTPSTAT_OTP_LOADED
  | .active | .safe => true
  | .off | .dormant | .standby | .service | .lockedOut => false

/-- A vote that stands powers the domain up or ends its drain (R247, R296). -/
def State.voteUp (s : State) (c : Ch) : State :=
  match (s.ch c).pst with
  | .off => if s.upAllowed && !(s.ch c).stuckOff then s.updCh c fun x => { x with pst := .poweringUp } else s
  | .draining => s.cancelDrain c
  | .poweringUp | .on | .poweringDown => s

/-- A channel's sequencer moves to LOADING (R160, R179 step 1). Readings: log entry 49 (DEDUCED). -/
def State.startLoad (s : State) (c : Ch) (l : Ld) : State :=
  s.updSeq c fun q => { q with st := .loading, ld := l, wait := none, haltedWait := false }

/-- The domain is on, out of reset and clocked, with its SEQ enable set, so that Heartwood can write its memories and the
sequencer may leave STOPPED (R281). -/
def State.loadable (s : State) (c : Ch) : Bool :=
  (s.ch c).pst = .on && !(s.ch c).closing && s.power.mode ≠ .standby && s.power.chg ≠ .stbyReady &&
    (s.dg (.CLK_CHEN_EN c.val)).testBit 9

/-- Heartwood goes on with an accepted image (R179, R348): it votes for the first channel still to load and starts the load
where that channel can take it; after the last, the SUBMIT ends, and a window whose end is due closes (R347). -/
def State.feed (s : State) : State :=
  match s.heart.img, s.heart.todo with
  | none, _ => s
  | some _, c :: _ =>
    let s := (s.voteBit c 6 true).voteUp c
    if s.loadable c && (s.ch c).seq.st ≠ .loading then s.startLoad c .image else s
  | some _, [] =>
    ((s.heartRes 1 0 0).clearStaging).updHeart HeartSt.done

/-- A channel reset or power-off abandons the load in progress into it (R348, R355): Heartwood's vote goes, the channel
holds no program, so that it takes its ROM program, and the other channels of the mask still load.
Readings: log entry 49 (DEDUCED). -/
def State.abandonLoad (s : State) (c : Ch) : State :=
  let l := (s.ch c).seq.ld
  if l = .none then s else
  let s := ((s.updSeq c fun q => { q with ld := .none }).voteBit c 6 false).cs c .SEQ_IMG_SRC 0
  if l = .image then (s.updHeart fun h => { h with todo := h.todo.drop 1 }).feed else s

/-! ### Reset and power-off of a channel -/

/-- Steps 1 to 4 of the power-off of a channel's domain (R298): link control is forced to STOP, what is queued is discarded
under FLUSH, the sub-state is OFF, keys are zeroised, the pads latch and the clamps close. The posted buffer takes no
write from now on (R402). -/
def State.offBegin (s : State) (c : Ch) : State :=
  let s := (((s.forceStop c none).dropAll c).answerFlush c).setSub c .off
  let s := ((s.seqStop c).zeroKeys c).padLatch c
  s.updCh c fun x => { x with pst := .poweringDown, closing := true, offDue := true }

/-- Step 5 of R298: the domain's reset asserts and its switch opens. Credit is resynchronised (R247, R305).
Readings: log entry 17 (DEDUCED). -/
def State.powerOff (s : State) (c : Ch) : State :=
  let s := ((s.resync c).voteBit c 6 false).loseF c
  let s := (s.loseE c false).updGraft c fun _ => GraftSt.init
  let s := s.blkOff (inDomain c)
  let s := (List.finRange 12).foldl (fun s k => s.setLive (.ch c k) false) s
  let s := s.mmLevel c
  let s := s.updCh c fun x => { x with 
    pst := .off, closing := false, offDue := false, posted := [], queue := QueueSt.init, pad := { x.pad with sel := none } }
  let s := s.ds .CLK_PLLSTAT_LOCK (setBitTo (s.dg .CLK_PLLSTAT_LOCK) c.val false)
  let s := if isTrunk c then s.ds .CLK_LPLLSTAT_LOCK (setBitTo (s.dg .CLK_LPLLSTAT_LOCK) c.val false) else s
  (s.cs c .CHPWR_EVT_OFF 1).abandonLoad c

/-- A channel's domain powers off (R298): step 5 waits until every write already in the posted buffer has landed (R402).
Readings: log entry 17 (DEDUCED). -/
def State.offNow (s : State) (c : Ch) : State :=
  let s := s.offBegin c
  if (s.ch c).posted.isEmpty then s.powerOff c else s

/-- A channel's drain starts (R247, R298). The withdrawal takes effect at the next frame boundary of each direction: toward
the line at once where no frame is on it, else at that frame's end; from the line, after the frame that was arriving. -/
def State.startDrain (s : State) (c : Ch) : State :=
  (s.updCh c fun x => { x with pst := .draining }).atBoundary c

/-- Puts a channel's domain where its votes, the mode and a Service request leave it (R296 to R298, R300). -/
def State.evalVote (s : State) (c : Ch) : State :=
  if s.voted c then s.voteUp c
  else match (s.ch c).pst with
    | .off | .poweringDown | .draining => s
    | .poweringUp => s.updCh c fun x => { x with pst := .off }
    | .on => match s.power.mode with
      | .active => if s.power.chg.votes then s.startDrain c else s
      | .boot | .safe | .service | .lockedOut => s.offNow c
      | .off | .dormant | .standby => s

/-- A vote of channel `c` changed (R297, R298, R300): a switch left open by a failed power-up may close again. -/
def State.voteChanged (s : State) (c : Ch) : State :=
  (s.updCh c fun x => { x with stuckOff := false }).evalVote c

/-- A debug session ends (R366): its votes are withdrawn and take effect.
Choices: log entry 17 (DEDUCED), log entry 51 (DEDUCED). -/
def State.endSession (s : State) (cause : Nat) : State :=
  if s.session then
    let mask := s.dg .DBG_CHMASK_CH
    let s := s.closeSession cause
    (s.forCh fun s c => if mask.testBit c.val then s.voteChanged c else s).dbgPower
  else s

/-- An operation is cut by a reset, by the loss of PD34 or by Locked-out (R340, R355): what an OTP write in progress has
come to is free as R354 and R357 allow, and everything else of the operation is lost. A lifecycle change that was made is
noted and ends a session (R356, R366), and so does the revocation of the slot that signed its token.
Readings: log entry 50 (DEDUCED). -/
def State.endHeart (s : State) : State :=
  let s := match s.heart.op with
    | some (.rbSet cnt v) => s.rbCut cnt v
    | some (.keyProg k h) =>
      let r := s.fresh 1
      if r.1 = 1 then r.2.updOtp fun o => o.keyOp 1 k h else r.2
    | some (.keyImage op k h) =>
      let r := s.fresh 1
      if r.1 = 1 then
        let t := r.2.updOtp fun o => o.keyOp op k h
        if op = 2 && t.dg .DBG_STAT_SLOT = k then t.endSession 7 else t
      else r.2
    | some .deploy =>
      let r := s.fresh 1
      if r.1 = 1 then ((r.2.updOtp fun o => { o with lc := 2 }).ds .HEART_EVT_LC_CHG 1).endSession 6 else r.2
    | some (.ret ref slot fp) =>
      let r := s.fresh 1
      if r.1 = 1 then (r.2.lcCut (.ret ref slot fp)).endSession 6 else r.2
    | some .scrap =>
      let r := s.fresh 1
      if r.1 = 1 then (r.2.lcCut .scrap).endSession 6 else r.2
    | some .submit | some (.attest _ _) | some (.retTok _) | some .openTok | none => s
  (s.ds .DBG_STAT_BUSY 0).updHeart fun h => { h with op := none, boot := 0, img := none, todo := [] }

/-- The key-hash staging is cleared (R353, R369). -/
def State.clearKeyHash (s : State) : State :=
  s.clearFields fun f => match f with
    | .dev (.HEART_KEYHASH_DATA _) => true
    | _ => false

/-- The staged attestation nonce is cleared (R360, R369). -/
def State.clearAnonce (s : State) : State :=
  s.clearFields fun f => match f with
    | .dev (.HEART_ANONCE_DATA _) => true
    | _ => false

/-- A reset clears the token buffer and Heartwood's staging (R349, R369), but for what an operation in progress still
reads, which it clears itself as it ends: a token check the token, an ATTEST its nonce, and a SUBMIT before its verdict the
image. Readings: log entry 17 (DEDUCED). -/
def State.clearStaged (s : State) : State :=
  let s := s.clearKeyHash
  match s.heart.op with
  | some (.retTok _) | some .openTok => s.clearStaging.clearAnonce
  | some (.attest _ _) => s.clearToken.clearStaging
  | some .submit => if s.heart.img.isSome then s.clearToken.clearStaging.clearAnonce else s.clearToken.clearAnonce
  | some (.keyProg _ _) | some (.keyImage _ _ _) | some .deploy | some (.ret _ _ _) | some .scrap | some (.rbSet _ _) | none =>
    s.clearToken.clearStaging.clearAnonce

/-- Every reset closes KEYGATE (R264), ends a session, makes the nonce invalid and clears what is staged (R349, R362, R366,
R369). Readings: log entry 17 (DEDUCED). -/
def State.resetDebug (s : State) : State := ((s.endSession 3).dropNonce.clearStaged).ds .KEYGATE_OPEN 0

/-- The start of a channel reset (R304 step 1): the link is forced to STOP, every queued frame is discarded under FLUSH
and the pairs are resynchronised (R243, R247), the pads latch, the sub-state is OFF and the posted buffer closes (R402).
Where its cycle also withdraws the channel's last vote, which ends with the session or with the abandoned load, it acts as a
power-off instead. Readings: log entry 17 (DEDUCED). -/
def State.beginReset (s : State) (c : Ch) : State :=
  let was := s.voted c
  let s := (s.abandonLoad c).resetDebug
  if was && !s.voted c then s.voteChanged c else
  let s := (((s.forceStop c none).dropAll c).answerFlush c).resync c
  let s := ((s.padLatch c).setSub c .off).seqStop c
  s.updCh c fun x => { x with closing := true }

/-! ### QUARANTINE, Safe, Locked-out -/

/-- The effects of entry to QUARANTINE (R337), without the report of a link loss. -/
def State.toQuarantine (s : State) (c : Ch) : State :=
  let s := (s.forceStop c (some 0x06)).setSub c .quarantine
  s.seqQHalt c

/-- The device mode changes (R17, R307). -/
def State.setMode (s : State) (m : DevMode) : State :=
  let o := s.power.mode
  let s := { s with power := { s.power with mode := m } }
  (((s.ds .PWR_MODE_STAT_PREV o.code).ds .PWR_EVT_MODE_CHG 1).sysEvtAll 5).dbgPower

/-- A channel's domain goes off whatever its votes (R302, R340): at once where it was not yet up, and once its posted writes
have landed where it was on (R402). -/
def State.domainOff (s : State) (c : Ch) : State :=
  match (s.ch c).pst with
  | .on | .draining => s.offNow c
  | .poweringUp => s.updCh c fun x => { x with pst := .off }
  | .off | .poweringDown => s

/-- Entry to Locked-out (R340). Nothing is drained and no fault is raised by the power-off (R299). -/
def State.lockOut (s : State) : State :=
  let s := (s.endHeart).endSession 5
  let s := s.forCh fun s c => s.domainOff c
  let s := { s with power := { s.power with inh := true, chg := .none } }
  s.setMode .lockedOut

end Sys2Proof.Machine
end

