-- ==== Sys2Proof/Machine/Pll.lean ====
section
/-! DEFINITION. The PLLs of the part (R279, R280, R286, R288): their lock bits, the roots the types select, the driver hold
of R284, and the exit from UCIe L2 (R301). -/

namespace Sys2Proof.Machine

/-- The channel a PLL serves. -/
def pllChan : Pll → Option Ch
  | .channel c => some c
  | .line t => some ⟨t.val, by omega⟩
  | .service => none

/-- A PLL's lock bit (R288). -/
def State.pllLocked (s : State) : Pll → Bool
  | .channel c => (s.dg .CLK_PLLSTAT_LOCK).testBit c.val
  | .line t => (s.dg .CLK_LPLLSTAT_LOCK).testBit t.val
  | .service => s.db .CLK_REFSTAT_SPLL_LOCK

/-- Sets or clears a PLL's lock bit. -/
def State.setPll (s : State) (p : Pll) (b : Bool) : State :=
  match p with
  | .channel c => s.ds .CLK_PLLSTAT_LOCK (setBitTo (s.dg .CLK_PLLSTAT_LOCK) c.val b)
  | .line t => s.ds .CLK_LPLLSTAT_LOCK (setBitTo (s.dg .CLK_LPLLSTAT_LOCK) t.val b)
  | .service => s.ds .CLK_REFSTAT_SPLL_LOCK (b2n b)

/-- The type whose clocks a channel uses: the one it trains for, else its active type (R33, R279). -/
def State.clockTyp (s : State) (c : Ch) : Nat :=
  if (s.ch c).link.st = .train then (s.ch c).link.typ else s.cg c .PCS_CTL_TYPE

/-- The root a type's clocks are divided from, in MHz (R279, R280); with no type, that of the class's lowest. -/
def rootMhz (c : Ch) (typ : Nat) : Nat :=
  match classOf c with
  | .trunk => if 3 ≤ typ then 56250 else 18750
  | .branch => if typ = 3 then 5625 else if typ = 2 then 3750 else 5000
  | .segment => 500

/-- A type is selected: a change between roots relocks the channel PLL, so that its lock bit falls until PLL_LOCK (R279). -/
def State.takeRoot (s : State) (c : Ch) (typ : Nat) : State :=
  let same := rootMhz c typ = rootMhz c (s.ch c).link.rootTyp
  let s := s.updLink c fun l => { l with rootTyp := typ }
  if same then s else s.setPll (.channel c) false

/-- Both PLLs that a channel's type uses are locked: in XT50 the line PLL too (R280, R286). -/
def State.pllsReady (s : State) (c : Ch) : Bool :=
  s.pllLocked (.channel c) &&
    (if h : c.val < 8 then s.clockTyp c ≠ 7 || s.pllLocked (.line ⟨c.val, h⟩) else true)

/-- Ends a channel's driver hold of R284, once both its PLL lock and the reference's return have come (R286 step 4). -/
def State.endDrvHold (s : State) (c : Ch) : State :=
  if s.pllsReady c && !s.db .CLK_REFSTAT_REF_LOST then
    s.updCh c fun x => { x with pad := { x.pad with drvHold := false } }
  else s

/-- The channel and line PLLs of every powered channel lock again (R301), where their loops are closed: at the exit from
Standby and where its preparation is cancelled after they powered down. Driver holds that waited for them end (R286). -/
def State.relock (s : State) : State :=
  if s.clock.coasting then s else
  let on := chMask s.powered
  let s := (s.ds .CLK_PLLSTAT_LOCK on).ds .CLK_LPLLSTAT_LOCK (on % 256)
  s.forCh fun s c => if s.powered c then s.endDrvHold c else s

/-- The part leaves UCIe L2 (R232, R301). -/
def State.leaveL2 (s : State) : State := (s.ds .HOST_EVT_L2_EXIT 1).hostActive

end Sys2Proof.Machine
end

