-- ==== Sys2Proof/Machine/React.lean ====
section
/-! DEFINITION. Canopy's reactions (R337 to R340), the assertion of a source with its reaction, and link loss (R95, R114).
An assertion that a reaction itself causes is the link loss it reports; where that one is not merged it has its own
reaction. -/

namespace Sys2Proof.Machine

/-- The link loss that a reaction reports at Canopy source k = 4 (R128, R337). It is normally merged into the reaction's
record; where it is not, class C3 locks the device out, and class C2 with C2ACT = 1 resets the channel; with C2ACT = 0 the
channel enters QUARANTINE, which the reaction that reports the loss does. -/
def State.reportLoss (s : State) (c : Ch) (addr : Nat) : State :=
  let cl := s.classOfSrc (.ch c 4)
  let r := s.record (.ch c 4) 0 addr
  if r.2 = .merged then r.1
  else if cl = 3 then r.1.lockOut
  else if cl = 2 && s.cb c .FLT_CFG_C2ACT && (s.ch c).sub ≠ .off then
    ((r.1.voteBit c 7 true).cancelDrain c).beginReset c
  else r.1

/-- Entry of one channel to QUARANTINE (R337): bit 7 of its vote is set, and a link that was up is a link loss with cause
0x06, reported at Canopy. A channel in OFF is left alone. -/
def State.quarantine (s : State) (c : Ch) : State :=
  if (s.ch c).sub = .off then s else
  let live := s.linkLive c
  let s := ((s.voteBit c 7 true).cancelDrain c).toQuarantine c
  if live then s.reportLoss c 0x06 else s

/-- Entry to Safe (R339). From Standby the part first leaves UCIe L2; there and from STBY_READY on the PLLs lock again and the
channel clocks restart. Bit 7 then holds a domain whose drain Standby had kept. -/
def State.enterSafe (s : State) : State :=
  let s := if s.power.mode = .standby then s.leaveL2 else s
  let s := if s.retained then s.relock else s
  let s := { s with power := { s.power with chg := .none } }
  let s := s.forCh fun s c => s.quarantine c
  match s.power.mode with
  | .lockedOut => s
  | .off | .dormant | .standby | .boot | .active | .service | .safe =>
    (s.setMode .safe).forCh fun s c => if (s.cg c .CHPWR_VOTE_CLIENTS).testBit 3 then s.cancelDrain c else s

/-- Canopy's reaction to an assertion of class `cl` that was not merged (R337). -/
def State.react (s : State) (x : SrcId) (cl : Nat) : State :=
  match cl with
  | 3 => match s.power.mode with
    | .off | .lockedOut => s
    | .dormant | .standby | .boot | .active | .service | .safe => s.lockOut
  | 2 => match x with
    | .ch c _ =>
      if (s.ch c).sub = .off then s
      else if s.cb c .FLT_CFG_C2ACT then
        let live := s.linkLive c
        let s := (s.voteBit c 7 true).cancelDrain c
        let s := if live then s.reportLoss c 0x09 else s
        if s.power.mode = .lockedOut || (s.ch c).closing then s else s.beginReset c
      else s.quarantine c
    | .dev _ => match s.power.mode with
      | .standby | .boot | .active | .service => s.enterSafe
      | .off | .dormant | .safe | .lockedOut => s
  | _ => s

/-- Asserts a source: it is recorded and delivered (R332, R341), and takes its reaction unless it was merged (R337) or is
a dry run (R342). -/
def State.assertSrc (s : State) (x : SrcId) (kind addr : Nat) (forced : Bool := false) : State :=
  let cl := s.classOfSrc x
  let dry := forced && s.db .FC_TESTCFG_DRYRUN
  let r := s.record x kind addr forced
  if r.2 = .merged || dry then r.1 else r.1.react x cl

/-- A level source's condition rises: its live bit follows and the assertion counts (R327, R335). -/
def State.raiseLevel (s : State) (x : SrcId) (kind addr : Nat) : State :=
  if s.live x then s else (s.setLive x true).assertSrc x kind addr

/-- A level source's condition falls (R335). -/
def State.fallLevel (s : State) (x : SrcId) : State := s.setLive x false

/-- The causes of link loss that also assert Canopy source k = 4 (R128). -/
def lossAsserts (cause : Nat) : Bool :=
  cause = 0x06 || cause = 0x08 || cause = 0x10 || cause = 0x11 || cause = 0x12 || cause = 0x13 || cause = 0x15 ||
  cause = 0x20 || cause = 0x30 || cause = 0x40 || cause = 0x41 || cause = 0x50

/-- Link loss by a failure criterion, a command or the part's own RESTART (R95, R114): it is counted, and asserted where
R128 marks the cause; link control goes to HOLDOFF, with a restart due after a RESTART, and on a segment to STOP; the
sub-state becomes IDLE (R21). -/
def State.linkLoss (s : State) (c : Ch) (cause : Nat) (restart : Bool) : State :=
  if !s.linkLive c then s else
  let s := s.noteLoss c cause
  let s := s.endLine c
  let s := if isSeg c then s.toStop c
    else s.updLink c fun l => { l with st := .holdoff, restart := restart }
  let s := s.setSub c .idle
  if lossAsserts cause then s.assertSrc (.ch c 4) 0 cause else s

/-- OFF to IDLE (R21): the domain is powered and out of reset and the sequencer has entered RUNNING, outside Safe and Service,
where a channel in OFF stays there (R17). Readings: log entry 17 (DEDUCED). -/
def State.idleCheck (s : State) (c : Ch) : State :=
  match s.power.mode, (s.ch c).seq.st with
  | .safe, _ | .service, _ | _, .stopped | _, .loading => s
  | _, _ => if (s.ch c).sub = .off && s.powered c && !(s.ch c).closing then s.setSub c .idle else s

/-- The QUARANTINE release of one channel (R338, R339): it enters IDLE, bit 7 of its vote is cleared and the sequencer
starts at its entry point. Readings: log entry 29 (DEDUCED). -/
def State.releaseCh (s : State) (c : Ch) : State :=
  let s := (s.setSub c .idle).voteBit c 7 false
  match (s.ch c).seq.st with
  | .halted | .trapped => s.seqEnter c
  | .stopped | .loading | .running | .waiting => s

/-- A home holds an open window of class C2 or C3 (R338). Readings: log entry 29 (DEDUCED). -/
def State.heldBy (s : State) (h : Home) : Bool := s.winOpen h && decide (2 ≤ s.recClass h)

end Sys2Proof.Machine
end

