-- ==== Sys2Proof/Machine/Resets.lean ====
section
/-! DEFINITION. Resets of the whole part (R304, R305), the host-port reset (R248), entry to Boot, and the references in
use (R276, R284). -/

namespace Sys2Proof.Machine

/-! ### References -/

/-- The monitor of REFA or REFB reports good (R284). -/
def State.refOk (s : State) : RefIn → Bool
  | .refA => s.clock.okA
  | .refB => s.clock.okB

/-- The reference a Boot entry takes under `CLK_REFCTL.SEL` (R276): `none` while no allowed one is good. -/
def State.refChoice (s : State) : Option RefIn :=
  match s.dg .CLK_REFCTL_SEL with
  | 1 => if s.clock.okA then some .refA else none
  | 2 => if s.clock.okB then some .refB else none
  | _ => if s.clock.okA then some .refA else if s.clock.okB then some .refB else none

/-- The code of a reference in `CLK_REFSTAT.ACTIVE`. -/
def refCode : RefIn → Nat
  | .refA => 1
  | .refB => 2

/-- The reference in use, from `CLK_REFSTAT.ACTIVE`. -/
def State.refInUse (s : State) : Option RefIn :=
  match s.dg .CLK_REFSTAT_ACTIVE with
  | 1 => some .refA
  | 2 => some .refB
  | _ => none

/-- Steps 1 to 3 of R284, with no source asserted. -/
def State.refDown (s : State) : State :=
  let s := (s.ds .CLK_REFSTAT_REF_LOST 1).ds .CLK_EVT_REF_LOST 1
  let khz := s.fresh 16
  let s := khz.2.ds .CLK_RCMEAS_KHZ khz.1
  let s := (s.sysEvtAll 7)
  let s := { s with clock := { s.clock with coasting := true } }
  let s := ((s.ds .CLK_PLLSTAT_LOCK 0).ds .CLK_LPLLSTAT_LOCK 0).ds .CLK_REFSTAT_SPLL_LOCK 0
  s.forCh fun s c => s.updCh c fun x => { x with pad := { x.pad with drvHold := true } }

/-- The reference in use goes bad (R284): every step of that rule, in its cycle. The links it ends are lost with cause
0x13 (R95); segment channels stay in their state. -/
def State.loseRef (s : State) (r : RefIn) : State :=
  let s := s.refDown.raiseLevel (.dev 2) (refCode r) 0
  s.forCh fun s c => if isSeg c then s else s.linkLoss c 0x13 false

/-- The reference that SEL names, or in automatic mode the one in use (R276): what a Boot uses where none is good. -/
def State.refNamed (s : State) : Option RefIn :=
  match s.dg .CLK_REFCTL_SEL with
  | 1 => some .refA
  | 2 => some .refB
  | _ => s.refInUse

/-- The choice of a reference at an entry to Boot (R276); with no allowed one good the part boots with the reference of
`State.refNamed` lost (R284, R287). Where the reference in use changes or comes back, the service PLL locks to it again: PLL_LOCK and
SVC_CLOCK_RESTART follow (R286). Readings: log entry 17 (DEDUCED). -/
def State.takeRef (s : State) : State :=
  match s.refChoice with
  | some r =>
    let same := s.refInUse = some r && !s.db .CLK_REFSTAT_REF_LOST
    let s := (s.ds .CLK_REFSTAT_ACTIVE (refCode r)).ds .CLK_REFSTAT_REF_LOST 0
    let s := { s with clock := { s.clock with coasting := false } }
    (if same then s else s.ds .CLK_REFSTAT_SPLL_LOCK 0).fallLevel (.dev 2)
  | none => match s.refNamed with
    | some r =>
      let s := s.ds .CLK_REFSTAT_ACTIVE (refCode r)
      if s.db .CLK_REFSTAT_REF_LOST && s.clock.coasting then s else s.refDown
    | none => s

/-- The reference that a Boot begins without, where it was not yet lost (R284, R287). -/
def State.refMissed (s : State) : Option RefIn :=
  if s.refChoice.isSome || (s.db .CLK_REFSTAT_REF_LOST && s.clock.coasting) then none else s.refNamed

/-! ### The host-port reset -/

/-- The host link goes down and its stream ends (R248 step 1), so that nothing more is sent before the adapter is ACTIVE
again. -/
def State.linkDown (s : State) (linkError : Bool) : State :=
  { s with host := { s.host with ul := if linkError then .linkError else .training } }.ds .HOST_STAT_NG_UP 0

/-- The discarding and resynchronisation of a host-port reset (R248). A frame on the line finishes if complete. -/
def State.hostPortReset (s : State) (linkError : Bool) : State :=
  let s := (s.linkDown linkError).resetDebug.ds .HOST_EVT_HPRESET 1
  let s := s.forCh fun s c =>
    let s := match (s.ch c).queue.line with
      | some l => if l.frame.complete then s else (s.dropLine c rFlush).plcaBack c
      | none => s
    clsUp.foldl (fun s k => (s.dropEgCls c k rFlush).dropInCls c k fun f => f.sent.isSome) s
  let s := s.forCh fun s c => s.updQ c fun q => { q with eg := q.eg.map fun e => { e with drop := none } }
  let pairs := s.host.pairs.map fun v => v.map fun p => { p with owed := 0 }
  { s with host := { s.host with tod := [], pairs := pairs } }.resyncAll

/-! ### Device resets -/

/-- Every channel's domain is off, nothing drained, classes E and F lost (R304, R305). A CONTROL FLUSH not yet answered goes
with the host port's unsent messages (R248). -/
def State.allOff (s : State) : State :=
  s.forCh fun s c =>
    let s := s.updQ c fun q => { q with flushTags := [] }
    let s := if s.powered c then (s.offBegin c).powerOff c else if (s.ch c).offDue then s.powerOff c else s
    s.updCh c fun x => { x with pst := .off, closing := false, offDue := false, stuckOff := false, posted := [] }

/-- What every warm reset clears beside register fields: sessions, staging, MDIO windows, gates, operating-point change
(R304, R366, R384). -/
def State.clearUnits (s : State) : State :=
  { s with
    heart := HeartSt.init, dbgr := DebugSt.init, integ := ⟨0, [], []⟩, mgmt := MgmtSt.init
    jtag := { JtagSt.init with trst := s.jtag.trst }
    cal := s.cal.warm
    clock := { s.clock with gates := [] }
    power := { s.power with chg := .none, hot := false, opChg := none, wakeNow := false } }

/-- A device source that the first cycle of a Boot asserts (R284, R328). -/
def State.bootSrc (s : State) (lost : Option RefIn) (i : Nat) : State :=
  match i with
  | 1 => s.assertSrc (.dev 1) (s.dg .TAP_RSTCAUSE_RAIL) 0
  | 2 => match lost with
    | some r => s.raiseLevel (.dev 2) (refCode r) 0
    | none => s
  | _ => s.assertSrc (.dev 10) 0 0

/-- The first cycle of a Boot (R276, R328): the reference is chosen, and what led here asserts its source: a supply reset,
the Heartwood watchdog, a reference that no choice found, in the order of R334. -/
def State.startBoot (s : State) : State :=
  let lost := s.refMissed
  let s := s.takeRef
  let kind := s.dg .TAP_RSTCAUSE_KIND
  let due := (if kind = 5 then [1] else []) ++ (if lost.isSome then [2] else []) ++ (if kind = 4 then [10] else [])
  (byClass (fun i => s.classOfSrc (.dev i)) due).foldl (fun s i => s.bootSrc lost i) s

/-- A warm reset ends and the part enters Boot (R18, R304). Clock-wait, where it still holds, goes on (R287). -/
def State.enterBoot (s : State) : State :=
  let s := { s with power := { s.power with held := [] } }
  if s.power.clockWait then s else s.startBoot

/-- A cause that held the part in reset ends; the part enters Boot when none is left (R18, R304).
Readings: log entry 17 (DEDUCED). -/
def State.releaseReset (s : State) (k : RstKind) : State :=
  if s.power.held.contains k then
    let h := s.power.held.filter (· ≠ k)
    if h.isEmpty then s.enterBoot else { s with power := { s.power with held := h } }
  else s

/-- A warm reset (R304, R305): the channels are off, classes E and F and service configuration are lost but for what the
table keeps, KEYGATE closes (R264), the host port is reset (R248), and the part enters Boot, or is held in reset while
RESET_N is low or a supply is out of range. -/
def State.warmReset (s : State) (k : RstKind) (rail : Nat := 0) : State :=
  let prev := s.power.mode
  let s := ((s.linkDown false).endHeart.resetDebug).allOff
  let s := s.clearFields fun f => match f.info.keep with
    | .c | .d | .sk => false
    | .e | .f | .s | .p => true
  let s := ((s.ds .KEYGATE_OPEN 0).ds .TAP_RSTCAUSE_KIND k.code)
  let s := if k = .supply then s.ds .TAP_RSTCAUSE_RAIL rail else s
  let s := s.clearUnits.hostPortReset false
  let s := { s with host := { s.host with ul := .reset, width32 := false } }
  let s := if prev = .boot then s else s.setMode .boot
  match k with
  | .resetN | .supply => { s with power := { s.power with held := k :: s.power.held.filter (· ≠ k) } }
  | .soft | .heartWdog => s.enterBoot

/-- A device reset is taken in every mode but Off, Dormant and Locked-out (R18, R303, R304). -/
def State.resettable (s : State) : Bool :=
  match s.power.mode with
  | .off | .dormant | .lockedOut => false
  | .standby | .boot | .active | .service | .safe => true

/-- Every switched domain is off (R302 step 4, R305): only Taproot's fields and OTP stay. -/
def State.domainsOff (s : State) : State :=
  let s := s.clearFields fun f => f.info.keep ≠ .c
  let warn := s.power.warn.filter (· = 0)
  let s := s.clearUnits
  { s with
    power := { s.power with warn := warn, dip := if warn.isEmpty then none else s.power.dip }
    canopy := { State.reset.canopy with sbOut := s.canopy.sbOut }
    cal := State.reset.cal
    chans := s.chans.map fun x => { Chan.init with pad := { x.pad with sel := none } }
    host := { State.reset.host with out := s.host.out }
    clock := { s.clock with armedA := false, okA := false, okB := false, coasting := false, gates := [] } }

end Sys2Proof.Machine
end

