-- ==== Sys2Proof/Machine/Clock.lean ====
section
/-! DEFINITION. The clock commands: references and monitors (R275 to R277, R284 to R287), PLL lock (R286, R330), clock
enables and gates (R281, R282). -/

namespace Sys2Proof.Machine

/-- Changes the clock state. -/
def State.updClock (s : State) (g : ClockSt → ClockSt) : State := { s with clock := g s.clock }

/-- RC_READY (R277, R287): RC_RDY is set and the REFB monitor is armed at once. -/
def execRcReady (s : State) : Host.Outcome State Fault Refusal :=
  match s.power.mode with
  | .off => ok s
  | .dormant | .standby | .boot | .active | .service | .safe | .lockedOut =>
    ok (s.updClock fun k => { k with rcRdy := true, armedB := true })

/-- XSD_DELAY_EXPIRE (R277, R391): the crystal start delay has been counted on the RC oscillator, so the REFA monitor is
armed. It starts from bad (R284). -/
def execXsdDelayExpire (s : State) : Host.Outcome State Fault Refusal :=
  if s.clock.rcRdy && !s.clock.armedA then ok (s.updClock fun k => { k with armedA := true, okA := false }) else ok s

/-- The end of clock-wait (R287): PD36 leaves reset, Canopy time starts from 0 (R331), and Boot begins on the reference
R276 chooses. -/
def State.endClockWait (s : State) : State :=
  if s.power.clockWait then
    match s.refChoice with
    | some _ =>
      { s with power := { s.power with clockWait := false }, canopy := { s.canopy with time := 0 } }.startBoot
    | none => s
  else s

/-- The reference in use is declared good again (R286 step 1): the loops of every PLL close. -/
def State.closeLoops (s : State) (r : RefIn) : State :=
  if s.db .CLK_REFSTAT_REF_LOST && s.refInUse = some r then s.updClock fun k => { k with coasting := false } else s

/-- REF_QUALIFY (R284, R286, R287): an armed monitor has seen t_REFQUAL of good signal. It declares its reference good,
ends a clock-wait that waits for it, and closes the loops where it is the reference in use. -/
def execRefQualify (r : RefIn) (s : State) : Host.Outcome State Fault Refusal :=
  let armed := match r with | .refA => s.clock.armedA | .refB => s.clock.armedB
  if armed then
    let s := s.updClock fun k => match r with
      | .refA => { k with okA := true }
      | .refB => { k with okB := true }
    ok (s.endClockWait.closeLoops r)
  else ok s

/-- A monitor declares its reference bad (R284). -/
def State.refBad (s : State) (r : RefIn) : State :=
  s.updClock fun k => match r with
    | .refA => { k with okA := false }
    | .refB => { k with okB := false }

/-- REF_LOST (R284): the reference in use, declared good, goes bad; also where it had come back and its return is not
complete. While the services are in reset only the monitor shows it. Readings: log entry 34 (DEDUCED). -/
def execRefLost (s : State) : Host.Outcome State Fault Refusal :=
  match s.refInUse with
  | some r =>
    if s.servicesUp then (if s.refOk r || !s.db .CLK_REFSTAT_REF_LOST then ok ((s.refBad r).loseRef r) else ok s)
    else ok (s.refBad r)
  | none => ok s

/-- REF_MONITOR_BAD (R284): a monitor declares bad a reference that is not in use; that of the one in use is REF_LOST. -/
def execRefMonitorBad (r : RefIn) (s : State) : Host.Outcome State Fault Refusal :=
  if s.refInUse = some r && s.servicesUp then ok s else ok (s.refBad r)

/-- The return of the reference is complete (R286 step 3): the loops are closed, the service PLL has locked and the
service clock runs from it. REF_LOST clears, REF_BACK is set, and the driver holds whose PLLs have locked end. -/
def State.refBack (s : State) : State :=
  if s.db .CLK_REFSTAT_REF_LOST && !s.clock.coasting && s.db .CLK_REFSTAT_SPLL_LOCK && !s.db .CLK_REFSTAT_SVC_SRC then
    let s := ((s.ds .CLK_REFSTAT_REF_LOST 0).ds .CLK_EVT_REF_BACK 1).fallLevel (.dev 2)
    s.forCh fun s c => s.endDrvHold c
  else s

/-- SVC_CLOCK_RESTART (R285, R286): the 7th edge of the new source restarts the service clock. The new source is the RC
oscillator while the loops are open, and the service PLL once it has locked again. -/
def execSvcClockRestart (s : State) : Host.Outcome State Fault Refusal :=
  if !s.servicesUp then ok s
  else if s.clock.coasting && !s.db .CLK_REFSTAT_SVC_SRC then
    ok ((s.ds .CLK_REFSTAT_SVC_SRC 1).ds .CLK_EVT_SVC_SWITCH 1)
  else if !s.clock.coasting && s.db .CLK_REFSTAT_SPLL_LOCK && s.db .CLK_REFSTAT_SVC_SRC then
    ok ((s.ds .CLK_REFSTAT_SVC_SRC 0).ds .CLK_EVT_SVC_SWITCH 1).refBack
  else ok s

/-- PLL_LOCK (R286, R330): a PLL whose loop is closed achieves lock. Its bit is set; once both PLLs in use are locked the
live bit of source k = 9 falls; and a driver hold of R284 ends once the reference is back too. -/
def execPllLock (p : Pll) (s : State) : Host.Outcome State Fault Refusal :=
  if s.clock.coasting || !s.servicesUp then ok s else
  match pllChan p with
  | none => ok (s.setPll p true).refBack
  | some c =>
    if s.powered c then
      let s := s.setPll p true
      ok ((if s.pllsReady c then s.fallLevel (.ch c 9) else s).endDrvHold c)
    else ok s

/-- PLL_LOCK_LOSS (R330): with the reference good, a channel or line PLL that holds lock loses it and asserts source
k = 9, kind 0x1 or 0x2. While REF_LOST = 1 detection is suspended. -/
def execPllLockLoss (p : Pll) (s : State) : Host.Outcome State Fault Refusal :=
  match p with
  | .channel c =>
    if s.pllLocked p && !s.db .CLK_REFSTAT_REF_LOST then ok ((s.setPll p false).raiseLevel (.ch c 9) 1 0) else ok s
  | .line t =>
    if s.pllLocked p && !s.db .CLK_REFSTAT_REF_LOST then
      ok ((s.setPll p false).raiseLevel (.ch ⟨t.val, by omega⟩ 9) 2 0) else ok s
  | .service => ok (s.setPll p false)

/-- PLL_UNLOCK_TIMEOUT (R95, R330): a channel or line PLL has stayed out of lock for 4 µs with the reference good, and a
trunk or branch link that is still up is lost with cause 0x15. -/
def execPllUnlockTimeout (p : Pll) (s : State) : Host.Outcome State Fault Refusal :=
  let used := match p with
    | .channel _ => true
    | .line t => s.clockTyp ⟨t.val, by omega⟩ = 7
    | .service => false
  match pllChan p with
  | some c =>
    if used && !s.pllLocked p && !s.db .CLK_REFSTAT_REF_LOST && !isSeg c then ok (s.linkLoss c 0x15 false) else ok s
  | none => ok s

/-! ### Clock enables -/

/-- The slots of a channel window that have a bit in `CLK_CHEN` (R288), with their bit. -/
def slotBit : Slot → Nat
  | .chctl => 0 | .afe => 1 | .dsp => 2 | .pcs => 3 | .link => 4 | .diag => 5 | .lpi => 6 | .frame => 7 | .queue => 8
  | .seq => 9 | .calg => 12 | .seg => 15

/-- Every slot with an enable. -/
def allSlots : List Slot := [.chctl, .afe, .dsp, .pcs, .link, .diag, .lpi, .frame, .queue, .seq, .calg, .seg]

/-- The clock enable of a block of channel `c` (R281). -/
def State.chEn (s : State) (c : Ch) (b : Slot) : Bool :=
  match b with
  | .calg => s.db (.CLK_CHEN_CALG c.val)
  | .seg => s.db (.CLK_CHEN_SEG c.val)
  | .chctl | .afe | .dsp | .pcs | .link | .diag | .lpi | .frame | .queue | .seq =>
    (s.dg (.CLK_CHEN_EN c.val)).testBit (slotBit b)

/-- The channel's clocks run (R281, R301): it is powered, in no channel reset, and the part is neither in Standby nor
stopped on the way there. -/
def State.running (s : State) (c : Ch) : Bool :=
  s.powered c && !(s.ch c).closing && s.power.chg ≠ .stbyReady && s.power.mode ≠ .standby

/-- The clock of a block of channel `c` runs: its enable is set, or its gate still waits for accesses (R282). -/
def State.clocked (s : State) (c : Ch) (b : Slot) : Bool :=
  s.running c && (s.chEn c b || s.clock.gates.contains (.chan c b))

/-- Sets every RW bit of a channel's enables (R281, R300). -/
def State.setAllEn (s : State) (c : Ch) : State :=
  let s := ((s.ds (.CLK_CHEN_EN c.val) 0x3FF).ds (.CLK_CHEN_CALG c.val) 1).ds (.CLK_CHEN_SEG c.val) 1
  s.updClock fun k => { k with gates := k.gates.filter fun g => match g with
    | .chan d _ => d ≠ c
    | .svc _ => true }

/-- The bit of a service block in `CLK_SVCEN` (R288). -/
def State.svcEn (s : State) (i : Nat) : Bool :=
  match i with
  | 0 => s.db .CLK_SVCEN_CAL
  | 1 => s.db .CLK_SVCEN_INTEG
  | 2 => s.db .CLK_SVCEN_ID
  | 3 => s.db .CLK_SVCEN_DEBUG
  | 4 => s.db .CLK_SVCEN_MGMT
  | _ => true

/-- The window slot an offset lies in, where that slot has an enable of its own. -/
def slotOf (off : Nat) : Option Slot :=
  match off / 65536 with
  | 0 => some .chctl | 1 => some .afe | 2 => some .dsp | 3 => some .pcs | 4 => some .link | 5 => some .diag
  | 6 => some .lpi | 7 => some .frame | 8 => some .queue | 9 => some .seq | 10 => some .seq | 11 => some .seq
  | 12 => some .calg | 15 => some .seg
  | _ => none

/-- A posted write for a block is in its channel's buffer (R258, R282). -/
def State.postedFor (s : State) (c : Ch) (b : Slot) : Bool := (s.ch c).posted.any fun p => slotOf p.off = some b

/-- The register block of a slot. -/
def slotBlk : Slot → CBlk
  | .chctl => .chctl | .afe => .afe | .dsp => .dsp | .pcs => .pcs | .link => .link | .diag => .diag | .lpi => .lpi
  | .frame => .frame | .queue => .queue | .seq => .seq | .calg => .calg | .seg => .seg

/-- The gate of a block has closed (R282): the block leaves the sweep (R271), and trunk and branch links lose an AFE, DSP
or PCS block with cause 0x14 (R95, R281). -/
def State.gateShut (s : State) (c : Ch) (b : Slot) : State :=
  let s := s.blkOff (· = .ch c (slotBlk b))
  match b with
  | .afe | .dsp | .pcs => if isSeg c then s else s.linkLoss c 0x14 false
  | .chctl | .link | .diag | .lpi | .frame | .queue | .seq | .calg | .seg => s

/-- A write that closes the gate of a channel block (R282): the gate closes at once where no posted write waits for the
block, and otherwise waits. -/
def State.closeGate (s : State) (c : Ch) (b : Slot) : State :=
  if s.postedFor c b then s.updClock fun k => { k with gates := k.gates ++ [.chan c b] } else s.gateShut c b

/-- What a write of a channel's enables changes (R282): the gates it closes, and a load of Heartwood that waited for the SEQ
enable goes on (R281). The fields already hold the new value; `was` says what each was. -/
def State.enWritten (s : State) (c : Ch) (was : Slot → Bool) : State :=
  (allSlots.foldl (fun s b =>
    if was b && !s.chEn c b then s.closeGate c b
    else if s.chEn c b then s.updClock fun k => { k with gates := k.gates.filter (· ≠ .chan c b) }
    else s) s).feed

/-- GATE_CLOSE (R282): every access accepted before the closing write has retired. -/
def execGateClose (g : Gate) (s : State) : Host.Outcome State Fault Refusal :=
  match g with
  | .chan c b =>
    if s.clock.gates.contains g && !s.postedFor c b then
      ok ((s.updClock fun k => { k with gates := k.gates.filter (· ≠ g) }).gateShut c b)
    else ok s
  | .svc _ => ok (s.updClock fun k => { k with gates := k.gates.filter (· ≠ g) })

end Sys2Proof.Machine
end

