-- ==== Sys2Proof/Machine/Power.lean ====
section
/-! DEFINITION. Device modes and their requests (R17 to R19, R301, R302), wakes (R303), operating points (R292 to R294),
temperature (R295), domain votes (R296 to R300) and the device resets that arrive on pins (R304). -/

namespace Sys2Proof.Machine

/-- Changes the power state. -/
def State.updPower (s : State) (g : PowerSt → PowerSt) : State := { s with power := g s.power }

/-! ### Domain votes -/

/-- Every channel's votes take effect again, after a mode change that held them (R296, R301). -/
def State.evalVotes (s : State) : State := s.forCh fun s c => s.evalVote c

/-- The active bank of a channel's user trims (R310). -/
def State.utActive (s : State) (c : Ch) : Ut3 := s.cal.chans[c.val][(s.cal.act[c.val]).val]

/-- Class-D values are restored to a channel from the mirror (R300, R304). -/
def State.restoreD (s : State) (c : Ch) : State := s.updGraft c fun g => { g with ut := s.utActive c }

/-- DOMAIN_POWER_UP_DONE (R300): the rail has settled and the reset is released, every RW clock enable of the channel is
set (R281), class-D values are restored and the recorded substitutions applied (R317), the clamps open and ON is set. Pairs
answered while it was off get their tokens (R241). A vote withdrawn meanwhile takes effect now. -/
def execDomainPowerUpDone (c : Ch) (s : State) : Host.Outcome State Fault Refusal :=
  if (s.ch c).pst = .poweringUp && !s.retained then
    let s := s.updCh c fun x => { x with pst := .on, closing := false }
    let s := (s.restoreD c).updGraft c fun g => { g with subst := s.otp.subst[c.val] }
    ok (((((s.setAllEn c).fallLevel (.ch c 9)).cs c .CHPWR_EVT_ON 1).issue c).evalVote c)
  else ok s

/-- PDON_TIMEOUT (R300): the domain is not ON in time; source k = 9 asserts and the switch stays open until the next vote
change. -/
def execPdonTimeout (c : Ch) (s : State) : Host.Outcome State Fault Refusal :=
  if (s.ch c).pst = .poweringUp && !s.retained then
    ok ((s.updCh c fun x => { x with pst := .off, stuckOff := true }).raiseLevel (.ch c 9) 0 0)
  else ok s

/-- The program's vote on its channel, bit 4, goes in the cycle of the command, and takes effect (R297, R304). -/
def State.unvoteNow (s : State) (c : Ch) : State :=
  if s.cyc.unvote && (s.cg c .CHPWR_VOTE_CLIENTS).testBit 0 then (s.voteBit c 4 false).voteChanged c else s

/-- A CHRST write lands (R304, R308): ignored in OFF. Where the last vote goes in its cycle, it acts as a power-off. -/
def State.chrst (s : State) (c : Ch) : State :=
  let t := s.unvoteNow c
  if (s.ch c).sub = .off then t.cs c .CHPWR_EVT_CMD_REJ 1
  else if s.voted c && !t.voted c then t else t.beginReset c

/-! ### Standby, Service, Dormant -/

/-- Standby entry for one powered channel (R301 step 2): link control that is not at STOP is forced there with cause 0x07,
and the pads latch. MAINT, QUARANTINE and SLEEP keep their sub-state. -/
def State.stbyCh (s : State) (c : Ch) : State :=
  if !s.powered c then s else
  let s := match (s.ch c).sub with
    | .idle | .training | .up | .lpi => (s.forceStop c (some 0x07)).setSub c .idle
    | .off | .sleep | .maint | .quarantine => s
  s.padLatch c

/-- PD34 powers off: Heartwood loses its state but for `HEART_BOOTCFG` (R296, R301). -/
def State.heartOff (s : State) : State :=
  let s := s.endHeart
  let s := s.clearFields fun f => match f with
    | .ch _ _ => false
    | .dev g => g.blk = .heart && g.info.keep = .p
  (s.blkOff (· = .dev .heart)).updHeart fun _ => HeartSt.init

/-- The commit point of Dormant entry and what follows it at once (R302 steps 2 and 3): every pad latches, keys are
zeroised, KEYGATE closes (R264), every channel is OFF, and MODE reads 1. Each domain's reset waits for its posted writes
(R402). Readings: log entry 17 (DEDUCED). -/
def State.commitDormant (s : State) : State :=
  let s := ((s.endHeart.endSession 4).dropNonce).ds .KEYGATE_OPEN 0
  let s := { s with host := { s.host with ul := .reset } }
  let s := s.forCh fun s c => s.padLatch c
  let s := s.forCh fun s c => s.domainOff c
  (s.updPower fun p => { p with chg := .dormantEntry, wake := none }).setMode .dormant

/-- An enabled wake source's qualifying condition holds in this cycle (R302 step 1). -/
def State.wakeHeld (s : State) : Bool := s.power.wakeNow || s.cyc.wake

/-- A Dormant request in Active or Standby, whatever change of mode is under way there (R18, R302 steps 1 and 2). -/
def State.dormantReq (s : State) : State :=
  if s.wakeHeld then s.ds .TAP_STAT_SLEEP_ABORTED_WAKE 1 else s.commitDormant

/-- A write of `PWR_MODE_REQ.REQ` (R18, R301, R302, R307). A Standby or Service request while another mode change is under
way is ignored with REQ_REJ (DEDUCED, log entry 23). -/
def State.modeReq (s : State) (v : Nat) : State :=
  let rej := s.ds .PWR_EVT_REQ_REJ 1
  match v, s.power.mode with
  | 1, .active | 1, .standby => s.dormantReq
  | 2, .active => if s.power.chg ≠ .none then rej else
    (s.forCh fun s c => s.stbyCh c).updPower fun p => { p with chg := .stbyPrep }
  | 4, .active => if s.power.chg = .stbyPrep then (s.updPower fun p => { p with chg := .none }).evalVotes
    else if s.power.chg = .stbyReady then (s.relock.updPower fun p => { p with chg := .none }).evalVotes
    else rej
  | 5, .active => if s.power.chg ≠ .none then rej else
    (s.updPower fun p => { p with chg := .service }).forCh fun s c =>
      match (s.ch c).pst with
      | .on => s.startDrain c
      | .poweringUp => s.updCh c fun x => { x with pst := .off }
      | .off | .draining | .poweringDown => s
  | _, _ => rej

/-- STANDBY_PREP_DONE (R301 step 3): the clocks have stopped, so that the channel blocks leave the sweep (R271), channel and
line PLLs and PD34 are off, and STBY_READY reads 1. What a program has started since step 2 is brought to it again.
Readings: log entry 16 (DEDUCED). -/
def execStandbyPrepDone (s : State) : Host.Outcome State Fault Refusal :=
  if s.power.chg = .stbyPrep then
    let s := s.forCh fun s c => s.stbyCh c
    let s := s.blkOff fun b => allCh.any fun c => inDomain c b
    ok (((s.heartOff.ds .CLK_PLLSTAT_LOCK 0).ds .CLK_LPLLSTAT_LOCK 0).updPower fun p => { p with chg := .stbyReady })
  else ok s

/-- HOST_L2_REQUEST (R232, R301 steps 4 and 5): accepted only after STBY_READY; the part enters Standby. Any other time it
is refused. The pads of every channel are held in Standby (R17): one released since step 2 latches again (DEDUCED, log
entry 16). -/
def execHostL2Request (s : State) : Host.Outcome State Fault Refusal :=
  if s.power.chg = .stbyReady then
    let s := s.forCh fun s c => if (s.ch c).pad.held then s else s.padLatch c
    let s := { s with host := { s.host with ul := .l2 } }
    ok ((s.updPower fun p => { p with chg := .none, wake := none }).setMode .standby)
  else ok s

/-- Records the wake that ends Dormant or Standby (R303). -/
def State.noteWake (s : State) (w : Wake) : State :=
  ((s.ds .TAP_WAKECAUSE_CAUSE w.cause).ds .TAP_WAKECAUSE_CHANNEL w.chan).ds .TAP_WAKECAUSE_PRTAD w.prtad

/-- STANDBY_EXIT (R232, R301, R303): the exit that a wake or the host started completes: the PLLs have relocked and PD34
is powered. Where no wake was recorded, the host's L2 exit is the cause. -/
def execStandbyExit (s : State) : Host.Outcome State Fault Refusal :=
  match s.power.mode with
  | .standby =>
    let s := (s.noteWake (s.power.wake.getD ⟨5, 0, 0, s.now⟩)).relock
    let s := s.leaveL2
    ok (((s.updPower fun p => { p with chg := .none, wake := none }).setMode .active).evalVotes)
  | .off | .dormant | .boot | .active | .service | .safe | .lockedOut => ok s

/-- SERVICE_ENTER (R18): every channel has reached OFF after a Service request. PD37 is powered in Service (R296). -/
def execServiceEnter (s : State) : Host.Outcome State Fault Refusal :=
  if s.power.chg = .service && allCh.all fun c => (s.ch c).pst = .off then
    ok ((s.updPower fun p => { p with chg := .none }).setMode .service)
  else ok s

/-- DORMANT_ENTRY_DONE (R302 steps 4 and 5, R402): every posted write has landed, every switched domain is off and INH
is released; or a wake came after the commit point, LATE_WAKE is set and the wake path begins with INH kept. -/
def execDormantEntryDone (s : State) : Host.Outcome State Fault Refusal :=
  if s.power.chg = .dormantEntry && allCh.all fun c => (s.ch c).posted.isEmpty then
    let w := s.power.wake
    let s := s.domainsOff
    match w with
    | some _ => ok ((s.ds .TAP_STAT_LATE_WAKE 1).updPower fun p => { p with chg := .dormantExit })
    | none => ok (s.updPower fun p => { p with chg := .none, inh := false })
  else ok s

/-! ### Wakes -/

/-- A wake qualifies at Taproot (R302, R303): in Dormant it waits to be served, in Standby it starts the exit, and in any
mode it is pending in its own cycle. The first wake is kept, and of two in one cycle the one with the lower code. -/
def State.tapWake (s : State) (cause chan prtad : Nat) : State :=
  let w : Wake := ⟨cause, chan, prtad, s.now⟩
  let keep := fun p : PowerSt => match p.wake with
    | some o => if o.time = s.now && decide (cause < o.cause) then some w else some o
    | none => some w
  match s.power.mode with
  | .off => s
  | .dormant => s.updPower fun p => { p with wake := keep p }
  | .standby => s.updPower fun p =>
    if p.chg = .none || p.chg = .stbyExit then { p with wake := keep p, chg := .stbyExit, wakeNow := true } else p
  | .boot | .active | .service | .safe | .lockedOut => s.updPower fun p => { p with wakeNow := true }

/-- WAKE_PIN_QUALIFY (R303, R398): the pin has been high. -/
def execWakePinQualify (s : State) : Host.Outcome State Fault Refusal :=
  let t := s.now
  let s := s.updPower fun p => { p with wakePin := (true, t) }
  if s.db .TAP_WAKEEN_PIN then ok (s.tapWake 4 0 0) else ok s

/-- MDIO_ADDRESS_WAKE (R303): the frame is not answered and its port address is recorded. -/
def execMdioAddressWake (prtad : Fin 32) (s : State) : Host.Outcome State Fault Refusal :=
  if s.db .TAP_WAKEEN_MDIO then ok (s.tapWake 2 0 prtad.val) else ok s

/-- DORMANT_WAKE (R18, R155, R391): a wake is pending in Dormant, so INH is asserted, the REFA oscillator starts again and
its start delay is counted before its monitor is armed. -/
def execDormantWake (s : State) : Host.Outcome State Fault Refusal :=
  if s.power.mode = .dormant && s.power.chg = .none && s.power.wake.isSome then
    let s := s.updClock fun k => { k with armedA := false, okA := false }
    ok (s.updPower fun p => { p with chg := .dormantExit, inh := true })
  else ok s

/-- DORMANT_EXIT_TO_BOOT (R18, R303, R391): the last condition of the wake path holds. After POWER_ON only the rails
count, and Boot waits in clock-wait until an allowed reference is good (R287). -/
def execDormantExitToBoot (s : State) : Host.Outcome State Fault Refusal :=
  match s.power.chg, s.power.wake with
  | .dormantExit, some w =>
    if w.cause = 1 || s.refChoice.isSome then
      let s := (s.noteWake w).updPower fun p => { p with
        chg := .none, wake := none, clockWait := w.cause = 1 && s.refChoice.isNone }
      let s := { s.setMode .boot with canopy := { s.canopy with time := 0 } }
      ok (if s.power.clockWait then s else s.takeRef)
    else ok s
  | _, _ => ok s

/-- RAILUP_TIMEOUT (R18, R391): the part returns to Dormant with INH released, and records what failed: the rails, as the
command says, a reference, which its monitors show and only a wake other than POWER_ON waits for, or both. With neither
failed the part is in Boot by then and the event does not come about. -/
def execRailupTimeout (railsOk : Bool) (s : State) : Host.Outcome State Fault Refusal :=
  match s.power.chg, s.power.wake with
  | .dormantExit, some w =>
    let refBad := w.cause ≠ 1 && s.refChoice.isNone
    if railsOk && !refBad then ok s else
    let s := if railsOk then s else s.ds .TAP_STAT_RAIL_TIMEOUT 1
    let s := if refBad then s.ds .TAP_STAT_REF_TIMEOUT 1 else s
    ok (s.updPower fun p => { p with chg := .none, wake := none, inh := false })
  | _, _ => ok s

/-! ### Supply levels -/

/-- The point VCORE's thresholds follow: the one in force, or the new one from the VID change of a lowering (R289). -/
def State.vcorePoint (s : State) : Nat :=
  match s.power.opChg with
  | some o => if o.raise then s.dg .PWR_OP_STAT_OP else o.target
  | none => s.dg .PWR_OP_STAT_OP

/-- A rail's warning level in tenths of a millivolt; VCORE's is 6% below the point it follows (R289). -/
def State.warnLevel (s : State) (rail : Nat) : Nat :=
  match rail with
  | 0 => 26000
  | 1 => if s.vcorePoint = 0 then 6768 else if s.vcorePoint = 1 then 7520 else 8272
  | 2 => 23500
  | 3 => 11280
  | 4 => 16920
  | _ => 7050

/-- A rail's reset level in tenths of a millivolt; VCORE's is 10% below the point its warning level follows, and VSUP's is
that of a brown-out (R289). -/
def State.resetLevel (s : State) (rail : Nat) : Nat :=
  match rail with
  | 0 => 23500
  | 1 => if s.vcorePoint = 0 then 6480 else if s.vcorePoint = 1 then 7200 else 7920
  | 2 => 22500
  | 3 => 10800
  | 4 => 16200
  | _ => 6750

/-- A rail is monitored now (R289): VSUP in every mode but Off, the others from Standby upward. -/
def State.monitored (s : State) (rail : Nat) : Bool :=
  match s.power.mode with
  | .off => false
  | .dormant => rail = 0
  | .standby | .boot | .active | .service | .safe | .lockedOut => true

/-- A monitor may judge a rail at `mv` millivolts to be below a level: thresholds are accurate to 1% (R289), and the event
itself says that the monitor did. -/
def belowLevel (level mv : Nat) : Bool := decide (mv * 1000 < level * 101)

/-! ### Device resets from outside -/

/-- Everything is at its reset but OTP, and what the outside holds: the levels of RESET_N, WAKE, PGOOD and TRST_N, and the queue. -/
def State.vsupLost (s : State) : State :=
  let r := { State.reset with pending := s.pending, otp := s.otp, now := s.now, free := s.free, bus := s.bus }
  { r with
    power := { r.power with rstLow := s.power.rstLow, wakePin := s.power.wakePin, pgood := s.power.pgood }
    jtag := { r.jtag with trst := s.jtag.trst } }

/-- VSUP_POWER_ON (R304, R306): everything is reset, the straps are latched, and the part is in Dormant with POWER_ON
pending. OTP keeps its contents. -/
def execVsupPowerOn (xsd : Fin 4) (s : State) : Host.Outcome State Fault Refusal :=
  match s.power.mode with
  | .off =>
    ok (s.vsupLost.ds .TAP_STRAP_XSD xsd.val)
  | .dormant | .standby | .boot | .active | .service | .safe | .lockedOut => ok s

/-- VSUP_BROWN_OUT (R18, R289, R291): VSUP has stayed below 2.35 V, so the part goes to Off from any mode and loses
everything but OTP. -/
def execVsupBrownOut (mv : Nat) (s : State) : Host.Outcome State Fault Refusal :=
  if s.power.mode = .off || !belowLevel (s.resetLevel 0) mv then ok s else
  let s := s.endHeart
  ok (s.vsupLost.updPower fun p => { p with mode := .off, wake := none })

/-- A reset condition that falls in the cycle in which the device enters Safe is discarded (R19). -/
def State.outranked (s : State) (toSafe : Bool) : Bool := toSafe && s.power.mode = .safe

/-- RESET_N_ASSERT (R19, R304): every domain but Taproot is held in reset while the pin is low. -/
def execResetNAssert (toSafe : Bool) (s : State) : Host.Outcome State Fault Refusal :=
  let s := s.updPower fun p => { p with rstLow := true }
  if s.resettable && !s.outranked toSafe then ok (s.warmReset .resetN) else ok s

/-- RESET_N_RELEASE (R18, R304): the part enters Boot. -/
def execResetNRelease (s : State) : Host.Outcome State Fault Refusal :=
  ok ((s.updPower fun p => { p with rstLow := false }).releaseReset .resetN)

/-- HEART_WATCHDOG_EXPIRE (R19, R287, R304, R328): Heartwood runs, so PD34 is powered and out of reset. -/
def execHeartWatchdogExpire (toSafe : Bool) (s : State) : Host.Outcome State Fault Refusal :=
  if s.heartOn && !s.outranked toSafe then ok (s.warmReset .heartWdog) else ok s

/-- A write of 1 to `PWR_CMD.SOFTRST` lands (R19, R304). -/
def State.softReset (s : State) : State :=
  if s.resettable && !s.outranked s.cyc.toSafe then s.warmReset .soft else s

/-! ### Operating points -/

/-- The operating point a type needs (R292). -/
def pointOf (typ : Nat) : Nat := if typ = 7 then 2 else if typ = 6 then 1 else 0

/-- The operating point a channel needs: from its active type while it runs or, in TRAIN, its resolved or forced type
(R292). -/
def State.opNeed (s : State) (c : Ch) : Nat :=
  if !isTrunk c then 0 else
  match (s.ch c).link.st with
  | .train => pointOf (s.ch c).link.typ
  | .up | .shift => pointOf (s.cg c .PCS_CTL_TYPE)
  | .stop | .an | .holdoff => 0

/-- The target point (R292): the highest of the channels' needs, the sequencers' floors and the host's floor. -/
def State.opTarget (s : State) : Nat :=
  let need := allCh.foldl (fun m c => max m (s.opNeed c)) 0
  let floors := if s.dg .PWR_OPFLOOR2_CH ≠ 0 then 2 else if s.dg .PWR_OPFLOOR1_CH ≠ 0 then 1 else 0
  max (max need floors) (min 2 (s.dg .PWR_OP_CTL_FLOOR))

/-- Held training starts (R293 step 5): a channel whose need the point in force now meets leaves its quiet hold, and an
XT50 channel enters X_SILENT (R93). -/
def State.endOpWait (s : State) : State :=
  s.forCh fun s c =>
    if (s.ch c).link.opWait && decide (s.opNeed c ≤ s.dg .PWR_OP_STAT_OP) then
      s.updLink c fun l => { l with opWait := false, x := if l.typ = 7 then .silent else l.x }
    else s

/-- A change completes (R293 step 4): OP takes the new point and OP_DONE is set everywhere. -/
def State.opDone (s : State) (o : OpChange) : State :=
  let s := (s.ds .PWR_OP_STAT_OP o.target).ds .PWR_EVT_OP_DONE 1
  let s := s.updPower fun p => { p with opChg := none }
  (s.sysEvtAll 2).endOpWait

/-- The supplies stand, so the point may change: the part is in a mode with its rails up and out of reset, and not in Locked-out,
where VID keeps the last value driven (R374). -/
def State.opReady (s : State) : Bool := s.servicesUp && s.power.mode ≠ .lockedOut && s.power.opChg.isNone

/-- OP_RAISE_START (R293 steps 1 and 2, R294): the target is above the point in force and no change runs, so VID takes
the new code. -/
def execOpRaiseStart (s : State) : Host.Outcome State Fault Refusal :=
  let t := s.opTarget
  if s.opReady && decide (s.dg .PWR_OP_STAT_OP < t) then
    ok ((s.ds .PWR_OP_STAT_VID t).updPower fun p => { p with opChg := some ⟨t, true, false⟩ })
  else ok s

/-- OP_HOLD_EXPIRE (R293): the need has stayed at or below a lower point for OPHOLD ms, so VID is lowered and the monitors
take the lower thresholds. -/
def execOpHoldExpire (s : State) : Host.Outcome State Fault Refusal :=
  let t := s.opTarget
  if s.opReady && decide (t < s.dg .PWR_OP_STAT_OP) then
    ok ((s.ds .PWR_OP_STAT_VID t).updPower fun p => { p with opChg := some ⟨t, false, false⟩ })
  else ok s

/-- PGOOD_RISE (R293 step 3, R294): in a raise with PGOOD_EN = 1, PGOOD high after having gone low completes the
change. In Locked-out PGOOD is ignored (R374). -/
def execPgoodRise (s : State) : Host.Outcome State Fault Refusal :=
  let s := s.updPower fun p => { p with pgood := true }
  match s.power.opChg with
  | some o => if o.raise && o.sawLow && s.db .PWR_OP_CTL_PGOOD_EN && s.power.mode ≠ .lockedOut then ok (s.opDone o) else ok s
  | none => ok s

/-- PGOOD_FALL (R293): noted during a change. -/
def execPgoodFall (s : State) : Host.Outcome State Fault Refusal :=
  let ign := s.power.mode = .lockedOut
  ok (s.updPower fun p => { p with pgood := false, opChg := p.opChg.map fun o => { o with sawLow := o.sawLow || !ign } })

/-- VSETTLE_EXPIRE (R293): the change completes; a raise with PGOOD_EN = 1 then lacked PGOOD and asserts the regulator
source. -/
def execVsettleExpire (s : State) : Host.Outcome State Fault Refusal :=
  match s.power.opChg with
  | some o =>
    let s := s.opDone o
    if o.raise && s.db .PWR_OP_CTL_PGOOD_EN then
      ok ((s.ds .PWR_EVT_PGOOD_TMO 1).assertSrc (.dev 3) 0 o.target)
    else ok s
  | none => ok s

/-! ### Temperature -/

/-- The sum of the measurements in the running mean (R295). -/
def State.tempSum (s : State) : Int := s.power.temps.sum

/-- The running mean is above `q` quarter degrees (R295). -/
def State.tempAbove (s : State) (q : Int) : Bool := decide (q * s.power.temps.length < s.tempSum)

/-- TEMP_MEASURE (R295, R328): a measurement in quarter degrees updates the running mean of the last ten. On an -H part
the mean crossing 125 °C sets TEMP_HI or TEMP_OK; above the grade maximum of 125 °C (-E) or 150 °C (-H) the
over-temperature source is live (R5). How the mean is rounded into PWR_TEMP is free. -/
def execTempMeasure (quarterDeg : Int) (s : State) : Host.Outcome State Fault Refusal :=
  if !s.servicesUp then ok s else
  let s := s.updPower fun p => { p with temps := (quarterDeg :: p.temps).take 10 }
  let r := s.roundFree s.tempSum s.power.temps.length
  let raw := (r.1 % 65536).toNat
  let s := r.2.ds .PWR_TEMP_TEMP raw
  let hi := s.tempAbove 500
  let isH := s.otp.grade = 1
  let s :=
    if isH && hi && !s.power.hot then
      ((s.ds .PWR_EVT_TEMP_HI 1).sysEvtAll 3).updPower fun p => { p with hot := true }
    else if isH && !hi && s.power.hot then
      ((s.ds .PWR_EVT_TEMP_OK 1).sysEvtAll 4).updPower fun p => { p with hot := false }
    else s
  if s.tempAbove (if isH then 600 else 500) then ok (s.raiseLevel (.dev 4) 0 raw) else ok (s.fallLevel (.dev 4))

/-- XTHOT_EXPIRE (R95, R295): t_XTHOT after TEMP_HI, every trunk still in XT50 is given RESTART with cause 0x08, their
sources in the order of R334. -/
def execXthotExpire (s : State) : Host.Outcome State Fault Refusal :=
  if s.power.hot then
    let l := allCh.filter fun c => isTrunk c && decide (s.cg c .PCS_CTL_TYPE = 7)
    ok ((byClass (fun c => s.classOfSrc (.ch c 4)) l).foldl (fun s c => s.linkLoss c 0x08 true) s)
  else ok s

end Sys2Proof.Machine
end

