-- ==== Sys2Proof/Machine/Cal.lean ====
section
/-! DEFINITION. Calibration and trims (R309 to R315): effective values, banks, the calibration image, device
calibrations. Those of a channel stand in Graft.lean, since their end lets a spare be called for. -/

namespace Sys2Proof

/-- The external reference lies in its window (R313): CAL_R at 3.90 to 4.14 kohm for RREF; CAL_V at 0.95 to 1.05 V with
less than 1 mV of change for VREF. -/
def CalMeas.refOk (m : CalMeas) (cmd : Nat) : Bool :=
  if cmd = 1 then decide (3900 ≤ m.calR ∧ m.calR ≤ 4140) else decide (9500 ≤ m.calV ∧ m.calV ≤ 10500 ∧ m.calVpp < 1000)

/-- The load on the channel's pins lies in the window of a calibration (R313): HYB, AMP, RXG. -/
def CalMeas.loadOk (m : CalMeas) (cmd : Nat) : Bool :=
  match cmd with
  | 1 => decide (85 ≤ m.load ∧ m.load ≤ 115)
  | 2 => decide (95 ≤ m.load ∧ m.load ≤ 105)
  | _ => decide (1000 < m.load)

end Sys2Proof

namespace Sys2Proof.Machine

/-- Changes the calibration state. -/
def State.updCal (s : State) (g : CalSt → CalSt) : State := { s with cal := g s.cal }

/-! ### Effective values -/

/-- The effective value of one `w`-bit trim and whether it saturates (R309). Readings: log entry 19 (DEDUCED). -/
def effTrim (w ft ut : Nat) : Nat × Bool :=
  let e := sint w ft + sint w ut
  (rawOf w (satS w e), satS w e ≠ e)

/-- The two 8-bit trims of HYB together (R309): C above R. Readings: log entry 19 (DEDUCED). -/
def effHyb (ft ut : Nat) : Nat × Bool :=
  let r := effTrim 8 (bits ft 7 0) (bits ut 7 0)
  let c := effTrim 8 (bits ft 15 8) (bits ut 15 8)
  (c.1 * 256 + r.1, r.2 || c.2)

/-- Effective RREF and VREF (R309): the device section applies a new active bank at once (R310). -/
def State.effRref (s : State) : Nat × Bool := effTrim 10 s.otp.ftDev.1 (s.cal.dev[s.cal.actDev.val]).1

@[inherit_doc State.effRref]
def State.effVref (s : State) : Nat × Bool := effTrim 10 s.otp.ftDev.2 (s.cal.dev[s.cal.actDev.val]).2

/-! ### Banks -/

/-- The inactive bank of a channel's user trims, which a UT register shows and takes writes for (R310). -/
def State.utIdle (s : State) (c : Ch) : Ut3 := s.cal.chans[c.val][(1 - s.cal.act[c.val] : Fin 2).val]

/-- Writes the inactive bank of a channel. -/
def State.setUtIdle (s : State) (c : Ch) (g : Ut3 → Ut3) : State :=
  s.updCal fun k =>
    let b : Fin 2 := 1 - k.act[c.val]
    { k with chans := k.chans.set c.val (k.chans[c.val].set b.val (g k.chans[c.val][b.val])) }

/-- The inactive bank of the device section. -/
def State.devIdle (s : State) : Nat × Nat := s.cal.dev[(1 - s.cal.actDev : Fin 2).val]

/-- Writes the inactive bank of the device section. -/
def State.setDevIdle (s : State) (g : Nat × Nat → Nat × Nat) : State :=
  s.updCal fun k =>
    let b : Fin 2 := 1 - k.actDev
    { k with dev := k.dev.set b.val (g k.dev[b.val]) }

/-- A bank copy runs in the device section or in some channel (R310): UT writes and commands are ignored. -/
def State.copying (s : State) : Bool := s.cal.copy.isSome

/-- A bank copy runs for channel `c`. -/
def State.copyingCh (s : State) (c : Ch) : Bool :=
  match s.cal.copy with
  | some (m, _) => m.testBit c.val
  | none => false

/-- COMMIT (R310): the active banks of the masked channels, and of the device section with DEV, flip in one cycle. A
channel applies its new values at its next natural boundary. -/
def State.calCommit (s : State) (dev : Bool) : State :=
  let m := s.dg .CAL_MASK_CH
  let s := s.updCal fun k => { k with
    act := k.act.mapFinIdx fun i a _ => if m.testBit i then 1 - a else a
    actDev := if dev then 1 - k.actDev else k.actDev
    copy := some (m, dev) }
  s.ds .CAL_EVT_COMMITTED 1

/-- A channel applies the trims of its active bank at a natural boundary (R310). -/
def State.applyTrims (s : State) (c : Ch) : State := s.restoreD c

/-- BANK_COPY_DONE (R310): each newly active bank has been copied into its inactive bank. -/
def execBankCopyDone (s : State) : Host.Outcome State Fault Refusal :=
  match s.cal.copy with
  | some (m, dev) => ok (s.updCal fun k => { k with
      chans := k.chans.mapFinIdx fun i b h =>
        if m.testBit i then .replicate 2 b[(k.act[i]'h).val] else b
      dev := if dev then .replicate 2 k.dev[k.actDev.val] else k.dev
      copy := none })
  | none => ok s

/-! ### Device commands -/

/-- A device command ends (R315, R325). -/
def State.endCalDev (s : State) (status precond : Nat) : State :=
  let s := ((s.ds .CAL_RES_STATUS status).ds .CAL_RES_PRECOND precond).ds .CAL_EVT_DONE 1
  if status = 0 then s else s.ds .CAL_EVT_FAIL 1

/-- The first failed precondition of a device calibration (R313, R314), 0 for none. -/
def State.devPrecond (s : State) (cmd : Nat) (m : CalMeas) : Nat :=
  if cmd = 1 && s.power.mode ≠ .active then 1
  else if !m.refOk cmd then 5
  else if s.cal.run.isSome || s.copying then 6
  else if !s.db .ID_OTPSTAT_FT_VALID then 7
  else if !s.power.warn.isEmpty then 8 else 0

/-- RREF or VREF is commanded (R313, R314). -/
def State.calDev (s : State) (cmd : Nat) (m : CalMeas) : State :=
  if s.copying then s.ds .CAL_EVT_CMD_REJ 1 else
  let p := s.devPrecond cmd m
  let s := s.ds .CAL_RES_TARGET cmd
  if p ≠ 0 then s.endCalDev 1 p else s.updCal fun k => { k with run := some cmd }

/-- Ends the running device calibration with a status that leaves every trim unchanged (R315). -/
def State.stopCalDev (s : State) (status : Nat) : State :=
  if s.cal.run.isSome then (s.updCal fun k => { k with run := none }).endCalDev status 0 else s

/-- The status an ABORT gives (R315): SUPPLY_ABORT where a supply warning starts in its cycle. -/
def State.abortStatus (s : State) : Nat := if s.cyc.supply then 2 else 3

/-- `CAL_CMD.ABORT` (R310, R315): with nothing running, and during a bank copy, it is ignored. -/
def State.calAbortCmd (s : State) : State :=
  if s.cal.run.isSome && !s.copying then s.stopCalDev s.abortStatus else s.ds .CAL_EVT_CMD_REJ 1

/-! ### The calibration image -/

/-- The channels of a mask, ascending. -/
def chansOf (m : Nat) : List Ch := allCh.filter fun c => m.testBit c.val

/-- A `w`-bit trim sign-extended to a word. -/
def sextWord (w v : Nat) : Nat := rawOf 32 (sint w v)

/-- The image's bytes but for its CRC (R311). -/
def State.imgBody (s : State) : List Byte :=
  let m := s.dg .CAL_MASK_CH
  let len := 36 + 12 * popc m
  let dev := s.cal.dev[s.cal.actDev.val]
  leBytes 0x4C414346 ++ leBytes (1 + len * 65536) ++ leBytes (s.dg .CAL_GEN_GEN) ++ leBytes m ++
  leBytes (s.otp.did % m32) ++ leBytes (s.dg .PWR_TEMP_TEMP) ++ leBytes (sextWord 10 dev.1) ++
  leBytes (sextWord 10 dev.2) ++
  (chansOf m).flatMap fun c =>
    let u := s.utActive c
    leBytes (sextWord 16 u.hyb) ++ leBytes (sextWord 12 u.amp) ++ leBytes (sextWord 12 u.rxg)

/-- Writes bytes into a memory from address `a` up. -/
def Mem.writeBytes (m : Mem) (a : Nat) : List Byte → Mem
  | [] => m
  | b :: t => Mem.writeBytes (m.writeByte a b) (a + 1) t

/-- Reads `n` bytes of a memory from address `a` up. -/
def Mem.readBytes (m : Mem) (a : Nat) (n : Nat) : List Byte := (List.range n).map fun i => m.readByte (a + i)

/-- IMG_SAVE (R311): the image of the active banks, for the device section and every channel of CAL_MASK. -/
def State.imgSave (s : State) : State :=
  let b := s.imgBody
  let s := s.updCal fun k => { k with buf := k.buf.writeBytes 0 (b ++ leBytes (crc32c b)) }
  (s.ds .CAL_RES_TARGET 4).endCalDev 0 0

/-- Word `i` of the image buffer. Readings: log entry 34 (DEDUCED). -/
def State.imgWord (s : State) (i : Nat) : Nat := (s.cal.buf.readWord (4 * i)).toNat

/-- A word's signed value lies within `w` bits (R312, check 6). -/
def fitsS (w v : Nat) : Bool := satS w (sint 32 v) = sint 32 v

/-- The number of the first check of R312 that fails, 0 for none. -/
def State.imgCheck (s : State) : Nat :=
  let w := s.imgWord
  let mask := w 3
  let len := bits (w 1) 31 16
  let n := popc mask
  if w 0 ≠ 0x4C414346 then 1
  else if bits (w 1) 15 0 ≠ 1 then 2
  else if len ≠ 36 + 12 * n then 3
  else if crc32c (s.cal.buf.readBytes 0 (len - 4)) ≠ w (len / 4 - 1) then 4
  else if w 4 ≠ s.otp.did % m32 then 5
  else if !(fitsS 10 (w 6) && fitsS 10 (w 7) && (List.range n).all fun i =>
      fitsS 16 (w (8 + 3 * i)) && fitsS 12 (w (9 + 3 * i)) && fitsS 12 (w (10 + 3 * i))) then 6
  else 0

/-- IMG_LOAD (R312): a good image goes to the inactive banks and CAL_GEN; a bad one changes nothing.
Readings: log entry 34 (DEDUCED). -/
def State.imgLoad (s : State) : State :=
  let s := s.ds .CAL_RES_TARGET 5
  let p := s.imgCheck
  if p ≠ 0 then s.endCalDev 5 p else
  let w := s.imgWord
  let s := (s.setDevIdle fun _ => (w 6 % 1024, w 7 % 1024)).ds .CAL_GEN_GEN (w 2)
  let s := (chansOf (w 3)).zipIdx.foldl (fun s x =>
    s.setUtIdle x.1 fun _ => ⟨w (8 + 3 * x.2) % 65536, w (9 + 3 * x.2) % 4096, w (10 + 3 * x.2) % 4096⟩) s
  s.endCalDev 0 0

/-- A write of `CAL_CMD` (R325). `m` is what the analog side measures for the preconditions of RREF and VREF.
Choices: log entry 23 (DEDUCED), log entry 34 (DEDUCED). -/
def State.calCmd (s : State) (cmd : Nat) (abort dev : Bool) (m : CalMeas) : State :=
  let s := if abort then s.calAbortCmd else s
  match cmd with
  | 0 => if abort then s else s.ds .CAL_EVT_CMD_REJ 1
  | 1 => s.calDev 1 m
  | 2 => s.calDev 2 m
  | 4 => if s.copying then s.ds .CAL_EVT_CMD_REJ 1 else s.imgSave
  | 5 => if s.copying then s.ds .CAL_EVT_CMD_REJ 1 else s.imgLoad
  | 6 => if s.copying then s.ds .CAL_EVT_CMD_REJ 1
    else ((s.ds .CAL_RES_TARGET 6).endCalDev 0 0).calCommit dev
  | _ => s.ds .CAL_EVT_CMD_REJ 1

/-- The user offset that takes a factory trim to a target, where it fits `w` bits (R313, R315). -/
def utFor (w ft : Nat) (target : Int) : Option Nat :=
  let u := target - sint w ft
  if satS w u = u then some (rawOf w u) else none

end Sys2Proof.Machine
end

