-- ==== Sys2Proof/Machine/Graft.lean ====
section
/-! DEFINITION. Graft (R317 to R324): pools and maps, wear, triggers, policy, the swap, the service-life estimate, channel
BIST, what a supply warning ends (R290), and the calibrations of a channel (R313 to R316). -/

namespace Sys2Proof.Machine

/-! ### Pools -/

/-- The first spare of a pool: the number of its elements before any substitution (R49, R317). Rows are numbered from 0,
with the spares at the end. -/
def poolBase (c : Ch) (p : Nat) : Nat :=
  match p, classOf c with
  | 0, .trunk => 64 | 0, .branch => 8 | 0, .segment => 1
  | 1, _ => 24
  | 2, .trunk => 40 | 2, .branch => 16 | 2, .segment => 0
  | 3, .trunk => 2560 | 3, .branch => 1024 | 3, .segment => 512
  | 4, .trunk => 384 | 4, .branch => 192 | 4, .segment => 96
  | _, _ => 0

/-- Spares built (R317). -/
def poolBuilt (c : Ch) (p : Nat) : Nat :=
  match p, classOf c with
  | 0, .trunk => 4 | 0, .branch => 1 | 0, .segment => 0
  | 1, _ => 2
  | 2, .trunk => 2 | 2, .branch => 1 | 2, .segment => 0
  | 3, .trunk => 52 | 3, .branch => 21 | 3, .segment => 11
  | 4, .trunk => 8 | 4, .branch => 4 | 4, .segment => 2
  | _, _ => 0

/-- The pool codes. -/
def pools : List Nat := [0, 1, 2, 3, 4]

/-- Spares used (R29, R317): one OTP record each. -/
def State.poolUsed (s : State) (c : Ch) (p : Nat) : Nat := (s.otp.subst[c.val].filter fun x => x.pool = p).length

/-- Spares that remain (R29). -/
def State.poolLeft (s : State) (c : Ch) (p : Nat) : Nat := poolBuilt c p - s.poolUsed c p

/-- Element `e` of pool `p` is in service in channel `c`: it is original or a spare applied, and not retired. -/
def State.working (s : State) (c : Ch) (p e : Nat) : Bool :=
  let l := (s.ch c).graft.subst.filter fun x => x.pool = p
  (decide (e < poolBase c p) || l.any fun x => x.spare = e) && !l.any fun x => x.old = e

/-- The highest wear index among the working elements of a pool (R318). -/
def State.poolWear (s : State) (c : Ch) (p : Nat) : Nat :=
  (s.ch c).graft.wear.foldl (fun m w => if w.pool = p && s.working c p w.elem then max m w.index else m) 0

/-- A word with bit `i` set for each working element `base + i` of a pool (the maps of R48, R49). -/
def State.poolMap (s : State) (c : Ch) (p base : Nat) : Nat :=
  (List.range 32).foldl (fun m i => if s.working c p (base + i) then m + 2 ^ i else m) 0

/-- The trigger index in force: TRIG within 512 to 1,000 (R326). -/
def State.trig (s : State) (c : Ch) : Nat := max 512 (min 1000 (s.cg c .GRAFT_CTL_TRIG))

/-- The policy in force (R319, R326): 3 is treated as 0. -/
def State.policy (s : State) (c : Ch) : Nat :=
  let p := s.cg c .GRAFT_CTL_POLICY
  if p = 3 then 0 else p

/-! ### Requests and swaps -/

/-- The request that is pending or running (R319, R326): the row that BIST repairs, or a swap. -/
def GraftSt.request (g : GraftSt) : Option Swap := if g.rep.isSome then g.rep else g.swap

/-- A swap is running on the channel, past approval (R319, R322). -/
def State.swapRuns (s : State) (c : Ch) : Bool := (s.ch c).graft.request.any fun w => w.running

/-- A swap is due (R320, R321): with no spare left EXHAUST is set, source k = 10 asserts once for the element, and the
request ends; otherwise the swap runs and its OTP record starts, now or, with DEFER, once R321 and R322 allow. -/
def State.swapDue (s : State) (c : Ch) (pool elem reason : Nat) : State :=
  if s.poolLeft c pool = 0 then
    let first := !(s.ch c).graft.exhausted.contains (pool, elem)
    let s := (s.cs c .GRAFT_EVT_EXHAUST 1).updGraft c fun g => { g with
      swap := none, exhausted := if first then (pool, elem) :: g.exhausted else g.exhausted }
    if first then s.assertSrc (.ch c 10) pool (pool * 65536 + elem) else s
  else
    let s := s.updGraft c fun g => { g with swap := some ⟨pool, elem, reason, true, false, false, false⟩ }
    if swapSub (s.ch c).sub && s.swapFree c then s.swapRecord c else s.cs c .GRAFT_EVT_DEFER 1

/-- An OTP record has retired an element, whether or not its substitution has been applied (R317, R322). -/
def State.retired (s : State) (c : Ch) (p e : Nat) : Bool := s.otp.subst[c.val].any fun x => x.pool = p && x.old = e

/-- The next element that waits, in order of pool code and element index (R318, R319). -/
def State.nextTrig (s : State) (c : Ch) : Option Wear :=
  let g := (s.ch c).graft
  (g.wear.filter fun w => decide (s.trig c ≤ w.index) && s.working c w.pool w.elem &&
      !s.retired c w.pool w.elem && !g.denied.contains (w.pool, w.elem) && !g.exhausted.contains (w.pool, w.elem)).foldl
    (fun b w => match b with
      | none => some w
      | some v => if w.pool < v.pool || (w.pool = v.pool && w.elem < v.elem) then some w else b) none

/-- An element triggers (R319), where no request is pending or running and no calibration or BIST runs (R322): REQ is
set, and the policy decides whether the swap starts. A request that was pending when the policy became automatic starts
now. An exhausted element lets the next one trigger; `n` bounds how many do. Readings: log entry 35 (DEDUCED). -/
def State.trigger (s : State) (c : Ch) : Nat → State
  | 0 => s
  | n + 1 =>
    let g := (s.ch c).graft
    if g.run.isSome then s else
    match g.swap with
    | some w =>
      if s.policy c = 1 && !w.running then (s.swapDue c w.pool w.elem w.reason).trigger c n else s
    | none =>
    match s.nextTrig c with
    | none => s
    | some w =>
      let s := s.cs c .GRAFT_EVT_REQ 1
      if s.policy c = 1 then (s.swapDue c w.pool w.elem w.reason).trigger c n
      else s.updGraft c fun g => { g with swap := some ⟨w.pool, w.elem, w.reason, false, false, false, false⟩ }

/-- Lets the elements that wait trigger. -/
def State.triggers (s : State) (c : Ch) : State := s.trigger c ((s.ch c).graft.wear.length + 1)

/-- A measurement that is judged for a wear index: the drift of a slice's offset from its factory baseline against 24 LSB, in
1/256 LSB (R316, R318). -/
def State.drift (s : State) (c : Ch) (e : Nat) : Nat :=
  match (s.ch c).graft.slices.find? fun x => x.1 = e with
  | some x => (x.2.1 - Config.sliceBase c.val e).natAbs
  | none => 0

/-- An element's wear index and its reason (R318, R326): 1 drift, 2 ring oscillator, 3 ECC, 4 an uncorrectable error. The
rounding is free (log entry 5); an oscillator that has not slowed shows none, and at equal shares drift is named (DEDUCED,
log entry 35). -/
def State.wearOf (s : State) (c : Ch) (m : WearMeas) : (Nat × Nat) × State :=
  let idx := fun (s : State) (num den : Nat) =>
    let r := s.roundFree num den
    (min 1023 r.1.toNat, r.2)
  let slow := 1000 * 100 * (m.fFac - m.fNow)
  let slowDen := 3 * max 1 m.fFac
  match m.pool.val with
  | 0 =>
    let d := 1000 * s.drift c m.elem
    if slow * 6144 ≤ d * slowDen then let r := idx s d 6144; ((r.1, 1), r.2)
    else let r := idx s slow slowDen; ((r.1, 2), r.2)
  | 1 | 2 => let r := idx s slow slowDen; ((r.1, 2), r.2)
  | _ =>
    if m.uncorr then ((1023, 4), s)
    else let r := idx s (1000 * m.corr) (max 1 (s.cg c .GRAFT_CTL_ECC_N)); ((r.1, 3), r.2)

/-- WEAR_UPDATE (R318, R319): the wear indices of the elements measured update. Readings: log entry 35 (DEDUCED). -/
def execWearUpdate (c : Ch) (l : List WearMeas) (s : State) : Host.Outcome State Fault Refusal :=
  if !s.powered c then ok s else
  let s := l.foldl (fun s m =>
    let r := s.wearOf c m
    r.2.updGraft c fun g =>
      let rest := g.wear.filter fun w => !(w.pool = m.pool.val && w.elem = m.elem)
      { g with wear := if r.1.1 = 0 then rest else ⟨m.pool.val, m.elem, r.1.1, r.1.2⟩ :: rest }) s
  ok (s.triggers c)

/-- APPROVE (R319): under policy 2 the pending swap starts; otherwise it is ignored. -/
def State.approve (s : State) (c : Ch) : State :=
  match (s.ch c).graft.swap with
  | some w =>
    if s.policy c = 2 && !w.running then (s.swapDue c w.pool w.elem w.reason).triggers c
    else s.cs c .GRAFT_EVT_CMD_REJ 1
  | none => s.cs c .GRAFT_EVT_CMD_REJ 1

/-- DENY (R319, R322): under policy 2 a pending request is cleared, and its element stays denied until the channel next
powers up. -/
def State.deny (s : State) (c : Ch) : State :=
  match (s.ch c).graft.swap with
  | some w =>
    if s.policy c = 2 && !w.running then
      let s := s.updGraft c fun g => { g with swap := none, denied := (w.pool, w.elem) :: g.denied }
      (s.cs c .GRAFT_EVT_DENIED 1).triggers c
    else s.cs c .GRAFT_EVT_CMD_REJ 1
  | none => s.cs c .GRAFT_EVT_CMD_REJ 1

/-- SWAP (R319): the element named is replaced whatever its wear. It takes the place of a request that only waits; one
that runs, or an element not in service, makes it ignored. Readings: log entry 35 (DEDUCED). -/
def State.swapCmd (s : State) (c : Ch) (pool elem : Nat) : State :=
  if s.swapRuns c || !s.working c pool elem || s.retired c pool elem then s.cs c .GRAFT_EVT_CMD_REJ 1
  else (s.swapDue c pool elem 5).triggers c

/-- A write of `GRAFT_CMD` (R326): its command bits act in ascending order. -/
def State.graftCmd (s : State) (c : Ch) (v : Nat) : State :=
  let s := if v.testBit 0 then s.approve c else s
  let s := if v.testBit 1 then s.deny c else s
  if v.testBit 2 then s.swapCmd c (bits v 11 8) (bits v 27 12) else s

/-- A spare's OTP record completes (R317, R321): the lowest spare not used takes the element's place. -/
def State.addRecord (s : State) (c : Ch) (pool elem : Nat) : State :=
  let r : Subst := ⟨pool, poolBase c pool + s.poolUsed c pool, elem⟩
  { s with otp := { s.otp with subst := s.otp.subst.set c.val (s.otp.subst[c.val] ++ [r]) } }

/-- GRAFT_SWITCH (R321 steps 3 and 4): the spare takes over, the retired element powers down, the maps and the log
update, and DONE is set. -/
def execGraftSwitch (c : Ch) (s : State) : Host.Outcome State Fault Refusal :=
  match (s.ch c).graft.swap with
  | some w =>
    match s.otp.subst[c.val].find? fun r => r.pool = w.pool && r.old = w.elem with
    | some r =>
      if w.committed && s.powered c then
        let s := s.updGraft c fun g => { g with
          swap := none, subst := g.subst ++ [r]
          wear := g.wear.filter fun x => !(x.pool = w.pool && x.elem = w.elem) }
        let s := ((s.cs c .GRAFT_LOG_POOL r.pool).cs c .GRAFT_LOG_NEW r.spare).cs c .GRAFT_LOG_OLD r.old
        ok ((s.cs c .GRAFT_EVT_DONE 1).triggers c)
      else ok s
    | none => ok s
  | none => ok s

/-! ### Service life (R323) -/

/-- The least-squares slope of samples 64 h apart, oldest first, as a fraction per hour: numerator and denominator. -/
def slope (ys : List Nat) : Int × Nat :=
  let n := ys.length
  let sx := (List.range n).sum
  let sxx := ((List.range n).map fun i => i * i).sum
  let sy := ys.sum
  let sxy := (ys.zipIdx.map fun y => y.1 * y.2).sum
  ((n * sxy : Nat) - (sx * sy : Nat), 64 * (n * sxx - sx * sx))

/-- A pool's service-life figure (R323). -/
def State.lifeOf (s : State) (c : Ch) (p : Nat) : Nat :=
  let h := ((s.ch c).graft.hist.toList.getD p []).reverse
  let q := slope h
  if h.length < 8 || q.1 ≤ 0 then 0xFFFF
  else min (((s.trig c - s.poolWear c p) + s.poolLeft c p * s.trig c) * q.2 / q.1.toNat) 0xFFFE

/-- LIFE_ESTIMATE (R323): each pool's wear is recorded and LIFE recomputed over the pools with spares built, the lowest
code on a tie; a fall below the horizon sets LIFE_WARN. -/
def execLifeEstimate (c : Ch) (s : State) : Host.Outcome State Fault Refusal :=
  if !s.powered c then ok s else
  let wear := s.poolWear c
  let s := s.updGraft c fun g => { g with hist := g.hist.mapFinIdx fun i l _ => (wear i :: l).take 16 }
  let best := (pools.filter fun p => poolBuilt c p ≠ 0).foldl (fun (b : Option (Nat × Nat)) p =>
    let l := s.lifeOf c p
    match b with
    | none => some (l, p)
    | some v => if l < v.1 then some (l, p) else b) none
  match best with
  | some (l, p) =>
    let was := s.cg c .GRAFT_LIFE_HOURS
    let hrs := s.cg c .GRAFT_LIFEWARN_HRS
    let s := (s.cs c .GRAFT_LIFE_HOURS l).cs c .GRAFT_LIFE_POOL p
    ok (if hrs ≤ was && l < hrs then s.cs c .GRAFT_EVT_LIFE_WARN 1 else s)
  | none => ok s

/-! ### Channel BIST (R324) -/

/-- BIST ends (R324, R107): the outcome is reported, and the channel reset clears classes E and F and RETAIN. -/
def State.bistFinish (s : State) (c : Ch) : State :=
  let status := (s.ch c).graft.bistEnd
  let pass := s.cg c .CALG_BIST_UNREP = 0 && s.cg c .CALG_BIST_FAILMEM &&& 0x15 = 0
  let s := (s.cs c .CALG_BIST_PASS (b2n pass)).cs c .GRAFT_EVT_BIST_DONE 1
  let s := (s.cs c .CALG_RES_STATUS status).cs c .CALG_RES_PRECOND 0
  let s := s.updGraft c fun g => { g with run := none, bistRows := [], bistEnd := 0, bistReset := true, rep := none }
  s.beginReset c

/-- A failing row is left unrepaired (R324); beyond its field the count stays full (DEDUCED, log entry 42). -/
def State.leaveRow (s : State) (c : Ch) : State := s.cs c .CALG_BIST_UNREP (min 255 (s.cg c .CALG_BIST_UNREP + 1))

/-- The next failing row is repaired (R324 step 2): under POLICY ≠ 0, while its pool has a spare, its OTP record starts
with reason 6; a row without one is left. After the last, and at once where BIST has been ended, BIST finishes. -/
def State.bistNext (s : State) (c : Ch) : List (Nat × Nat) → State
  | [] => s.bistFinish c
  | (p, e) :: t =>
    if s.policy c ≠ 0 && s.poolLeft c p ≠ 0 && (s.ch c).graft.bistEnd = 0 then
      s.updGraft c fun g => { g with bistRows := t, rep := some ⟨p, e, 6, true, true, false, false⟩ }
    else (s.leaveRow c).bistNext c t

/-- The pools and rows of a test's failing memories. -/
def bistRows (r : BistResult) : List (Nat × Nat) := (r.ctxRows.map fun e => (3, e)) ++ r.seqRows.map fun e => (4, e)

/-- BIST_COMPLETE (R324): the tests have ended, with what they found, and repair begins. A repair that a supply warning
broke off is given up as BIST ends (R290, R322). -/
def execBistComplete (c : Ch) (r : BistResult) (s : State) : Host.Outcome State Fault Refusal :=
  if (s.ch c).graft.run = some 8 then
    match (s.ch c).graft.rep with
    | some w => if w.recording then ok s else ok ((s.leaveRow c).bistNext c (s.ch c).graft.bistRows)
    | none =>
      let s := ((s.cs c .CALG_BIST_FAILMEM r.failMem.toNat).cs c .CALG_BIST_REPAIRED 0).cs c .CALG_BIST_UNREP 0
      ok (s.bistNext c (bistRows r))
  else ok s

/-- GRAFT_RECORD_DONE (R29, R321, R324): the commit point; USED increases. A row that BIST repairs is in service at once,
and the next one follows. A write of the word `bad` that failed asserts source 396 (R328), and is made again (DEDUCED, log
entry 35). -/
def execGraftRecordDone (c : Ch) (bad : Option Word) (s : State) : Host.Outcome State Fault Refusal :=
  match (s.ch c).graft.request with
  | some w =>
    if !w.recording then ok s else
    match bad with
    | some a => ok (s.assertSrc (.dev 12) 2 a.toNat)
    | none =>
      let s := s.addRecord c w.pool w.elem
      if (s.ch c).graft.rep.isSome then
        let s := (s.updGraft c fun g => { g with subst := s.otp.subst[c.val], rep := none }).cinc c .CALG_BIST_REPAIRED
        ok (s.bistNext c (s.ch c).graft.bistRows)
      else ok (s.updGraft c fun g => { g with swap := some { w with recording := false, committed := true } })
  | none => ok s

/-! ### Supply warnings (R290, R322) -/

/-- A supply warning begins (R290 step 4, R322): every calibration ends with SUPPLY_ABORT and every OTP record before its
commit point is deferred. Readings: log entry 35 (DEDUCED). -/
def State.supplyAbort (s : State) : State :=
  (s.stopCalDev 2).forCh fun s c => (s.endCalCh c 2).swapDefer c true

/-- t_DIPHOLD after a warning ended, the swaps it deferred are tried again (R322). -/
def State.swapRetry (s : State) : State :=
  s.forCh fun s c =>
    ((s.updGraft c fun g => { g with swap := g.swap.map fun w => { w with held := false } }).swapRecord c).triggers c

/-! ### Channel calibrations -/

/-- The first failed precondition of a channel calibration (R313, R314), 0 for none. BIST has no PADS, ACTIVITY or LOAD
(R324). -/
def State.chPrecond (s : State) (c : Ch) (cmd : Nat) (m : CalMeas) : Nat :=
  let x := s.ch c
  let bist := cmd = 8
  if x.sub ≠ .maint then 1
  else if !bist && x.pad.held then 2
  else if !bist && !m.quiet then 3
  else if !bist && !m.loadOk cmd then 4
  else if x.graft.run.isSome || s.swapRuns c || s.copyingCh c then 6
  else if !s.db .ID_OTPSTAT_FT_VALID then 7
  else if !s.power.warn.isEmpty then 8 else 0

/-- HYB, AMP, RXG or BIST is commanded (R313, R314, R324). -/
def State.calgRun (s : State) (c : Ch) (cmd : Nat) (m : CalMeas) : State :=
  if s.copyingCh c then s.cs c .GRAFT_EVT_CMD_REJ 1 else
  let p := s.chPrecond c cmd m
  let s := s.cs c .CALG_RES_TARGET cmd
  if p ≠ 0 then
    (((s.cs c .CALG_RES_STATUS 1).cs c .CALG_RES_PRECOND p).cs c .GRAFT_EVT_CAL_DONE 1).cs c .GRAFT_EVT_CAL_FAIL 1
  else s.updGraft c fun g => { g with run := some cmd, bistEnd := 0 }

/-- What waited for the end of a calibration goes on (R322): a swap's record, and elements that have triggered. -/
def State.calEnded (s : State) (c : Ch) : State := (s.swapRecord c).triggers c

/-- `CALG_CMD.ABORT` (R310, R315, R324): a calibration ends; BIST ends at its next test step, and its reset still follows.
With nothing running, and during a bank copy, it is ignored. A supply warning in its cycle gives the status. -/
def State.calgAbortCmd (s : State) (c : Ch) : State :=
  match (s.ch c).graft.run with
  | some _ => if s.copyingCh c then s.cs c .GRAFT_EVT_CMD_REJ 1 else (s.endCalCh c s.abortStatus).calEnded c
  | none => s.cs c .GRAFT_EVT_CMD_REJ 1

/-- A write of `CALG_CMD` (R326). BIST is accepted from the host only (R324). Readings: log entry 23 (DEDUCED). -/
def State.calgCmd (s : State) (c : Ch) (cmd : Nat) (abort fromProg : Bool) (m : CalMeas) : State :=
  let s := if abort then s.calgAbortCmd c else s
  match cmd with
  | 0 => if abort then s else s.cs c .GRAFT_EVT_CMD_REJ 1
  | 1 => s.calgRun c 1 m
  | 2 => s.calgRun c 2 m
  | 3 => s.calgRun c 3 m
  | 8 => if fromProg then s.cs c .GRAFT_EVT_CMD_REJ 1 else s.calgRun c 8 m
  | _ => s.cs c .GRAFT_EVT_CMD_REJ 1

/-- CAL_COMPLETE (R313, R315): a measurement ends. The offset is the target less the factory value; within its width it
goes to the inactive bank with STATUS OK, and otherwise STATUS is RANGE. HYB has two targets, R and C. The other ends of
a calibration come with what ends it. A block without its clock ends none (R281). -/
def execCalComplete (c : Option Ch) (meas target target2 : Int) (s : State) : Host.Outcome State Fault Refusal :=
  match c with
  | none =>
    match s.cal.run, s.svcEn 0 with
    | some t, true =>
      let s := (s.updCal fun k => { k with run := none }).ds .CAL_RES_MEAS (rawOf 16 meas)
      match utFor 10 (if t = 1 then s.otp.ftDev.1 else s.otp.ftDev.2) target with
      | some u => ok ((s.setDevIdle fun d => if t = 1 then (u, d.2) else (d.1, u)).endCalDev 0 0)
      | none => ok (s.endCalDev 4 0)
    | _, _ => ok s
  | some c =>
    let ft := s.otp.ft[c.val]
    let write : Nat → Option (Ut3 → Ut3) := fun t =>
      match t with
      | 1 => match utFor 8 (bits ft.hyb 7 0) target, utFor 8 (bits ft.hyb 15 8) target2 with
        | some r, some k => some fun u => { u with hyb := k * 256 + r }
        | _, _ => none
      | 2 => (utFor 12 ft.amp target).map fun v u => { u with amp := v }
      | _ => (utFor 12 ft.rxg target).map fun v u => { u with rxg := v }
    match (s.ch c).graft.run, s.clocked c .calg with
    | some 8, _ => ok s
    | some t, true =>
      let s := s.cs c .CALG_RES_MEAS (rawOf 16 meas)
      match write t with
      | some g => ok (((s.setUtIdle c g).endCalCh c 0).calEnded c)
      | none => ok ((s.endCalCh c 4).calEnded c)
    | _, _ => ok s

/-! ### Background calibration (R316) -/

/-- SLICE_CAL_UPDATE (R316, R327): background calibration corrects one working slice, its offset in 1/256 LSB; a segment
channel's for offset only. A slice whose output is stuck, or that has not converged, raises source k = 1 instead. -/
def execSliceCalUpdate (c : Ch) (slice : Nat) (off gain skew : Int) (fault : Option (Fin 2)) (s : State) :
    Host.Outcome State Fault Refusal :=
  if s.clocked c .afe && s.cb c .AFE_CTL_ADC_EN && s.working c 0 slice then
    match fault with
    | some k => ok (s.raiseLevel (.ch c 1) k.val slice)
    | none =>
      let v := if isSeg c then (off, 0, 0) else (off, gain, skew)
      ok (s.updGraft c fun g => { g with slices := (slice, v) :: g.slices.filter fun x => x.1 ≠ slice })
  else ok s

end Sys2Proof.Machine
end

