-- ==== Sys2Proof/Machine/Supply.lean ====
section
/-! DEFINITION. Supply warnings, dip records and supply resets (R289 to R291). -/

namespace Sys2Proof.Machine

/-- Enters a rail's minimum in the dip record (R290): the record names the rail that went lowest relative to its warning
level. -/
def State.dipMin (s : State) (d : Dip) (rail mv : Nat) : Dip :=
  if mv * s.warnLevel d.rail < d.minMv * s.warnLevel rail then { d with rail := rail, minMv := mv } else d

/-- Writes the dip record: its rail, minimum and duration in µs, which saturates (R290, R306).
Choices: log entry 33 (DESIGN CHOICE). -/
def State.writeDip (s : State) (d : Dip) : State :=
  let us := (s.now - d.start) / 25
  ((s.ds .TAP_DIPLOG_RAIL d.rail).ds .TAP_DIPLOG_MIN_MV d.minMv).ds .TAP_DIPDUR_US (min us (m32 - 1))

/-- A supply warning meets an OTP write of Heartwood (R354, R355, R357). Whether the write has passed its commit point is
free: before it, the operation ends SUPPLY_ABORT with nothing changed; after it, a key or DEPLOY write goes on to its end,
and a RETURN or SCRAP is cut, with a status the spec does not give. RB_SET stops where it stands. -/
def State.heartWarn (s : State) : State :=
  let stop := fun (s : State) (op : HeartOp) (st : Nat) => (s.heartRes op.code st 0).updHeart HeartSt.done
  match s.heart.op with
  | some (.rbSet cnt v) => stop (s.rbCut cnt v) (.rbSet cnt v) 2
  | some (.keyProg k h) =>
    let r := s.fresh 1
    if r.1 = 0 then stop r.2 (.keyProg k h) 2 else r.2
  | some (.keyImage op k h) =>
    let r := s.fresh 1
    if r.1 = 0 then (stop r.2 (.keyImage op k h) 2).clearStaging else r.2
  | some .deploy =>
    let r := s.fresh 1
    if r.1 = 0 then stop r.2 .deploy 2 else r.2
  | some (.ret ref slot fp) =>
    let r := s.fresh 1
    if r.1 = 0 then stop r.2 (.ret ref slot fp) 2 else
    let t := (r.2.lcCut (.ret ref slot fp)).fresh 2
    (stop t.2 (.ret ref slot fp) t.1).endSession 6
  | some .scrap =>
    let r := s.fresh 1
    if r.1 = 0 then stop r.2 .scrap 2 else
    let t := (r.2.lcCut .scrap).fresh 2
    (stop t.2 .scrap t.1).endSession 6
  | some .submit | some (.attest _ _) | some (.retTok _) | some .openTok | none => s

/-- SUPPLY_WARN_START (R289, R290): a rail enters a warning at `mv`, below its warning level. Choices: log entry 33
(DESIGN CHOICE). -/
def execSupplyWarnStart (rail : Fin 6) (mv : Nat) (s : State) : Host.Outcome State Fault Refusal :=
  if !s.monitored rail || s.power.warn.contains rail.val || !belowLevel (s.warnLevel rail) mv then ok s else
  let d := match s.power.dip with
    | some d => { s.dipMin d rail mv with hold := false }
    | none => ⟨rail, mv, s.now, false⟩
  let s := s.updPower fun p => { p with warn := rail.val :: p.warn, dip := some d }
  let s := if rail.val ≤ 1 then s.dinc .TAP_DIPCNT_COUNT else s
  if !s.servicesUp then ok s else
  let s := s.ds .PWR_EVT_DIP_START 1
  let s := (s.setLive (.dev 0) true).assertSrc (.dev 0) rail mv
  let s := s.forCh fun s c => if s.powered c then s.cs c .DSP_FRZHW_SUPPLY 0x6F else s
  ok (s.sysEvtAll 0).supplyAbort.heartWarn

/-- SUPPLY_WARN_END (R290): a rail leaves its warning, after a minimum of `minMv`. When it is the last, DIP_END and
SUPPLY_OK are set, the record is written, and t_DIPHOLD runs. Choices: log entry 33 (DESIGN CHOICE). -/
def execSupplyWarnEnd (rail : Fin 6) (minMv : Nat) (s : State) : Host.Outcome State Fault Refusal :=
  if !s.power.warn.contains rail.val then ok s else
  let s := s.updPower fun p => { p with warn := p.warn.filter (· ≠ rail.val) }
  match s.power.dip with
  | some d =>
    let d := s.dipMin d rail minMv
    if s.power.warn.isEmpty then
      let s := (s.updPower fun p => { p with dip := some { d with hold := true } }).writeDip d
      if s.servicesUp then ok (((s.ds .PWR_EVT_DIP_END 1).fallLevel (.dev 0)).sysEvtAll 1) else ok s
    else ok (s.updPower fun p => { p with dip := some d })
  | none => ok s

/-- DIPHOLD_EXPIRE (R290, R322): the record is closed, the SUPPLY mask clears and deferred swaps are tried again. -/
def execDipholdExpire (s : State) : Host.Outcome State Fault Refusal :=
  match s.power.dip with
  | some d =>
    if d.hold then
      let s := s.updPower fun p => { p with dip := none }
      let s := s.forCh fun s c => if s.powered c then s.cs c .DSP_FRZHW_SUPPLY 0 else s
      ok s.swapRetry
    else ok s
  | none => ok s

/-- SUPPLY_RESET (R19, R289, R291, R304): a rail other than VSUP stays below its reset level. The dip record is written
first; the part is then held in reset until every rail is back in range, and the warnings and the record end with it. -/
def execSupplyReset (rail : Fin 6) (minMv : Nat) (toSafe : Bool) (s : State) : Host.Outcome State Fault Refusal :=
  if rail.val = 0 || !s.resettable || !belowLevel (s.resetLevel rail) minMv || s.outranked toSafe then ok s else
  let s := match s.power.dip with
    | some d => s.writeDip (s.dipMin d rail minMv)
    | none => s.writeDip ⟨rail, minMv, s.now, false⟩
  ok ((s.updPower fun p => { p with warn := [], dip := none }).warmReset .supply rail)

/-- SUPPLY_RESET_RELEASE (R304): every rail is back in range and the part enters Boot. -/
def execSupplyResetRelease (s : State) : Host.Outcome State Fault Refusal :=
  ok (s.releaseReset .supply)

end Sys2Proof.Machine
end

