-- ==== Sys2Proof/Machine/Dsp.lean ====
section
/-! DEFINITION. The receive DSP (R56 to R82): formats, placements, probe and placer, adaptation, timing recovery, freezes,
update blocks, capture, snapshots, tap access, the standby bank. -/

namespace Sys2Proof.Machine

/-! ### Sizes (R12, R58, R63) -/

/-- Taps of the dense section. -/
def denseLen (c : Ch) : Nat := if isTrunk c then 256 else 128
/-- Floating windows. -/
def winCount (c : Ch) : Nat := if isTrunk c then 8 else 4
/-- Taps of a window. -/
def winLen (c : Ch) : Nat := if isTrunk c then 48 else 32
/-- The reach of the windows and the probe, in symbols. -/
def ecReach (c : Ch) : Nat := if isTrunk c then 4096 else 1024
/-- Taps of the FFE. -/
def ffeLen (c : Ch) : Nat := if isTrunk c then 48 else 24
/-- Taps of the DFE. -/
def dfeLen (c : Ch) : Nat := if isTrunk c then 8 else 4
/-- Symbols of an update block (R56). -/
def blockLen (c : Ch) : Nat := if isTrunk c then 64 else 8

/-- The key of a coefficient in a bank. -/
def tapKey (area i : Nat) : Nat := area * 1024 + i

/-- The class has coefficient `i` of area `a` (R58, R63, R75). -/
def hasTap (c : Ch) (a i : Nat) : Bool :=
  match a with
  | 0 => i < denseLen c
  | 1 => i / 48 < winCount c && i % 48 < winLen c
  | 2 => i < ffeLen c
  | 3 => i < dfeLen c
  | _ => false

/-! ### Banks -/

/-- The coefficient with a key. -/
def tapGet (l : List (Nat × Int)) (k : Nat) : Int := (l.lookup k).getD 0

/-- Sets the coefficient with a key: keys rise and none is held at 0. -/
def tapSet (l : List (Nat × Int)) (k : Nat) (v : Int) : List (Nat × Int) :=
  match l with
  | [] => if v = 0 then [] else [(k, v)]
  | (j, w) :: t =>
    if k < j then (if v = 0 then (j, w) :: t else (k, v) :: (j, w) :: t)
    else if k = j then (if v = 0 then t else (k, v) :: t)
    else (j, w) :: tapSet t k v

/-- The key is one of window `w`'s taps. -/
def inWin (w k : Nat) : Bool := k / 1024 = 1 && k % 1024 / 48 = w

/-- Clears a window's taps. -/
def Bank.clearWin (b : Bank) (w : Nat) : Bank := { b with taps := b.taps.filter fun t => !inWin w t.1 }

/-- Places a window: its taps are set before it first cancels (R59). -/
def Bank.place (b : Bank) (w : Nat) (en : Bool) (start : Nat) : Bank :=
  { b.clearWin w with wins := b.wins.setIfInBounds w (en, start) }

/-- The placement of window `w`. -/
def Bank.win (b : Bank) (w : Nat) : Bool × Nat := b.wins.toList.getD w (false, 0)

/-- An enabled placement lies within the range of R58. -/
def winInRange (c : Ch) (start : Nat) : Bool := denseLen c ≤ start && start + winLen c ≤ ecReach c

/-- A set of placements is valid (R58): every enabled window is implemented and in range, and no two overlap. -/
def Bank.valid (c : Ch) (b : Bank) : Bool :=
  (List.range 8).all fun w =>
    !(b.win w).1 || (w < winCount c && winInRange c (b.win w).2 &&
      (List.range w).all fun v =>
        !(b.win v).1 || (b.win v).2 + winLen c ≤ (b.win w).2 || (b.win w).2 + winLen c ≤ (b.win v).2)

/-- The active bank. -/
def DspSt.act (d : DspSt) : Bank := d.banks[d.active.val]

/-- The standby bank. -/
def DspSt.stby (d : DspSt) : Bank := d.banks[(1 - d.active : Fin 2).val]

/-- Changes the active bank. -/
def State.updAct (s : State) (c : Ch) (g : Bank → Bank) : State :=
  s.updDsp c fun d => { d with banks := d.banks.set d.active.val (g d.banks[d.active.val]) }

/-- Changes the standby bank. -/
def State.updStby (s : State) (c : Ch) (g : Bank → Bank) : State :=
  s.updDsp c fun d => let i : Fin 2 := 1 - d.active
    { d with banks := d.banks.set i.val (g d.banks[i.val]) }

/-- The value of a 24-bit coefficient as it reads (R57): its upper 16 bits. -/
def tap16 (v : Int) : Int := v / 256

/-! ### Freezes -/

/-- The LINK freeze mask (R66, R68): the echo canceller and probe of a slave in TRAINING without lock, and the same in
connector loopback. -/
def State.frzLink (s : State) (c : Ch) : Nat :=
  let l := (s.ch c).link
  let slave := l.st = .train && !l.master && !s.cb c .DSP_TRSTAT_LOCK
  if slave || decide (s.cg c .AFE_CTL_LOOP = 2) then 0x43 else 0

/-- The effective freeze mask (R68): the OR of the six sources. -/
def State.frzEff (s : State) (c : Ch) : Nat :=
  (s.cg c .DSP_FRZ_HOST ||| (s.ch c).seq.frz ||| s.frzLink c ||| s.cg c .DSP_FRZHW_LPI ||| s.cg c .DSP_FRZHW_SUPPLY |||
    s.cg c .DSP_FRZHW_DIV) &&& 0x7F

/-! ### Engine phases (R64) -/

/-- Puts an engine into acquisition. -/
def State.acquire (s : State) (c : Ch) (e : Nat) : State :=
  s.updRx c fun r => { r with phases := r.phases.setIfInBounds e ⟨false, 0⟩ }

/-- Puts every engine into acquisition. -/
def State.acquireAll (s : State) (c : Ch) : State :=
  s.updRx c fun r => { r with phases := .replicate 11 ⟨false, 0⟩ }

/-- Clears the active coefficients, keeping placements; no snapshot is held any more (R64, R71, R82). -/
def State.clearTaps (s : State) (c : Ch) : State :=
  ((s.updAct c fun b => { b with taps := [] }).updDsp c fun d => { d with snap := none }).acquireAll c

/-- Entry to connector loopback clears the echo-canceller taps (R68). That their engines then acquire again, and that a
snapshot stays, is the model's reading: R64 names no other clear and R71 a clear of the coefficients (DEDUCED, log entry
28). -/
def State.clearEc (s : State) (c : Ch) : State :=
  let s := s.updAct c fun b => { b with taps := b.taps.filter fun t => 2 ≤ t.1 / 1024 }
  (List.range 9).foldl (fun s e => s.acquire c e) s

/-! ### Probe and placer (R60, R62) -/

/-- The probe visits a position: it lies outside the dense section and overlaps no enabled window. -/
def Bank.probed (c : Ch) (b : Bank) (p : Nat) : Bool :=
  denseLen c ≤ p && p + 16 ≤ ecReach c &&
  (List.range (winCount c)).all fun w =>
    !(b.win w).1 || (b.win w).2 + winLen c ≤ p || p + 16 ≤ (b.win w).2

/-- The probe positions visited, ascending. -/
def Bank.positions (c : Ch) (b : Bank) : List Nat :=
  ((List.range (ecReach c / 16)).map fun i => 16 * i).filter (b.probed c)

/-- `DSP_PROBESTAT.POS` (R82): 0 until the probe first runs. -/
def State.probeShown (s : State) (c : Ch) (p : Option Nat) : Nat :=
  if (s.ch c).rx.pos = 0 && !s.cb c .DSP_PROBE_EN then 0 else p.getD 0

/-- The position the probe is at: its last one, or the next it may visit; at the end, the lowest. -/
def State.probePos (s : State) (c : Ch) : Option Nat :=
  let l := (s.ch c).dsp.act.positions c
  match l.find? fun p => (s.ch c).rx.pos ≤ p with
  | some p => some p
  | none => l.head?

/-- The probe's estimate for a delay, from a list of positions; `none` where it was not measured. -/
def DspRun.estAt (r : DspRun) (from' : List Nat) (d : Nat) : Option Int :=
  let p := d / 16 * 16
  if from'.contains p then (r.est.lookup p).map fun l => l.getD (d % 16) 0 else none

/-- The sum of squares of the 16-bit values of a span; its energy is 1/64 of it, in units of 2^-24. -/
def sumSq (l : List Int) : Nat := (l.map fun v => (tap16 v).natAbs ^ 2).sum

/-- The sum of squares of a window's taps. -/
def Bank.winSq (b : Bank) (w : Nat) : Nat := sumSq ((b.taps.filter fun t => inWin w t.1).map Prod.snd)

/-- The candidate spans of a complete sweep with their sums of squares, in ascending order of start (R62). -/
def State.cands (s : State) (c : Ch) : List (Nat × Nat) :=
  let r := (s.ch c).rx
  let b := (s.ch c).dsp.act
  let n := winLen c / 16
  ((b.positions c).filter fun p =>
      ((List.range n).all fun i => r.swept.contains (p + 16 * i) && b.probed c (p + 16 * i))).map
    fun p => (p, sumSq ((List.range (winLen c)).map fun i => (r.estAt r.swept (p + i)).getD 0))

/-- The pair with the greatest second component, the first on a tie. -/
def maxOf (l : List (Nat × Nat)) : Option (Nat × Nat) :=
  l.foldl (fun b x => match b with
    | none => some x
    | some v => if v.2 < x.2 then some x else b) none

/-- The pair with the least second component, the first on a tie. -/
def minOf (l : List (Nat × Nat)) : Option (Nat × Nat) :=
  l.foldl (fun b x => match b with
    | none => some x
    | some v => if x.2 < v.2 then some x else b) none

/-- The placement the automatic placer makes at the end of a sweep (R62): the window and its START. The hysteresis
comparison with 10^(HYST/20) is made exactly, on twentieth powers. -/
def State.placer (s : State) (c : Ch) : Option (Nat × Nat) :=
  let b := (s.ch c).dsp.act
  match maxOf (s.cands c) with
  | none => none
  | some (start, e) =>
    if e < s.cg c .DSP_WINCTL_FLOOR * 64 then none else
    match (List.range (winCount c)).find? fun w => !(b.win w).1 with
    | some w => some (w, start)
    | none => match minOf ((List.range (winCount c)).map fun w => (w, b.winSq w)) with
      | none => none
      | some (w, ew) => if e ^ 20 ≤ ew ^ 20 * 10 ^ s.cg c .DSP_WINCTL_HYST then none else some (w, start)

/-- The probe runs: enabled and not paused by the freeze mask in force (R60). -/
def State.probing (s : State) (c : Ch) : Bool := s.cb c .DSP_PROBE_EN && !(s.ch c).rx.eff.testBit 6

/-- A block of dwell at the probe's position (R60); a placement that takes the position away sends the probe to the next one,
where its dwell begins. -/
def State.probeDwell (s : State) (c : Ch) : State :=
  if !s.probing c then s else
  match s.probePos c with
  | none => s
  | some p => s.updRx c fun r => { r with pos := p, dwell := if p = r.pos then r.dwell + 1 else 1 }

/-- The probe has dwelt 2^DWELL symbols at its position, DWELL clamped to 12 to 24 (R60, R82). -/
def State.dwelt (s : State) (c : Ch) : Bool :=
  decide (2 ^ max 12 (min 24 (s.cg c .DSP_PROBE_DWELL)) ≤ (s.ch c).rx.dwell * blockLen c)

/-- PROBE_DWELL_END (R60, R62): the probe has dwelt at its position; the last one ends a sweep. -/
def execProbeDwellEnd (c : Ch) (est : List Int) (s : State) : Host.Outcome State Fault Refusal :=
  if isSeg c || !s.clocked c .dsp || !s.probing c || !s.dwelt c then ok s else
  match s.probePos c with
  | none => ok s
  | some p =>
    let s := s.updRx c fun r => { r with dwell := 0 }
    let l := (List.range 16).map fun i => satS 24 (est.getD i 0)
    let s := s.updRx c fun r => { r with
      est := (p, l) :: r.est.filter fun x => x.1 ≠ p
      swept := if r.swept.contains p then r.swept else p :: r.swept }
    let ps := (s.ch c).dsp.act.positions c
    match ps.find? fun q => p < q with
    | some q => ok (s.updRx c fun r => { r with pos := q })
    | none =>
      let place := if s.cb c .DSP_WINCTL_AUTO then s.placer c else none
      let s := s.updRx c fun r => { r with
        pos := ps.headD 0, lastSwept := r.swept, swept := [], placeAuto := place }
      ok (s.cinc c .DSP_PROBESTAT_SWEEPS)

/-! ### Commands (R71, R73, R77, R82) -/

/-- A capture is requested at the next boundary (R73); one being copied makes the request ignored. -/
def State.capt (s : State) (c : Ch) : State :=
  if (s.ch c).rx.copy.isSome then s.cs c .DSP_STAT_CMD_REJ 1 else s.updRx c fun r => { r with captReq := true }

/-- The symbol rate of a trunk type, in units of 250 kBd (R33); 0 for another type. -/
def rateOf (typ : Nat) : Nat :=
  match typ with
  | 2 => 3000 | 3 => 5625 | 4 => 11250 | 5 => 22500 | 6 => 56250 | 7 => 112500
  | _ => 0

/-- REBASE (R77): accepted on a trunk whose STBY_TYPE is a trunk type other than the active one. -/
def State.rebase (s : State) (c : Ch) : State :=
  let st := s.cg c .DSP_BANK_STBY_TYPE
  if isTrunk c && rateOf st ≠ 0 && st ≠ (s.ch c).dsp.actType then s.updRx c fun r => { r with rebasing := true }
  else s.cs c .DSP_STAT_CMD_REJ 1

/-- A snapshot is requested at the next boundary, in UP (R71). -/
def State.snapReq (s : State) (c : Ch) : State :=
  if (s.ch c).sub = .up then s.updRx c fun r => { r with snapReq := true } else s

/-- A write of `DSP_CMD` (R82): every command bit acts. -/
def State.dspCmd (s : State) (c : Ch) (v : Nat) : State :=
  let s := if v.testBit 0 then s.capt c else s
  let s := if v.testBit 1 then s.snapReq c else s
  let s := if v.testBit 2 then s.updRx c fun r => { r with clrReq := true } else s
  let s := if v.testBit 3 then s.rebase c else s
  if v.testBit 4 then s.updRx c fun r => { r with est := [], swept := [], lastSwept := [], pos := denseLen c, dwell := 0 } else s

/-- SNAP_PERIODIC (R71): every 2^SNAP_INT ms in UP, a snapshot if SNR is at least SNAP_MIN and the DSP is not diverged. -/
def execSnapPeriodic (c : Ch) (s : State) : Host.Outcome State Fault Refusal :=
  if !isSeg c && s.clocked c .dsp && s.cg c .DSP_DIVCFG_SNAP_MIN ≤ s.cg c .DSP_MSE_SNR && !s.cb c .DSP_STAT_DIVERGED then
    ok (s.snapReq c)
  else ok s

/-! ### The capture buffer (R74) -/

/-- The offset of a captured coefficient in the DSP block. -/
def captOff (k : Nat) : Nat :=
  match k / 1024 with
  | 0 => 0x1000 + 4 * (k % 1024)
  | 1 => 0x1400 + 4 * (k % 1024)
  | 2 => 0x1A00 + 4 * (k % 1024)
  | _ => 0x1AC0 + 4 * (k % 1024)

/-- The word a 24-bit coefficient reads as (R57). -/
def tapWord (v : Int) : Word := BitVec.ofInt 32 (tap16 v)

/-- What a capture holds (R74). -/
def State.captMem (s : State) (c : Ch) : Mem :=
  let m := (s.ch c).dsp.act.taps.foldl (fun (m : Mem) t => m.writeWord (captOff t.1) (tapWord t.2)) []
  let r := (s.ch c).rx
  match s.probePos c with
  | none => m
  | some p => ((r.est.lookup p).getD []).zipIdx.foldl
      (fun (m : Mem) t => m.writeWord (0x1AE0 + 4 * t.2) (tapWord t.1)) m

/-! ### The standby bank (R76, R77) -/

/-- The echo response of a bank at a delay: the dense section, then the enabled window that covers it. -/
def Bank.echo (c : Ch) (b : Bank) (d : Nat) : Int :=
  if d < denseLen c then tapGet b.taps (tapKey 0 d)
  else match (List.range (winCount c)).find? fun w =>
      (b.win w).1 && (b.win w).2 ≤ d && d < (b.win w).2 + winLen c with
    | some w => tapGet b.taps (tapKey 1 (48 * w + (d - (b.win w).2)))
    | none => 0

/-- A response resampled at delay `k` of the new rate by linear interpolation (R77); its rounding is free.
Readings: log entry 28 (DEDUCED). -/
def State.resample (s : State) (c : Ch) (b : Bank) (ra rs k : Nat) : Int × State :=
  let d := k * ra / rs
  let f := k * ra % rs
  let y0 := b.echo c d
  let y1 := b.echo c (d + 1)
  s.roundFree (y0 * (rs - f : Nat) + y1 * f) rs

/-- The placements of a bank mapped to a new rate (R77): rounded, a tie upward (DESIGN CHOICE, log entry 28), clamped, and
the higher-numbered of two that overlap disabled. -/
def Bank.mapWins (c : Ch) (b : Bank) (ra rs : Nat) : Bank :=
  (List.range (winCount c)).foldl (fun n w =>
    let st := max (denseLen c) (min (ecReach c - winLen c) ((2 * (b.win w).2 * rs + ra) / (2 * ra)))
    let clash := (List.range w).any fun v =>
      (n.win v).1 && (n.win v).2 < st + winLen c && st < (n.win v).2 + winLen c
    { n with wins := n.wins.setIfInBounds w ((b.win w).1 && !clash, st) }) Bank.init

/-- The FFE main-cursor index in force (R82). -/
def State.mainTap (s : State) (c : Ch) : Nat := min (s.cg c .DSP_MU_FFE_MAIN) (ffeLen c - 1)

/-- REBASE_DONE (R77): the standby bank is filled and STBY_VALID becomes 1. With ACTIVE_TYPE 0 there is no R_a and every tap is
resampled from delay 0 (DESIGN CHOICE, log entry 28). Readings: log entry 28 (DEDUCED). -/
def State.rebaseDone (s : State) (c : Ch) : State :=
  let d := (s.ch c).dsp
  let ra := rateOf d.actType
  let rs := rateOf (s.cg c .DSP_BANK_STBY_TYPE)
  let n := d.act.mapWins c ra rs
  let delays := ((List.range (denseLen c)).map fun k => (tapKey 0 k, k)) ++
    (List.range (winCount c)).flatMap fun w =>
      if (n.win w).1 then (List.range (winLen c)).map fun i => (tapKey 1 (48 * w + i), (n.win w).2 + i) else []
  let r := delays.foldl (fun (a : List (Nat × Int) × State) x =>
    let y := a.2.resample c d.act ra rs x.2
    (tapSet a.1 x.1 y.1, y.2)) ([], s)
  let taps := tapSet r.1 (tapKey 2 (s.mainTap c)) 2097152
  let s := (r.2.updStby c fun _ => { n with taps := taps }).updDsp c fun d => { d with stbyValid := true }
  s.updRx c fun r => { r with rebasing := false }

/-- The banks swap at the switch point (R76). STBY_VALID stays as it is: at 0 too, where the spec does not say whether the set
then put aside is valid (DESIGN CHOICE, log entry 28). -/
def State.bankSwap (s : State) (c : Ch) : State :=
  let d := (s.ch c).dsp
  let st := s.cg c .DSP_BANK_STBY_TYPE
  let s := s.updDsp c fun d => { d with active := 1 - d.active, actType := st, snap := none }
  let s := if d.stbyValid then s else s.updAct c fun b => { b with taps := [] }
  ((s.cs c .DSP_BANK_STBY_TYPE d.actType).acquireAll c).updRx c fun r => { r with swapReq := false, mseSkip := r.winN ≠ 0 }

/-! ### Update blocks (R69) -/

/-- The window placements that a set of shadows holds: window, EN and START, with the active value where one is not pending
(R61). -/
def State.pendWins (s : State) (c : Ch) (sh : List (CFld × Nat)) : List (Nat × Bool × Nat) :=
  (List.range 8).filterMap fun w =>
    let cur := (s.ch c).dsp.act.win w
    match sh.lookup (.DSP_WIN_EN w), sh.lookup (.DSP_WIN_START w) with
    | none, none => none
    | some e, none => some (w, e ≠ 0, cur.2)
    | none, some t => some (w, cur.1, t)
    | some e, some t => some (w, e ≠ 0, t)

/-- A shadow of a window placement, which R61 applies later than the others. -/
def isWinSh (f : CFld) : Bool :=
  match f with
  | .DSP_WIN_EN _ | .DSP_WIN_START _ => true
  | _ => false

/-- The window shadows that have met their boundary apply, checked as one set, or are all discarded (R61). -/
def State.placeSh (s : State) (c : Ch) : State :=
  if !(s.ch c).rx.winDue then s else
  let l := s.pendWins c (s.ch c).shadow
  let s := s.updCh c fun x => { x with shadow := x.shadow.filter fun p => !isWinSh p.1, rx := { x.rx with winDue := false } }
  let t := l.foldl (fun s p => (s.updAct c fun b => b.place p.1 p.2.1 p.2.2).acquire c (p.1 + 1)) s
  if l.isEmpty then s else if (t.ch c).dsp.act.valid c then t else s.cs c .DSP_STAT_WIN_REJ 1

/-- A placement word applies (R75), where the set it makes satisfies R58; in the active bank its window then acquires. -/
def State.placeWord (s : State) (c : Ch) (p : Fin 2 × Nat × Bool × Nat) : State :=
  let b := ((s.ch c).dsp.banks[p.1.val]).place p.2.1 p.2.2.1 p.2.2.2
  if !b.valid c then s.cs c .DSP_STAT_WIN_REJ 1 else
  let s := s.updDsp c fun d => { d with banks := d.banks.set p.1.val b }
  if p.1 = (s.ch c).dsp.active then s.acquire c (p.2.1 + 1) else s

/-- The placer's placement applies, its taps loaded from the probe (R59, R62), where the placements made beside it leave it
valid under R58. -/
def State.placeByProbe (s : State) (c : Ch) (p : Option (Nat × Nat)) (r : DspRun) : State :=
  match p with
  | none => s
  | some (w, st) =>
    if !((s.ch c).dsp.act.place w true st).valid c then s.cs c .DSP_STAT_WIN_REJ 1 else
    let s := (s.updAct c fun b => b.place w true st).acquire c (w + 1)
    (List.range (winLen c)).foldl (fun s i => match r.estAt r.lastSwept (st + i) with
      | some v => s.updAct c fun b => { b with taps := tapSet b.taps (tapKey 1 (48 * w + i)) v }
      | none => s) s

/-- Steps 2 and 3 of R69: a divergence restore, a coefficient clear, then placements: those of R61 as one set, those of
R75, and the placer's (R59). Readings: log entry 28 (DEDUCED). -/
def State.placeAll (s : State) (c : Ch) : State :=
  let r := (s.ch c).rx
  let s := match r.restoreReq, (s.ch c).dsp.snap with
    | true, some k => s.updAct c fun _ => k.bank
    | _, _ => s
  let s := if r.clrReq then s.clearTaps c else s
  let s := (r.placeTap.foldl (fun s p => s.placeWord c p) (s.placeSh c)).placeByProbe c r.placeAuto r
  s.updRx c fun r => { r with restoreReq := false, clrReq := false, placeTap := [], placeAuto := none }

/-- The phase index and the freeze bit of a coefficient's engine (R64, R67). -/
def engineOf (area i : Nat) : Nat × Nat :=
  match area with
  | 0 => (0, 0)
  | 1 => (i / 48 + 1, 1)
  | 2 => (9, 2)
  | _ => (10, 3)

/-- A step field in force (R64): below 4 treated as 4, above 24 as 24. -/
def clampStep (n : Nat) : Nat := max 4 (min 24 n)

/-- The step exponent of an engine: ACQ in acquisition, TRK in tracking (R64). -/
def State.stepOf (s : State) (c : Ch) (e : Nat) : Nat :=
  let tr := ((s.ch c).rx.phases.toList.getD e ⟨false, 0⟩).track
  clampStep <|
    if e < 9 then s.cg c (if tr then .DSP_MU_EC_TRK else .DSP_MU_EC_ACQ)
    else if e = 9 then s.cg c (if tr then .DSP_MU_FFE_TRK else .DSP_MU_FFE_ACQ)
    else s.cg c (if tr then .DSP_MU_DFE_TRK else .DSP_MU_DFE_ACQ)

/-- An engine adapts in this block: it is not frozen, not held by EC_EN or DFE_EN, and a window is enabled (R63, R64,
R82). -/
def State.adapts (s : State) (c : Ch) (e bit : Nat) : Bool :=
  !(s.ch c).rx.eff.testBit bit &&
  (if e = 0 then s.cb c .DSP_CTL_EC_EN
   else if e < 9 then s.cb c .DSP_CTL_EC_EN && ((s.ch c).dsp.act.win (e - 1)).1
   else if e = 9 then true else s.cb c .DSP_CTL_DFE_EN)

/-- The leakage exponent (R64): `none` for no leakage. R64 gives 0 to 16 a meaning; a larger value is taken as no leakage
(DESIGN CHOICE, log entry 28). -/
def State.leak (s : State) (c : Ch) : Option Nat :=
  let m := s.cg c .DSP_MU_EC_LEAK
  if 1 ≤ m ∧ m ≤ 16 then some (m + 15) else none

/-- One coefficient takes its averaged gradient (R57, R64): c + 2^-n g, less 2^-l c of the echo canceller's leakage,
saturating at 24 bits. The rounding to 24 bits is free. The FFE main tap does not move toward zero.
Readings: log entry 28 (DEDUCED). -/
def State.adaptOne (s : State) (c : Ch) (g : Grad) : State :=
  let e := engineOf g.area.val g.index
  if !(hasTap c g.area.val g.index && s.adapts c e.1 e.2) then s else
  let k := tapKey g.area.val g.index
  let v := tapGet (s.ch c).dsp.act.taps k
  let n := s.stepOf c e.1
  let r := match (if e.1 < 9 then s.leak c else none) with
    | none => s.roundFree (v * (2 ^ n : Nat) + g.g) (2 ^ n)
    | some l => s.roundFree (v * (2 ^ (n + l) : Nat) + g.g * (2 ^ l : Nat) - v * (2 ^ n : Nat)) (2 ^ (n + l))
  let w := satS 24 r.1
  let w := if g.area.val = 2 && g.index = s.mainTap c && w.natAbs < v.natAbs then v else w
  r.2.updAct c fun b => { b with taps := tapSet b.taps k w }

/-- The averaged gradients of a block as one list (R64): every coefficient held, with gradient 0 where the command lists
none, so that leakage reaches it, then those listed for coefficients at 0; each coefficient once. -/
def State.gradsOf (s : State) (c : Ch) (inp : BlockIn) : List Grad :=
  let taps := (s.ch c).dsp.act.taps
  let key := fun g : Grad => tapKey g.area.val g.index
  let held := taps.map fun t =>
    ({ area := Fin.ofNat 4 (t.1 / 1024), index := t.1 % 1024
       g := ((inp.grads.find? fun g => key g = t.1).map Grad.g).getD 0 } : Grad)
  let new := inp.grads.foldl (fun (l : List Grad) g => if l.any fun h => key h = key g then l else l ++ [g]) []
  held ++ new.filter fun g => !taps.any fun t => t.1 = key g

/-- Timing recovery's update (R65). FOFS is the integrator in units of 0.01 ppm; its rounding is free. -/
def State.timing (s : State) (c : Ch) (pd : Int) : State :=
  if (s.ch c).rx.eff.testBit 4 then s else
  let ki := max 8 (min 24 (s.cg c .DSP_TR_KI))
  let kp := max 2 (min 16 (s.cg c .DSP_TR_KP))
  let s := s.updRx c fun r =>
    let integ := r.integ + pd * (2 ^ (24 - ki) : Nat)
    { r with integ := integ, phase := r.phase + pd * (2 ^ (24 - kp) : Nat) + integ }
  let r := s.roundFree ((s.ch c).rx.integ * 100000000) (2 ^ 24 * 128 * blockLen c)
  let s := r.2.cs c .DSP_TRSTAT_FOFS (rawOf 16 (satS 16 r.1))
  s.cs c .DSP_TRSTAT_PHASE (((s.ch c).rx.phase / (2 ^ 24 : Nat)) % 128).toNat

/-- A 24-bit coefficient is at its limit (R57). -/
def atLimit (v : Int) : Bool := v = 8388607 || v = -8388608

/-- The update blocks for which each FFE and DFE coefficient has stayed at its limit (R72). -/
def State.countSat (s : State) (c : Ch) : State :=
  let l := (s.ch c).dsp.act.taps.filter fun t => 2 ≤ t.1 / 1024 && atLimit t.2
  s.updRx c fun r => { r with satRun := l.map fun t => (t.1, (r.satRun.lookup t.1).getD 0 + 1) }

/-- One value decoded (R63): v(n) from y(n) and y(n-1). -/
def unprecode (mode : Nat) (y y1 : Fin 4) : Fin 4 :=
  match mode with
  | 1 => y + y1
  | 2 => y - y1
  | _ => y

/-- The decoder over sliced values from symbol `i` on, cleared at symbol `clear` (R63): the decoded values and the state it
is left in. -/
def unprecodeAll (mode : Nat) (clear : Option Nat) (i : Nat) (y1 : Fin 4) : List (Fin 4) → List (Fin 4) × Fin 4
  | [] => ([], y1)
  | y :: t =>
    let v := unprecode mode y (if clear = some i then 0 else y1)
    let r := unprecodeAll mode clear (i + 1) y t
    (v :: r.1, r.2)

/-- The partner's precoder is undone over a block's sliced values on a PAM-4 type (R63). -/
def State.decode (s : State) (c : Ch) (inp : BlockIn) : State :=
  if s.clockTyp c < 3 then s else
  s.updRx c fun r =>
    let d := unprecodeAll (s.cg c .PCS_CTL_RX_PRECODE) inp.clear 0 r.decY inp.syms
    { r with decoded := d.1, decY := d.2 }

/-- The automatic gain control writes PGA (R54). -/
def State.agc (s : State) (c : Ch) (pga : Nat) : State :=
  if s.cb c .AFE_RXGAIN_AGC_EN then s.cs c .AFE_RXGAIN_PGA pga else s

/-- Step 5 of R69: adaptation, the acquisition counts, timing recovery (R65) and the AGC; and what the block adds to the
signal-quality window (R70) and to the runs of saturated coefficients (R72). -/
def State.adapt (s : State) (c : Ch) (inp : BlockIn) : State :=
  let s := (s.gradsOf c inp).foldl (fun s g => s.adaptOne c g) s
  let moved : Nat → Bool := fun e => s.adapts c e (if e = 0 then 0 else if e < 9 then 1 else if e = 9 then 2 else 3)
  let s := s.updRx c fun r => { r with
    phases := r.phases.mapFinIdx fun i p _ => if moved i then { p with count := p.count + 1 } else p
    winN := r.winN + 1, winErr := r.winErr + inp.err2, winPd := r.winPd + inp.pd.natAbs ^ 2 }
  let s := ((s.timing c inp.pd).countSat c).decode c inp
  if (s.ch c).rx.eff.testBit 5 then s else s.agc c inp.pga

/-- Step 6 of R69: the capture starts to copy, and a snapshot is taken: one asked for in UP, also where the channel has left UP
since (DESIGN CHOICE, log entry 28). -/
def State.captSnap (s : State) (c : Ch) : State :=
  let r := (s.ch c).rx
  let m := s.captMem c
  let s := if r.captReq then s.updRx c fun r => { r with captReq := false, copy := some (m, r.block) } else s
  if r.snapReq then
    let k : Snap := ⟨(s.ch c).dsp.act, s.cg c .DSP_MSE_SNR, s.now⟩
    (s.updDsp c fun d => { d with snap := some k }).updRx c fun r => { r with snapReq := false }
  else s

/-- A segment channel's AGC runs: its ADC samples with the AFE's clock (R54). It has no DSP and no update block, so that the
command of a boundary stands there for the times at which its AGC writes PGA (DEDUCED, log entry 28). -/
def State.segAgc (s : State) (c : Ch) : Bool := isSeg c && s.clocked c .afe && s.cb c .AFE_CTL_ADC_EN

/-- The DSP of a channel runs update blocks: the ADC samples and the clocks run (R56, R401). A segment channel has none. -/
def State.dspRuns (s : State) (c : Ch) : Bool :=
  !isSeg c && s.clocked c .dsp && s.clocked c .afe && s.cb c .AFE_CTL_ADC_EN

/-- The six steps of an update-block boundary, in their order (R56, R69). Readings: log entry 28 (DEDUCED). -/
def State.blockBoundary (s : State) (c : Ch) (inp : BlockIn) : State :=
  let s := s.updRx c fun r => { r with block := r.block + 1 }
  let s := if (s.ch c).rx.swapReq then s.bankSwap c else s
  let s := s.placeAll c
  let m := s.frzEff c
  let s := s.updRx c fun r => { r with eff := m }
  ((s.adapt c inp).probeDwell c).captSnap c

/-- The phase index of an engine. -/
def engineIx : Engine → Nat
  | .ecD => 0 | .win w => w.val + 1 | .ffe => 9 | .dfe => 10

/-- The ACQLEN of an engine (R82). -/
def State.acqLen (s : State) (c : Ch) : Engine → Nat
  | .ecD => s.cg c .DSP_MU_EC_ACQLEN
  | .win _ => s.cg c .DSP_MU_EC_ACQLEN
  | .ffe => s.cg c .DSP_MU_FFE_ACQLEN
  | .dfe => s.cg c .DSP_MU_DFE_ACQLEN

/-- ACQ_TO_TRACK (R64): 2^ACQLEN update blocks of adaptation are complete. -/
def execAcqToTrack (c : Ch) (e : Engine) (s : State) : Host.Outcome State Fault Refusal :=
  let p := (s.ch c).rx.phases.toList.getD (engineIx e) ⟨false, 0⟩
  if s.dspRuns c && !p.track && decide (2 ^ s.acqLen c e ≤ p.count) then
    ok (s.updRx c fun r => { r with phases := r.phases.setIfInBounds (engineIx e) ⟨true, p.count⟩ })
  else ok s

/-! ### Tap access (R75) -/

/-- The word a TAPDATA read returns (R57, R75, R82). -/
def State.tapRead (s : State) (c : Ch) : Nat :=
  let b := if s.cb c .DSP_TAPSEL_BANK then (s.ch c).dsp.stby else (s.ch c).dsp.act
  let a := s.cg c .DSP_TAPSEL_AREA
  let i := s.cg c .DSP_TAPSEL_INDEX
  if a = 4 then (if i < winCount c then b2n (b.win i).1 * 32768 + (b.win i).2 else 0)
  else if hasTap c a i then (tapWord (tapGet b.taps (tapKey a i))).toNat else 0

/-- INDEX advances after an access to TAPDATA when AUTOINC = 1 (R75). -/
def State.tapInc (s : State) (c : Ch) : State :=
  if s.cb c .DSP_TAPSEL_AUTOINC then s.cinc c .DSP_TAPSEL_INDEX else s

/-- A TAPDATA write (R57, R58, R75): judged against the freeze mask in force. A placement word of either bank asks for EC_W
frozen and waits for the next boundary; the standby bank's coefficients, which filter nothing, take their writes at once.
Readings: log entry 28 (DEDUCED). -/
def State.tapWrite (s : State) (c : Ch) (v : Nat) : State :=
  let stby := s.cb c .DSP_TAPSEL_BANK
  let a := s.cg c .DSP_TAPSEL_AREA
  let i := s.cg c .DSP_TAPSEL_INDEX
  let r := (s.ch c).rx
  let d := (s.ch c).dsp
  let rej := s.cs c .DSP_STAT_TAP_REJ 1
  let s :=
    if stby && !isTrunk c then rej
    else if a = 4 then
      if winCount c ≤ i || !r.eff.testBit 1 then rej
      else
        let k : Fin 2 := if stby then 1 - d.active else d.active
        let b := (r.placeTap.filter fun p => p.1 = k).foldl (fun b p => b.place p.2.1 p.2.2.1 p.2.2.2) d.banks[k.val]
        if !(b.place i (v.testBit 15) (v % 8192)).valid c then s.cs c .DSP_STAT_WIN_REJ 1
        else s.updRx c fun r => { r with placeTap := r.placeTap ++ [(k, i, v.testBit 15, v % 8192)] }
    else if !hasTap c a i then rej
    else
      let w := sint 16 (v % 65536) * 256
      if stby then s.updStby c fun b => { b with taps := tapSet b.taps (tapKey a i) w }
      else if r.eff.testBit (engineOf a i).2 then
        s.updAct c fun b => { b with taps := tapSet b.taps (tapKey a i) w }
      else rej
  s.tapInc c

/-- A write of `DSP_BANK.STBY_TYPE` clears STBY_VALID (R77). A REBASE that runs goes on and completes for the type then written
(DESIGN CHOICE, log entry 28). -/
def State.stbyType (s : State) (c : Ch) (typ : Nat) : State :=
  (s.cs c .DSP_BANK_STBY_TYPE typ).updDsp c fun d => { d with stbyValid := false }

/-- Writing 1 to DIVERGED clears it and the DIV freeze mask (R68). -/
def State.clearDiverged (s : State) (c : Ch) : State := (s.cs c .DSP_STAT_DIVERGED 0).cs c .DSP_FRZHW_DIV 0

/-- Divergence is asserted (R72), unless DIVERGED is already 1. -/
def State.diverge (s : State) (c : Ch) (kind : Nat) : State :=
  if s.cb c .DSP_STAT_DIVERGED then s else
  let s := (s.cs c .DSP_STAT_DIVERGED 1).cs c .DSP_FRZHW_DIV 0x6F
  let s := if (s.ch c).dsp.snap.isSome then s.updRx c fun r => { r with restoreReq := true } else s
  s.assertSrc (.ch c 2) kind 0

/-- An FFE or DFE coefficient is at its 24-bit limit (R57, R82). -/
def State.tapSat (s : State) (c : Ch) : Bool :=
  (s.ch c).dsp.act.taps.any fun t => 2 ≤ t.1 / 1024 && atLimit t.2

/-- TAP_SAT_COUNT_EXPIRE (R72): a coefficient has stayed at its limit for 4,096 consecutive update blocks. -/
def execTapSatCountExpire (c : Ch) (s : State) : Host.Outcome State Fault Refusal :=
  if s.dspRuns c && (s.ch c).sub = .up && s.cb c .DSP_DIVCFG_SAT_DIV &&
      (s.ch c).rx.satRun.any fun p => decide (4096 ≤ p.2) then ok (s.diverge c 1) else ok s

/-! ### The signal-quality window (R65, R70) -/

/-- The largest figure in 1/16 dB, up to 4,095, that a ratio `num / den` reaches: 16 * 10 * log10 of it, rounded down. -/
def db16 (num den : Nat) : Nat :=
  (List.range 12).foldl (fun n i =>
    let m := n + 2 ^ (11 - i)
    if 10 ^ m * den ^ 160 ≤ num ^ 160 then m else n) 0

/-- The detected SNR of `n` blocks whose squared errors sum to `err` (R70): 10 log10(P / MSE) in 1/16 dB, with P of 5/9 for
PAM-4 and 2/3 for PAM-3, saturating at 4,095. Its rounding is free, and so is what an MSE above P gives, for which the spec
states nothing. Choices: log entry 28 (DESIGN CHOICE). -/
def State.snrOf (s : State) (pam4 : Bool) (n err : Nat) : Nat × State :=
  let num := (if pam4 then 5 else 6) * n * 2 ^ 24
  let den := 9 * err
  if num < den then s.fresh 12
  else if den = 0 then (4095, s)
  else
    let d := db16 num den
    if d = 4095 || 10 ^ d * den ^ 160 = num ^ 160 then (d, s)
    else
      let r := s.fresh 1
      (d + r.1, r.2)

/-- Timing recovery is locked by a window (R65): its rms phase error is below 1/32 UI, which is 4 units of 1/128 UI. -/
def DspRun.phaseOk (r : DspRun) : Bool := decide (r.winPd < 16 * r.winN)

end Sys2Proof.Machine
end

