-- ==== Sys2Proof/Machine/Link.lean ====
section
/-! DEFINITION. Negotiation, training, link loss and the hitless rate shift of trunk and branch channels (R83 to R107). -/

namespace Sys2Proof.Machine

/-! ### Shadows and frame counts -/

/-- The value an SH field will have: the pending one, or the active one (R262). -/
def State.shVal (s : State) (c : Ch) (f : CFld) : Nat := ((s.ch c).shadow.lookup f).getD (s.cg c f)

/-- Writes an SH field's shadow (R262). -/
def State.setSh (s : State) (c : Ch) (f : CFld) (v : Nat) : State :=
  s.updCh c fun x => { x with shadow := (f, v % 2 ^ f.info.wid) :: x.shadow.filter fun p => p.1 ≠ f }

/-- A shadow that XT50 training keeps for the switch to PAM-4 data (R92, R93): transmit equalisation and the precoders, until
X_CHECK. Readings: log entry 14 (DEDUCED). -/
def LinkSt.keepsSh (l : LinkSt) (f : CFld) : Bool :=
  l.st = .train && l.typ = 7 && l.x ≠ .check &&
    (f = .AFE_TXEQ_PRE || f = .AFE_TXEQ_POST || f = .PCS_CTL_TX_PRECODE || f = .PCS_CTL_RX_PRECODE)

/-- The pending shadows of a channel apply together (R262), and new user trims with them (R310). Window placements stay
pending for the next update-block boundary (R61), and what XT50 training keeps for its switch to data (R93). A configuration
field that changes disarms its block's comparison (R271). -/
def State.shApply (s : State) (c : Ch) : State :=
  let stays := fun f => isWinSh f || (s.ch c).link.keepsSh f
  let sh := (s.ch c).shadow
  let s := s.updCh c fun x => { x with
    shadow := x.shadow.filter fun p => stays p.1
    rx := { x.rx with winDue := x.rx.winDue || x.shadow.any fun p => isWinSh p.1 } }
  let s := (sh.filter fun p => !stays p.1).foldl (fun s p =>
    let was := s.cg c p.1
    let s := s.cs c p.1 p.2
    if p.1.info.crc && s.cg c p.1 ≠ was then s.cs c (.tr p.1.blk .REF_ARMED) 0 else s) s
  s.applyTrims c

/-- Changes the line state of channel `c`. -/
def State.updLine (s : State) (c : Ch) (g : LineSt → LineSt) : State := s.updCh c fun x => { x with line := g x.line }

/-- The switch to data of a type whose first frame has count `fr` (R90, R93, R103, R262): the type is active, pending
shadows apply, and frames are counted from here. Readings: log entry 25 (DEDUCED). -/
def State.toData (s : State) (c : Ch) (typ fr : Nat) : State :=
  let s := (s.cs c .PCS_CTL_TYPE typ).shApply c
  s.updLine c fun l => { l with frBase := fr, frT0 := some s.now }

/-! ### Types and roles -/

/-- The channel class has a type (R33). -/
def hasType (c : Ch) (typ : Nat) : Bool :=
  match classOf c with
  | .trunk => 2 ≤ typ && typ ≤ 7
  | .branch => 1 ≤ typ && typ ≤ 3
  | .segment => typ = 8

/-- R38 on this end's own side: a trunk whose OTP bit is set. -/
def State.xt50Able (s : State) (c : Ch) : Bool := isTrunk c && s.otp.xt50.testBit c.val

/-- The types of a mask that this end can advertise (R85, R87): XT50 only through the vendor pages and under R38. -/
def State.advOf (s : State) (c : Ch) (t : Nat) : Nat :=
  if t.testBit 6 && s.cb c .LINK_CTL_VNP_EN && s.xt50Able c && !s.power.hot then t else t % 64

/-- The types this end advertises now (R85, R87). -/
def State.advTypes (s : State) (c : Ch) : Nat := s.advOf c (s.cg c .LINK_ANADV_TYPES)

/-- The highest type of a mask of advertised types (R86); 0 for none. -/
def bestType (m : Nat) : Nat := (List.range 7).foldl (fun b i => if m.testBit i then i + 1 else b) 0

/-- Roles by negotiation (R88): `none` is the master/slave fault. Preferences that agree are settled by the seeds, the
higher seed being master (PRESUMED, log entry 30); equal seeds leave the role free. -/
def State.resolveRole (s : State) (own partner ownSeed lpSeed : Nat) : Option Bool × State :=
  let free := s.fresh 1
  if 2 ≤ own then (if own = partner then none else some (own = 3), s)
  else if 2 ≤ partner then (some (partner = 2), s)
  else if own ≠ partner then (some (own = 1), s)
  else if ownSeed ≠ lpSeed then (some (lpSeed < ownSeed), s)
  else (some (free.1 = 1), free.2)

/-! ### Entry to AN, TRAIN and HOLDOFF -/

/-- The channel enters TRAINING: a signal-quality window that already runs is not complete for R70. -/
def State.toTraining (s : State) (c : Ch) : State :=
  if (s.ch c).sub = .training then s
  else (s.setSub c .training).updRx c fun r => { r with mseSkip := r.winN ≠ 0 }

/-- The vendor's OUI in the message page (R87). -/
def fjOui : BitVec 24 := 0x4C6A91#24

/-- The capability word this end sends (R87): XT50 where it is advertised, which R38 then allows; HITLESS on a trunk, whose
types R97 lets shift; VSLEEP; VERSION 1. Readings: log entry 36 (DEDUCED). -/
def State.capWord (s : State) (c : Ch) : Nat := b2n ((s.advTypes c).testBit 6) + 2 * b2n (isTrunk c) + 4 + 256

/-- The pages this end sends (R85, R87, R88): the base page with its types, EEE, role wish and seed, and under VNP_EN the
vendor's message page and capability word. -/
def State.anPages (s : State) (c : Ch) (seed : Nat) : List AnPage :=
  .base (BitVec.ofNat 7 (s.advTypes c % 64)) (s.cb c .LINK_ANADV_EEE) (Fin.ofNat 4 (s.cg c .LINK_CTL_ROLE))
    (BitVec.ofNat 16 seed) ::
  if s.cb c .LINK_CTL_VNP_EN then [.ouiMessage fjOui, .unformatted (BitVec.ofNat 32 (s.capWord c))] else []

/-- Nothing of a partner is known (R87): it has sent no vendor pages. -/
def State.noPartner (s : State) (c : Ch) : State := (s.cs c .LINK_ANLP_LP_FJ 0).cs c .LINK_LPCAP_CAP 0

/-- Entry to AN (R84 to R88): a negotiation begins, with a fresh seed from the random-number source, and nothing of its
partner is known yet. The spec does not give the seed's width; it is taken as 16 bits (DESIGN CHOICE, log entry 30). -/
def State.enterAn (s : State) (c : Ch) : State :=
  let s := ((s.cs c .LINK_ANSTAT_MS_FAULT 0).cs c .LINK_ANSTAT_NO_HCD 0).cs c .LINK_ANSTAT_AN_DONE 0
  let r := (s.noPartner c).fresh 16
  let s := r.2
  let adv := s.advTypes c
  let vnp := s.cb c .LINK_CTL_VNP_EN
  let pages := s.anPages c r.1
  let role := s.cg c .LINK_CTL_ROLE
  let s := s.updLink c fun l => { l with
    st := .an, lpBase := none, lpOui := false, adv := adv, vnp := vnp, pages := pages, role := role, seed := r.1 }
  s.toTraining c

/-- Entry to TRAIN of a type in a role (R86, R89, R93): training is held quiet while the operating point is below the
type's need (R293), and XT50 then starts in X_SILENT. A type of another root relocks the channel PLL (R279).
The partner's OAM flags of an earlier link are no part of this one. Readings: log entry 25 (DEDUCED). -/
def State.enterTrain (s : State) (c : Ch) (typ : Nat) (master : Bool) : State :=
  let s := ((s.cs c .LINK_ANSTAT_RESOLVED typ).cs c .LINK_ANSTAT_MASTER (b2n master)).takeRoot c typ
  let hold := isTrunk c && decide (s.dg .PWR_OP_STAT_OP < pointOf typ)
  let s := s.updLink c fun l => { l with
    st := .train, typ := typ, master := master, opWait := hold
    x := if typ = 7 && !hold then .silent else .none
    xiLast := 0, xiCount := 0, xiConf := 0, swCnt := 0, xiOut := 0 }
  let s := s.updLine c fun l => { l with oam := [] }
  (s.updDsp c fun d => { d with actType := typ }).toTraining c

/-- The checks of R89 on a forced type. -/
def State.forcedOk (s : State) (c : Ch) : Bool :=
  let f := s.cg c .LINK_CTL_FTYPE
  f ≠ 7 && hasType c f

/-- A forced start (R89): ROLE 1 and 3 are master. No page is sent or received, so nothing is advertised on either side
(R87). -/
def State.enterForced (s : State) (c : Ch) : State :=
  let s := (s.noPartner c).updLink c fun l => { l with adv := 0, vnp := false, pages := [] }
  s.enterTrain c (s.cg c .LINK_CTL_FTYPE) ((s.cg c .LINK_CTL_ROLE).testBit 0)

/-- An attempt starts (R84, R89): `none` where a forced type fails its checks. -/
def State.attempt (s : State) (c : Ch) : Option State :=
  if s.cb c .LINK_CTL_AN_EN then some (s.enterAn c)
  else if s.forcedOk c then some (s.enterForced c) else none

/-- An attempt ends and link control enters HOLDOFF (R84, R94). -/
def State.toHoldoff (s : State) (c : Ch) (restart : Bool) : State :=
  ((s.endLine c).updLink c fun l => { l with st := .holdoff, restart := restart }).setSub c .idle

/-- Training or negotiation fails (R94): a restart follows only where the attempt came from RESTART. -/
def State.trainFail (s : State) (c : Ch) (evt : CFld) : State :=
  (((s.cs c evt 1).cinc c .LINK_TRFAIL_COUNT).polFail c).toHoldoff c (s.ch c).link.restart

/-! ### Commands (R84) -/

/-- A command is ignored. -/
def State.linkRej (s : State) (c : Ch) : State := s.cs c .LINK_EVT_CMD_REJ 1

/-- START (R84, R89). -/
def State.cmdStart (s : State) (c : Ch) : State :=
  if (s.ch c).link.st = .stop && (s.ch c).sub = .idle then
    let s := s.updLink c fun l => { l with restart := false }
    (s.attempt c).getD (s.linkRej c)
  else s.linkRej c

/-- STOP (R84, R128): causes 0x01 from the host and 0x02 from the link program. -/
def State.cmdStop (s : State) (c : Ch) (fromProg : Bool) : State :=
  match (s.ch c).link.st with
  | .stop => s.linkRej c
  | .holdoff => s.updLink c fun l => { l with restart := false }
  | .an | .train => s.toHoldoff c false
  | .up | .shift => s.linkLoss c (if fromProg then 0x02 else 0x01) false

/-- RESTART (R84, R128): causes 0x03 and 0x04. -/
def State.cmdRestart (s : State) (c : Ch) (fromProg : Bool) : State :=
  match (s.ch c).link.st with
  | .stop | .holdoff => s.linkRej c
  | .an | .train => s.toHoldoff c true
  | .up | .shift => s.linkLoss c (if fromProg then 0x04 else 0x03) true

/-! ### The hitless shift: messages and conditions -/

/-- The trunk PAM-4 types (R97). -/
def isPam4 (typ : Nat) : Bool := 3 ≤ typ && typ ≤ 7

/-- The first condition of R97 that fails, in the codes of R99; 0 for none. `busy` is condition 4, and `off` the
receiver's SHIFT_EN (code 1). -/
def State.shiftBlock (s : State) (c : Ch) (target : Nat) (off busy : Bool) : Nat :=
  let l := (s.ch c).link
  let lp := s.cg c .LINK_ANLP_TYPES
  let act := s.cg c .PCS_CTL_TYPE
  if off then 1
  else if !(isTrunk c && l.vnp && (s.cg c .LINK_LPCAP_CAP).testBit 1 && isPam4 act && isPam4 target && act ≠ target &&
      l.adv.testBit (target - 1) && lp.testBit (target - 1) && (target ≠ 7 || s.xt50Able c)) then 2
  else if s.dg .PWR_OP_STAT_OP < pointOf target then 3
  else if busy then 4
  else if target = 7 && s.power.hot then 5 else 0

/-- Sends a message once (R98): some frame carries it. -/
def State.sayOnce (s : State) (c : Ch) (m : LinkMsg) : State :=
  s.updLink c fun l => { l with carry := l.carry ++ [m], sent := l.sent ++ [m] }

/-- Sends a message, which the OAM repeats until the next one (R98). -/
def State.say (s : State) (c : Ch) (m : LinkMsg) : State :=
  (s.sayOnce c m).updLink c fun l => { l with msg := some m }

/-- The transaction has ended: its last message is repeated no longer (R98). -/
def State.hush (s : State) (c : Ch) : State := s.updLink c fun l => { l with msg := none }

/-- Sends a message of the running transaction (R98): ID, REASON and F; the rest is the transaction's. -/
def State.sendShift (s : State) (c : Ch) (id reason f : Nat) : State :=
  let target := match (s.ch c).link.shift with
    | some h => h.target
    | none => 0
  s.say c (LinkMsg.build id (s.cg c .LINK_SHIFTSTAT_TID) target (s.cg c .PCS_CTL_TYPE) reason f)

/-- Changes the shift that runs. -/
def State.updShift (s : State) (c : Ch) (g : ShiftSt → ShiftSt) : State :=
  s.updLink c fun l => { l with shift := l.shift.map g }

/-- A message has been acted on, so copies of it are ignored from here, as long as the link stands (R98). -/
def State.acted (s : State) (c : Ch) (id : Nat) (m : LinkMsg) : State :=
  s.updLink c fun l => { l with seen := (id, m.tid) :: l.seen }

/-- A message to ignore (R98): a copy of one already acted on, or one whose MARK or ID is not the expected one's. -/
def State.heard (s : State) (c : Ch) (id : Nat) (m : LinkMsg) : Bool :=
  !m.is id || (s.ch c).link.seen.contains (id, m.tid)

/-- The message belongs to the transaction that runs. -/
def State.ourTid (s : State) (c : Ch) (m : LinkMsg) : Bool := s.cg c .LINK_SHIFTSTAT_TID = m.tid

/-- Vendor messages can arrive: the link is up or shifting, with link control clocked (R98, R281). -/
def State.oamLive (s : State) (c : Ch) : Bool := isTrunk c && s.clocked c .link && s.linkLive c

/-- The shift that runs, while link control is clocked (R281). -/
def State.shiftRun (s : State) (c : Ch) : Option ShiftSt := if s.clocked c .link then (s.ch c).link.shift else none

/-- A shift that has not passed its commit point ends (R102): back to UP at the active type. -/
def State.shiftCancelled (s : State) (c : Ch) (reason : Nat) : State :=
  let s := ((s.cs c .LINK_SHIFTSTAT_REASON reason).cs c .LINK_SHIFTSTAT_PHASE 0).cs c .LINK_EVT_SHIFT_FAIL 1
  s.updLink c fun l => { l with st := .up, shift := none, msg := none }

/-- LEAD_MIN of a type (R101). -/
def leadMin (typ : Nat) : Nat := if typ = 7 then 8 else 64

/-- The master sends SET: its commit point (R100 step 3). -/
def State.sendSet (s : State) (c : Ch) : State :=
  let f := (s.txFr c + max (s.cg c .LINK_SHIFTLEAD_LEAD) (leadMin (s.cg c .PCS_CTL_TYPE))) % 65536
  let s := ((s.cs c .LINK_SHIFTSTAT_F f).cs c .LINK_SHIFTSTAT_PHASE 3).updShift c fun h => { h with committed := true }
  s.sendShift c 0x13 0 f

/-- ACK is sent (R99, R100 step 2); a master sends SET as soon as it has. -/
def State.sendAck (s : State) (c : Ch) : State :=
  let s := (s.cs c .LINK_SHIFTSTAT_PHASE 2).updShift c fun h => { h with ackDue := false }
  let s := s.sendShift c 0x11 0 0
  if (s.ch c).link.master then s.sendSet c else s

/-- The ACK that waited for the standby bank is sent once it is valid for the target (R99). -/
def State.ackIfDue (s : State) (c : Ch) : State :=
  match (s.ch c).link.shift with
  | some h =>
    if h.ackDue && (s.ch c).dsp.stbyValid && s.cg c .DSP_BANK_STBY_TYPE = h.target then s.sendAck c else s
  | none => s

/-- A transaction enters SHIFT (R100). -/
def State.beginShift (s : State) (c : Ch) (init : Bool) (target tid : Nat) (due : Bool) : State :=
  let s := (s.cs c .LINK_SHIFTSTAT_TID tid).cs c .LINK_SHIFTSTAT_PHASE 1
  s.updLink c fun l => { l with
    st := .shift
    shift := some { init := init, target := target, ackDue := due, snrOk := false, committed := false, switched := false
                    sentDone := false, gotDone := false } }

/-- SHIFT (R84, R97, R100). The part chooses the transaction identifier; which is free.
Readings: log entry 36 (DEDUCED). -/
def State.cmdShift (s : State) (c : Ch) : State :=
  let l := (s.ch c).link
  if l.st = .up || l.st = .shift then
    let target := s.cg c .LINK_SHIFTCFG_TGT
    let busy := l.st = .shift || (s.ch c).sub ≠ .up || (s.ch c).lpi.sleep.isSome
    let r := s.shiftBlock c target false busy
    if r ≠ 0 then (s.cs c .LINK_SHIFTSTAT_REASON r).linkRej c
    else
      let t := s.fresh 8
      (t.2.beginShift c true target t.1 false).sendShift c 0x10 0 0
  else s.linkRej c

/-- SHIFT_CANCEL (R84, R102): reason 6. -/
def State.cmdShiftCancel (s : State) (c : Ch) : State :=
  match (s.ch c).link.shift with
  | some h => if h.committed then s.linkRej c else (s.sendShift c 0x16 6 0).shiftCancelled c 6
  | none => s.linkRej c

/-- A write of `LINK_CMD` (R84): one command acts, in the order STOP, RESTART, START, SHIFT_CANCEL, SHIFT, and the others
are ignored with CMD_REJ. Readings: log entry 23 (DEDUCED). -/
def State.linkCmd (s : State) (c : Ch) (v : Nat) (fromProg : Bool) : State :=
  let n := (List.range 5).filter v.testBit
  let s := if 2 ≤ n.length then s.linkRej c else s
  if v.testBit 1 then s.cmdStop c fromProg
  else if v.testBit 2 then s.cmdRestart c fromProg
  else if v.testBit 0 then s.cmdStart c
  else if v.testBit 4 then s.cmdShiftCancel c
  else if v.testBit 3 then s.cmdShift c
  else s

/-! ### HOLDOFF, negotiation -/

/-- Link control of channel `c` is in a state, with its clock running (R281). -/
def State.linkIn (s : State) (c : Ch) (st : LState) : Bool := !isSeg c && s.clocked c .link && (s.ch c).link.st = st

/-- HOLDOFF_END (R84, R95 step 5): STOP, or after a RESTART an attempt as `LINK_CTL` stands now. -/
def execHoldoffEnd (c : Ch) (s : State) : Host.Outcome State Fault Refusal :=
  if s.linkIn c .holdoff then
    if (s.ch c).link.restart then
      match s.attempt c with
      | some s' => ok s'
      | none => ok ((s.toStop c).linkRej c)
    else ok (s.toStop c)
  else ok s

/-- AN_PAGE_RECEIVE (R85, R87, R88): a base page is recorded in `LINK_ANLP`; the unformatted page that follows a vendor
message page is the partner's capability word. -/
def execAnPageReceive (c : Ch) (p : AnPage) (s : State) : Host.Outcome State Fault Refusal :=
  if !s.linkIn c .an then ok s else
  match p with
  | .base types eee role seed =>
    let t := types.toNat % 64 + (s.cg c .LINK_ANLP_TYPES / 64) * 64
    let t := if (s.ch c).link.lpBase.isNone then t % 64 else t
    let s := (s.cs c .LINK_ANLP_TYPES t).cs c .LINK_ANLP_EEE (b2n eee)
    ok (s.updLink c fun l => { l with lpBase := some (role.val, seed.toNat), lpOui := false })
  | .ouiMessage oui => ok (s.updLink c fun l => { l with lpOui := oui = fjOui })
  | .unformatted code =>
    if (s.ch c).link.lpOui then
      let t := s.cg c .LINK_ANLP_TYPES % 64 + code.toNat % 2 * 64
      let s := ((s.cs c .LINK_LPCAP_CAP code.toNat).cs c .LINK_ANLP_LP_FJ 1).cs c .LINK_ANLP_TYPES t
      ok (s.updLink c fun l => { l with lpOui := false })
    else ok s
  | .other => ok (s.updLink c fun l => { l with lpOui := false })

/-- AN_RESOLVE (R86, R88): roles and then the type are resolved from the pages of both ends; a master/slave fault or no
common type is a failure. XT50 needs R38 still to hold. Choices: log entry 30 (PRESUMED), log entry 36 (DEDUCED). -/
def execAnResolve (c : Ch) (s : State) : Host.Outcome State Fault Refusal :=
  if !s.linkIn c .an then ok s else
  let l := (s.ch c).link
  match l.lpBase with
  | none => ok s
  | some (role, seed) =>
    let r := s.resolveRole l.role role l.seed seed
    let s := r.2
    match r.1 with
    | none => ok ((s.cs c .LINK_ANSTAT_MS_FAULT 1).trainFail c .LINK_EVT_AN_FAIL)
    | some m =>
      let own := if s.power.hot then l.adv % 64 else l.adv
      let t := bestType (own &&& s.cg c .LINK_ANLP_TYPES)
      if t = 0 then ok ((s.cs c .LINK_ANSTAT_NO_HCD 1).trainFail c .LINK_EVT_AN_FAIL)
      else ok ((s.cs c .LINK_ANSTAT_AN_DONE 1).enterTrain c t m)

/-- AN_TIMEOUT (R90, R94): t_ANMAX expires. -/
def execAnTimeout (c : Ch) (s : State) : Host.Outcome State Fault Refusal :=
  if s.linkIn c .an then ok (s.trainFail c .LINK_EVT_AN_FAIL) else ok s

/-- TRAIN_TIMEOUT (R90, R93, R94): t_TRMAX or a timer of XT50 training expires. -/
def execTrainTimeout (c : Ch) (s : State) : Host.Outcome State Fault Refusal :=
  if s.linkIn c .train then ok (s.trainFail c .LINK_EVT_TRAIN_TMO) else ok s

/-! ### XT50 training (R91 to R93) -/

/-- The fields of an infofield that a receiver acts on (R91). -/
def xiFields : List (Nat × Nat) :=
  [(2, 0), (3, 3), (4, 4), (6, 5), (10, 7), (14, 11), (15, 15), (17, 16), (21, 18), (25, 22), (30, 26), (35, 32)]

/-- The confirmed fields after a correct infofield: a field follows once two in a row agree on it (R91). -/
def xiConfirm (conf last new : Nat) : Nat :=
  xiFields.foldl (fun a f =>
    let v := if bits last f.1 f.2 = bits new f.1 f.2 then bits new f.1 f.2 else bits conf f.1 f.2
    a + v * 2 ^ f.2) 0

/-- This end's receiver is ready (R92). -/
def State.rxReady (s : State) (c : Ch) : Bool :=
  s.cb c .DSP_TRSTAT_LOCK && s.cb c .DSP_MSE_VALID && decide (s.cg c .LINK_XTHR_PAM2_SNR ≤ s.cg c .DSP_MSE_SNR)

/-- A request or a set of applied values as one number: PRC, PRE, POST. -/
def xiReq (prc pre post : Nat) : Nat := prc + 4 * pre + 64 * post

/-- What this end asks of its partner (R92). -/
def State.xiOwnReq (s : State) (c : Ch) : Nat :=
  xiReq (s.cg c .LINK_XREQ_PRC) (s.cg c .LINK_XREQ_PRE) (s.cg c .LINK_XREQ_POST)

/-- What this end applies (R92): the values written, whose SH fields wait for the switch to PAM-4 data. -/
def State.xiOwnAppl (s : State) (c : Ch) : Nat :=
  xiReq (s.shVal c .PCS_CTL_TX_PRECODE) (s.shVal c .AFE_TXEQ_PRE) (s.shVal c .AFE_TXEQ_POST)

/-- The code of a training state in ISTATE (R91). -/
def XState.istate : XState → Nat
  | .send => 0 | .coef => 1 | .ready => 2 | .count => 3
  | .silent | .listen | .check | .none => 0

/-- Changes the XT50 training state. -/
def State.toX (s : State) (c : Ch) (x : XState) : State :=
  s.updLink c fun l => { l with x := x, swCnt := if x = .count then 15 else l.swCnt }

/-- Entry to X_CHECK (R93): PAM-4 data from superframe 0, where shadows apply. No codeword has yet been uncorrectable, so
the last 16 superframes hold none from the start (DEDUCED, log entry 36). -/
def State.enterCheck (s : State) (c : Ch) : State :=
  let s := (s.toX c .check).toData c 7 0
  s.updLine c fun l => { l with sinceUnc := 144 }

/-- The transitions of the training table that the partner's infofields and this receiver allow (R93).
Readings: log entry 36 (DEDUCED). -/
def State.xEval (s : State) (c : Ch) : State :=
  let l := (s.ch c).link
  let conf := l.xiConf
  let ist := bits conf 2 0
  let lpReq := xiReq (bits conf 6 5) (bits conf 10 7) (bits conf 14 11)
  let lpAppl := xiReq (bits conf 17 16) (bits conf 21 18) (bits conf 25 22)
  match l.x with
  | .listen => if s.cb c .DSP_TRSTAT_LOCK && decide (2 ≤ l.xiCount) then s.toX c .send else s
  | .send => if s.rxReady c && conf.testBit 4 then s.toX c .coef else s
  | .coef =>
    if lpAppl = s.xiOwnReq c && conf.testBit 15 && s.xiOwnAppl c = lpReq then s.toX c .ready else s
  | .ready => if ist = (if l.master then 2 else 3) then s.toX c .count else s
  | .silent | .count | .check | .none => s

/-- XSIL_EXPIRE (R93): the master goes on to X_SEND and the slave to X_LISTEN. -/
def execXsilExpire (c : Ch) (s : State) : Host.Outcome State Fault Refusal :=
  if s.linkIn c .train && (s.ch c).link.x = .silent then
    ok (s.toX c (if (s.ch c).link.master then .send else .listen))
  else ok s

/-- The partner's confirmed request and applied values take effect (R92). A precoder code of 3, which R55 calls not used, is
stored as any other and acts as off, as where the host writes it (DESIGN CHOICE, log entry 36). Readings: log entry 36
(DEDUCED). -/
def State.xiApply (s : State) (c : Ch) : State :=
  let conf := (s.ch c).link.xiConf
  let s := if conf.testBit 15 then
      ((s.setSh c .AFE_TXEQ_PRE (min 15 (bits conf 10 7))).setSh c .AFE_TXEQ_POST (min 15 (bits conf 14 11))).setSh c
        .PCS_CTL_TX_PRECODE (bits conf 6 5)
    else s
  if xiReq (bits conf 17 16) (bits conf 21 18) (bits conf 25 22) = s.xiOwnReq c then
    s.setSh c .PCS_CTL_RX_PRECODE (bits conf 17 16) else s

/-- Training that an infofield serves is under way: from X_LISTEN or X_SEND to X_COUNT. -/
def XState.hears : XState → Bool
  | .listen | .send | .coef | .ready | .count => true
  | .silent | .check | .none => false

/-- The CRC of an infofield is correct (R45, R91). -/
def xiCrcOk (v : BitVec 192) (crc : BitVec 16) : Bool := crc16 ((List.range 192).map fun i => v.getLsbD i) = crc

/-- INFOFIELD_RECEIVE (R91 to R93): an infofield whose CRC is correct is recorded; fields confirmed twice act. A change of
the partner's ISTATE to one below this end's state sends this end back to X_SEND. One with a wrong CRC between two correct
ones leaves them two in a row (DESIGN CHOICE, log entry 36). -/
def execInfofieldReceive (c : Ch) (bits' : BitVec 192) (crc : BitVec 16) (s : State) : Host.Outcome State Fault Refusal :=
  if !(s.linkIn c .train && (s.ch c).link.x.hears && xiCrcOk bits' crc) then ok s else
  let v := bits'.toNat
  let s := (List.range 6).foldl (fun s k => s.cs c (.LINK_XINFO_BITS k) (v / 2 ^ (32 * k))) s
  let l := (s.ch c).link
  let conf := if l.xiCount = 0 then l.xiConf else xiConfirm l.xiConf l.xiLast v
  let fell := bits conf 2 0 ≠ bits l.xiConf 2 0 && decide (bits conf 2 0 < l.x.istate)
  let s := s.updLink c fun l => { l with xiLast := v, xiCount := l.xiCount + 1, xiConf := conf }
  let s := s.xiApply c
  if fell then ok (s.toX c .send) else ok (s.xEval c)

/-- The infofield this end sends now (R91). -/
def State.xiSend (s : State) (c : Ch) : Nat :=
  let l := (s.ch c).link
  let sw := if l.x = .count then (if l.master then l.swCnt else bits l.xiLast 30 26) else 0
  let valid := s.cb c .LINK_XREQ_VALID || l.x = .coef
  l.x.istate + b2n l.master * 2 ^ 3 + b2n (s.rxReady c) * 2 ^ 4 +
    s.cg c .LINK_XREQ_PRC * 2 ^ 5 + s.cg c .LINK_XREQ_PRE * 2 ^ 7 + s.cg c .LINK_XREQ_POST * 2 ^ 11 + b2n valid * 2 ^ 15 +
    s.shVal c .PCS_CTL_TX_PRECODE * 2 ^ 16 + s.shVal c .AFE_TXEQ_PRE * 2 ^ 18 + s.shVal c .AFE_TXEQ_POST * 2 ^ 22 +
    sw * 2 ^ 26 + 2 ^ 32

/-- The states in which this end sends the training signal (R93). -/
def XState.sends : XState → Bool
  | .send | .coef | .ready | .count => true
  | .silent | .listen | .check | .none => false

/-- INFOFIELD_SEND (R93): an infofield goes out. In X_COUNT the one with SW_CNT = 0 ends training on PAM-2; a slave's
counts once the master's has been heard in COUNT. -/
def execInfofieldSend (c : Ch) (s : State) : Host.Outcome State Fault Refusal :=
  if !(s.linkIn c .train && (s.ch c).link.x.sends) then ok s else
  let v := s.xiSend c
  let s := s.updLink c fun l => { l with xiOut := v }
  let l := (s.ch c).link
  if l.x = .count then
    let live := l.master || bits l.xiConf 2 0 = 3
    if live && bits v 30 26 = 0 then ok (s.enterCheck c)
    else ok (s.updLink c fun l => { l with swCnt := l.swCnt - 1 })
  else ok s

/-! ### Link up and link loss -/

/-- The partner's last OAM flags show ALIGNED and FEC_OK (R44, R93). -/
def State.oamOk (s : State) (c : Ch) : Bool := ((s.ch c).line.oam.getD 2 0).toNat % 4 = 3

/-- X_CHECK qualifies (R93). -/
def State.checkOk (s : State) (c : Ch) : Bool :=
  (s.ch c).link.x = .check && s.cb c .PCS_STAT_ALIGNED && s.oamOk c && decide (144 ≤ (s.ch c).line.sinceUnc)

/-- The precoders of an IEEE PAM-4 type at the end of its training (R90): the partner's request, where it made one, for the
transmitter; and this end's, where the partner acknowledged it, for the receiver. Code 3 ("not used") is stored as any other and acts as off (DESIGN CHOICE, log entry 36). -/
def State.precoders (s : State) (c : Ch) (lpReq : Option (Fin 4)) (ack : Bool) : State :=
  let s := match lpReq with
    | some r => s.setSh c .PCS_CTL_TX_PRECODE r.val
    | none => s
  if ack then s.setSh c .PCS_CTL_RX_PRECODE (s.cg c .LINK_XREQ_PRC) else s

/-- The channel can come up at the type it trains for (R33, R89): one its class has, and XT50 only after the vendor pages. A
wake may send a channel into training for another (R84), which then fails. -/
def State.trainable (s : State) (c : Ch) : Bool :=
  let l := (s.ch c).link
  hasType c l.typ && (l.typ ≠ 7 || l.vnp)

/-- LINK_UP (R21, R90, R93): training completes. For an IEEE type the clause declares link_status = OK and data mode
begins; XT50 has sent data since X_CHECK. Readings: log entry 36 (DEDUCED). -/
def execLinkUp (c : Ch) (lpReq : Option (Fin 4)) (ack : Bool) (s : State) : Host.Outcome State Fault Refusal :=
  let l := (s.ch c).link
  if !s.linkIn c .train || l.opWait || !s.trainable c then ok s else
  if l.typ = 7 && !s.checkOk c then ok s else
  let s := if l.typ = 7 then s else
    let s := if 3 ≤ l.typ then s.precoders c lpReq ack else s
    s.toData c l.typ 0
  let s := s.updLink c fun l => { l with st := .up, x := .none, restart := false }
  let s := (s.updLpi c fun p => { p with fromSleep := false }).updPol c fun p => { p with fails := 0, up := true }
  ok ((s.setSub c .up).cs c .LINK_EVT_UP 1)

/-- The gate of a channel's AFE, DSP or PCS block is closed (R281, R282). -/
def State.gateShutAny (s : State) (c : Ch) : Bool :=
  [Slot.afe, .dsp, .pcs].any fun b => !s.chEn c b && !s.clock.gates.contains (.chan c b)

/-- The cause recorded for a failure criterion (R95): that of a lost reference, a closed gate or a PLL out of lock, where
one of these holds when the criterion is met. Readings: log entry 26 (DEDUCED). -/
def State.critCause (s : State) (c : Ch) (cause : Nat) : Nat :=
  if s.db .CLK_REFSTAT_REF_LOST then 0x13
  else if s.gateShutAny c then 0x14
  else if !s.pllsReady c then 0x15
  else cause

/-- A failure criterion of R95 is met; link control that is not clocked stands still (R281). Readings: log entry 26 (DEDUCED). -/
def State.critLoss (s : State) (c : Ch) (cause : Nat) : State :=
  if s.clocked c .link then s.linkLoss c (s.critCause c cause) false else s

/-- LINK_MONITOR_FAIL (R95, R128): the clause's link monitor of an IEEE type sets link_status = FAIL. -/
def execLinkMonitorFail (c : Ch) (why : MonFail) (s : State) : Host.Outcome State Fault Refusal :=
  if !isSeg c && s.cg c .PCS_CTL_TYPE ≠ 7 then
    ok (s.critLoss c (match why with | .blockLock => 0x10 | .frameSync => 0x11 | .other => 0x12))
  else ok s

/-! ### The hitless shift: what is received -/

/-- Answers a REQ with a NAK (R99, R100). -/
def State.nakShift (s : State) (c : Ch) (m : LinkMsg) (reason : Nat) : State :=
  s.sayOnce c (LinkMsg.build 0x12 m.tid m.target m.active reason 0)

/-- A REQ is judged and answered (R97, R100 step 1): ACK at once or when the standby bank holds the target, or NAK.
Readings: log entry 36 (DEDUCED). -/
def State.takeReq (s : State) (c : Ch) (m : LinkMsg) : State :=
  let busy := (s.ch c).link.st = .shift || (s.ch c).sub ≠ .up || (s.ch c).lpi.sleep.isSome
  let r := s.shiftBlock c m.target (!s.cb c .LINK_CTL_SHIFT_EN) busy
  if r ≠ 0 then (s.cs c .LINK_SHIFTSTAT_REASON r).nakShift c m r
  else
    let held := (s.ch c).dsp.stbyValid && s.cg c .DSP_BANK_STBY_TYPE = m.target
    let s := if held then s else (s.stbyType c m.target).rebase c
    (s.beginShift c false m.target m.tid true).ackIfDue c

/-- SHIFT_REQ_RECEIVE (R98, R100, R106). A REQ that crosses this end's own is settled for the master's: a slave
withdraws its own with CONTEND, a master ignores the partner's. During any other transaction the answer is NAK 4. -/
def execShiftReqReceive (c : Ch) (m : LinkMsg) (s : State) : Host.Outcome State Fault Refusal :=
  if !s.oamLive c || s.heard c 0x10 m then ok s else
  let s := s.acted c 0x10 m
  match (s.ch c).link.shift with
  | some h =>
    if h.init && s.cg c .LINK_SHIFTSTAT_PHASE = 1 then
      if (s.ch c).link.master then ok s
      else
        let s := ((s.cs c .LINK_SHIFTSTAT_CONTEND 1).cs c .LINK_SHIFTSTAT_PHASE 0).updLink c fun l =>
          { l with st := .up, shift := none, msg := none }
        ok (s.takeReq c m)
    else ok ((s.cs c .LINK_SHIFTSTAT_REASON 4).nakShift c m 4)
  | none => ok (s.takeReq c m)

/-- SHIFT_ACK_RECEIVE (R100 step 2): a master that initiated sends SET and commits; a slave waits for SET. -/
def execShiftAckReceive (c : Ch) (m : LinkMsg) (s : State) : Host.Outcome State Fault Refusal :=
  match s.shiftRun c with
  | some h =>
    if h.init && s.cg c .LINK_SHIFTSTAT_PHASE = 1 && s.ourTid c m && !s.heard c 0x11 m then
      let s := (s.acted c 0x11 m).cs c .LINK_SHIFTSTAT_PHASE 2
      ok (if (s.ch c).link.master then s.sendSet c else s)
    else ok s
  | none => ok s

/-- SHIFT_NAK_RECEIVE (R100, R102): the transaction ends. The spec gives a received NAK no effect of its own beyond its
reason: the end returns to UP as from a cancelled transaction, with SHIFT_FAIL, and sends no CANCEL (DEDUCED, log entry
36). -/
def execShiftNakReceive (c : Ch) (m : LinkMsg) (s : State) : Host.Outcome State Fault Refusal :=
  match s.shiftRun c with
  | some h =>
    if h.init && s.cg c .LINK_SHIFTSTAT_PHASE = 1 && s.ourTid c m && !s.heard c 0x12 m then
      ok ((s.acted c 0x12 m).shiftCancelled c m.reason)
    else ok s
  | none => ok s

/-- SHIFT_SET_RECEIVE (R100 step 3): the slave commits and answers SETACK. -/
def execShiftSetReceive (c : Ch) (m : LinkMsg) (s : State) : Host.Outcome State Fault Refusal :=
  match s.shiftRun c with
  | some h =>
    if !h.committed && !h.ackDue && !(s.ch c).link.master && s.ourTid c m && !s.heard c 0x13 m then
      let f := m.f
      let s := ((s.acted c 0x13 m).cs c .LINK_SHIFTSTAT_F f).cs c .LINK_SHIFTSTAT_PHASE 3
      ok ((s.updShift c fun h => { h with committed := true }).sendShift c 0x14 0 f)
    else ok s
  | none => ok s

/-- SHIFT_SETACK_RECEIVE (R99, R103): the slave repeats F; the master switches whether or not it arrives. -/
def execShiftSetackReceive (c : Ch) (m : LinkMsg) (s : State) : Host.Outcome State Fault Refusal :=
  match s.shiftRun c with
  | some h =>
    if h.committed && (s.ch c).link.master && s.ourTid c m && !s.heard c 0x14 m then ok (s.acted c 0x14 m) else ok s
  | none => ok s

/-- SHIFT_CANCEL_RECEIVE (R102): ignored after the commit point. -/
def execShiftCancelReceive (c : Ch) (m : LinkMsg) (s : State) : Host.Outcome State Fault Refusal :=
  match s.shiftRun c with
  | some h =>
    if !h.committed && s.ourTid c m && !s.heard c 0x16 m then
      ok ((s.acted c 0x16 m).shiftCancelled c m.reason)
    else ok s
  | none => ok s

/-- SHIFT_RSP_TIMEOUT (R102): no answer came within RSP ms. The spec gives that CANCEL no REASON, so it is free.
Readings: log entry 36 (DEDUCED). -/
def execShiftRspTimeout (c : Ch) (s : State) : Host.Outcome State Fault Refusal :=
  match s.shiftRun c with
  | some h =>
    if h.committed || h.ackDue then ok s else
    let r := s.fresh 4
    ok ((r.2.sendShift c 0x16 r.1 0).shiftCancelled c r.1)
  | none => ok s

/-- SHIFT_SWITCH (R103, R76): at frame F the type and dividers change, shadows apply, the banks are to swap at the next
boundary, and the receiver has its lock to regain. -/
def execShiftSwitch (c : Ch) (s : State) : Host.Outcome State Fault Refusal :=
  match s.shiftRun c with
  | some h =>
    if h.committed && !h.switched then
      let s := s.toData c h.target (s.cg c .LINK_SHIFTSTAT_F)
      let s := ((s.cs c .PCS_STAT_ALIGNED 0).cs c .PCS_STAT_BLOCK_LOCK 0).cs c .LINK_SHIFTSTAT_PHASE 4
      let s := s.updLine c fun l => { l with hit := false, miss := 0, llPcs := false }
      let s := s.updRx c fun r => { r with swapReq := true, mseSkip := r.winN ≠ 0 }
      ok ((s.updLink c fun l => { l with typ := h.target }).updShift c fun h => { h with switched := true })
    else ok s
  | none => ok s

/-- A shift completes (R104): DONE has gone both ways, so egress resumes and link control returns to UP. -/
def State.shiftFinish (s : State) (c : Ch) : State :=
  match (s.ch c).link.shift with
  | some h =>
    if h.sentDone && h.gotDone then
      let s := s.updLink c fun l => { l with st := .up, shift := none, msg := none }
      (s.cs c .LINK_SHIFTSTAT_PHASE 0).cs c .LINK_EVT_SHIFT_DONE 1
    else s
  | none => s

/-- The codewords of 16 frames of a type: nine to a superframe, one to an RS frame (R39, R104). -/
def cw16 (typ : Nat) : Nat := if typ = 7 then 144 else 16

/-- The receiver qualifies at the new type (R104) and DONE is sent. -/
def State.shiftQualify (s : State) (c : Ch) : State :=
  match s.shiftRun c with
  | some h =>
    let typ := s.cg c .PCS_CTL_TYPE
    if h.switched && !h.sentDone && h.snrOk && s.cb c .PCS_STAT_BLOCK_LOCK && (typ ≠ 7 || s.cb c .PCS_STAT_ALIGNED) &&
        decide (cw16 typ ≤ (s.ch c).line.sinceUnc) then
      let s := (s.updShift c fun h => { h with sentDone := true }).cs c .LINK_SHIFTSTAT_PHASE 5
      (s.sendShift c 0x15 0 0).shiftFinish c
    else s
  | none => s

/-- SHIFT_DONE_RECEIVE (R104). -/
def execShiftDoneReceive (c : Ch) (m : LinkMsg) (s : State) : Host.Outcome State Fault Refusal :=
  match s.shiftRun c with
  | some h =>
    if h.committed && s.ourTid c m && !s.heard c 0x15 m then
      ok (((s.acted c 0x15 m).updShift c fun h => { h with gotDone := true }).shiftFinish c)
    else ok s
  | none => ok s

/-- SHIFT_RESUME_TIMEOUT (R105, R128): not resumed within TMO ms of its own switch, or a committed slave that never met
frame F at the new type. Readings: log entry 36 (DEDUCED). -/
def execShiftResumeTimeout (c : Ch) (s : State) : Host.Outcome State Fault Refusal :=
  match s.shiftRun c with
  | some h =>
    if h.switched then ok ((s.cs c .LINK_EVT_SHIFT_FAIL 1).critLoss c 0x40)
    else if h.committed && !(s.ch c).link.master then ok ((s.cs c .LINK_EVT_SHIFT_FAIL 1).critLoss c 0x41)
    else ok s
  | none => ok s

/-- REBASE_DONE (R77, R99): the standby bank is filled; an ACK that waited for it goes out. -/
def execRebaseDone (c : Ch) (s : State) : Host.Outcome State Fault Refusal :=
  if (s.ch c).rx.rebasing && s.clocked c .dsp then ok ((s.rebaseDone c).ackIfDue c) else ok s

/-- BLOCK_LOCK_CHANGE (R55, R104): the PCS receiver gains or loses block lock or, in an FEC type but XT50, RS-frame
synchronisation. -/
def execBlockLockChange (c : Ch) (lock aligned : Bool) (s : State) : Host.Outcome State Fault Refusal :=
  if isSeg c || !s.clocked c .pcs then ok s else
  let typ := if (s.ch c).link.st = .train then (s.ch c).link.typ else s.cg c .PCS_CTL_TYPE
  let s := s.cs c .PCS_STAT_BLOCK_LOCK (b2n lock)
  let s := if lock then s else s.updLine c fun l => { l with llPcs := false }
  let s := if 2 ≤ typ && typ ≤ 6 then s.cs c .PCS_STAT_ALIGNED (b2n aligned) else s
  ok (s.shiftQualify c)

/-! ### The OAM field sent (R44) -/

/-- The FLAGS this end sends (R44): aligned, no uncorrectable codeword in the last 16 superframes, a message. -/
def State.oamFlags (s : State) (c : Ch) (m : Option LinkMsg) : Nat :=
  b2n (s.cb c .PCS_STAT_ALIGNED) + 2 * b2n (decide (144 ≤ (s.ch c).line.sinceUnc)) + 4 * b2n m.isSome

/-- The OAM of a frame that begins now may carry a message (R146): in transmit LPI only with a refresh. -/
def State.oamOpen (s : State) (c : Ch) : Bool :=
  !(s.cb c .LPI_STAT_TX_LPI && ((s.ch c).lpi.txQuiet || decide (15 < s.txFr c % 2048)))

/-- The message of a frame that begins now (R98): the oldest that none has carried yet, so that each is carried, else the one
that the running transaction repeats. Readings: log entry 36 (DEDUCED). -/
def LinkSt.nextMsg (l : LinkSt) : Option LinkMsg := l.carry.head? <|> l.msg

/-- A frame begins (R98). -/
def State.oamFrame (s : State) (c : Ch) : State :=
  if s.oamOpen c then s.updLink c fun l => { l with onAir := l.nextMsg, carry := l.carry.tail }
  else s.updLink c fun l => { l with onAir := none }

/-- The OAM field of the superframe now sent (R44): SFC, FLAGS, and the message with its length. -/
def State.oamOut (s : State) (c : Ch) : List Byte :=
  let m := (s.ch c).link.onAir
  oamField (BitVec.ofNat 16 (s.txFr c)) (BitVec.ofNat 8 (s.oamFlags c m)) (match m with | some x => x.octets | none => [])

/-! ### CHCTL (R107), the decisions of the ROM programs (R96) -/

/-- A write of `CHCTL.CTL` (R21, R107, R171, R297): the first write clears bit 5 of the channel's vote; a host's also sets
CTL_CHG. MAINT_REQ written 0 leaves MAINT. Of a program's write only MAINT_REQ takes effect (R166).
Readings: log entry 29 (DEDUCED). -/
def State.chctlCtl (s : State) (c : Ch) (v : Nat) (fromProg : Bool) : State :=
  let s := s.cs c .CHCTL_CTL_MAINT_REQ (bits v 8 8)
  let s := if !fromProg && bits v 7 4 ≠ s.cg c .CHCTL_CTL_TYPE_REQ && s.linkLive c then
      s.updPol c fun p => { p with typeReq := true } else s
  let s := if fromProg then s else
    let s := (((s.cs c .CHCTL_CTL_HOLD (bits v 9 9)).cs c .CHCTL_CTL_TYPE_REQ (bits v 7 4)).cs c .CHCTL_CTL_ROLE_REQ
      (bits v 3 2)).cs c .CHCTL_CTL_AN_REQ (bits v 0 0)
    s.cs c .SEQ_HOSTEVT_CTL_CHG 1
  let s := if !v.testBit 8 && (s.ch c).sub = .maint then s.setSub c .idle else s
  if (s.cg c .CHPWR_VOTE_CLIENTS).testBit 1 then (s.voteBit c 5 false).voteChanged c else s

/-- MAINT_ENTRY (R21, R83, R95): with MAINT_REQ = 1 in IDLE or UP, link control is forced to STOP and the channel enters
MAINT. -/
def execMaintEntry (c : Ch) (s : State) : Host.Outcome State Fault Refusal :=
  let sub := (s.ch c).sub
  if s.cb c .CHCTL_CTL_MAINT_REQ && s.clocked c .chctl && (sub = .idle || sub = .up) then
    ok ((s.forceStop c (some 0x05)).setSub c .maint)
  else ok s

/-- A source of the channel with class C2 or C3 reads live (R338). -/
def State.liveHigh (s : State) (c : Ch) : Bool :=
  (List.finRange 12).any fun k => s.live (.ch c k) && decide (2 ≤ s.classOfSrc (.ch c k))

/-- A write of 1 to `CHCTL.CMD.QREL` (R338). Readings: log entry 29 (DEDUCED). -/
def State.qrel (s : State) (c : Ch) : State :=
  if (s.ch c).sub = .quarantine && !s.heldBy (.ch c) && !s.liveHigh c && s.power.mode ≠ .safe then
    (s.releaseCh c).voteChanged c
  else s.cs c .CHCTL_STATE_CMD_REJ 1

end Sys2Proof.Machine
end

