-- ==== Sys2Proof/Machine/Seg.lean ====
section
/-! DEFINITION. Multidrop segments (R109 to R125): joining and leaving, PLCA, collisions, backoff and the rewind mark. -/

namespace Sys2Proof.Machine

/-! ### Joining and leaving -/

/-- A command or a MODE write is ignored. -/
def State.segRej (s : State) (c : Ch) : State := s.cs c .SEG_EVT_CMD_REJ 1

/-- START (R109, R112, R113, R383): MODE, EXT, TERM and the PLCA fields are latched, and JOIN begins, with data mode's
boundaries from its first cycle (R401). Readings: log entry 37 (DEDUCED). -/
def State.segStart (s : State) (c : Ch) : State :=
  let mode := s.cg c .SEG_CTL_MODE
  let nid := s.cg c .SEG_PLCA_NODE_ID
  if (s.ch c).seg.st = .stop && (s.ch c).sub = .idle && !(mode = 0 && nid = 255) then
    let s := s.updSeg c fun g => { g with
      st := .join, mode := mode, ext := s.cb c .SEG_CTL_EXT, term := s.cb c .SEG_CTL_TERM, nid := nid
      ncnt := max 1 (s.cg c .SEG_PLCA_NODE_CNT), toTmr := max 1 (s.cg c .SEG_PLCA_TO_TO_TMR)
      maxBc := s.cg c .SEG_PLCA_MAX_BC, burstTmr := s.cg c .SEG_PLCA_BURST_TMR, csma := false, coord := false, plcaOk := false, toPlca := false
      cycle := none }
    let t := mode = 2 || s.cb c .SEG_CTL_TERM
    let s := s.updCh c fun x => { x with pad := { x.pad with sel := some t } }
    (s.setSub c .training).toData c 8 0
  else s.segRej c

/-- STOP (R113, R114, R128): from UP a link loss with cause 0x01 from the host and 0x02 from the link program. -/
def State.segStop (s : State) (c : Ch) (fromProg : Bool) : State :=
  match (s.ch c).seg.st with
  | .stop => s.segRej c
  | .join => (s.toStop c).setSub c .idle
  | .up => s.linkLoss c (if fromProg then 0x02 else 0x01) false

/-- A write of `SEG_CMD` (R113): with both bits set only STOP acts. -/
def State.segCmd (s : State) (c : Ch) (v : Nat) (fromProg : Bool) : State :=
  if v.testBit 1 then
    let s := if v.testBit 0 then s.segRej c else s
    s.segStop c fromProg
  else if v.testBit 0 then s.segStart c else s

/-- A write of `SEG_CTL` (R109): MODE = 3 is ignored, and the other fields of that write are written (DEDUCED, log entry
37). -/
def State.segCtl (s : State) (c : Ch) (v : Nat) : State :=
  let s := (((s.cs c .SEG_CTL_ATTEMPTS (bits v 20 16)).cs c .SEG_CTL_FALLBACK (bits v 11 11)).cs c .SEG_CTL_EXT
    (bits v 10 10)).cs c .SEG_CTL_TERM (bits v 8 8)
  if v % 4 = 3 then s.segRej c else s.cs c .SEG_CTL_MODE (v % 4)

/-- The channel acts as PLCA coordinator, or will once JOIN ends (R115). -/
def SegSt.coordinator (g : SegSt) : Bool := g.mode = 0 && g.nid = 0

/-- Segment link control is in a state, with its clock running (R281). -/
def State.segIn (s : State) (c : Ch) (st : SState) : Bool := isSeg c && s.clocked c .seg && (s.ch c).seg.st = st

/-- The extended-segment thresholds are in force (R109, R111): MODE 2 ignores EXT. -/
def SegSt.extended (g : SegSt) : Bool := g.ext && g.mode ≠ 2

/-- The receive activity threshold in mVpp (R110, R111). -/
def SegSt.rxMv (g : SegSt) : Nat := if g.extended then 120 else 200

/-- A signal of `mv` mVpp is received by the segment's node (R111, R112, R284). -/
def State.segHears (s : State) (c : Ch) (mv : Nat) : Bool :=
  isSeg c && s.clocked c .seg && (s.ch c).seg.st ≠ .stop && !s.db .CLK_REFSTAT_REF_LOST && decide ((s.ch c).seg.rxMv ≤ mv)

/-- The end of a PLCA cycle and the start of the next (R125): its length in bit times, saturating. -/
def State.newCycle (s : State) (c : Ch) : State :=
  let s := match (s.ch c).seg.cycle with
    | some t => s.cs c .SEG_PLCASTAT_LAST_CYCLE (min 65535 ((s.now - t) * 2 / 5))
    | none => s
  (s.cs c .SEG_PLCASTAT_CUR_TO 0).updSeg c fun g => { g with cycle := some s.now, burst := 0, commit := false, toT0 := s.now }

/-- The coordinator sends a BEACON (R115), unless its driver is quiet for a lost reference (R284). -/
def State.sendBeacon (s : State) (c : Ch) : State :=
  (if (s.ch c).pad.drvHold then s else s.cinc c .SEG_BCNTX_COUNT).newCycle c

/-- SSTATE reaches UP with an access method (R112). -/
def State.segUp (s : State) (c : Ch) (csma coord : Bool) : State :=
  let s := s.updSeg c fun g => { g with st := .up, csma := csma, coord := coord, plcaOk := !csma }
  (s.setSub c .up).cs c .SEG_EVT_UP 1

/-- SEG_JOIN_EXPIRE (R112): t_SEGJOIN elapses in JOIN. A coordinator sends its first BEACON; a follower goes up only with
FALLBACK = 1. With the reference lost the segment stays in JOIN (R284). -/
def execSegJoinExpire (c : Ch) (s : State) : Host.Outcome State Fault Refusal :=
  if !s.segIn c .join || s.db .CLK_REFSTAT_REF_LOST then ok s else
  let g := (s.ch c).seg
  if g.mode ≠ 0 then ok (s.segUp c true false)
  else if g.coordinator then ok ((s.segUp c false true).sendBeacon c)
  else if s.cb c .SEG_CTL_FALLBACK then ok (s.segUp c true false)
  else ok s

/-- SEG_JOIN_TIMEOUT (R112): t_JOINMAX elapses for a follower with FALLBACK = 0 and no BEACON; not while the reference is lost
(R284). -/
def execSegJoinTimeout (c : Ch) (s : State) : Host.Outcome State Fault Refusal :=
  let g := (s.ch c).seg
  if s.segIn c .join && !s.db .CLK_REFSTAT_REF_LOST && g.mode = 0 && !g.coordinator && !s.cb c .SEG_CTL_FALLBACK then
    ok (((s.cs c .SEG_EVT_JOIN_TMO 1).toStop c).setSub c .idle)
  else ok s

/-! ### PLCA -/

/-- BEACON_RECEIVE (R112, R115 to R117): in MODE 0 a follower in JOIN goes up, one in fallback returns to PLCA, and a
coordinator counts a duplicate. Nothing is received while the reference is lost (R284).
Readings: log entry 37 (DEDUCED). -/
def execBeaconReceive (c : Ch) (mv : Nat) (s : State) : Host.Outcome State Fault Refusal :=
  let g := (s.ch c).seg
  if !s.segHears c mv || g.mode ≠ 0 then ok s else
  let s := s.cinc c .SEG_BCNRX_COUNT
  if g.coordinator then ok ((s.cinc c .SEG_DUPCOORD_COUNT).cs c .SEG_EVT_DUP_COORD 1)
  else
    let s := s.newCycle c
    if g.st = .join then ok (s.segUp c false false)
    else if g.csma then ok ((s.updSeg c fun g => { g with toPlca := true }).plcaBack c)
    else ok s

/-- BEACON_LOSS (R114, R116): t_BCNLOSS passes for a follower. With FALLBACK = 0 it is link loss, and neither sets BCN_LOST nor
counts in SEG_BCNLOST, which R116 gives for FALLBACK = 1 (DESIGN CHOICE, log entry 37). With the reference lost the segment
stays as it is (R284). -/
def execBeaconLoss (c : Ch) (s : State) : Host.Outcome State Fault Refusal :=
  let g := (s.ch c).seg
  if !(s.segIn c .up) || s.db .CLK_REFSTAT_REF_LOST || g.mode ≠ 0 || g.coordinator then ok s
  else if !s.cb c .SEG_CTL_FALLBACK then ok (s.linkLoss c 0x50 false)
  else if g.csma then ok s
  else
    let s := s.updSeg c fun g => { g with csma := true, plcaOk := false, cycle := none }
    ok ((s.cs c .SEG_EVT_BCN_LOST 1).cinc c .SEG_BCNLOST_COUNT)

/-- PLCA orders the channel's transmissions now: it is up in MODE 0 and not in fallback. -/
def State.plcaRuns (s : State) (c : Ch) : Bool :=
  let g := (s.ch c).seg
  isSeg c && g.st = .up && g.mode = 0 && !g.csma

/-- The transmit opportunity that runs is this node's, and its burst has room for a frame (R115). -/
def State.plcaTurn (s : State) (c : Ch) : Bool :=
  let g := (s.ch c).seg
  decide (g.nid < g.ncnt) && s.cg c .SEG_PLCASTAT_CUR_TO = g.nid && decide (g.burst ≤ g.maxBc)

/-- The opportunities of a PLCA cycle run and are counted (R125): from a BEACON sent or heard, also while a node in fallback
ends its attempt before it returns to PLCA (R116). -/
def SegSt.counts (g : SegSt) : Bool := g.st = .up && g.cycle.isSome

/-- The opportunity that runs ends (R115, R125): after the last of its cycle a coordinator opens the next with a BEACON. -/
def State.plcaNext (s : State) (c : Ch) : State :=
  let g := (s.ch c).seg
  if !g.counts then s else
  let s := s.updSeg c fun g => { g with burst := 0, commit := false, toT0 := s.now }
  let t := s.cg c .SEG_PLCASTAT_CUR_TO + 1
  if g.coord && g.ncnt ≤ t then s.sendBeacon c else s.cs c .SEG_PLCASTAT_CUR_TO (min 255 t)

/-- A frame of this node has ended in its opportunity (R115): while the burst has room, a COMMIT holds the opportunity for
BURST_TMR; else it ends. -/
def State.plcaUsed (s : State) (c : Ch) : State :=
  if s.plcaRuns c then
    let s := s.updSeg c fun g => { g with burst := g.burst + 1, commit := true, toT0 := s.now }
    if s.plcaTurn c then s else s.plcaNext c
  else s

/-- The opportunity that runs has been silent for TO_TMR bit times, or this node's own, held by a COMMIT, for BURST_TMR, as
START latched them (R115, R383). A bit time is 2.5 reference ticks. -/
def State.plcaDue (s : State) (c : Ch) : Bool :=
  let g := (s.ch c).seg
  decide (5 * (if g.commit then g.burstTmr else g.toTmr) ≤ 2 * (s.now - g.toT0))

/-- PLCA_TO_EXPIRE (R115): a silent transmit opportunity ends after TO_TMR, and this node's own when no further frame
of its burst came within BURST_TMR. Readings: log entry 37 (DEDUCED). -/
def execPlcaToExpire (c : Ch) (s : State) : Host.Outcome State Fault Refusal :=
  let g := (s.ch c).seg
  let busy := (s.ch c).queue.line.isSome && !g.retry
  if !(s.segIn c .up) || busy || !s.plcaDue c then ok s else ok (s.plcaNext c)

/-! ### Collisions and retransmission -/

/-- The attempts a frame has (R119). -/
def State.maxAtt (s : State) (c : Ch) : Nat := max 1 (min 16 (s.cg c .SEG_CTL_ATTEMPTS))

/-- The frame at the mark is discarded (R123): its cells are freed and its later segments discarded.
Readings: log entry 37 (DEDUCED). -/
def State.segDiscard (s : State) (c : Ch) (reason : Nat) : State := (s.dropLine c reason).plcaBack c

/-- The next draw of the channel's backoff generator, from 0 to 2^min(n, 10) - 1 (R118). -/
def State.drawBackoff (s : State) (c : Ch) (n : Nat) : Nat × State :=
  (Config.backoffDraw s.otp.did c.val (s.ch c).seg.draws % 2 ^ min n 10, s.updSeg c fun g => { g with draws := g.draws + 1 })

/-- COLLISION (R118, R119, R124): `bitTime` after the attempt's first preamble bit, the received signal differs from the
sent one by `diff` mVpp, or the PLCA reconciliation layer reports a collision. The last allowed attempt discards the frame
under EXCESS_COLL; otherwise a retry is due, under CSMA/CD after the backoff drawn. Readings: log entry 37 (DEDUCED). -/
def execCollision (c : Ch) (bitTime : Nat) (diff : Option Nat) (s : State) : Host.Outcome State Fault Refusal :=
  let g := (s.ch c).seg
  let seen := match diff with
    | some mv => decide (Config.collisionMv g.extended < mv)
    | none => s.plcaRuns c
  if !(s.segIn c .up) || (s.ch c).queue.line.isNone || g.retry || !seen then ok s else
  let s := s.cinc c .SEG_COLCNT_COUNT
  let s := if 512 < bitTime then s.cinc c .SEG_LATECOL_COUNT else s
  if s.maxAtt c ≤ g.att then ok ((if s.plcaRuns c then s.plcaNext c else s).segDiscard c 14)
  else if g.csma then
    let r := s.drawBackoff c g.att
    ok (r.2.updSeg c fun g => { g with retry := true, back := some r.1 })
  else ok ((s.updSeg c fun g => { g with retry := true, back := none }).plcaNext c)

/-- BACKOFF_EXPIRE (R116, R118). -/
def execBackoffExpire (c : Ch) (s : State) : Host.Outcome State Fault Refusal :=
  if s.segIn c .up && (s.ch c).queue.line.isSome && (s.ch c).seg.back.isSome then
    ok ((s.updSeg c fun g => { g with back := none }).plcaBack c)
  else ok s

/-- RETRY_START (R115, R118 step 4, R123, R222): the retry starts, under PLCA in this node's own opportunity, from the
rewind mark and is stamped anew; without the mark the frame is discarded under REWIND_LOST. -/
def execRetryStart (c : Ch) (s : State) : Host.Outcome State Fault Refusal :=
  let g := (s.ch c).seg
  if !(s.segIn c .up) || (s.ch c).queue.line.isNone || !g.retry || g.back.isSome then ok s
  else if s.db .CLK_REFSTAT_REF_LOST || (s.plcaRuns c && !s.plcaTurn c) then ok s
  else if !g.mark then ok (s.segDiscard c 15)
  else
    let s := ((s.updSeg c fun g => { g with retry := false, att := g.att + 1, commit := false }).cinc c .SEG_RETX_COUNT)
    let s := s.updQ c fun q => { q with line := q.line.map fun l => { l with t0 := s.now } }
    match (s.ch c).queue.line with
    | some l =>
      if l.stamp.isSome then
        let t := s.stampNow c true
        ok (t.2.updQ c fun q => { q with line := some { l with stamp := some t.1 } })
      else ok s
    | none => ok s

/-- The egress cells of a channel that hold data. -/
def QueueSt.egHeld (q : QueueSt) : Nat := (clsUp.map q.egCells).sum

/-- The cells of the frame on a segment's line that the attempt has sent, 51.2 us each after 6.4 us of preamble (R122, R124). -/
def State.cellsSent (s : State) (l : LineEg) : Nat := (s.now - l.t0 - 160) / 1280

/-- REWIND_OVERTAKE (R122): with no free cell in the buffer and the frame at the mark incomplete with sent cells, its
oldest sent cell is freed; the first such release clears the mark. -/
def execRewindOvertake (c : Ch) (s : State) : Host.Outcome State Fault Refusal :=
  match (s.ch c).queue.line with
  | some l =>
    if s.segIn c .up && !(s.ch c).seg.retry && !l.frame.complete && decide (l.freed < s.cellsSent l) &&
        decide (bufferCells c ≤ (s.ch c).queue.egHeld) && l.frame.cells ≠ 0 then
      let s := if (s.ch c).seg.mark then
          ((s.updSeg c fun g => { g with mark := false }).cs c .SEG_EVT_REWIND_REL 1).cinc c .SEG_RWDREL_COUNT
        else s
      let s := s.updQ c fun q => { q with
        line := some { l with freed := l.freed + 1, frame := { l.frame with cells := l.frame.cells - 1 } } }
      ok (s.freeCells c l.cls 1)
    else ok s
  | none => ok s

end Sys2Proof.Machine
end

