-- ==== Sys2Proof/Machine/Diag.lean ====
section
/-! DEFINITION. Link-down and in-service reflectometry (R129 to R135), tracked features (R137), the trend interval (R136),
and the update-block boundary with the capture an in-service run asks for (R69, R73, R131). -/

namespace Sys2Proof.Machine

/-! ### Commands (R129) -/

/-- A command is ignored. -/
def State.diagRej (s : State) (c : Ch) : State := s.cs c .DIAG_EVT_CMD_REJ 1

/-- A TDR run may start (R129). -/
def State.tdrOk (s : State) (c : Ch) : Bool :=
  let x := s.ch c
  let stop := if isSeg c then x.seg.st = .stop else x.link.st = .stop
  x.diag.run = .none && !x.pad.held && (x.sub = .maint || (x.sub = .idle && stop))

/-- An ISR run may start (R129). -/
def State.isrOk (s : State) (c : Ch) : Bool :=
  let x := s.ch c
  !isSeg c && x.diag.run = .none && x.link.st = .up && (x.sub = .up || x.sub = .lpi)

/-- TDR (R130): the run begins with its listen phase. -/
def State.tdrCmd (s : State) (c : Ch) : State :=
  if s.tdrOk c then s.updDiag c fun d => { d with run := .listen } else s.diagRej c

/-- ISR (R131): the run waits for its capture. -/
def State.isrCmd (s : State) (c : Ch) : State :=
  if s.isrOk c then s.updDiag c fun d => { d with run := .isrWait } else s.diagRej c

/-- SQI_RST (R127): the extremes take the current values. -/
def State.sqiRst (s : State) (c : Ch) : State :=
  if isSeg c then s else
  let snr := s.cg c .DSP_MSE_SNR
  ((s.cs c .DIAG_SQI_WORST (s.sqiNow c)).cs c .DIAG_SNRTRK_MIN snr).cs c .DIAG_SNRTRK_MAX snr

/-- A write of `DIAG_CMD` (R129): the first of ABORT, TDR and ISR acts; TREND_CLR and SQI_RST act alongside,
and no record is written in a TREND_CLR's cycle (R140). -/
def State.diagCmd (s : State) (c : Ch) (v : Nat) : State :=
  let was := s.cyc
  let s := { s with cyc := { was with trClr := was.trClr || v.testBit 3 } }
  let n := [v.testBit 2, v.testBit 0, v.testBit 1].filter id
  let s := if 2 ≤ n.length then s.diagRej c else s
  let s := if v.testBit 2 then s.diagStop c 1
    else if v.testBit 0 then s.tdrCmd c
    else if v.testBit 1 then s.isrCmd c else s
  let s := if v.testBit 3 then s.trendClear c else s
  let s := if v.testBit 4 then s.sqiRst c else s
  { s with cyc := was }

/-- A write of `DIAG_CTL` (R136): a changed TREND_INT empties the log; the trend log's first interval begins when it is
turned on. Readings: log entry 38 (DEDUCED). -/
def State.diagCtl (s : State) (c : Ch) (v : Nat) : State :=
  let was := s.cg c .DIAG_CTL_TREND_INT
  let on := s.cb c .DIAG_CTL_TREND_EN
  let s := (((s.cs c .DIAG_CTL_TREND_FIT (bits v 21 16)).cs c .DIAG_CTL_TREND_INT (bits v 11 8)).cs c
    .DIAG_CTL_AUTO_TRACK (bits v 1 1)).cs c .DIAG_CTL_TREND_EN (bits v 0 0)
  let s := if bits v 11 8 ≠ was then s.trendClear c else s
  if !on && v.testBit 0 then s.newInterval c else s

/-- The run of channel `c` is in a phase and the clock of its block runs (R281). -/
def State.diagIn (s : State) (c : Ch) (r : DRun) : Bool := s.clocked c .diag && (s.ch c).diag.run = r

/-- TDR_ACTIVITY_DETECT (R130): activity in the listen phase ends the run. -/
def execTdrActivityDetect (c : Ch) (s : State) : Host.Outcome State Fault Refusal :=
  if s.diagIn c .listen then ok (s.diagStop c 2) else ok s

/-- TDR_LISTEN_END (R130). -/
def execTdrListenEnd (c : Ch) (s : State) : Host.Outcome State Fault Refusal :=
  if s.diagIn c .listen then ok (s.updDiag c fun d => { d with run := .acquire }) else ok s

/-- TDR_ACQUIRE_END (R130). -/
def execTdrAcquireEnd (c : Ch) (s : State) : Host.Outcome State Fault Refusal :=
  if s.diagIn c .acquire then ok (s.updDiag c fun d => { d with run := .process }) else ok s

/-! ### What a link-down run does to the line interface (R130) -/

/-- The hybrid is on: as `AFE_CTL` sets it, but off from a run's acquire phase to its end. -/
def State.hybridOn (s : State) (c : Ch) : Bool := s.cb c .AFE_CTL_HYB_EN && !(s.ch c).diag.run.launches

/-- The nominal AMP code of the class's highest type (R35, R130). -/
def tdrAmp (c : Ch) : Nat := match classOf c with | .trunk => 400 | .branch => 360 | .segment => 400

/-- The driver is quiet for a run that listens (R130). -/
def State.tdrQuiet (s : State) (c : Ch) : Bool := (s.ch c).diag.run = .listen

/-! ### The update-block boundary with an ISR's capture -/

/-- The probe positions whose estimates a capture takes: those of the latest complete sweep, while the probe is enabled
(R131). -/
def State.isrSwept (s : State) (c : Ch) : List Nat := if s.cb c .DSP_PROBE_EN then (s.ch c).rx.lastSwept else []

/-- The spans of delays a capture measures (R131): the dense section, the enabled windows, and the probe's positions. -/
def State.isrCover (s : State) (c : Ch) : List (Nat × Nat) :=
  let b := (s.ch c).dsp.act
  (0, denseLen c) :: ((List.range (winCount c)).filterMap fun w =>
    if (b.win w).1 then some ((b.win w).2, winLen c) else none) ++ (s.isrSwept c).map fun p => (p, 16)

/-- The profile a capture gives (R131): the dense taps and those of the enabled windows where they cover a delay, else the
probe's estimate, else none. -/
def State.isrProfile (s : State) (c : Ch) : List (Option Int) :=
  let b := (s.ch c).dsp.act
  (List.range (ecReach c)).map fun d =>
    if d < denseLen c then some (tapGet b.taps d)
    else match (List.range (winCount c)).find? fun w => (b.win w).1 && (b.win w).2 ≤ d && d < (b.win w).2 + winLen c with
      | some w => some (tapGet b.taps (1024 + 48 * w + (d - (b.win w).2)))
      | none => (s.ch c).rx.estAt (s.isrSwept c) d

/-- UPDATE_BLOCK_BOUNDARY (R54, R56, R69, R73, R131, R140): on a segment channel its AGC alone acts, and else an in-service run takes its capture here, and ends ABORTED where
the banks swap at the same boundary. -/
def execUpdateBlockBoundary (c : Ch) (inp : BlockIn) (s : State) : Host.Outcome State Fault Refusal :=
  if s.segAgc c then ok (s.agc c inp.pga) else
  if !s.dspRuns c then ok s else
  let due := s.diagIn c .isrWait && (s.ch c).rx.copy.isNone
  let swap := (s.ch c).rx.swapReq
  let s := if due then s.updRx c fun r => { r with captReq := true } else s
  let s := s.blockBoundary c inp
  if !due then ok s
  else if swap then ok (s.diagStop c 1)
  else
    let cov := s.isrCover c
    let prof := s.isrProfile c
    ok (s.updDiag c fun d => { d with run := .isrCap, isrTyp := s.cg c .PCS_CTL_TYPE, cover := cov, prof := prof })

/-- CAPT_DONE (R73, R74): the copy is complete and the visible buffer is replaced. -/
def execCaptDone (c : Ch) (s : State) : Host.Outcome State Fault Refusal :=
  match (s.ch c).rx.copy with
  | some (m, b) =>
    if s.clocked c .dsp then
      let s := s.updRx c fun r => { r with copy := none, buf := m }
      ok ((s.cs c .DSP_CAPTSTAMP_BLOCK b).cs c .DSP_STAT_CAPT_DONE 1)
    else ok s
  | none => ok s

/-! ### Distance and loss compensation (R132, R134) -/

/-- The sample rate of a run in Hz, as a fraction: an ISR's type, or 0 for TDR (R33, R130, R132). -/
def sampleRate (c : Ch) (typ : Nat) : Nat × Nat :=
  match typ with
  | 0 => match classOf c with
    | .trunk => (28125000000, 1) | .branch => (1406250000, 1) | .segment => (100000000, 1)
  | 1 => (200000000, 3)
  | t => (rateOf t * 250000, 1)

/-- Resolution and accuracy of a run in mm (R133). -/
def resAcc (c : Ch) (typ : Nat) : Nat × Nat :=
  match typ with
  | 0 => match classOf c with
    | .trunk => (10, 50) | .branch => (200, 100) | .segment => (1500, 1000)
  | 1 => (4210, 2100) | 2 => (375, 190) | 3 => (200, 100) | 4 => (100, 50) | 5 => (50, 50) | 6 => (20, 50)
  | _ => (10, 50)

/-- An integer quotient rounded to the nearest; a tie is free. -/
def State.nearest (s : State) (num : Int) (den : Nat) : Int × State :=
  if 2 * (num % den) = den then
    let f := s.fresh 1
    (num / den + f.1, f.2)
  else ((2 * num + den) / (2 * den), s)

/-- A local extremum of a profile (R132, R134): its interpolated delay `kNum / kDen` in samples from the launch, and the
profile's value there. -/
structure Peak where
  kNum : Nat
  kDen : Nat
  val : Int
  deriving DecidableEq, Repr

/-- The distance of a peak in mm (R132). -/
def State.distOf (s : State) (c : Ch) (typ : Nat) (p : Peak) : Int × State :=
  let vf := max 400 (s.cg c .DIAG_CFG_VF)
  let fs := sampleRate c typ
  let den := p.kDen * 2 * fs.1
  if den = 0 then (0, s) else
  s.nearest (299800000000 * vf * ((p.kNum * fs.2 * 1000000000000 : Nat) - (s.cg c .DIAG_CFG_REFPL * den : Nat)))
    (1000 * den * 1000000000000)

/-- 10 to the powers 1/2, 1/4, ..., 2^-32, in units of 2^-48. Choices: log entry 40 (DESIGN CHOICE). -/
def tenRoots : List Nat :=
  [890102030748522, 500541155525744, 375352914061331, 325042232246349, 302475213449830, 291786229389499,
   286584232158538, 284018115746981, 282743686959206, 282108618623975, 281791619564987, 281633253637266,
   281554104051948, 281514537601189, 281494756460943, 281484866412060, 281479921517924, 281477449103431,
   281476212904328, 281475594806813, 281475285758564, 281475131234567, 281475053972600, 281475015341625,
   281474996026139, 281474986368397, 281474981539526, 281474979125090, 281474977917872, 281474977314263,
   281474977012459, 281474976861557]

/-- 10 to the power `n / d`, in units of 2^-48, from the 32 leading bits of the fraction (DESIGN CHOICE, log entry 40). -/
def tenPow (n d : Nat) : Nat :=
  let f := n % d * 2 ^ 32 / d
  tenRoots.zipIdx.foldl (fun a r => if f.testBit (31 - r.2) then a * r.1 / 2 ^ 48 else a) (10 ^ (n / d) * 2 ^ 48)

/-- The compensation gain at a distance in mm, in units of 2^-48 (R134): ATT = 0 turns it off.
Choices: log entry 40 (DESIGN CHOICE). -/
def State.lossGain (s : State) (c : Ch) (mm : Nat) : Nat :=
  let att := s.cg c .DIAG_LOSS_ATT
  let cap := s.cg c .DIAG_LOSS_MAXCOMP
  if att = 0 then 2 ^ 48
  else if mm * att * 20 ≤ cap * 2560000 then tenPow (mm * att) 2560000 else tenPow cap 20

/-- The compensated reflection coefficient (R134); its rounding is free, and it saturates at 12 bits.
Readings: log entry 38 (DEDUCED). -/
def State.gammaC (s : State) (c : Ch) (raw : Int) (mm : Nat) : Int × State :=
  let r := s.roundFree (raw * s.lossGain c mm) (2 ^ 48)
  (satS 12 r.1, r.2)

/-! ### Features (R134) -/

/-- A feature: its distance in mm, compensated and raw coefficients, and its delay in samples. -/
structure Feat where
  dist : Nat
  gc : Int
  raw : Int
  k : Nat
  deriving DecidableEq, Repr

/-- STEP_MIN in force (R142). -/
def State.stepMin (s : State) (c : Ch) : Nat := max 1 (s.cg c .DIAG_CLSCFG_STEP_MIN)

/-- The samples of a link-down record (R130). -/
def recordLen (c : Ch) : Nat := match classOf c with | .trunk => 16384 | .branch => 2048 | .segment => 256

/-- The bursts a link-down run averages (R130, R142). -/
def State.avgBursts (s : State) (c : Ch) : Nat := 2 ^ max 4 (min 14 (s.cg c .DIAG_TDRCFG_AVG))

/-- The samples that a chip of the PRBS lasts (R130). -/
def chipLen (c : Ch) : Nat := if isSeg c then 2 else 1

/-- The sign of chip `i` of the PRBS. -/
def chipSign (i : Nat) : Int := if Config.prbsChip i then 1 else -1

/-- A record correlated with the PRBS at delay `k` (R130), in units of one over the 1,023 chips: the record begins as the PRBS
ends, so that the reflection of chip `i` from there lies 1,023 - i chips before sample `k` (DEDUCED, log entry 38). -/
def correlate (c : Ch) (record : List Int) (k : Nat) : Int :=
  ((List.range 1023).map fun i =>
    let j := k + chipLen c * i
    if j < chipLen c * 1023 then 0 else chipSign i * record.getD (j - chipLen c * 1023) 0).sum

/-- The profile of a link-down run (R130): the records of its bursts, correlated and added up, delay by delay, so that a value
is in units of one over the bursts and the chips. -/
def tdrProfile (c : Ch) (bursts : List (List Int)) : List (Option Int) :=
  (List.range (recordLen c)).map fun k => some ((bursts.map fun b => correlate c b k).sum)

/-- A profile without the factory near-end response (R130, R131); its values are in units of one over `n`. -/
def cleaned (c : Ch) (isr : Bool) (n : Nat) (l : List (Option Int)) : List (Option Int) :=
  l.mapIdx fun k v => v.map fun x => x - n * Config.nearEnd c.val isr k

/-- A value of a profile as a reflection coefficient in units of 1/1,024 (R134); its rounding is free. -/
def State.gammaRaw (s : State) (c : Ch) (isr : Bool) (n : Nat) (v : Int) : Int × State :=
  s.roundFree (v * Config.launchGain c.val isr) (n * 65536)

/-- The distance of sample `k` in whole mm (R132). -/
def State.sampleMm (s : State) (c : Ch) (typ k : Nat) : Nat :=
  let vf := max 400 (s.cg c .DIAG_CFG_VF)
  let fs := sampleRate c typ
  (299800000000 * vf * ((k * fs.2 * 1000000000000 : Nat) - (s.cg c .DIAG_CFG_REFPL * (2 * fs.1) : Nat) : Int) /
    (1000 * (2 * fs.1) * 1000000000000 : Nat)).toNat

/-- |Γ_c| of every sample of a profile, without rounding: in units of 2^-64 / n of 1/1,024; 0 where none was measured. -/
def State.magnitudes (s : State) (c : Ch) (typ : Nat) (isr : Bool) (l : List (Option Int)) : List Nat :=
  l.mapIdx fun k v => match v with
    | some x => x.natAbs * Config.launchGain c.val isr * s.lossGain c (s.sampleMm c typ k)
    | none => 0

/-- The local extrema of |Γ_c| (R134), each refined by the parabola through the profile's magnitude at its sample and its
two neighbours (R132). Readings: log entry 38 (DEDUCED). -/
def peaksOf (mags : List Nat) (l : List (Option Int)) : List Peak :=
  let v := fun k : Nat => (l.getD k none).getD 0
  let m := fun k : Nat => mags.getD k 0
  let before := fun (g : Nat → Int) (k : Nat) => if k = 0 then 0 else g (k - 1)
  (List.range l.length).filterMap fun k =>
    if m k ≠ 0 && before (fun i => m i) k < m k && m (k + 1) ≤ m k then
      let x : Int := before (fun i => (v i).natAbs) k
      let y : Int := (v k).natAbs
      let z : Int := (v (k + 1)).natAbs
      let den := 2 * (2 * y - x - z)
      if 0 < den then some ⟨(k * den + (z - x)).toNat, den.toNat, v k⟩ else some ⟨k, 1, v k⟩
    else none

/-- |Γ_c| reaches STEP_MIN in the last 5% of the record or reach (R134). -/
def State.beyond (s : State) (c : Ch) (n : Nat) (mags : List Nat) : Bool :=
  mags.zipIdx.any fun x => decide (19 * mags.length ≤ 20 * x.2) && decide (s.stepMin c * (n * 2 ^ 64) ≤ x.1)

/-- The extrema of a profile with their distances and compensated coefficients. -/
def State.extrema (s : State) (c : Ch) (typ : Nat) (isr : Bool) (n : Nat) (l : List Peak) : List (Int × Feat) × State :=
  l.foldl (fun a p =>
    let d := a.2.distOf c typ p
    let r := d.2.gammaRaw c isr n p.val
    let g := r.2.gammaC c r.1 d.1.toNat
    (a.1 ++ [(d.1, ⟨d.1.toNat, g.1, satS 12 r.1, p.kNum / max 1 p.kDen⟩)], g.2)) ([], s)

/-- Inserts a feature by a key, ascending; equal keys keep their order. -/
def insFeat (key : Feat → Nat) (f : Feat) : List Feat → List Feat
  | [] => [f]
  | g :: t => if key f < key g then f :: g :: t else g :: insFeat key f t

/-- The features of a profile (R134): the 16 of greatest magnitude, ascending in distance. -/
def State.features (s : State) (c : Ch) (typ : Nat) (isr : Bool) (n : Nat) (l : List Peak) : List Feat × State :=
  let e := s.extrema c typ isr n l
  let res := (resAcc c typ).1
  let fs := (e.1.filter fun x =>
    decide (s.stepMin c ≤ x.2.gc.natAbs) && decide ((res : Int) ≤ x.1) &&
      !e.1.any fun y => decide ((x.1 - y.1).natAbs < res) && decide (x.2.gc.natAbs < y.2.gc.natAbs)).map Prod.snd
  let strong := (fs.foldl (fun a f => insFeat (fun g => 4096 - g.gc.natAbs) f a) []).take 16
  (strong.foldl (fun a f => insFeat Feat.dist f a) [], e.2)

/-- A delay above `k` within the reach was not measured (R131, R134). -/
def unmeasured (c : Ch) (cover : List (Nat × Nat)) (k : Nat) : Bool :=
  (List.range (ecReach c)).any fun d => decide (k < d) && !cover.any fun x => x.1 ≤ d && d < x.1 + x.2

/-- The class of a feature by its size (R134). -/
def State.featClass (s : State) (c : Ch) (g : Int) : Nat :=
  let hard : Int := s.cg c .DIAG_CLSCFG_HARD
  if hard ≤ g then 1 else if g ≤ -hard then 2 else if 0 ≤ g then 3 else 4

/-- The features with their classes; in an ISR the farthest is END where nothing beyond it is unmeasured (R134). -/
def State.classed (s : State) (c : Ch) (isr : Bool) (cover : List (Nat × Nat)) (l : List Feat) : List (Feat × Nat) :=
  l.zipIdx.map fun x =>
    (x.1, if isr && x.2 + 1 = l.length && !unmeasured c cover x.1.k then 5 else s.featClass c x.1.gc)

/-! ### Tracked features (R137) -/

/-- The distance between a feature and entry `j`. -/
def State.trackGap (s : State) (c : Ch) (f : Feat) (j : Nat) : Nat :=
  ((f.dist : Int) - s.cg c (.DIAG_TRACKA_DIST j)).natAbs

/-- The entry a feature matches (R137). Readings: log entry 38 (DEDUCED). -/
def State.matchOf (s : State) (c : Ch) (res : Nat) (f : Feat) : Option Nat :=
  let l := (List.range 8).filter fun j => s.cb c (.DIAG_TRACKA_VALID j)
  l.find? fun j => decide (s.trackGap c f j ≤ 3 * res) && l.all fun i => decide (s.trackGap c f j ≤ s.trackGap c f i)

/-- A feature takes entry `j` (R137). -/
def State.takeEntry (s : State) (c : Ch) (j : Nat) (f : Feat) (cls : Nat) : State :=
  let s := (s.cs c (.DIAG_TRACKA_VALID j) 1).cs c (.DIAG_TRACKA_DIST j) f.dist
  (s.cs c (.DIAG_TRACKA_CLASS j) cls).cs c (.DIAG_TRACKB_GAMMA_C j) (rawOf 12 f.gc)

/-- TRACK_MATCH (R137): each feature of a completed ISR against the table as it stands. Answers Γ_0 to Γ_7 of the record
and the entry each feature matched. -/
def State.trackMatch (s : State) (c : Ch) (res : Nat) (l : List (Feat × Nat)) :
    State × List (Option Int) × List (Option Nat) :=
  let none8 : List (Option Int) := List.replicate 8 none
  let auto := s.cb c .DIAG_CTL_AUTO_TRACK
  let empty := (List.range 8).all fun j => !s.cb c (.DIAG_TRACKA_VALID j)
  let s0 := s.updDiag c fun d => { d with firstIsr := false }
  if empty && auto && (s.ch c).diag.firstIsr then
    let cand := (l.filter fun x => x.2 ≠ 5).map Prod.fst
    let strong := (cand.foldl (fun a f => insFeat (fun g => 4096 - g.gc.natAbs) f a) []).take 8
    let take := (l.filter fun x => strong.contains x.1 && x.2 ≠ 5).take 8
    let r := take.zipIdx.foldl (fun (a : State × List (Option Int)) x =>
      (a.1.takeEntry c x.2 x.1.1 x.1.2, a.2.set x.2 (some x.1.1.gc))) (s0, none8)
    (r.1, r.2, l.map fun _ => none)
  else
    l.foldl (fun (a : State × List (Option Int) × List (Option Nat)) x =>
      match s.matchOf c res x.1 with
      | some j =>
        let t := if a.1.cg c (.DIAG_TRACKA_CLASS j) ≠ x.2 then a.1.cs c .DIAG_EVT_CLASS_CHANGE 1 else a.1
        let t := (t.cs c (.DIAG_TRACKA_CLASS j) x.2).cs c (.DIAG_TRACKB_GAMMA_C j) (rawOf 12 x.1.gc)
        (t, a.2.1.set j (some x.1.gc), a.2.2 ++ [some j])
      | none =>
        if x.2 = 5 then (a.1, a.2.1, a.2.2 ++ [none]) else
        let t := a.1.cs c .DIAG_EVT_NEW_FEATURE 1
        match (if auto then (List.range 8).find? fun j => !t.cb c (.DIAG_TRACKA_VALID j) else none) with
        | some j => (t.takeEntry c j x.1 x.2, a.2.1.set j (some x.1.gc), a.2.2 ++ [none])
        | none => (t, a.2.1, a.2.2 ++ [none])) (s0, none8, [])

/-! ### The end of a run (R135) -/

/-- Writes one entry of the feature list; without a feature it is empty. -/
def State.putFeat (s : State) (c : Ch) (i : Nat) (f : Option (Feat × Nat)) (trk : Option Nat) : State :=
  let z : Feat × Nat := (⟨0, 0, 0, 0⟩, 0)
  let x := f.getD z
  let s := (s.cs c (.DIAG_FEATA_TRACKED i) (b2n trk.isSome)).cs c (.DIAG_FEATA_TRK i) (trk.getD 0)
  let s := (s.cs c (.DIAG_FEATA_CLASS i) x.2).cs c (.DIAG_FEATA_DIST i) x.1.dist
  (s.cs c (.DIAG_FEATB_GAMMA_C i) (rawOf 12 x.1.gc)).cs c (.DIAG_FEATB_GAMMA_RAW i) (rawOf 12 x.1.raw)

/-- Replaces the visible result (R135). -/
def State.putResult (s : State) (c : Ch) (isr : Bool) (typ : Nat) (partial' beyond : Bool) (l : List (Feat × Nat))
    (trk : List (Option Nat)) : State :=
  let has := fun k => l.any fun x => x.2 = k
  let s := (s.cinc c .DIAG_RES_HDR_SEQ).cs c .DIAG_RES_HDR_KIND (if isr then 2 else 1)
  let s := ((s.cs c .DIAG_RES_HDR_STATUS 0).cs c .DIAG_RES_HDR_TYPE typ).cs c .DIAG_RES_HDR_NFEAT l.length
  let s := (s.cs c .DIAG_RES_HDR_PARTIAL (b2n partial')).cs c .DIAG_RES_HDR_BEYOND (b2n beyond)
  let s := s.cs c .DIAG_RES_HDR_OA (if has 1 then 1 else if has 2 then 2 else 0)
  let ra := resAcc c typ
  let s := ((s.cs c .DIAG_RES_TIME_SECONDS (s.opTime c)).cs c .DIAG_RES_RES_RES ra.1).cs c .DIAG_RES_RES_ACC ra.2
  let s := (List.range 16).foldl (fun s i => s.putFeat c i l[i]? (trk.getD i none)) s
  s.cs c .DIAG_EVT_DONE 1

/-- The samples the raw buffer keeps (R142): of the averaged profile, 0 beyond the record; their rounding is free. -/
def State.rawKept (s : State) (c : Ch) (n : Nat) (l : List (Option Int)) : List (BitVec 16) × State :=
  let st := s.cg c .DIAG_TDRCFG_RAW_START
  let step := 2 ^ s.cg c .DIAG_TDRCFG_RAW_DEC
  (List.range 2048).foldl (fun a i =>
    let r := a.2.roundFree ((l.getD (st + i * step) none).getD 0) n
    (a.1 ++ [BitVec.ofInt 16 (satS 16 r.1)], r.2)) ([], s)

/-- A link-down run's result, from the records of its 2^AVG bursts (R130 to R135). -/
def State.tdrDone (s : State) (c : Ch) (bursts : List (List Int)) : State :=
  let n := s.avgBursts c * 1023
  let prof := cleaned c false n (tdrProfile c bursts)
  let mags := s.magnitudes c 0 false prof
  let f := s.features c 0 false n (peaksOf mags prof)
  let raw := f.2.rawKept c n prof
  let l := raw.2.classed c false [] f.1
  (raw.2.putResult c false 0 false (s.beyond c n mags) l []).updDiag c fun d => { d with run := .none, raw := raw.1 }

/-- An in-service run's result, from its capture (R131 to R137); a record that waited for it is written with its Γ. -/
def State.isrDone (s : State) (c : Ch) : State :=
  let d := (s.ch c).diag
  let prof := cleaned c true 1 d.prof
  let mags := s.magnitudes c d.isrTyp true prof
  let f := s.features c d.isrTyp true 1 (peaksOf mags prof)
  let l := f.2.classed c true d.cover f.1
  let t := f.2.trackMatch c (resAcc c d.isrTyp).1 l
  let part := unmeasured c d.cover (denseLen c - 1)
  let s := (t.1.putResult c true d.isrTyp part (s.beyond c 1 mags) l t.2.2).updDiag c fun d => { d with run := .none }
  match d.closed with
  | some (iv, at') => s.writeRecord c iv at' true true t.2.1
  | none => s

/-- Runs `g` in a cycle in which TREND_CLR may fall (R140): it also empties the log. -/
def State.withClr (s : State) (c : Ch) (clr : Bool) (g : State → State) : State :=
  let s := s.inCyc { CycSt.none with trClr := clr } g
  if clr then s.trendClear c else s

/-- DIAG_RUN_COMPLETE (R130 to R137, R140): the engine has processed a profile: a link-down run's, from the record of each of
its 2^AVG bursts, without all of which it goes on, or an in-service run's. `clr`: a TREND_CLR falls in its cycle.
Readings: log entry 38 (DEDUCED). -/
def execDiagRunComplete (c : Ch) (bursts : List (List Int)) (clr : Bool) (s : State) : Host.Outcome State Fault Refusal :=
  if s.diagIn c .process && bursts.length = s.avgBursts c then ok (s.withClr c clr fun s => s.tdrDone c bursts)
  else if s.diagIn c .isrCap then ok (s.withClr c clr fun s => s.isrDone c)
  else ok s

/-- What becomes of an interval that has closed (R136, R140): with the link up throughout, an ISR runs first, or the one in
progress serves; otherwise its record is written at once. -/
def State.closeInterval (s : State) (c : Ch) (iv : Interval) : State :=
  let t := s.opTime c
  let run := (s.ch c).diag.run
  if !iv.up || run.isTdr then s.writeRecord c iv t false false []
  else if isSeg c then s.writeRecord c iv t false true []
  else if run = .isrWait || run = .isrCap then s.updDiag c fun d => { d with closed := some (iv, t) }
  else if s.isrOk c then s.updDiag c fun d => { d with closed := some (iv, t), run := .isrWait }
  else s.writeRecord c iv t false true []

/-- TREND_INTERVAL_END (R136, R140): an interval of 2^TREND_INT seconds of operation closes. `clr`: a TREND_CLR falls in its
cycle. -/
def execTrendIntervalEnd (c : Ch) (clr : Bool) (s : State) : Host.Outcome State Fault Refusal :=
  if !(s.clocked c .diag && s.cb c .DIAG_CTL_TREND_EN) || (s.ch c).diag.closed.isSome then ok s else
  let len := 2 ^ s.cg c .DIAG_CTL_TREND_INT * 25000000
  let s := s.updDiag c fun d => { d with opTicks := max d.opTicks (d.ivT0 + len) }
  let iv := (s.ch c).diag.iv
  ok ((s.newInterval c).withClr c clr fun s => s.closeInterval c iv)

end Sys2Proof.Machine
end

