-- ==== Sys2Proof/Machine/Lpi.lean ====
section
/-! DEFINITION. Low-power idle, the sleep handshakes, wake on the line, and pad release (R143 to R156). -/

namespace Sys2Proof.Machine

/-! ### Low-power idle -/

/-- The active type has LPI (R143). -/
def lpiType (typ : Nat) : Bool := 2 ≤ typ && typ ≤ 7

/-- The LPI block's clock runs, and link control's, which it moves (R281). -/
def State.lpiRuns (s : State) (c : Ch) : Bool := s.clocked c .lpi && s.clocked c .link

/-- Both ends advertised EEE and the active type has LPI (R143, R144). -/
def State.lpiAble (s : State) (c : Ch) : Bool :=
  !isSeg c && lpiType (s.cg c .PCS_CTL_TYPE) && s.cb c .LINK_ANADV_EEE && s.cb c .LINK_ANLP_EEE

/-- The egress queues hold no cell (R144). -/
def State.egEmpty (s : State) (c : Ch) : Bool :=
  (s.ch c).queue.line.isNone && clsUp.all fun k => (s.ch c).queue.egCells k = 0

/-- A command or a TX_REQ write is ignored. -/
def State.lpiRej (s : State) (c : Ch) : State := s.cs c .LPI_EVT_CMD_REJ 1

/-- The sub-state follows the two directions (R144): LPI while either is in LPI. -/
def State.lpiSub (s : State) (c : Ch) : State :=
  if s.cb c .LPI_STAT_TX_LPI || s.cb c .LPI_STAT_RX_LPI then s.setSub c .lpi else s.setSub c .up

/-- The longest wake time of a type in reference ticks (R147); XT50's is counted in superframes. -/
def lpiWake (typ : Nat) : Nat := match typ with | 2 => 400 | 3 | 4 | 5 => 250 | 6 => 200 | _ => 0

/-- An exit from transmit LPI is in progress (R146, R147): the wake time runs. In XT50 it lasts to the next superframe
boundary and four complete idle superframes more; for the other types to the first frame, and no longer than R147 allows. -/
def State.lpiWaking (s : State) (c : Ch) : Bool :=
  match (s.ch c).lpi.exitAt with
  | some (t, n) =>
    let typ := s.cg c .PCS_CTL_TYPE
    if typ = 7 then decide ((s.txFr c + 65536 - n) % 65536 < 5) && decide (s.now < t + 128)
    else decide (s.now < t + lpiWake typ)
  | none => false

/-- No frame may start now (R144, R146): the transmit direction is in LPI, or XT50's wake time runs. -/
def State.lpiFence (s : State) (c : Ch) : Bool :=
  s.cb c .LPI_STAT_TX_LPI || (s.cg c .PCS_CTL_TYPE = 7 && s.lpiWaking c)

/-- Transmit LPI ends (R144, R262): TX_REQ clears as the exit begins, pending shadows apply at the boundary, and the wake
time runs. -/
def State.txExit (s : State) (c : Ch) : State :=
  if !s.cb c .LPI_STAT_TX_LPI then s else
  let s := ((s.cs c .LPI_STAT_TX_LPI 0).cs c .LPI_CTL_TX_REQ 0).cs c .LPI_EVT_TX_EXIT 1
  let t := s.now
  let n := s.txFr c
  let s := s.updLpi c fun l => { l with txQuiet := false, sleepFr := none, exitAt := some (t, n) }
  ((s.setLpiMask c).shApply c).lpiSub c

/-- A write of `LPI_CTL.TX_REQ` lands (R144): ignored while LSTATE is not UP. -/
def State.txReq (s : State) (c : Ch) (b : Bool) : State :=
  if (s.ch c).link.st ≠ .up then s.lpiRej c
  else if b then s.cs c .LPI_CTL_TX_REQ 1
  else (s.txExit c).cs c .LPI_CTL_TX_REQ 0

/-- A cell arrives in the egress queue (R144): transmit LPI ends, and the idle time starts again. -/
def State.lpiCell (s : State) (c : Ch) : State := (s.txExit c).updLpi c fun l => { l with idleT := 0 }

/-- The first superframe that is whole from now on: the one that runs where it has just begun, else the next (R146). -/
def State.wholeFr (s : State) (c : Ch) : Nat :=
  let fresh := match (s.ch c).line.frT0 with
    | some t => decide ((s.now - t) * 25 % 544 < 25)
    | none => true
  (s.txFr c + if fresh then 0 else 1) % 65536

/-- LPI_TX_ENTER (R144, R146): a codeword boundary with TX_REQ = 1, no cell in the egress queue and no frame on the line. The
direction is not quiet while its sleep signalling lasts. -/
def execLpiTxEnter (c : Ch) (s : State) : Host.Outcome State Fault Refusal :=
  if s.linkIn c .up && s.clocked c .lpi && s.lpiAble c && s.cb c .LPI_CTL_TX_REQ && !s.cb c .LPI_STAT_TX_LPI && s.egEmpty c then
    let s := ((s.cs c .LPI_STAT_TX_LPI 1).cs c .LPI_EVT_TX_ENTER 1).cinc c .LPI_TXCNT_COUNT
    let n := s.wholeFr c
    ok ((s.updLpi c fun l => { l with sleepFr := some n, exitAt := none }).lpiSub c)
  else ok s

/-- LPI_RX_ENTER (R144 to R146): the partner's signalling puts the receive direction into LPI, and it is quiet. -/
def execLpiRxEnter (c : Ch) (s : State) : Host.Outcome State Fault Refusal :=
  if s.linkIn c .up && s.clocked c .lpi && s.lpiAble c && !s.cb c .LPI_STAT_RX_LPI then
    let s := (s.cs c .LPI_STAT_RX_LPI 1).cs c .LPI_EVT_RX_ENTER 1
    let s := s.updLpi c fun l => { l with rxQuiet := true, refHit := false, refMiss := 0 }
    ok ((s.setLpiMask c).lpiSub c)
  else ok s

/-- LPI_RX_EXIT (R144, R146). -/
def execLpiRxExit (c : Ch) (s : State) : Host.Outcome State Fault Refusal :=
  if s.clocked c .lpi && s.cb c .LPI_STAT_RX_LPI then
    let s := (s.cs c .LPI_STAT_RX_LPI 0).cs c .LPI_EVT_RX_EXIT 1
    let s := s.updLpi c fun l => { l with rxQuiet := false }
    ok ((s.setLpiMask c).lpiSub c)
  else ok s

/-- A transmit direction in LPI may fall quiet, or its refresh begin, now (R146): XT50 falls quiet after two complete
superframes of sleep signalling, outside the superframes whose count modulo 2,048 is 0 to 15, which are its refresh. For
the other types the clause's timers say, with the command. -/
def State.quietOk (s : State) (c : Ch) (begins : Bool) : Bool :=
  let n := s.txFr c
  if s.cg c .PCS_CTL_TYPE ≠ 7 then true
  else if begins then decide (n % 2048 ≤ 15)
  else decide (15 < n % 2048) && match (s.ch c).lpi.sleepFr with
    | some k => decide (2 ≤ (n + 65536 - k) % 65536) && decide ((n + 65536 - k) % 65536 < 32768)
    | none => true

/-- LPI_REFRESH (R145, R146, R262): a refresh period begins or ends in a direction that is in LPI. A refresh is not quiet;
the beginning of a transmit refresh applies pending shadows. In XT50 two refreshes in a row without a marker that matches
are a link loss. The end of a transmit direction's sleep signalling is told as the end of a refresh.
Readings: log entry 27 (DEDUCED). -/
def execLpiRefresh (c : Ch) (rx begins : Bool) (s : State) : Host.Outcome State Fault Refusal :=
  if !s.clocked c .lpi then ok s else
  if rx then
    if !s.cb c .LPI_STAT_RX_LPI then ok s else
    let l := (s.ch c).lpi
    if begins then
      ok ((s.updLpi c fun l => { l with rxQuiet := false, refHit := false }).setLpiMask c)
    else
      let ends := !l.rxQuiet
      let miss := if !ends || s.cg c .PCS_CTL_TYPE ≠ 7 then 0 else if l.refHit then 0 else l.refMiss + 1
      let s := (s.updLpi c fun l => { l with rxQuiet := true, refMiss := miss }).setLpiMask c
      if 2 ≤ miss then ok (s.critLoss c 0x20) else ok s
  else
    if !s.cb c .LPI_STAT_TX_LPI || !s.quietOk c begins then ok s else
    let s := (s.updLpi c fun l => { l with txQuiet := !begins, sleepFr := if begins then l.sleepFr else none }).setLpiMask c
    ok (if begins then s.shApply c else s)

/-- LPI_IDLE_EXPIRE (R144): the egress queue has been empty for IDLE_US. -/
def execLpiIdleExpire (c : Ch) (s : State) : Host.Outcome State Fault Refusal :=
  let us := s.cg c .LPI_IDLECFG_IDLE_US
  if !isSeg c && s.clocked c .lpi && us ≠ 0 && s.egEmpty c then
    ok ((s.updLpi c fun l => { l with idleT := max l.idleT (us * 25) }).cs c .LPI_EVT_IDLE 1)
  else ok s

/-! ### Sleep (R148 to R151) -/

/-- The active type sleeps by TC10 (R143). -/
def tc10Type (typ : Nat) : Bool := typ = 1 || typ = 2

/-- The type and partner have a sleep mechanism (R143): TC10, or the vendor handshake with VSLEEP = 1. -/
def State.sleepAble (s : State) (c : Ch) : Bool :=
  let typ := s.cg c .PCS_CTL_TYPE
  !isSeg c && (tc10Type typ || (3 ≤ typ && typ ≤ 7 && (s.cg c .LINK_LPCAP_CAP).testBit 2))

/-- Changes the sleep transaction. -/
def State.updSleep (s : State) (c : Ch) (g : SleepSt → SleepSt) : State :=
  s.updLpi c fun l => { l with sleep := l.sleep.map g }

/-- The message of a sleep transaction (R149): the active type in both nibbles. -/
def State.sleepMsg (s : State) (c : Ch) (id tid reason f : Nat) : LinkMsg :=
  let t := s.cg c .PCS_CTL_TYPE
  LinkMsg.build id tid t t reason f

/-- Sends a vendor message of the sleep transaction (R149). -/
def State.sendSleep (s : State) (c : Ch) (id reason f : Nat) : State :=
  match (s.ch c).lpi.sleep with
  | some t => s.say c (s.sleepMsg c id t.tid reason f)
  | none => s

/-- Sends a TC10 message or pulse (R148). -/
def State.sendTc10 (s : State) (c : Ch) (m : Tc10) : State := s.updLpi c fun l => { l with tcOut := l.tcOut ++ [m] }

/-- A sleep transaction that has not passed its commit point (R150). -/
def State.sleepOpen (s : State) (c : Ch) : Bool :=
  match (s.ch c).lpi.sleep with
  | some t => t.go.isNone
  | none => false

/-- The sleep transaction is past its commit point (R150): no new egress frame is started. -/
def State.sleepFence (s : State) (c : Ch) : Bool :=
  match (s.ch c).lpi.sleep with
  | some t => t.go.isSome
  | none => false

/-- A sleep transaction is cancelled or refused (R150): the link stays UP. -/
def State.sleepFail (s : State) (c : Ch) (reason : Nat) : State :=
  let s := ((s.cs c .LPI_SLPCFG_REASON reason).cs c .LPI_EVT_SLEEP_FAIL 1).cs c .LPI_STAT_SLP_PHASE 0
  (s.hush c).updLpi c fun l => { l with sleep := none }

/-- The part cancels a transaction: a vendor one with SLP_CANCEL (R150). -/
def State.sleepCancel (s : State) (c : Ch) (reason : Nat) : State :=
  let s := if tc10Type (s.cg c .PCS_CTL_TYPE) then s else s.sendSleep c 0x24 reason 0
  s.sleepFail c reason

/-- A sleep transaction begins. -/
def State.sleepBegin (s : State) (c : Ch) (init : Bool) (tid phase : Nat) : State :=
  (s.cs c .LPI_STAT_SLP_PHASE phase).updLpi c fun l => { l with sleep := some ⟨init, tid, none⟩ }

/-- SLEEP (R150): accepted in sub-state UP, LSTATE UP, with both directions out of LPI, no transaction running and a sleep
mechanism. The part chooses a vendor transaction's identifier, which is free. -/
def State.sleepCmd (s : State) (c : Ch) : State :=
  let x := s.ch c
  if x.sub = .up && x.link.st = .up && s.sleepAble c && x.lpi.sleep.isNone then
    if tc10Type (s.cg c .PCS_CTL_TYPE) then (s.sleepBegin c true 0 1).sendTc10 c .sleepReq
    else
      let t := s.fresh 8
      (t.2.sleepBegin c true t.1 1).sendSleep c 0x20 0 0
  else s.lpiRej c

/-- The master sends SLP_GO: its commit point (R150 step 3). -/
def State.sendGo (s : State) (c : Ch) : State :=
  let f := (s.txFr c + max (s.cg c .LPI_SLPCFG_LEAD) (leadMin (s.cg c .PCS_CTL_TYPE))) % 65536
  let s := (s.sendSleep c 0x23 0 f).updSleep c fun t => { t with go := some f }
  s.cs c .LPI_STAT_SLP_PHASE 3

/-- A vendor sleep message can arrive: the link is up in a type of the vendor handshake (R98, R143). -/
def State.slpLive (s : State) (c : Ch) : Bool :=
  !isSeg c && s.lpiRuns c && s.linkLive c && 3 ≤ s.cg c .PCS_CTL_TYPE && s.cg c .PCS_CTL_TYPE ≤ 7

/-- The message belongs to the sleep transaction that runs, and is no copy of one acted on. -/
def State.slpOurs (s : State) (c : Ch) (id : Nat) (m : LinkMsg) : Bool :=
  match (s.ch c).lpi.sleep with
  | some t => s.slpLive c && t.tid = m.tid && !s.heard c id m
  | none => false

/-- Refuses a SLP_REQ (R149). -/
def State.nakSleep (s : State) (c : Ch) (m : LinkMsg) (reason : Nat) : State :=
  let s := s.cs c .LPI_SLPCFG_REASON reason
  s.sayOnce c (s.sleepMsg c 0x22 m.tid reason 0)

/-- A SLP_REQ is judged and answered (R149, R150 steps 2 and 3): an exit from LPI already in progress makes the responder
busy, and a transmit direction in LPI leaves it to answer. A master that accepts sends SLP_GO as soon as it has sent
SLP_ACK. -/
def State.takeSlpReq (s : State) (c : Ch) (m : LinkMsg) : State :=
  let waking := s.lpiWaking c
  let s := s.txExit c
  if (s.ch c).link.st ≠ .up || waking then s.nakSleep c m 4
  else if !s.cb c .LPI_SLPCFG_ACCEPT then s.nakSleep c m 1
  else
    let s := (s.sleepBegin c false m.tid 2).sendSleep c 0x21 0 0
    if (s.ch c).link.master then s.sendGo c else s

/-- SLP_REQ_RECEIVE (R149, R150): a REQ that crosses this end's own is settled for the master's; during any other
transaction, and during SHIFT, the answer is SLP_NAK 4 (R106, R151). -/
def execSlpReqReceive (c : Ch) (m : LinkMsg) (s : State) : Host.Outcome State Fault Refusal :=
  if !s.slpLive c || s.heard c 0x20 m then ok s else
  let s := s.acted c 0x20 m
  match (s.ch c).lpi.sleep with
  | some t =>
    if t.init && s.cg c .LPI_STAT_SLP_PHASE = 1 then
      if (s.ch c).link.master then ok s
      else
        let s := (s.updLpi c fun l => { l with sleep := none }).hush c
        ok ((s.cs c .LPI_STAT_SLP_PHASE 0).takeSlpReq c m)
    else ok (s.nakSleep c m 4)
  | none => ok (s.takeSlpReq c m)

/-- SLP_ACK_RECEIVE (R150 step 3): a master that initiated sends SLP_GO and commits. -/
def execSlpAckReceive (c : Ch) (m : LinkMsg) (s : State) : Host.Outcome State Fault Refusal :=
  if s.slpOurs c 0x21 m && s.cg c .LPI_STAT_SLP_PHASE = 1 then
    let s := (s.acted c 0x21 m).cs c .LPI_STAT_SLP_PHASE 2
    ok (if (s.ch c).link.master then s.sendGo c else s)
  else ok s

/-- SLP_NAK_RECEIVE (R150): the transaction is cancelled, and SLP_CANCEL is sent, since none was received. -/
def execSlpNakReceive (c : Ch) (m : LinkMsg) (s : State) : Host.Outcome State Fault Refusal :=
  if s.slpOurs c 0x22 m && s.cg c .LPI_STAT_SLP_PHASE = 1 then
    ok ((s.acted c 0x22 m).sleepCancel c m.reason)
  else ok s

/-- SLP_GO_RECEIVE (R150 step 3): the slave's commit point. -/
def execSlpGoReceive (c : Ch) (m : LinkMsg) (s : State) : Host.Outcome State Fault Refusal :=
  if s.slpOurs c 0x23 m && s.sleepOpen c && !(s.ch c).link.master then
    let s := (s.acted c 0x23 m).updSleep c fun t => { t with go := some m.f }
    ok (s.cs c .LPI_STAT_SLP_PHASE 3)
  else ok s

/-- SLP_CANCEL_RECEIVE (R150). -/
def execSlpCancelReceive (c : Ch) (m : LinkMsg) (s : State) : Host.Outcome State Fault Refusal :=
  if s.slpOurs c 0x24 m && s.sleepOpen c then
    ok ((s.acted c 0x24 m).sleepFail c m.reason)
  else ok s

/-- SLEEP_RSP_TIMEOUT (R150): no answer within RSP ms. The spec gives no REASON for it, so it is free.
Readings: log entry 39 (DEDUCED). -/
def execSleepRspTimeout (c : Ch) (s : State) : Host.Outcome State Fault Refusal :=
  if s.lpiRuns c && s.sleepOpen c then
    let r := s.fresh 4
    ok (r.2.sleepCancel c r.1)
  else ok s

/-- A channel leaves SLEEP for TRAINING, as if START had been written, and is not refused (R21, R84, R152). A forced type that fails the
checks of R89 is trained for in vain (DEDUCED, log entry 39). -/
def State.wakeStart (s : State) (c : Ch) : State :=
  let s := s.updLpi c fun l => { l with waking := false }
  let t := if s.cb c .LINK_CTL_AN_EN then s.enterAn c else s.enterForced c
  let t := (t.cs c .LPI_STAT_SLP_PHASE 0).updLink c fun l => { l with restart := false }
  t.updLpi c fun l => { l with fromSleep := true }

/-- A wake is counted (R152); one qualified on the line also sets WAKE_LINE, and the port's register 30.8002 latches it
(R382). -/
def State.countWake (s : State) (c : Ch) : State :=
  let s := { s with mgmt := { s.mgmt with ports := s.mgmt.ports.set c.val { s.mgmt.ports[c.val] with wakeLine := true } } }
  (s.cinc c .LPI_WAKECNT_COUNT).cs c .LPI_EVT_WAKE_LINE 1

/-- The channel has a sleep transaction that can complete (R150): a vendor one past its commit point, a TC10 one that has
been accepted. -/
def State.sleepDue (s : State) (c : Ch) : Bool :=
  s.lpiRuns c && s.linkLive c && (s.ch c).lpi.sleep.isSome &&
    (if tc10Type (s.cg c .PCS_CTL_TYPE) then 2 ≤ s.cg c .LPI_STAT_SLP_PHASE else s.sleepFence c)

/-- A sleep that meets a wake in its cycle is aborted (R22). -/
def State.sleepAborted (s : State) (c : Ch) (w : CycWake) : State :=
  let s := (s.cs c .LPI_EVT_SLEEP_ABORTED_WAKE 1).cs c .LPI_STAT_SLP_PHASE 0
  let s := (s.updLpi c fun l => { l with sleep := none }).hush c
  match w with
  | .line => s.countWake c
  | .command => s

/-- SLEEP_ENTER (R22, R150 step 5, R151): at frame F, or as TC10 completes, the driver goes quiet, link control rests in
STOP and the channel enters SLEEP. A criterion of link loss met in the same cycle, by its cause, comes before a wake and
before the sleep. A wake in the same cycle aborts the sleep: the channel stays UP or, where the driver has stopped, enters
TRAINING. Whether a TC10 driver has stopped by then is free. -/
def execSleepEnter (c : Ch) (wake : Option CycWake) (loss : Option (Fin 256)) (s : State) : Host.Outcome State Fault Refusal :=
  if !s.sleepDue c then ok s else
  match loss, wake with
  | some k, w =>
    let s := match w with
      | some w => s.sleepAborted c w
      | none => s
    ok (s.critLoss c k.val)
  | none, some w =>
    let s := s.sleepAborted c w
    if tc10Type (s.cg c .PCS_CTL_TYPE) then
      let r := s.fresh 1
      if r.1 = 1 then
        let s := r.2.updDiag c fun d => { d with iv := { d.iv with up := false } }
        ok (((s.endLine c).toStop c).wakeStart c)
      else ok r.2
    else ok s
  | none, none =>
    let s := s.updDiag c fun d => { d with iv := { d.iv with up := false } }
    let s := ((s.endLine c).toStop c).setSub c .sleep
    let s := s.updLpi c fun l => { l with waking := false }
    ok ((s.cs c .LPI_STAT_SLP_PHASE 4).cs c .LPI_EVT_SLEEP_DONE 1)

/-! ### Wake (R152) -/

/-- WAKE (R150, R152): in SLEEP the wake signal starts; before the commit point of a sleep transaction it cancels it;
otherwise it is ignored. Readings: log entry 39 (DEDUCED). -/
def State.wakeCmd (s : State) (c : Ch) : State :=
  let x := s.ch c
  if x.sub = .sleep && !x.lpi.waking then
    let s := if tc10Type (s.cg c .PCS_CTL_TYPE) then s.sendTc10 c .wakeUp else s
    s.updLpi c fun l => { l with waking := true }
  else if s.sleepOpen c then s.sleepCancel c 6
  else s.lpiRej c

/-- WAKE_SIGNAL_END (R152): t_WUPTX has passed, and link control proceeds as if START had been written. -/
def execWakeSignalEnd (c : Ch) (s : State) : Host.Outcome State Fault Refusal :=
  if s.lpiRuns c && (s.ch c).sub = .sleep && (s.ch c).lpi.waking then ok (s.wakeStart c) else ok s

/-- A wake qualified on the line of a channel in SLEEP (R152). Readings: log entry 39 (DEDUCED). -/
def State.lineWake (s : State) (c : Ch) : State := (s.countWake c).wakeStart c

/-- LINE_WAKE_QUALIFY (R152, R153, R297, R303): in SLEEP the channel goes to TRAINING; with the pads held, an enabled wake
is Taproot's, and in Active it votes for the channel's domain. -/
def execLineWakeQualify (c : Ch) (s : State) : Host.Outcome State Fault Refusal :=
  let en := (s.dg .TAP_LWAKEEN_LINE).testBit c.val
  match s.power.mode with
  | .dormant | .standby => ok (if en then s.tapWake 3 c.val 0 else s)
  | .off | .boot | .service | .safe | .lockedOut =>
    if s.lpiRuns c && (s.ch c).sub = .sleep && !isSeg c then ok (s.lineWake c) else ok s
  | .active =>
    if s.lpiRuns c && (s.ch c).sub = .sleep && !isSeg c then ok (s.lineWake c)
    else if en && (s.ch c).pst = .off then ok (((s.tapWake 3 c.val 0).voteBit c 5 true).voteChanged c)
    else ok s

/-- TC10_MESSAGE_RECEIVE (R148, R150, R152): a request is answered as ACCEPT says, also one that crosses this end's own;
an answer carries this end's own request on, and the wake-up pulse wakes a channel in SLEEP. A rejection carries no
reason, so REASON is free. Readings: log entry 39 (DEDUCED). -/
def execTc10MessageReceive (c : Ch) (m : Tc10) (s : State) : Host.Outcome State Fault Refusal :=
  let x := s.ch c
  let live := !isSeg c && s.lpiRuns c && tc10Type (s.cg c .PCS_CTL_TYPE) && s.linkLive c
  match m with
  | .sleepReq =>
    if !live then ok s else
    let s := s.txExit c
    if !s.cb c .LPI_SLPCFG_ACCEPT then ok (s.sendTc10 c .sleepRej)
    else
      let s := s.sendTc10 c .sleepAck
      ok (if s.sleepFence c then s
        else if (s.ch c).lpi.sleep.isSome then s.cs c .LPI_STAT_SLP_PHASE 2 else s.sleepBegin c false 0 2)
  | .sleepAck =>
    if live && x.lpi.sleep.isSome && s.cg c .LPI_STAT_SLP_PHASE = 1 then ok (s.cs c .LPI_STAT_SLP_PHASE 2) else ok s
  | .sleepRej =>
    if live && x.lpi.sleep.isSome && s.cg c .LPI_STAT_SLP_PHASE = 1 then
      let r := s.fresh 4
      ok (r.2.sleepFail c r.1)
    else ok s
  | .complete =>
    if live && s.sleepOpen c && s.cg c .LPI_STAT_SLP_PHASE = 2 then
      ok ((s.updSleep c fun t => { t with go := some 0 }).cs c .LPI_STAT_SLP_PHASE 3)
    else ok s
  | .wakeUp =>
    if s.lpiRuns c && !isSeg c && x.sub = .sleep && tc10Type (s.cg c .PCS_CTL_TYPE) then ok (s.lineWake c) else ok s

/-! ### Pads and the command register -/

/-- The mode holds the pads of every channel (R17, R153): in Standby and in Boot. -/
def State.padsHeld (s : State) : Bool :=
  match s.power.mode with
  | .active | .service | .safe => false
  | .off | .dormant | .standby | .boot | .lockedOut => true

/-- PAD_RELEASE (R153, R154): ignored in OFF, with the pads released, and in Standby and Boot, where R153 holds them (DEDUCED, log entry 39).
The termination is then that of `State.segTerm`. -/
def State.padRelease (s : State) (c : Ch) : State :=
  let x := s.ch c
  if x.sub = .off || !x.pad.held || s.padsHeld then s.lpiRej c
  else s.updCh c fun x => { x with pad := { x.pad with held := false, term := false } }

/-- A write of `LPI_CMD` (R22, R150 to R154): each command acts. SLEEP and WAKE in one write abort the sleep for the
wake. On a segment channel only PAD_RELEASE is implemented. Readings: log entry 39 (DEDUCED). -/
def State.lpiCmd (s : State) (c : Ch) (v : Nat) : State :=
  let s := if isSeg c then s
    else if v.testBit 0 && v.testBit 1 then
      if (s.ch c).sub = .sleep || s.sleepOpen c then (s.lpiRej c).wakeCmd c
      else s.cs c .LPI_EVT_SLEEP_ABORTED_WAKE 1
    else if v.testBit 0 then s.sleepCmd c
    else if v.testBit 1 then s.wakeCmd c else s
  if v.testBit 2 then s.padRelease c else s

end Sys2Proof.Machine
end

