-- ==== Sys2Proof/Machine/Line.lean ====
section
/-! DEFINITION. The line interface: loopbacks and test modes (R53), saturation (R50), FEC (R51, R52), XT50 alignment (R43)
and OAM (R44); and the signal-quality window with all that it decides (R65, R70, R72, R95, R104, R127). -/

namespace Sys2Proof.Machine

/-! ### Loopbacks and test modes (R53 to R55) -/

/-- An AFE loopback write is ignored. -/
def State.afeRej (s : State) (c : Ch) : State := s.cs c .AFE_STAT_LOOP_REJ 1

/-- Loopbacks and test modes may be turned on (R53): in MAINT, and not in the cycle in which the channel leaves it. -/
def State.inMaint (s : State) (c : Ch) : Bool := (s.ch c).sub = .maint && !s.cyc.leave

/-- The LOOP field of an `AFE_CTL` write (R53, R54): 0 is always accepted; a loopback only in MAINT and with the PCS
loopback off. Entry to connector loopback clears the echo-canceller taps (R68). -/
def State.loopWrite (s : State) (c : Ch) (m : Nat) : State :=
  if m = 0 then s.cs c .AFE_CTL_LOOP 0
  else if m = 3 || !s.inMaint c || s.cb c .PCS_CTL_PCS_LOOP then s.afeRej c
  else
    let was := s.cg c .AFE_CTL_LOOP
    let s := s.cs c .AFE_CTL_LOOP m
    if m = 2 && was ≠ 2 then s.clearEc c else s

/-- A write of `AFE_CTL` lands (R50, R53, R54). ADC_EN going to 1 starts the sample blocks and the update blocks.
Readings: log entry 27 (DEDUCED). -/
def State.afeCtl (s : State) (c : Ch) (v : Nat) : State :=
  let on := !s.cb c .AFE_CTL_ADC_EN && v.testBit 7
  let s := (s.cs c .AFE_CTL_ADC_EN (bits v 7 7)).cs c .AFE_CTL_HYB_EN (bits v 6 6)
  let s := if on then
      let n := s.cg c .AFE_SATCFG_SAT_N
      (s.updLine c fun l => { l with satN := n }).updRx c fun r => { r with block := 0 }
    else s
  let s := if v % 4 = 3 then s else s.cs c .AFE_CTL_DRV_MODE (v % 4)
  s.loopWrite c (bits v 5 4)

/-- A PCS_LOOP, SCR_BYPASS or TESTMODE write is ignored. -/
def State.pcsRej (s : State) (c : Ch) : State := s.cs c .PCS_STAT_LOOP_REJ 1

/-- The PCS_LOOP bit of a `PCS_CTL` write (R53). -/
def State.pcsLoop (s : State) (c : Ch) (b : Bool) : State :=
  if !b then s.cs c .PCS_CTL_PCS_LOOP 0
  else if !s.inMaint c || s.cg c .AFE_CTL_LOOP ≠ 0 then s.pcsRej c
  else s.cs c .PCS_CTL_PCS_LOOP 1

/-- The SCR_BYPASS bit of a `PCS_CTL` write (R53). -/
def State.scrBypass (s : State) (c : Ch) (b : Bool) : State :=
  if !b then s.cs c .PCS_CTL_SCR_BYPASS 0
  else if !s.inMaint c then s.pcsRej c else s.cs c .PCS_CTL_SCR_BYPASS 1

/-- The RW bits of a `PCS_CTL` write land (R53, R55). -/
def State.pcsCtl (s : State) (c : Ch) (v : Nat) : State := (s.pcsLoop c (v.testBit 10)).scrBypass c (v.testBit 11)

/-- The active type has PMA test mode `m` (R37, R55). Those of 25GBASE-T1, which the spec leaves to its clause, are taken
as 1 to 7 (PRESUMED, log entry 31). -/
def testModeOf (typ m : Nat) : Bool :=
  match typ with
  | 1 => m = 1 || m = 2 || m = 4 || m = 5
  | 2 => m = 1 || m = 2 || (4 ≤ m && m ≤ 7)
  | 3 | 4 | 5 | 6 => 1 ≤ m && m ≤ 7
  | _ => false

/-- A write of `PCS_TESTMODE` lands (R53, R55). -/
def State.testMode (s : State) (c : Ch) (v : Nat) : State :=
  let m := v % 16
  if m = 0 then s.cs c .PCS_TESTMODE_MODE 0
  else if !s.inMaint c || !testModeOf (s.cg c .PCS_CTL_TYPE) m then s.pcsRej c
  else s.cs c .PCS_TESTMODE_MODE m

/-! ### Saturation (R50) -/

/-- A saturation event enters the open window, or opens one. -/
def State.satEvent (s : State) (c : Ch) : State :=
  let s := (s.cinc c .AFE_SATCNT_SAT_EVENTS).cs c .AFE_STAT_SAT 1
  let w := match (s.ch c).line.satWin with
    | some (t, n, done) => if s.now < t + 25000 then (t, n + 1, done) else (s.now, 1, false)
    | none => (s.now, 1, false)
  let f := s.cg c .AFE_SATCFG_SAT_FAULT
  let hit := f ≠ 0 && decide (f ≤ w.2.1) && !w.2.2
  let s := s.updLine c fun l => { l with satWin := some (w.1, w.2.1, w.2.2 || hit) }
  if hit then s.assertSrc (.ch c 0) 0 0 else s

/-- SAT_BLOCK_END (R50): a block of 1,024 samples ends with `fullScale` of them at full scale; the next one runs under the
SAT_N of now. Readings: log entry 27 (DEDUCED). -/
def execSatBlockEnd (c : Ch) (fullScale : Nat) (s : State) : Host.Outcome State Fault Refusal :=
  if !(s.clocked c .afe && s.cb c .AFE_CTL_ADC_EN) then ok s else
  let n := (s.ch c).line.satN
  let s := if n ≠ 0 && decide (n ≤ fullScale) then s.satEvent c else s
  let m := s.cg c .AFE_SATCFG_SAT_N
  ok (s.updLine c fun l => { l with satN := m })

/-! ### FEC (R51, R52) -/

/-- The type a channel receives: the one in training, or the active one. -/
def State.rxType (s : State) (c : Ch) : Nat :=
  if (s.ch c).link.st = .train then (s.ch c).link.typ else s.cg c .PCS_CTL_TYPE

/-- The channel receives FEC codewords: its type has FEC, and it trains, carries data or runs a loopback. XT50 has
codewords from X_CHECK on (R93). -/
def State.fecRuns (s : State) (c : Ch) : Bool :=
  let x := s.ch c
  let typ := s.rxType c
  !isSeg c && s.clocked c .pcs && decide (2 ≤ typ) && decide (typ ≤ 7) &&
  (match x.link.st with
    | .up | .shift => true
    | .train => typ ≠ 7 || x.link.x = .check
    | .stop => x.sub = .maint
    | .an | .holdoff => false)

/-- A codeword enters the burst window (R52): the fields in force are those of the window's first codeword. -/
def State.burst (s : State) (c : Ch) (bad : Bool) : State :=
  let w := max 1 (s.cg c .PCS_BURSTCFG_BURST_WIN)
  let n := s.cg c .PCS_BURSTCFG_BURST_N
  let s := s.updLine c fun l =>
    if l.cw = 0 || l.burstWin ≤ l.cw then
      { l with cw := 1, unc := b2n bad, burstDone := false, burstWin := w, burstN := n }
    else { l with cw := l.cw + 1, unc := l.unc + b2n bad }
  let l := (s.ch c).line
  if l.burstN ≠ 0 && decide (l.burstN ≤ l.unc) && !l.burstDone then
    let s := (s.updLine c fun l => { l with burstDone := true }).cs c .PCS_STAT_FEC_BURST 1
    s.assertSrc (.ch c 3) 0 l.unc
  else s

/-- The symbols the decoder of a type corrects in a codeword (R41): 15 in XT50; the other types' codes are their
clauses'. -/
def fecLimit (typ : Nat) : Nat := match typ with | 7 => 15 | 2 => 22 | _ => 17

/-- FEC_CODEWORD_DECODE (R41, R51, R52, R104, R136): a codeword has been decoded with `errs` symbols in error, or
is uncorrectable: with more than the code corrects, too. Readings: log entry 27 (DEDUCED). -/
def execFecCodewordDecode (c : Ch) (errs : Option Nat) (s : State) : Host.Outcome State Fault Refusal :=
  if !s.fecRuns c then ok s else
  let corrected := errs.filter fun n => decide (n ≤ fecLimit (s.rxType c))
  let s := s.cinc c .PCS_FEC_CW_COUNT
  let s := if s.rxType c = 7 then s else s.cinc c .PCS_FRCOUNT_RX_FR
  let s := match corrected with
    | some n =>
      let s := if n = 0 then s else (s.cinc c .PCS_FEC_CORRCW_COUNT).cinc c .PCS_FEC_CORRSYM_COUNT n
      (s.updLine c fun l => { l with sinceUnc := min 144 (l.sinceUnc + 1) }).updDiag c fun d =>
        { d with iv := { d.iv with corr := d.iv.corr + n } }
    | none =>
      ((s.cinc c .PCS_FEC_UNCORR_COUNT).updLine c fun l => { l with sinceUnc := 0 }).updDiag c fun d =>
        { d with iv := { d.iv with unc := d.iv.unc + 1 } }
  ok ((s.burst c corrected.isNone).shiftQualify c)

/-- FEC_BURST_WINDOW_END (R52): BURST_WIN codewords have been received and the next window begins with the next one. -/
def execFecBurstWindowEnd (c : Ch) (s : State) : Host.Outcome State Fault Refusal :=
  let l := (s.ch c).line
  if s.clocked c .pcs && decide (l.burstWin ≤ l.cw) then
    ok (s.updLine c fun l => { l with cw := 0, unc := 0, burstDone := false })
  else ok s

/-! ### XT50 alignment and OAM (R43, R44) -/

/-- The receiver looks for XT50 superframes: it is in X_CHECK, or in data mode of that type. -/
def State.xtRx (s : State) (c : Ch) : Bool := s.fecRuns c && s.rxType c = 7

/-- ALIGNMENT_SEARCH (R43, R95, R146): an expected position of the marker has been compared, with `wrongBits` bits that
differ. The search comes before FEC decoding, so that an uncorrectable codeword does not unmatch its marker. The positions
of quiet superframes are not expected ones. Readings: log entry 27 (DEDUCED). -/
def execAlignmentSearch (c : Ch) (wrongBits : Nat) (s : State) : Host.Outcome State Fault Refusal :=
  let quiet := s.cb c .LPI_STAT_RX_LPI && (s.ch c).lpi.rxQuiet
  if !s.xtRx c || quiet then ok s else
  let hit := decide (wrongBits ≤ 20)
  let l := (s.ch c).line
  let s := if hit then s.updLpi c fun l => { l with refHit := true } else s
  if s.cb c .PCS_STAT_ALIGNED then
    if hit then ok (s.updLine c fun l => { l with miss := 0 })
    else if l.miss + 1 < 3 then ok (s.updLine c fun l => { l with miss := l.miss + 1 })
    else
      let s := (s.updLine c fun l => { l with miss := 0, hit := false }).cs c .PCS_STAT_ALIGNED 0
      ok (s.critLoss c 0x20)
  else if hit && l.hit then
    ok (((s.updLine c fun l => { l with hit := false, miss := 0 }).cs c .PCS_STAT_ALIGNED 1).shiftQualify c)
  else ok (s.updLine c fun l => { l with hit := hit })

/-- The CRC of an OAM field (R44). -/
def oamOk (o : List Byte) : Bool := o.length = 128 && leBytes (crc32c (o.take 124)) = o.drop 124

/-- OAM_FIELD_RECEIVE (R44, R51, R55): a field whose CRC fails is discarded whole, and so is one whose codeword, the last
one decoded, is uncorrectable. Readings: log entry 27 (DEDUCED). -/
def execOamFieldReceive (c : Ch) (octets : List Byte) (s : State) : Host.Outcome State Fault Refusal :=
  if s.xtRx c && s.cb c .PCS_STAT_ALIGNED && oamOk octets && (s.ch c).line.sinceUnc ≠ 0 then
    let s := s.updLine c fun l => { l with oam := octets }
    ok (s.cs c .PCS_FRCOUNT_RX_FR ((octets.getD 0 0).toNat + 256 * (octets.getD 1 0).toNat))
  else ok s

/-! ### The signal-quality window (R70) -/

/-- SQI after a window with a valid SNR in UP (R127): it falls at once, and rises only after a second window in a row
with a higher candidate, to the lower of the two. Readings: log entry 28 (DEDUCED). -/
def State.sqiStep (s : State) (c : Ch) (snr : Nat) : State :=
  let k := sqiCand (s.cg c .PCS_CTL_TYPE) snr
  let d := (s.ch c).diag
  let n := if k < d.sqi then k
    else if d.sqi < k then
      match d.sqiPend with
      | some p => min p k
      | none => d.sqi
    else d.sqi
  let pend := if n < k then some k else none
  let lim := s.cg c .DIAG_PREDCFG_PRED_SQI
  let s := s.updDiag c fun d => { d with sqi := n, sqiPend := pend }
  if lim ≤ d.sqi && n < lim then s.cs c .DIAG_EVT_SQI_LOW 1 else s

/-- The extremes of SQI and SNR (those of every valid window, TRAINING's among them), and what the trend interval
gathers (R127, R136). Readings: log entry 28 (DEDUCED). -/
def State.sqiTrack (s : State) (c : Ch) (snr : Nat) : State :=
  let s := s.cs c .DIAG_SNRTRK_MIN (min snr (s.cg c .DIAG_SNRTRK_MIN))
  let s := s.cs c .DIAG_SNRTRK_MAX (max snr (s.cg c .DIAG_SNRTRK_MAX))
  if !s.sqiValid c then s else
  let q := s.sqiNow c
  let s := s.cs c .DIAG_SQI_WORST (min q (s.cg c .DIAG_SQI_WORST))
  s.updDiag c fun d => { d with iv := { d.iv with
    snrSum := d.iv.snrSum + snr, snrCnt := d.iv.snrCnt + 1, snrMin := min d.iv.snrMin snr, sqiMin := min d.iv.sqiMin q } }

/-- The SNR criterion of the divergence monitor (R72): the windows below it in a row, and whether it is met. -/
def State.divWindow (s : State) (c : Ch) (snr : Nat) : Bool × State :=
  let drop := s.cg c .DSP_DIVCFG_DROP
  let low := match (s.ch c).dsp.snap with
    | some k => (s.ch c).sub = .up && drop ≠ 0 && decide (snr + 8 * drop < k.snr)
    | none => false
  let n := if low then (s.ch c).rx.divRun + 1 else 0
  (low && decide (max 1 (s.cg c .DSP_DIVCFG_DIV_N) ≤ n), s.updRx c fun r => { r with divRun := n })

/-- The SNR criterion of link loss (R95): the windows below it in a row, and whether it is met. -/
def State.lossWindow (s : State) (c : Ch) (snr : Nat) : Bool × State :=
  let low := s.linkLive c && decide (snr < s.cg c .LINK_LOSSCFG_SNR_MIN)
  let n := if low then (s.ch c).rx.lossRun + 1 else 0
  let due := low && decide (max 1 (s.cg c .LINK_LOSSCFG_LOSS_N) ≤ n)
  (due, s.updRx c fun r => { r with lossRun := if due then 0 else n })

/-- What a window's SNR asserts, a divergence and a link loss, in the order of R334. -/
def State.windowFaults (s : State) (c : Ch) (div loss : Bool) : State :=
  let l : List (Fin 12) := (if div then [2] else []) ++ if loss then [4] else []
  (byClass (fun k => s.classOfSrc (.ch c k)) l).foldl (fun s k => if k = 2 then s.diverge c 0 else s.critLoss c 0x30) s

/-- Timing-recovery lock as the window found it (R65). -/
def State.setLock (s : State) (c : Ch) (b : Bool) : State :=
  let s := if s.cb c .DSP_TRSTAT_LOCK && !b then s.cs c .DSP_TRSTAT_LOCK_LOST 1 else s
  s.cs c .DSP_TRSTAT_LOCK (b2n b)

/-- A window that began after entry to TRAINING makes the SNR valid (R70), and one that began after a switch can qualify
a shift (R104). -/
def State.mseValid (s : State) (c : Ch) (snr : Nat) : State :=
  match (s.ch c).sub with
  | .training | .up | .lpi =>
    if (s.ch c).rx.mseSkip then s.updRx c fun r => { r with mseSkip := false }
    else
      let q := decide (s.cg c .LINK_SHIFTCFG_RESUME_SNR ≤ snr)
      (s.cs c .DSP_MSE_VALID 1).updShift c fun h => { h with snrOk := h.snrOk || (h.switched && q) }
  | .off | .idle | .sleep | .maint | .quarantine => s

/-- MSE_WINDOW_END (R65, R66, R70, R72, R92, R95, R104, R127): 2^MSE_WIN update blocks have passed, so a signal-quality
window ends: its SNR is that of its slicer errors, and timing recovery is locked or not by its phase errors. SQI counts
the windows of UP only, so that those of TRAINING make it rise no sooner (DEDUCED, log entry 28). -/
def execMseWindowEnd (c : Ch) (s : State) : Host.Outcome State Fault Refusal :=
  let r := (s.ch c).rx
  if !s.dspRuns c || decide (r.winN < 2 ^ s.cg c .DSP_CTL_MSE_WIN) then ok s else
  let q := s.snrOf (3 ≤ s.rxType c) r.winN r.winErr
  let snr := q.1
  let s := q.2.updRx c fun r => { r with winN := 0, winErr := 0, winPd := 0 }
  let s := ((s.cs c .DSP_MSE_SNR snr).setLock c r.phaseOk).mseValid c snr
  let s := if s.cb c .DSP_MSE_VALID && s.clocked c .diag then
      (if (s.ch c).sub = .up then s.sqiStep c snr else s).sqiTrack c snr
    else s
  let d := s.divWindow c snr
  let l := ((d.2.xEval c).shiftQualify c).lossWindow c snr
  ok (l.2.windowFaults c d.1 l.1)

end Sys2Proof.Machine
end

