-- ==== Sys2Proof/Machine/Flow.lean ====
section
/-! DEFINITION. Flow contexts: keys and hash (R204, R205), the command engine (R207), lookup, stream filter and meter (R206,
R209 to R213). -/

namespace Sys2Proof.Machine

/-! ### Frames as octets -/

/-- Octet `i` of a frame. -/
def oct (l : List Byte) (i : Nat) : Nat := (l.getD i 0).toNat

/-- Octets `i` to `i + n - 1`, most significant first. -/
def octs (l : List Byte) (i n : Nat) : Nat := (List.range n).foldl (fun a j => a * 256 + oct l (i + j)) 0

/-- What the flow engine reads of a frame (R204): `pay` is the offset of the first payload octet. -/
structure Hdr where
  da : Nat
  etype : Nat
  vid : Nat
  pcp : Nat
  tagged : Bool
  dei : Bool
  pay : Nat
  deriving DecidableEq, Repr

/-- A VLAN TPID (R204). -/
def isTpid (v : Nat) : Bool := v = 0x8100 || v = 0x88A8

/-- Reads a frame's header, past at most two tags (R204). -/
def parse (l : List Byte) : Hdr :=
  let t0 := isTpid (octs l 12 2)
  let t1 := t0 && isTpid (octs l 16 2)
  let n := 12 + 4 * (b2n t0 + b2n t1)
  let tci := if t0 then octs l 14 2 else 0
  ⟨octs l 0 6, octs l n 2, tci % 4096, tci / 8192, t0, tci.testBit 12, n + 2⟩

/-- The key of a frame. -/
def Hdr.key (h : Hdr) (egress : Bool) : CtxKey := ⟨h.da, h.etype, h.vid, h.pcp, h.tagged, egress⟩

/-! ### Key and hash (R205) -/

/-- The `n` octets of a number, most significant first. -/
def beBytes (n v : Nat) : List Byte := (List.range n).map fun i => BitVec.ofNat 8 (v / 256 ^ (n - 1 - i))

/-- The key string K under KEYMASK. -/
def CtxKey.bytes (k : CtxKey) (km : Nat) : List Byte :=
  let tag := (if km.testBit 2 then k.pcp * 8192 else 0) + if km.testBit 1 then b2n k.tagged * 4096 + k.vid else 0
  beBytes 6 (if km.testBit 0 then k.da else 0) ++ beBytes 2 (if km.testBit 3 then k.etype else 0) ++ beBytes 2 tag ++
    beBytes 1 (b2n k.egress) ++ beBytes 1 0

/-- The seed of a way. -/
def waySeed (w : Nat) : BitVec 32 :=
  match w with
  | 0 => 0xFFFFFFFF#32
  | 1 => 0x3C5A96E1#32
  | 2 => 0x81D42B7F#32
  | _ => 0xE7F05C38#32

/-- The hash of a key string for a way. -/
def wayHash (w : Nat) (k : List Byte) : Nat := (k.foldl crcByte (waySeed w) ^^^ 0xFFFFFFFF#32).toNat

/-- The contexts of a channel (R203). -/
def ctxCount (c : Ch) : Nat :=
  match classOf c with | .trunk => 2560 | .branch => 1024 | .segment => 512

/-- The four candidates of a key string. -/
def candidates (c : Ch) (k : List Byte) : List Nat :=
  (List.range 4).map fun w => w * (ctxCount c / 4) + wayHash w k % (ctxCount c / 4)

/-! ### The meter (R27, R211, R212) -/

/-- Brings both buckets up to tick `t`. -/
def Meter.refresh (m : Meter) (t : Nat) : Meter :=
  let dt := t - m.last
  let cmax := m.cbs * 65536
  let c := m.ct + m.cir * dt
  let spill := if m.cf then c - cmax else 0
  { m with ct := min c cmax, et := min (m.et + m.eir * dt + spill) (m.ebs * 65536), last := t }

/-- The meter's verdict. -/
inductive Colour where
  | green | yellow | red
  deriving DecidableEq, Repr

/-- Meters a frame of `len` octets at tick `t`; `yel` is its DEI where the meter may heed it. -/
def Meter.run (m : Meter) (t len : Nat) (yel : Bool) : Colour × Meter :=
  let m := m.refresh t
  let need := len * 65536
  let r : Colour × Meter :=
    if m.markRed then (.red, m)
    else if !(m.cm && yel) && decide (need ≤ m.ct) then (.green, { m with ct := m.ct - need })
    else if need ≤ m.et then (.yellow, { m with et := m.et - need })
    else (.red, m)
  let k := if r.1 = .yellow && m.dropYellow then .red else r.1
  (k, if k = .red && m.markRedEn then { r.2 with markRed := true } else r.2)

/-- The update that a frame leaves on the meter as it stands, where the record `old` judged it at tick `t` and went to `new`
(R208): the buckets brought up to then, the tokens taken, and MARK_RED where it was set. -/
def Meter.take (m : Meter) (t : Nat) (old new : Meter) : Meter :=
  let b := old.refresh t
  let m := m.refresh (max t m.last)
  { m with ct := m.ct - (b.ct - new.ct), et := m.et - (b.et - new.et), markRed := m.markRed || (new.markRed && !old.markRed) }

/-! ### Records -/

/-- The parameters of words 5 to 8 of a staged record (R204), with buckets and LAST as given. -/
def Meter.ofStage (l : List Nat) (ct et last : Nat) : Meter :=
  let w := fun i => l.getD i 0
  { cir := w 5, eir := w 6, cbs := w 7 % 2 ^ 24, ebs := w 8 % 2 ^ 24, cf := (w 7).testBit 24, cm := (w 7).testBit 25
    dropYellow := (w 7).testBit 26, markRedEn := (w 7).testBit 27, markRed := (w 7).testBit 28, en := (w 7).testBit 29
    ct := ct, et := et, last := last }

/-- Full buckets, with LAST at tick `t` (R207). -/
def Meter.refill (m : Meter) (t : Nat) : Meter := { m with ct := m.cbs * 65536, et := m.ebs * 65536, last := t }

/-- The key of a staged record. -/
def stageKey (l : List Nat) : CtxKey :=
  let w := fun i => l.getD i 0
  ⟨w 0 + w 1 % 65536 * m32, w 1 / 65536, w 2 % 4096, bits (w 2) 14 12, (w 2).testBit 15, (w 2).testBit 16⟩

/-- Word 4 of a staged record but for VALID and CAM, written into a record. -/
def Ctx.word4 (x : Ctx) (w : Nat) : Ctx :=
  { x with action := bits w 29 28, tsClass := bits w 27 26, msBypass := w.testBit 25, sc := bits w 23 16, maxSdu := w % 65536 }

/-- The record that INSERT makes of a staged one (R207). -/
def Ctx.ofStage (l : List Nat) (cam : Bool) (t : Nat) : Ctx :=
  Ctx.word4
    { key := stageKey l, handle := l.getD 3 0 % 65536, cam := cam, action := 0, tsClass := 0, msBypass := false, sc := 0
      maxSdu := 0, meter := (Meter.ofStage l 0 0 t).refill t, frames := 0, octets := 0, yellow := 0, red := 0, drops := 0 }
    (l.getD 4 0)

/-- A word of a record (R204). -/
def Ctx.word (x : Ctx) (w : Nat) : Nat :=
  let m := x.meter
  match w with
  | 0 => x.key.da % m32
  | 1 => x.key.da / m32 + x.key.etype * 65536
  | 2 => x.key.vid + x.key.pcp * 4096 + b2n x.key.tagged * 32768 + b2n x.key.egress * 65536
  | 3 => x.handle
  | 4 => 2 ^ 31 + b2n x.cam * 2 ^ 30 + x.action * 2 ^ 28 + x.tsClass * 2 ^ 26 + b2n x.msBypass * 2 ^ 25 + x.sc * 65536 + x.maxSdu
  | 5 => m.cir
  | 6 => m.eir
  | 7 => m.cbs + b2n m.cf * 2 ^ 24 + b2n m.cm * 2 ^ 25 + b2n m.dropYellow * 2 ^ 26 + b2n m.markRedEn * 2 ^ 27 +
      b2n m.markRed * 2 ^ 28 + b2n m.en * 2 ^ 29
  | 8 => m.ebs
  | 9 => m.ct % m32
  | 10 => m.ct / m32 + m.et / m32 * 65536
  | 11 => m.et % m32
  | 12 => m.last % m32
  | 13 => x.frames % m32
  | 14 => x.frames / m32
  | 15 => x.octets % m32
  | 16 => x.octets / m32
  | 17 => x.yellow
  | 18 => x.red
  | 19 => x.drops
  | _ => 0

/-! ### The context store -/

/-- The context with an index. -/
def FrameSt.ctx (f : FrameSt) (i : Nat) : Option Ctx := f.ctxs.lookup i

/-- Writes a context, which gives it fresh ECC (R209). -/
def FrameSt.setCtx (f : FrameSt) (i : Nat) (x : Ctx) : FrameSt :=
  { f with ctxs := (i, x) :: f.ctxs.filter fun p => p.1 ≠ i, bad := f.bad.filter fun b => b.cam || b.idx ≠ i }

/-- A record moves to a free place with its meter, its counters and its uncorrectable words: only an UPDATE or a DELETE
rewrites one with fresh ECC (R208, R209). -/
def FrameSt.moveCtx (f : FrameSt) (i j : Nat) : FrameSt :=
  match f.ctx i with
  | some x => { f with
      ctxs := (j, x) :: f.ctxs.filter fun p => p.1 ≠ j && p.1 ≠ i
      bad := (f.bad.filter fun b => b.cam || b.idx ≠ j).map fun b => if !b.cam && b.idx = i then { b with idx := j } else b }
  | none => f

/-- Word `w` of context `i` has an uncorrectable error, and reads 0 (R227). -/
def FrameSt.badWord (f : FrameSt) (i w : Nat) : Bool := f.bad.any fun b => !b.cam && b.idx = i && b.word.val = w

/-- An uncorrectable word appears. -/
def FrameSt.spoil (f : FrameSt) (b : EccAt) : FrameSt := { f with bad := b :: f.bad.filter (· ≠ b) }

/-- Changes a context's meter or counters. -/
def FrameSt.updCtx (f : FrameSt) (i : Nat) (g : Ctx → Ctx) : FrameSt :=
  { f with ctxs := f.ctxs.map fun p => if p.1 = i then (i, g p.2) else p }

/-- Empties a context and frees its CAM entry (R207). -/
def FrameSt.delCtx (f : FrameSt) (i : Nat) : FrameSt :=
  let gone := (f.cam.filter fun p => p.2 = i).map Prod.fst
  { f with
    ctxs := f.ctxs.filter fun p => p.1 ≠ i
    cam := f.cam.filter fun p => p.2 ≠ i
    bad := f.bad.filter fun b => if b.cam then !gone.contains b.idx else b.idx ≠ i }

/-- The record that matches a key string (R206). -/
def FrameSt.find (f : FrameSt) (km : Nat) (k : List Byte) : Option (Nat × Ctx) :=
  f.ctxs.find? fun p => p.2.key.bytes km = k

/-! ### INSERT (R207) -/

/-- The paths one displacement longer than those of a level: those that end in a free context, and those that go on. A
record that is CAM-held is not moved. -/
def FrameSt.pathStep (f : FrameSt) (c : Ch) (km : Nat) (level : List (List Nat)) : List (List Nat) × List (List Nat) :=
  let next := level.flatMap fun p => match f.ctx (p.getLast?.getD 0) with
    | some x => ((candidates c (x.key.bytes km)).filter fun j => !p.contains j).map fun j => p ++ [j]
    | none => []
  let last := fun p : List Nat => f.ctx (p.getLast?.getD 0)
  (next.filter fun p => (last p).isNone, next.filter fun p => match last p with
    | some x => !x.cam
    | none => false)

/-- The shortest paths of at most `n` displacements. -/
def FrameSt.paths (f : FrameSt) (c : Ch) (km : Nat) : Nat → List (List Nat) → List (List Nat)
  | 0, _ => []
  | n + 1, level =>
    let r := f.pathStep c km level
    if r.1.isEmpty then f.paths c km n r.2 else r.1

/-- One of several equal choices, which the spec leaves open. Readings: log entry 45 (DEDUCED). -/
def State.choose {α : Type} (s : State) (l : List α) : Option α × State :=
  match l with
  | [] => (none, s)
  | [x] => (some x, s)
  | _ => let r := s.fresh 16
    (l[r.1 % l.length]?, r.2)

/-- The moves of a path, last move first (R207, R208). -/
def FrameSt.moves (f : FrameSt) (p : List Nat) : FrameSt :=
  ((p.zip p.tail).reverse).foldl (fun f m => f.moveCtx m.1 m.2) f

/-- Where the record of index `i` stands after the moves of a path. -/
def movedTo (p : List Nat) (i : Nat) : Nat := ((p.zip p.tail).lookup i).getD i

/-- The frame on the line follows its record to another index, or loses it (R208). -/
def State.lineCtx (s : State) (c : Ch) (g : Nat → Option Nat) : State :=
  s.updQ c fun q => { q with line := q.line.map fun l => { l with idx := l.idx.bind g } }

/-- A context command ends (R207): RESULT, INDEX, and BUSY clears. -/
def State.ctxDone (s : State) (c : Ch) (res idx : Nat) : State :=
  ((s.updF c fun f => { f with cmd := none }).cs c .CTX_STAT_RESULT res).cs c .CTX_STAT_INDEX idx

/-- A result without an index of its own, which is then free. -/
def State.ctxNone (s : State) (c : Ch) (res : Nat) : State :=
  let r := s.fresh 12
  r.2.ctxDone c res r.1

/-- INSERT (R207). Which of several free candidates, of several shortest paths or of several CAM entries is taken is
free. Readings: log entry 45 (DEDUCED). -/
def State.ctxInsert (s : State) (c : Ch) (st : List Nat) : State :=
  let km := s.cg c .FRAME_CTL_KEYMASK
  let f := (s.ch c).frame
  let k := (stageKey st).bytes km
  let place := fun (s : State) (i : Nat) (cam : Bool) => s.updF c fun f => f.setCtx i (Ctx.ofStage st cam s.now)
  match f.find km k with
  | some (i, _) => (s.cs c .CTX_STAT_KICKS 0).ctxDone c 1 i
  | none =>
    let cs := candidates c k
    let free := cs.filter fun i => (f.ctx i).isNone
    let start := cs.filter fun i => match f.ctx i with
      | some x => !x.cam
      | none => false
    let ps := if free.isEmpty then f.paths c km 4 (start.map fun i => [i]) else free.map fun i => [i]
    let r := s.choose ps
    match r.1 with
    | some p =>
      let i := p.headD 0
      let s := place ((r.2.updF c fun f => f.moves p).lineCtx c fun j => some (movedTo p j)) i false
      (s.cs c .CTX_STAT_KICKS (p.length - 1)).ctxDone c 0 i
    | none =>
      let ents := (List.range 64).filter fun e => !(f.cam.any fun q => q.1 = e)
      match (List.range (ctxCount c)).find? fun i => (f.ctx i).isNone with
      | none => (s.cs c .CTX_STAT_KICKS 0).ctxNone c 2
      | some i =>
        let e := s.choose ents
        match e.1 with
        | none => (s.cs c .CTX_STAT_KICKS 0).ctxNone c 2
        | some e' =>
          let s := e.2.updF c fun f => { f with cam := (e', i) :: f.cam, bad := f.bad.filter fun b => !(b.cam && b.idx = e') }
          ((place s i true).cs c .CTX_STAT_KICKS 0).ctxDone c 0 i

/-! ### UPDATE, READ and the engine (R207, R213) -/

/-- The groups that WMASK selects, written into a record at tick `t`. MARK_RED is written with bit 0 (R213).
Readings: log entry 45 (DEDUCED). -/
def Ctx.update (x : Ctx) (st : List Nat) (wm t : Nat) : Ctx :=
  let x := if wm.testBit 1 then
      let m := x.meter.refresh t
      let n := { Meter.ofStage st m.ct m.et t with markRed := m.markRed }
      { x with meter := { n with ct := min n.ct (n.cbs * 65536), et := min n.et (n.ebs * 65536) } }
    else x
  let x := if wm.testBit 0 then
      { x.word4 (st.getD 4 0) with meter := { x.meter with markRed := (st.getD 7 0).testBit 28 } }
    else x
  let x := if wm.testBit 2 then { x with meter := x.meter.refill t } else x
  let x := if wm.testBit 3 then { x with frames := 0, octets := 0, yellow := 0, red := 0, drops := 0 } else x
  if wm.testBit 4 then { x with handle := st.getD 3 0 % 65536 } else x

/-- A word of context `i` as it reads (R227): the live word, or 0 where it has an uncorrectable error. -/
def FrameSt.ctxWord (f : FrameSt) (i w : Nat) : Nat :=
  if f.badWord i w then 0 else
  match f.ctx i with
  | some x => x.word w
  | none => 0

/-- READ (R207): copies a record into the stage, as its words read. -/
def State.ctxRead (s : State) (c : Ch) (i : Nat) : State :=
  let f := (s.ch c).frame
  let s := (List.range 32).foldl (fun s w => s.cs c (.CTX_STAGE_WORD w) (f.ctxWord i w)) s
  s.ctxDone c (if f.bad.any fun b => !b.cam && b.idx = i then 5 else 0) i

/-- A write of `CTX_CMD` (R207): ignored while a command runs and with an OP that is none.
Readings: log entry 45 (DEDUCED). -/
def State.ctxCmd (s : State) (c : Ch) (op index wmask : Nat) : State :=
  if (s.ch c).frame.cmd.isSome || op = 0 || 5 < op then s.cs c .FRAME_EVT_CMD_REJ 1
  else
    let st := (List.range 32).map fun w => s.cg c (.CTX_STAGE_WORD w)
    s.updF c fun f => { f with cmd := some ⟨op, index, wmask, st⟩ }

/-- CTX_CMD_COMPLETE (R207, R209): the command takes effect and BUSY clears. `ecc` is a word of the record a READ copies
that it finds uncorrectable. -/
def execCtxCmdComplete (c : Ch) (ecc : Option (Fin 32)) (s : State) : Host.Outcome State Fault Refusal :=
  match (s.ch c).frame.cmd with
  | none => ok s
  | some k =>
    if !s.clocked c .frame then ok s else
    match k.op with
    | 1 => ok (s.ctxInsert c k.stage)
    | 4 => match (s.ch c).frame.find (s.cg c .FRAME_CTL_KEYMASK) ((stageKey k.stage).bytes (s.cg c .FRAME_CTL_KEYMASK)) with
      | some (i, _) => ok (s.ctxDone c 0 i)
      | none => ok (s.ctxNone c 3)
    | op =>
      if ctxCount c ≤ k.index then ok (s.ctxDone c 4 k.index)
      else if op = 5 then
        let s := match ecc with
          | some w => s.updF c fun f => f.spoil ⟨k.index, false, w⟩
          | none => s
        ok (s.ctxRead c k.index)
      else match (s.ch c).frame.ctx k.index with
        | none => ok (s.ctxDone c 3 k.index)
        | some x =>
          let t := s.now
          if op = 2 then ok ((s.updF c fun f => f.setCtx k.index (x.update k.stage k.wmask t)).ctxDone c 0 k.index)
          else
            let s := (s.updF c fun f => f.delCtx k.index).lineCtx c fun j => if j = k.index then none else some j
            ok (s.ctxDone c 0 k.index)

/-- A write of `FRAME_CTL` (R207, R228): a KEYMASK that would change is accepted only with no valid context. -/
def State.frameCtl (s : State) (c : Ch) (v : Nat) : State :=
  let km := bits v 15 12
  let s := ((s.cs c .FRAME_CTL_MAX_LEN (bits v 29 16)).cs c .FRAME_CTL_PTP_AUTO (bits v 1 1)).cs c .FRAME_CTL_MS_EN (v % 2)
  if km = s.cg c .FRAME_CTL_KEYMASK then s
  else if (s.ch c).frame.ctxs.isEmpty then s.cs c .FRAME_CTL_KEYMASK km
  else s.cs c .FRAME_EVT_CMD_REJ 1

/-- METER_REFRESH (R213): a zero-length update, which changes no total. -/
def execMeterRefresh (c : Ch) (index : Nat) (s : State) : Host.Outcome State Fault Refusal :=
  if !s.clocked c .frame then ok s else
  let t := s.now
  ok (s.updF c fun f => f.updCtx index fun x => { x with meter := x.meter.refresh t })

/-! ### Lookup, filter and meter (R206, R209 to R212) -/

/-- What the flow engine decides of a frame: a discard reason, the context it matched, its colour and time-stamp class. -/
structure Flow where
  reason : Option Nat
  idx : Option Nat
  yellow : Bool
  ts : Nat
  deriving DecidableEq, Repr

/-- The bad record or CAM entry that a lookup of a key string reads (R209). -/
def FrameSt.badRead (f : FrameSt) (c : Ch) (k : List Byte) : Option EccAt :=
  let cs := candidates c k
  f.bad.find? fun b => if b.cam then f.cam.any fun q => q.1 = b.idx else cs.contains b.idx

/-- L of an egress frame (R211): its octets with padding and FCS, before MACsec. -/
def EgFrame.len (f : EgFrame) : Nat := max 60 f.octets.length + 4

/-- A discard counts in the context's DROPS (R225). Readings: log entry 46 (DEDUCED). -/
def State.ctxDrop (s : State) (c : Ch) (i : Nat) : State :=
  s.updF c fun f => f.updCtx i fun x => { x with drops := (x.drops + 1) % m32 }

/-- The frame counts as passed by its context (R204). -/
def State.ctxPass (s : State) (c : Ch) (fl : Flow) (len : Nat) : State :=
  match fl.idx with
  | some i => s.updF c fun f => f.updCtx i fun x => { x with
      frames := (x.frames + 1) % 2 ^ 64, octets := (x.octets + len) % 2 ^ 64
      yellow := if fl.yellow then (x.yellow + 1) % m32 else x.yellow }
  | none => s

/-- The lookup of a frame, with what needs its header only (R206, R209, R210 step 1). `ecc` is a word that turns out
uncorrectable now. -/
def State.lookupCtx (s : State) (c : Ch) (egress : Bool) (octets : List Byte) (ecc : Option EccAt) : Flow × State :=
  let h := parse octets
  let km := s.cg c .FRAME_CTL_KEYMASK
  let k := (h.key egress).bytes km
  let s := match ecc with
    | some b => s.updF c fun f => f.spoil b
    | none => s
  match (s.ch c).frame.badRead c k with
  | some b => (⟨some 5, none, false, 0⟩, (s.assertSrc (.ch c 7) (b2n b.cam) b.idx).cs c .FRAME_EVT_ECC 1)
  | none =>
    match (s.ch c).frame.find km k with
    | none =>
      let drop := s.cb c (if egress then .FRAME_MISS_EG_DROP else .FRAME_MISS_IN_DROP)
      let ts := if h.etype = 0x88F7 && s.cb c .FRAME_CTL_PTP_AUTO then 2 else 0
      (⟨if drop then some 4 else none, none, false, ts⟩, s)
    | some (i, x) =>
      if x.action ≠ 0 then (⟨some 5, some i, false, 0⟩, s.ctxDrop c i) else (⟨none, some i, false, x.tsClass⟩, s)

/-- The stream filter and the meter of the matched context, for a frame whose length L is known (R210 steps 2 and 3, R211,
R212). -/
def State.judge (s : State) (c : Ch) (fl : Flow) (octets : List Byte) (len : Nat) : Flow × State :=
  let h := parse octets
  match fl.idx with
  | none => (fl, s)
  | some i =>
    match (s.ch c).frame.ctx i with
    | none => (fl, s)
    | some x =>
      if x.maxSdu ≠ 0 && decide (x.maxSdu < len) then ({ fl with reason := some 6 }, s.ctxDrop c i)
      else if !x.meter.en then (fl, s)
      else
        let r := x.meter.run s.now len (h.tagged && h.dei)
        let s := if r.2.markRed && !x.meter.markRed then s.cs c .FRAME_EVT_MARK_RED 1 else s
        let s := s.updF c fun f => f.updCtx i fun x => { x with
          meter := r.2, red := if r.1 = .red then (x.red + 1) % m32 else x.red }
        ({ fl with reason := if r.1 = .red then some 7 else none, yellow := r.1 = .yellow }, s)

/-- The stream filter and the meter for a frame that started before its end arrived, judged as its end arrives by the record
that its lookup read, at the lookup's tick (R208, R210 to R212). What it changes lands in that record as it now stands, if it
is still there. -/
def State.judgeLate (s : State) (c : Ch) (l : LineEg) : Flow × State :=
  let h := parse l.frame.octets
  let fl : Flow := ⟨none, l.idx, false, 0⟩
  let upd : State → (Ctx → Ctx) → State := fun s g => match l.idx with
    | some i => s.updF c fun f => f.updCtx i g
    | none => s
  match l.look with
  | none => (fl, s)
  | some (t, x) =>
    if x.maxSdu ≠ 0 && decide (x.maxSdu < l.frame.len) then
      ({ fl with reason := some 6 }, upd s fun y => { y with drops := (y.drops + 1) % m32 })
    else if !x.meter.en then (fl, s)
    else
      let r := x.meter.run t l.frame.len (h.tagged && h.dei)
      let s := if r.2.markRed && !x.meter.markRed && l.idx.isSome then s.cs c .FRAME_EVT_MARK_RED 1 else s
      let s := upd s fun y => { y with
        meter := y.meter.take t x.meter r.2, red := if r.1 = .red then (y.red + 1) % m32 else y.red }
      ({ fl with reason := if r.1 = .red then some 7 else none, yellow := r.1 = .yellow }, s)

/-- The flow engine on one frame of `len` octets (R206, R209 to R212). -/
def State.classify (s : State) (c : Ch) (egress : Bool) (octets : List Byte) (len : Nat) (ecc : Option EccAt) :
    Flow × State :=
  let r := s.lookupCtx c egress octets ecc
  if r.1.reason.isSome then r else r.2.judge c r.1 octets len

/-- A yellow frame's DEI (R212): set in the outer tag if it carries one. -/
def markDei (octets : List Byte) : List Byte :=
  if (parse octets).tagged then octets.set 14 (octets.getD 14 0 ||| 0x10) else octets

/-- A time-stamp class stamps this frame (R223). -/
def stampDue (cls : Nat) (octets : List Byte) : Bool :=
  let h := parse octets
  match cls with
  | 0 => false
  | 2 => h.etype = 0x88F7 && decide (oct octets h.pay % 16 ≤ 3)
  | _ => true

/-- MAX_LEN in force (R228). -/
def State.maxLen (s : State) (c : Ch) : Nat := max 64 (min 16000 (s.cg c .FRAME_CTL_MAX_LEN))

end Sys2Proof.Machine
end

