-- ==== Sys2Proof/Machine/Macsec.lean ====
section
/-! DEFINITION. MACsec (R214 to R219): secure channels, the commands over them, protection and verification. The layout of
the SecTAG is IEEE 802.1AE's, which the spec names (PRESUMED, log entry 32). -/

namespace Sys2Proof.Machine

/-! ### Secure channels -/

/-- The secure channels of a direction (R215). -/
def scCount (c : Ch) (tx : Bool) : Nat :=
  match classOf c, tx with
  | .trunk, true => 16 | .trunk, false => 48
  | .branch, true => 8 | .branch, false => 24
  | .segment, true => 4 | .segment, false => 32

/-- A secure channel before it is written: not enabled, no association installed. -/
def Sc.init : Sc := ⟨0, 0, 0, 0, .replicate 4 none⟩

/-- The secure channels of a direction. -/
def FrameSt.scs (f : FrameSt) (tx : Bool) : List (Nat × Sc) := if tx then f.tx else f.rx

/-- A secure channel. -/
def FrameSt.sc (f : FrameSt) (tx : Bool) (i : Nat) : Sc := ((f.scs tx).lookup i).getD Sc.init

/-- Writes a secure channel. -/
def FrameSt.setSc (f : FrameSt) (tx : Bool) (i : Nat) (x : Sc) : FrameSt :=
  let l := (i, x) :: (f.scs tx).filter fun p => p.1 ≠ i
  if tx then { f with tx := l } else { f with rx := l }

/-- EN of a secure channel's configuration. -/
def Sc.en (x : Sc) : Bool := x.cfg.testBit 31

/-- The cipher suite in force (R228): 4 to 7 are treated as 0. -/
def Sc.cipher (x : Sc) : Nat := if bits x.cfg 30 28 ≤ 3 then bits x.cfg 30 28 else 0

/-- The suite has an extended packet number. -/
def Sc.xpn (x : Sc) : Bool := 2 ≤ x.cipher

/-- The suite has a 256-bit key. -/
def Sc.is256 (x : Sc) : Bool := x.cipher = 1 || x.cipher = 3

/-- VALIDATE in force: 0 Disabled, 1 Check, 2 Strict. -/
def Sc.validate (x : Sc) : Nat := min 2 (bits x.cfg 21 20)

/-- The greatest packet number of the suite (R218). -/
def Sc.pnMax (x : Sc) : Nat := if x.xpn then 2 ^ 64 - 1 else 2 ^ 32 - 1

/-- Changes the association of a secure channel in slot `an`. -/
def Sc.setSa (x : Sc) (an : Nat) (sa : Option Sa) : Sc := { x with sas := x.sas.setIfInBounds an sa }

/-- The association in slot `an`. -/
def Sc.sa (x : Sc) (an : Nat) : Option Sa := x.sas.toList.getD an none

/-! ### Commands (R218) -/

/-- A command is rejected. -/
def State.msRej (s : State) (c : Ch) : State := s.cs c .FRAME_EVT_CMD_REJ 1

/-- The channel and association that `MS_SEL` names. -/
def State.msSel (s : State) (c : Ch) : Bool × Nat × Nat :=
  (s.cb c .MS_SEL_DIR, s.cg c .MS_SEL_SC, s.cg c .MS_SEL_AN)

/-- The configuration word of `MS_SCCFG` as written. -/
def State.scCfg (s : State) (c : Ch) : Nat :=
  s.cg c .MS_SCCFG_EN * 2 ^ 31 + s.cg c .MS_SCCFG_CIPHER * 2 ^ 28 + s.cg c .MS_SCCFG_CONF * 2 ^ 27 +
    s.cg c .MS_SCCFG_SCI_EN * 2 ^ 26 + s.cg c .MS_SCCFG_ES * 2 ^ 25 + s.cg c .MS_SCCFG_SCB * 2 ^ 24 +
    s.cg c .MS_SCCFG_TAG_CLEAR * 2 ^ 23 + s.cg c .MS_SCCFG_VALIDATE * 2 ^ 20 + s.cg c .MS_SCCFG_REPLAY * 2 ^ 19

/-- A staged value of `n` words. -/
def State.staged (s : State) (c : Ch) (f : Nat → CFld) (n : Nat) : Nat :=
  (List.range n).foldl (fun a k => a + s.cg c (f k) * 2 ^ (32 * k)) 0

/-- INSTALL (R215, R218): the staging registers are zeroed. -/
def State.msInstall (s : State) (c : Ch) : State :=
  let m := s.msSel c
  let x := (s.ch c).frame.sc m.1 m.2.1
  let pn := s.cg c .MS_PN_LO_VALUE + if x.xpn then s.cg c .MS_PN_HI_VALUE * m32 else 0
  if scCount c m.1 ≤ m.2.1 || (x.sa m.2.2).isSome || pn = 0 then s.msRej c
  else
    let sa : Sa := ⟨s.staged c .MS_KEY_DATA (if x.is256 then 8 else 4), if x.xpn then s.staged c .MS_SALT_DATA 3 else 0,
      if x.xpn then s.cg c .MS_SSCI_VALUE else 0, pn, false⟩
    let s := s.updF c fun f => f.setSc m.1 m.2.1 (x.setSa m.2.2 (some sa))
    let s := (List.range 8).foldl (fun s k => s.cs c (.MS_KEY_DATA k) 0) s
    (List.range 3).foldl (fun s k => s.cs c (.MS_SALT_DATA k) 0) s

/-- RETIRE (R218). -/
def State.msRetire (s : State) (c : Ch) : State :=
  let m := s.msSel c
  let x := (s.ch c).frame.sc m.1 m.2.1
  if scCount c m.1 ≤ m.2.1 || (m.1 && x.encAn.val = m.2.2) then s.msRej c
  else s.updF c fun f => f.setSc m.1 m.2.1 (x.setSa m.2.2 none)

/-- SWITCH (R218). -/
def State.msSwitch (s : State) (c : Ch) : State :=
  let m := s.msSel c
  let x := (s.ch c).frame.sc m.1 m.2.1
  if !m.1 || scCount c true ≤ m.2.1 || (x.sa m.2.2).isNone then s.msRej c
  else (s.updF c fun f => f.setSc true m.2.1 { x with encAn := Fin.ofNat 4 m.2.2 }).cs c .FRAME_EVT_SA_SWITCHED 1

/-- WRITE_SC (R218). -/
def State.msWriteSc (s : State) (c : Ch) : State :=
  let m := s.msSel c
  let x := (s.ch c).frame.sc m.1 m.2.1
  if scCount c m.1 ≤ m.2.1 then s.msRej c
  else
    let y := { x with sci := s.cg c .MS_SCI_LO_VALUE + s.cg c .MS_SCI_HI_VALUE * m32, cfg := s.scCfg c, win := s.cg c .MS_WIN_VALUE }
    s.updF c fun f => f.setSc m.1 m.2.1 y

/-- A write of `MS_CMD` (R218, R228). Readings: log entry 46 (DEDUCED). -/
def State.msCmd (s : State) (c : Ch) (op : Nat) : State :=
  match op with
  | 1 => s.msInstall c
  | 2 => s.msRetire c
  | 3 => s.msSwitch c
  | 4 => s.msWriteSc c
  | _ => s.msRej c

/-! ### Protection (R216) -/

/-- The transmit SC an egress frame takes: `none` for an unprotected one. -/
def State.txSc (s : State) (c : Ch) (idx : Option Nat) : Option Nat :=
  if !s.cb c .FRAME_CTL_MS_EN then none else
  match idx.bind (s.ch c).frame.ctx with
  | some x => if x.msBypass then none else some x.sc
  | none => if s.cb c .FRAME_MISS_EG_SC_EN then some (s.cg c .FRAME_MISS_EG_SC) else none

/-- The next packet number crosses the threshold of `MS_PNTHR` (R218). -/
def pnCross (xpn : Bool) (thr old new : Nat) : Bool :=
  if xpn then decide (old / m32 < thr) && decide (thr ≤ new / m32) else decide (old < thr) && decide (thr ≤ new)

/-- What protection comes to: not asked for, not possible, or what protects the frame. -/
inductive Protect where
  | plain | refuse | by (t : SecTx)
  deriving DecidableEq, Repr

/-- Protects a frame under a transmit SC: it takes the next packet number, which then advances (R216, R218).
Choices: log entry 32 (PRESUMED). -/
def State.protect (s : State) (c : Ch) (sc : Option Nat) : Protect × State :=
  match sc with
  | none => (.plain, s)
  | some i =>
    let x := (s.ch c).frame.sc true i
    match x.sa x.encAn.val with
    | none => (.refuse, s)
    | some a =>
      if scCount c true ≤ i || !x.en || a.exhausted then (.refuse, s)
      else
        let last := decide (x.pnMax ≤ a.pn)
        let b := if last then { a with exhausted := true } else { a with pn := a.pn + 1 }
        let s := s.updF c fun f => f.setSc true i (x.setSa x.encAn.val (some b))
        let s := if last then s.cs c .FRAME_EVT_PN_EXHAUST 1 else s
        let s := if !last && pnCross x.xpn (s.cg c .MS_PNTHR_VALUE) a.pn b.pn then s.cs c .FRAME_EVT_PN_THRESH 1 else s
        (.by ⟨i, x.sci, x.cfg, x.encAn.val, a⟩, s)

/-- The cipher suite that protects a frame. -/
def SecTx.cipher (t : SecTx) : Nat := (⟨t.sci, t.cfg, 0, 0, .replicate 4 none⟩ : Sc).cipher

/-- The TCI and AN octet of a SecTAG (R214): ES, SC for an explicit SCI, SCB, and E with C for confidentiality.
Choices: log entry 32 (PRESUMED). -/
def SecTx.tci (t : SecTx) : Nat :=
  b2n (t.cfg.testBit 25) * 64 + b2n (t.cfg.testBit 26) * 32 + b2n (t.cfg.testBit 24) * 16 +
    b2n (t.cfg.testBit 27) * 12 + t.an

/-- A frame as MACsec sends it (R202, R214): the SecTAG behind the addresses, or with TAG_CLEAR behind one outer VLAN tag;
the rest, encrypted with CONF; and the ICV. Choices: log entry 32 (PRESUMED). -/
def SecTx.protect (t : SecTx) (l : List Byte) : List Byte :=
  let o := if t.cfg.testBit 23 && isTpid (octs l 12 2) then 16 else 12
  let data := l.drop o
  let data := if t.cfg.testBit 27 then
      data.mapIdx fun i b => b ^^^ Config.gcmStream t.cipher t.sa.key t.sa.salt t.sa.ssci t.sci t.sa.pn i
    else data
  let sl := if data.length < 48 then data.length else 0
  let tag := beBytes 2 0x88E5 ++ beBytes 1 t.tci ++ beBytes 1 sl ++ beBytes 4 (t.sa.pn % m32) ++
    if t.cfg.testBit 26 then beBytes 8 t.sci else []
  let body := l.take o ++ tag ++ data
  body ++ beBytes 16 (Config.gcmIcv t.cipher t.sa.key t.sa.salt t.sa.ssci t.sci t.sa.pn body).toNat

/-! ### Verification (R217) -/

/-- What the engine made of a received frame: a discard reason, the octets that go on, the receive SC it was verified
under, and whether it passed without verification. -/
structure MsRx where
  reason : Option Nat
  octets : List Byte
  sc : Option Nat
  unverified : Bool
  deriving DecidableEq, Repr

/-- The offset of a SecTAG: behind the addresses, or behind one VLAN tag left in the clear (R214).
Choices: log entry 32 (PRESUMED). -/
def secTagAt (l : List Byte) : Option Nat :=
  if octs l 12 2 = 0x88E5 then some 12
  else if isTpid (octs l 12 2) && octs l 16 2 = 0x88E5 then some 16 else none

/-- The SCI that a frame names (R217 step 1): explicit, or the source address with port 1 where ES is set.
Choices: log entry 32 (PRESUMED). -/
def sciOf (l : List Byte) (o : Nat) : Option Nat :=
  let tci := oct l (o + 2)
  if tci.testBit 5 then some (octs l (o + 8) 8)
  else if tci.testBit 6 then some (octs l 6 6 * 65536 + 1) else none

/-- The packet number of a frame: for an extended one the upper half is recovered from the lowest acceptable PN.
Choices: log entry 32 (PRESUMED). -/
def pnOf (xpn : Bool) (low32 lowest : Nat) : Nat :=
  if !xpn then low32
  else
    let up := lowest / m32
    low32 + (if !low32.testBit 31 && (lowest % m32).testBit 31 then up + 1 else up) * m32

/-- The discard window of R217 takes a discard under MACSEC_ICV or MACSEC_REPLAY. -/
def State.msEvent (s : State) (c : Ch) : State :=
  let w := match (s.ch c).frame.msWin with
    | some (t, n, done) => if s.now < t + 25000 then (t, n + 1, done) else (s.now, 1, false)
    | none => (s.now, 1, false)
  let e := s.cg c .MS_CFG_EVT_N
  let hit := e ≠ 0 && decide (e ≤ w.2.1) && !w.2.2
  let s := s.updF c fun f => { f with msWin := some (w.1, w.2.1, w.2.2 || hit) }
  if hit then (s.cs c .FRAME_EVT_MS_FAULT 1).assertSrc (.ch c 11) 0 w.2.1 else s

/-- The frame behind its SecTAG: tag and ICV removed, and the key stream where it was encrypted. -/
def msOpen (l : List Byte) (o : Nat) (x : Sc) (a : Sa) (pn : Nat) : List Byte :=
  let h := if (oct l (o + 2)).testBit 5 then 16 else 8
  let data := (l.drop (o + h)).take (l.length - (o + h) - 16)
  let enc := (oct l (o + 2)).testBit 3
  l.take o ++ (if enc then data.mapIdx fun i b => b ^^^ Config.gcmStream x.cipher a.key a.salt a.ssci x.sci pn i else data)

/-- The enabled receive SC that a frame's SecTAG selects (R217 step 1). -/
def State.rxSc (s : State) (c : Ch) (l : List Byte) (o : Nat) : Option (Nat × Sc) :=
  (sciOf l o).bind fun sci => (s.ch c).frame.rx.find? fun p => p.2.en && p.2.sci = sci

/-- A SecTAG behind a VLAN tag is one only of an SC with TAG_CLEAR (R214; DEDUCED, log entry 46). -/
def State.secTag (s : State) (c : Ch) (l : List Byte) (o : Nat) : Option Nat :=
  if o = 12 then some o else
  match s.rxSc c l o with
  | some x => if x.2.cfg.testBit 23 then some o else none
  | none => none

/-- Verification of a received frame (R217 steps 1 to 4). A frame without a SecTAG is left to the context's requirement.
Whether "the channel" is Strict for a frame that selects no SC is not given, and free.
Readings: log entry 46 (DEDUCED). -/
def State.msVerify (s : State) (c : Ch) (l : List Byte) (icvOk : Bool) : MsRx × State :=
  if !s.cb c .FRAME_CTL_MS_EN then (⟨none, l, none, false⟩, s) else
  match (secTagAt l).bind (s.secTag c l) with
  | none => (⟨none, l, none, false⟩, s)
  | some o =>
    match s.rxSc c l o with
    | none =>
      let r := s.fresh 1
      (if r.1 = 1 then ⟨some 10, l, none, false⟩ else ⟨none, l, none, true⟩, r.2)
    | some (i, x) =>
      if x.validate = 0 then (⟨none, l, none, true⟩, s) else
      let tci := oct l (o + 2)
      match x.sa (tci % 4) with
      | none => (if x.validate = 2 then ⟨some 10, l, none, false⟩ else ⟨none, l, none, true⟩, s)
      | some a =>
        let pn := pnOf x.xpn (octs l (o + 4) 4) a.pn
        let l' := msOpen l o x a pn
        if !icvOk && (x.validate = 2 || tci.testBit 3) then (⟨some 8, l', none, false⟩, s)
        else if x.cfg.testBit 19 && decide (pn < a.pn) then (⟨some 9, l', none, false⟩, s)
        else if !icvOk then (⟨none, l', none, true⟩, s)
        else
          let b := { a with pn := max a.pn (pn + 1 - x.win) }
          (⟨none, l', some i, false⟩, s.updF c fun f => f.setSc false i (x.setSa (tci % 4) (some b)))

/-- The context's requirement (R217 step 5) is not met. Readings: log entry 46 (DEDUCED). -/
def State.msUnmet (s : State) (c : Ch) (idx : Option Nat) (sc : Option Nat) : Bool :=
  s.cb c .FRAME_CTL_MS_EN &&
  match idx.bind (s.ch c).frame.ctx with
  | some x => !x.msBypass && (match sc with
      | some i => x.sc ≠ 0xFF && x.sc ≠ i
      | none => true)
  | none => false

end Sys2Proof.Machine
end

