-- ==== Sys2Proof/Machine/Mac.lean ====
section
/-! DEFINITION. The MAC and the queues toward the line: ingress frames (R202, R242), the start, delivery and starvation of
egress frames (R23, R244, R245), accounting (R226). -/

namespace Sys2Proof.Machine

/-! ### Ingress -/

/-- A loopback is on in MAINT (R23, R53). -/
def State.looped (s : State) (c : Ch) : Bool :=
  (s.ch c).sub = .maint && (s.cg c .AFE_CTL_LOOP ≠ 0 || s.cb c .PCS_CTL_PCS_LOOP)

/-- The line carries frames for the channel: the link is up, a segment joins (R112), or a loopback is on, and nothing is
quiet for a lost reference (R23, R284). Readings: log entry 37 (DEDUCED). -/
def State.lineUp (s : State) (c : Ch) : Bool :=
  s.clocked c .frame && s.clocked c .queue &&
  (s.looped c || (s.ch c).sub = .up || (s.ch c).sub = .lpi || (isSeg c && (s.ch c).seg.st = .join)) &&
  !(isSeg c && s.db .CLK_REFSTAT_REF_LOST)

/-- The class of an ingress frame (R242). -/
def State.inClass (s : State) (c : Ch) (octets : List Byte) : Fin 8 :=
  let h := parse octets
  if h.tagged && s.cb c .Q_CTL_PCPMAP_EN then Fin.ofNat 8 (s.cg c .Q_PCPMAP_MAP / 8 ^ h.pcp)
  else Fin.ofNat 8 (s.cg c .Q_CTL_IN_DEFCLASS)

/-- Invalid code groups received on a segment outside idle (R120), which the trend counts too (R136). -/
def State.symErr (s : State) (c : Ch) (n : Nat) : State :=
  (s.cinc c .SEG_SYMERR_COUNT n).updDiag c fun d => { d with iv := { d.iv with corr := d.iv.corr + n } }

/-- A frame heard on a segment, accepted or not: its invalid code groups count (R120), and the transmit opportunity it used
ends where no COMMIT follows it (R115). -/
def State.segHeard (s : State) (c : Ch) (fr : LineFrame) : State :=
  let s := s.symErr c fr.badGroups
  if !fr.commit then s.plcaNext c else s

/-- An ingress frame reaches the MAC (R23, R111, R120). -/
def State.reaches (s : State) (c : Ch) (fr : LineFrame) : Bool :=
  s.lineUp c && (!isSeg c || s.looped c || s.segHears c fr.mv)

/-- The MAC takes an ingress frame (R247): a drain refuses those that begin after the withdrawal. -/
def State.takesIn (s : State) (c : Ch) (fr : LineFrame) : Bool := (s.ch c).pst ≠ .draining || fr.early

/-- An error block or an invalid code group lies in the frame (R51, R202): also where one of the codewords it lies in was
uncorrectable. -/
def State.lineBad (s : State) (c : Ch) (fr : LineFrame) : Bool :=
  fr.lineErr || (s.fecRuns c && decide ((s.ch c).line.sinceUnc < fr.cws))

/-- An accepted ingress frame is discarded (R225). -/
def State.inDiscard (s : State) (c : Ch) (r : Nat) : State :=
  let s := s.acctIn c fun a => a.discard r
  let s := if r = 8 || r = 9 then s.msEvent c else s
  if r = 11 then s.cs c .Q_EVT_QUEUE_FULL 1 else s

/-- Queues an ingress frame that has passed every check, if the buffer and its class take it (R242). -/
def State.inQueue (s : State) (c : Ch) (f : InFrame) : State :=
  let k := s.inClass c f.octets
  let n := cellsOf f.octets.length
  let room := min (s.inFree c) (s.cg c (.Q_INCLS_CAP k.val) - (s.ch c).queue.inCells k)
  if room < n then s.inDiscard c 11
  else s.updQ c fun q => { q with ing := q.ing.set k.val (q.ing[k.val] ++ [f]) }

/-- INGRESS_FRAME_RECEIVE (R202, R206, R217, R222, R225, R242): a frame from the line, from its start to its end.
Choices: log entry 6 (DESIGN CHOICE). -/
def execIngressFrameReceive (c : Ch) (fr : LineFrame) (s : State) : Host.Outcome State Fault Refusal :=
  if !s.reaches c fr then ok s else
  let s := if isSeg c then s.segHeard c fr else s
  if !s.takesIn c fr then ok s else
  let s := s.acctIn c Acct.accept
  if !fr.fcsOk || s.lineBad c fr then ok (s.inDiscard c 1)
  else if fr.octets.length + 4 < 64 then ok (s.inDiscard c 2)
  else
    let m := s.msVerify c fr.octets fr.icvOk
    let s := m.2
    let len := m.1.octets.length + 4
    if s.maxLen c < len then ok (s.inDiscard c 3) else
    match m.1.reason with
    | some r => ok (s.inDiscard c r)
    | none =>
      let fl := s.classify c false m.1.octets len fr.ecc
      let s := fl.2
      match fl.1.reason with
      | some r => ok (s.inDiscard c r)
      | none =>
        if s.msUnmet c fl.1.idx m.1.sc then ok (s.inDiscard c 10) else
        let s := s.ctxPass c fl.1 len
        let octets := if fl.1.yellow then markDei m.1.octets else m.1.octets
        let handle := (fl.1.idx.bind (s.ch c).frame.ctx).map Ctx.handle
        let st := if stampDue fl.1.ts octets then
            let t := s.stampNow c false
            (some t.1, t.2)
          else (none, s)
        ok (st.2.inQueue c ⟨octets, st.1, handle, fl.1.yellow, m.1.sc.isSome, m.1.unverified, none, 0⟩)

/-! ### Egress -/

/-- Frames stay resident in the egress queue (R23): in SLEEP and in the TRAINING that follows it. -/
def State.egHolds (s : State) (c : Ch) : Bool :=
  let x := s.ch c
  x.sub = .sleep || (x.sub = .training && x.lpi.fromSleep)

/-- Frames may be started (R23): in UP and LPI, and into a loopback in MAINT. -/
def State.egSends (s : State) (c : Ch) : Bool :=
  (s.ch c).sub = .up || (s.ch c).sub = .lpi || s.looped c

/-- No new frame starts now (R101, R105, R115, R144, R146, R150, R284): past the commit point of a shift or a sleep, in
transmit LPI or its wake time, under PLCA outside this node's opportunity, or with the driver quiet for a lost
reference. -/
def State.egFenced (s : State) (c : Ch) : Bool :=
  (match (s.ch c).link.shift with
    | some h => h.committed
    | none => false) || s.sleepFence c || s.lpiFence c ||
    (s.plcaRuns c && !s.plcaTurn c) ||
    (isSeg c && s.db .CLK_REFSTAT_REF_LOST)

/-- A frame may start (R244, R245): it is complete, or holds CT_THRESH cells while the adapter is ACTIVE. -/
def State.eligible (s : State) (c : Ch) (f : EgFrame) : Bool :=
  let ct := s.cg c .Q_CTL_CT_THRESH
  f.complete || (ct ≠ 0 && decide (ct ≤ f.cells) && decide (s.host.ul = .active))

/-- The frame that starts next (R244): the oldest of the highest class that has an eligible one. -/
def State.nextEgress (s : State) (c : Ch) : Option (Fin 8 × EgFrame) :=
  clsDown.findSome? fun k => match (s.ch c).queue.eg[k.val].frames with
    | f :: _ => if s.eligible c f then some (k, f) else none
    | [] => none

/-- Every queued egress frame is discarded at the head of its class under LINK_DOWN (R23). -/
def State.egLinkDown (s : State) (c : Ch) : State :=
  clsUp.foldl (fun s k => if (s.ch c).queue.eg[k.val].frames.isEmpty then s else s.dropEgCls c k 0) s

/-- Takes a frame out of its class and puts it on the line, which ends the wake time of a type other than XT50 (R147); on a
segment its first attempt sets the rewind mark (R121). -/
def State.toLine (s : State) (c : Ch) (l : LineEg) : State :=
  let s := s.updQ c fun q => { q with
    line := some l, eg := q.eg.set l.cls.val { q.eg[l.cls.val] with frames := q.eg[l.cls.val].frames.tail } }
  if isSeg c then s.updSeg c fun g => { g with att := 1, mark := true, retry := false, back := none, commit := false }
  else if s.cg c .PCS_CTL_TYPE = 7 then s else s.updLpi c fun l => { l with exitAt := none }

/-- The frame on the line is aborted with an error symbol and discarded (R202, R244); on a segment its opportunity has been
used (R115). -/
def State.lineCut (s : State) (c : Ch) (r : Nat) : State :=
  let went := !(s.ch c).seg.retry
  let s := s.dropLine c r
  (if went then s.plcaUsed c else s).plcaBack c

/-- The frame on the line has its last octet (R211): L of one that started before is known now, so that stream filter and
meter judge it: one they refuse is aborted, and a yellow one takes its DEI (R212). Readings: log entry 45 (DEDUCED). -/
def State.lineWhole (s : State) (c : Ch) : State :=
  match (s.ch c).queue.line with
  | some l =>
    let fl := s.judgeLate c l
    match fl.1.reason with
    | some r => fl.2.lineCut c r
    | none =>
      let mark := fun l : LineEg => { l with frame := { l.frame with octets := markDei l.frame.octets } }
      let s := if fl.1.yellow then fl.2.updQ c fun q => { q with line := q.line.map mark } else fl.2
      s.ctxPass c fl.1 l.frame.len
  | none => s

/-- The frame at the boundary goes through flow engine and MACsec and starts, or is discarded (R206, R210 to R216, R223).
The length of a frame whose end has not arrived is not known here: filter and meter judge it as the end arrives
(DEDUCED, log entry 45). -/
def State.egStart (s : State) (c : Ch) (k : Fin 8) (f : EgFrame) (ecc : Option EccAt) : State :=
  let s := s.toLine c ⟨k, f, none, none, none, none, none, s.now, 0⟩
  if s.maxLen c < f.len then s.dropLine c 3 else
  let fl := if f.complete then s.classify c true f.octets f.len ecc else s.lookupCtx c true f.octets ecc
  let s := fl.2
  match fl.1.reason with
  | some r => s.dropLine c r
  | none =>
    let p := s.protect c (s.txSc c fl.1.idx)
    let s := p.2
    match p.1 with
    | .refuse => s.dropLine c 10
    | p =>
      let s := if f.complete then s.ctxPass c fl.1 f.len else s
      let octets := if fl.1.yellow then markDei f.octets else f.octets
      let rec' := fl.1.idx.bind (s.ch c).frame.ctx
      let handle := rec'.map Ctx.handle
      let look := if f.complete then none else rec'.map fun x => (s.now, x)
      let st := if stampDue fl.1.ts octets then
          let t := s.stampNow c true
          (some t.1, t.2)
        else (none, s)
      let sec := match p with
        | .by t => some t
        | .plain | .refuse => none
      st.2.updQ c fun q => { q with
        line := some ⟨k, { f with octets := octets }, st.1, handle, fl.1.idx, sec, look, st.2.now, 0⟩ }

/-- EGRESS_FRAME_START (R23, R244, R245): a frame boundary of the MAC. Readings: log entry 45 (DEDUCED). -/
def execEgressFrameStart (c : Ch) (ecc : Option EccAt) (s : State) : Host.Outcome State Fault Refusal :=
  if !(s.clocked c .frame && s.clocked c .queue) || (s.ch c).queue.line.isSome then ok s
  else if s.egHolds c then ok s
  else if s.egSends c then
    if s.egFenced c then ok s else
    match s.nextEgress c with
    | some (k, f) => ok (s.egStart c k f ecc)
    | none => ok s
  else ok (s.egLinkDown c)

/-- Octets padded to the least frame (R202). -/
def padded (l : List Byte) : List Byte := l ++ List.replicate (60 - l.length) 0

/-- One bit of the frame check sequence, in reflected order: the CRC-32 of IEEE 802.3 (PRESUMED, log entry 32). -/
def fcsBit (c : BitVec 32) : BitVec 32 := if c.getLsbD 0 then (c >>> 1) ^^^ 0xEDB88320#32 else c >>> 1

/-- One octet of the frame check sequence. -/
def fcsByte (c : BitVec 32) (b : Byte) : BitVec 32 :=
  fcsBit (fcsBit (fcsBit (fcsBit (fcsBit (fcsBit (fcsBit (fcsBit (c ^^^ b.setWidth 32))))))))

/-- The FCS of a frame, as octets in the order sent. -/
def fcsOf (l : List Byte) : List Byte := leBytes (l.foldl fcsByte 0xFFFFFFFF#32 ^^^ 0xFFFFFFFF#32).toNat

/-- A frame as the MAC sends it (R202): padded, then protected where its context asks for it, then its FCS. -/
def LineEg.wire (l : LineEg) : List Byte :=
  let p := padded l.frame.octets
  let p := match l.sec with
    | some t => t.protect p
    | none => p
  p ++ fcsOf p

/-- An egress stamp is queued, or lost in a full queue (R223). -/
def State.queueStamp (s : State) (c : Ch) (l : LineEg) : State :=
  match l.stamp with
  | none => s
  | some t =>
    if (s.ch c).frame.stamps.length < 64 then
      s.updF c fun f => { f with stamps := f.stamps ++ [⟨l.cls, l.frame.seq, l.handle.getD 0, l.handle.isSome, t⟩] }
    else (s.cinc c .TS_LOST_COUNT).cs c .FRAME_EVT_TS_LOST 1

/-- EGRESS_FRAME_DELIVERED (R24, R115, R121, R202, R223, R284): the last symbol has been sent.
Readings: log entry 45 (DEDUCED). -/
def execEgressFrameDelivered (c : Ch) (s : State) : Host.Outcome State Fault Refusal :=
  match (s.ch c).queue.line with
  | some l =>
    if !l.frame.complete || (s.ch c).seg.retry || !s.running c then ok s else
    if isSeg c && s.db .CLK_REFSTAT_REF_LOST then ok s else
    let s := (s.updQ c fun q => { q with line := none }).atBoundary c
    let s := (s.acctEg c Acct.deliver).updF c fun f => { f with sent := f.sent ++ [l.wire] }
    ok ((((s.queueStamp c l).freeCells c l.cls l.frame.cells).plcaUsed c).plcaBack c)
  | none => ok s

/-- EGRESS_UNDERRUN (R244, R280): a cell of the frame on the line is needed and has not arrived; or in XT50, with line PLL
and channel root `eps` ppm apart, more than their crossing takes, it runs out of the frame path's octets. -/
def execEgressUnderrun (c : Ch) (eps : Int) (s : State) : Host.Outcome State Fault Refusal :=
  match (s.ch c).queue.line with
  | some l =>
    if (s.ch c).seg.retry || !s.running c then ok s
    else if !l.frame.complete then ok ((s.lineCut c 12).cs c .Q_EVT_UNDERRUN 1)
    else if !isSeg c && s.cg c .PCS_CTL_TYPE = 7 && decide (250 < eps.natAbs) then ok (s.lineCut c 12)
    else ok s
  | none => ok s

/-! ### Accounting and flush -/

/-- A snapshot of both directions in one cycle (R226). -/
def State.acctSnap (s : State) (c : Ch) : State :=
  let s := s.updF c fun f => { f with egSnap := f.egLive, inSnap := f.inLive }
  (s.cinc c .ACCT_STAT_SEQ).cs c .ACCT_STAT_SNAP_DONE 1

/-- A flush of the named classes (R246). A frame whose delivery to the host has begun completes it. -/
def State.flush (s : State) (c : Ch) (eg ing : Nat) : State :=
  let s := clsUp.foldl (fun s k =>
    if !eg.testBit k.val then s else
    let s := match (s.ch c).queue.line with
      | some l => if l.cls = k then s.lineCut c rFlush else s
      | none => s
    s.dropEgCls c k rFlush) s
  let s := clsUp.foldl (fun s k => if ing.testBit k.val then s.dropInCls c k fun f => f.sent.isNone else s) s
  s.updQ c fun q => { q with flushBusy := true }

/-- A write of `Q_FLUSH` (R246). -/
def State.qFlush (s : State) (c : Ch) (v : Nat) : State :=
  if v % 65536 = 0 then s else s.flush c (v % 256) (bits v 15 8)

/-- A write of an egress class's cap and reservation (R241): ignored where the reservations would exceed the buffer. -/
def State.egCls (s : State) (c : Ch) (k : Fin 8) (v : Nat) : State :=
  let rsv := bits v 28 16
  let sum := (clsUp.map fun d => if d = k then rsv else s.cg c (.Q_EGCLS_RSV d.val)).sum
  if bufferCells c < sum then s.cs c .Q_EVT_CAP_REJ 1
  else ((s.cs c (.Q_EGCLS_RSV k.val) rsv).cs c (.Q_EGCLS_CAP k.val) (v % 8192)).issue c

/-- The channel's queues are empty and no frame is open (R247 step 4). -/
def State.drained (s : State) (c : Ch) : Bool :=
  let q := (s.ch c).queue
  q.line.isNone && clsUp.all fun k => q.eg[k.val].frames.isEmpty && q.eg[k.val].drop.isNone && q.ing[k.val].isEmpty

/-- A drain runs, with the channel's clocks (R247, R296). -/
def State.drainRuns (s : State) (c : Ch) : Bool := (s.ch c).pst = .draining && !s.retained

/-- Step 5 of R247: the host's unspent tokens go back, and the domain powers off. -/
def State.drainOff (s : State) (c : Ch) : State := (s.giveBack c).offNow c

/-- DRAIN_END (R247 steps 4 and 5, R298). -/
def execDrainEnd (c : Ch) (s : State) : Host.Outcome State Fault Refusal :=
  if s.drainRuns c && s.drained c then ok ((s.cs c .Q_EVT_DRAIN_DONE 1).drainOff c) else ok s

/-- DRAIN_TIMEOUT (R247 step 4): what remains is discarded under FLUSH. -/
def execDrainTimeout (c : Ch) (s : State) : Host.Outcome State Fault Refusal :=
  if s.drainRuns c then ok (((s.dropAll c).cs c .Q_EVT_DRAIN_TMO 1).drainOff c) else ok s

end Sys2Proof.Machine
end

