-- ==== Sys2Proof/Machine/Nguid.lean ====
section
/-! DEFINITION. The host port (R229 to R253): messages from the host, what the part sends, the UCIe link and its power
states. -/

namespace Sys2Proof

/-! ### Messages (R234, R235) -/

/-- Byte `i` of a message's header (R234). -/
def NgMsg.byte (m : NgMsg) (i : Nat) : Nat := m.hdr.toNat / 256 ^ i % 256

/-- The little-endian pair of header bytes at `i`. -/
def NgMsg.half (m : NgMsg) (i : Nat) : Nat := m.byte i + 256 * m.byte (i + 1)

/-- TYPE. -/
def NgMsg.typ (m : NgMsg) : Nat := m.byte 0 % 16

/-- VER. -/
def NgMsg.ver (m : NgMsg) : Nat := m.byte 0 / 16

/-- CHANNEL. -/
def NgMsg.chan (m : NgMsg) : Ch := Fin.ofNat 32 (m.byte 1 % 32)

/-- CLASS. -/
def NgMsg.cls (m : NgMsg) : Fin 8 := Fin.ofNat 8 (m.byte 1 / 32)

/-- LENGTH. -/
def NgMsg.length (m : NgMsg) : Nat := m.half 2 % 512

/-- The EOF flag. -/
def NgMsg.eof (m : NgMsg) : Bool := (m.half 2).testBit 9

/-- SEQ. -/
def NgMsg.seq (m : NgMsg) : Nat := m.half 4

/-- AUX. -/
def NgMsg.aux (m : NgMsg) : Nat := m.half 6

/-- DATA. -/
def NgMsg.data (m : NgMsg) : Nat := m.hdr.toNat / 2 ^ 64

end Sys2Proof

namespace Sys2Proof.Machine

/-- The header of a message (R234); `flags` holds bits 9 to 15 of its second half-word in place. -/
def ngHeader (typ : Nat) (c : Ch) (cls len flags seq aux data : Nat) : List Byte :=
  let h := fun v : Nat => [BitVec.ofNat 8 v, BitVec.ofNat 8 (v / 256)]
  [BitVec.ofNat 8 (typ + 16), BitVec.ofNat 8 (c.val + 32 * cls)] ++ h (len + flags) ++ h seq ++ h aux ++ leBytes data ++
    leBytes (data / m32)

/-- Zeros that fill `n` octets up to a multiple of `k` (R233). -/
def fill (n k : Nat) : List Byte := List.replicate ((k - n % k) % k) 0

/-- A message as the octets of its granules (R233 to R235, R240, R249, R250). The class of CONTROL and EVENT is not given
(log entry 48). -/
def OutMsg.wire (m : OutMsg) : List Byte :=
  match m with
  | .frame c k t eof flags seq aux data body =>
    ngHeader t c k.val body.length (flags + b2n eof * 512) seq aux data ++ body ++ fill body.length 16
  | .tstamp c t => ngHeader 4 c t.cls.val 0 (b2n t.isMatched * 2048) t.seq t.handle t.time
  | .creditGrant c k g r => ngHeader 5 c k.val 0 0 0 0 (g + r * m32)
  | .creditReturn c k g => ngHeader 6 c k.val 0 0 0 0 g
  | .creditResync c k g r => ngHeader 7 c k.val 0 0 0 0 (g + r * m32)
  | .control c code tag r q => ngHeader 9 c (Config.ngClass 9).toNat 0 0 tag (code + tag * 256) (r + q * m32)
  | .event c code v => ngHeader 10 c (Config.ngClass 10).toNat 0 0 0 code v

/-- The payloads of the 64-byte flits that octets fill, the last one filled up with PAD (R229, R233). -/
def flitsOf : Nat → List Byte → List (List Byte)
  | 0, _ => []
  | n + 1, l => if l.isEmpty then [] else (l.take 64 ++ fill (l.take 64).length 64) :: flitsOf n (l.drop 64)

/-- The messages sent toward the host, as flit payloads (R233). PAD between messages is the sender's choice; none is
shown (DEDUCED, log entry 48). -/
def State.flits (s : State) : List (List Byte) :=
  let l := s.host.out.flatMap OutMsg.wire
  flitsOf l.length l

/-- The body octets of a type (R233). -/
def ngBody (m : NgMsg) : Nat :=
  match m.typ with
  | 1 | 2 | 3 => m.length
  | 8 => 16
  | _ => 0

/-- The little-endian number of octets. -/
def leNat (l : List Byte) : Nat := l.foldr (fun b a => b.toNat + 256 * a) 0

/-- The messages of an octet stream of flit payloads (R233), in order, at most `n` granules of it; PAD is discarded. -/
def ngParse : Nat → List Byte → List NgMsg
  | 0, _ => []
  | n + 1, l =>
    if l.length < 16 then [] else
    let m : NgMsg := ⟨BitVec.ofNat 128 (leNat (l.take 16)), [], 0, 0⟩
    if m.hdr = 0 then ngParse n (l.drop 16) else
    let k := ngBody m
    { m with body := (l.drop 16).take k } :: ngParse n (l.drop (16 + (k + 15) / 16 * 16))

/-- Changes the host port's state. -/
def State.updHost (s : State) (g : HostSt → HostSt) : State := { s with host := g s.host }

/-! ### Protocol errors (R238) -/

/-- A host message that breaks a rule: it is recorded, counted and asserted at source 392. -/
def State.ngErr (s : State) (code typ : Nat) (m : NgMsg) : State :=
  let s := ((s.ds .HOST_NGERR_CODE code).ds .HOST_NGERR_TYPE typ).ds .HOST_NGERR_CLASS m.cls.val
  let s := ((s.ds .HOST_NGERR_CHANNEL m.chan.val).dinc .HOST_NGERRCNT_COUNT).ds .HOST_EVT_NG_ERR 1
  s.assertSrc (.dev 8) code (m.chan.val + m.cls.val * 256 + typ * 4096)

/-- The host leaves L1 to send (R232). -/
def State.wakeL1 (s : State) : State :=
  match s.host.ul with
  | .l1 => (s.ds .HOST_EVT_L1_EXIT 1).hostActive
  | .reset | .training | .active | .retrain | .l2 | .linkError => s

/-- A message is taken from the flit stream: the flits that failed their CRC or were replayed on the way to it are counted
(R229, R253). -/
def State.ngIn (s : State) (m : NgMsg) : State :=
  (s.wakeL1.dinc .HOST_CRCERR_COUNT m.crc).dinc .HOST_REPLAY_COUNT m.replay

/-- A message is taken from the flit stream while the stream runs, with its version (code 1) and, for a type with a fixed
body, its LENGTH (code 2) checked; `g` acts on a message that passes. Readings: log entry 48 (DEDUCED). -/
def State.ngTake (s : State) (typ len : Nat) (m : NgMsg) (g : State → State) : Host.Outcome State Fault Refusal :=
  if !s.nguidUp then ok s else
  let s := s.ngIn m
  if m.ver ≠ 1 then ok (s.ngErr 1 typ m)
  else if m.length ≠ len then ok (s.ngErr 2 typ m)
  else ok (g s)

/-! ### Frames from the host (R236 to R239) -/

/-- The SEQ of the egress frame of a class that still takes segments. -/
def QueueSt.openSeq (q : QueueSt) (k : Fin 8) : Option Nat :=
  match q.eg[k.val].drop with
  | some v => some v
  | none =>
    match q.eg[k.val].frames.getLast? with
    | some f => if f.complete then none else some f.seq
    | none => match q.line with
      | some l => if l.cls = k && !l.frame.complete then some l.frame.seq else none
      | none => none

/-- The tokens the host holds, as announced to it (R239). Readings: log entry 48 (DEDUCED). -/
def Pair.hostHolds (p : Pair) : Nat :=
  let spent := (p.eg.spent + p.eg.givenBack) % m32
  let h := sub32 p.announced spent
  if h < 2 ^ 31 then h else 0

/-- The error of a frame message (R238): LENGTH, then CHANNEL, then the others in the order of their codes.
Readings: log entry 48 (DEDUCED). -/
def State.frameErr (s : State) (typ : Nat) (m : NgMsg) : Nat :=
  let p := s.pair m.chan m.cls
  let x := s.ch m.chan
  let last := typ = 3 || (typ = 1 && m.eof)
  let o := x.queue.openSeq m.cls
  if m.length = 0 || 256 < m.length || (!last && m.length ≠ 256) then 2
  else if x.sub = .off || !p.synced || (typ = 1 && x.queue.drain) then 6
  else if p.hostHolds < cellsOf m.length then 3
  else if typ = 1 then (if m.seq ≠ p.egSeq then 4 else if o.isSome then 5 else 0)
  else if o ≠ some m.seq then 4 else 0

/-- A segment's tokens are spent (R239). -/
def State.spendEg (s : State) (c : Ch) (k : Fin 8) (n : Nat) : State :=
  s.updPair c k fun p => { p with eg := { p.eg with spent := (p.eg.spent + n) % m32 } }

/-- The LENGTH octets of a message's body. -/
def ngOctets (m : NgMsg) : List Byte := (m.body ++ List.replicate (m.length - m.body.length) 0).take m.length

/-- A segment joins a frame. -/
def EgFrame.add (f : EgFrame) (m : NgMsg) (last : Bool) : EgFrame :=
  { f with octets := f.octets ++ (ngOctets m), cells := f.cells + cellsOf m.length, complete := last }

/-- A later segment of the open frame (R236, R244, R246): it joins the frame in the queue or on the line; of a discarded
frame it is discarded and its tokens return. A frame on the line found to exceed MAX_LEN is aborted (R202); the last segment
of one gives its length to the meter (R211). -/
def State.takeSegment (s : State) (m : NgMsg) (last : Bool) : State :=
  let c := m.chan
  let k := m.cls
  let e := (s.ch c).queue.eg[k.val]
  let n := cellsOf m.length
  match e.drop with
  | some _ =>
    let s := if last then s.updQ c fun q => { q with eg := q.eg.set k.val { q.eg[k.val] with drop := none } } else s
    s.freeCells c k n
  | none =>
    match e.frames.getLast? with
    | some f =>
      s.updQ c fun q => { q with
        eg := q.eg.set k.val { q.eg[k.val] with frames := q.eg[k.val].frames.dropLast ++ [f.add m last] } }
    | none => match (s.ch c).queue.line with
      | some l =>
        let f := l.frame.add m last
        let s := s.updQ c fun q => { q with line := some { l with frame := f } }
        if s.maxLen c < f.octets.length + 4 then s.lineCut c 3 else if last then s.lineWhole c else s
      | none => s

/-- A frame message from the host; one sent within its tokens gives them back where it is in error (R238). -/
def State.frameMsg (s : State) (typ : Nat) (m : NgMsg) : State :=
  let c := m.chan
  let k := m.cls
  let n := cellsOf m.length
  let e := if m.ver ≠ 1 then 1 else s.frameErr typ m
  if e ≠ 0 then
    let s := s.ngErr e typ m
    if n ≤ (s.pair c k).hostHolds then (s.spendEg c k n).freeCells c k n else s
  else
    let s := s.spendEg c k n
    let s := if typ = 1 then
        let f : EgFrame := ⟨m.seq, ngOctets m, n, m.eof⟩
        let s := s.updPair c k fun p => { p with egSeq := (p.egSeq + 1) % 65536 }
        let s := s.updQ c fun q => { q with eg := q.eg.set k.val { q.eg[k.val] with frames := q.eg[k.val].frames ++ [f] } }
        s.acctEg c Acct.accept
      else s.takeSegment m (typ = 3)
    if isSeg c then s else s.lpiCell c

/-- A frame message in the stream. -/
def State.ngFrame (s : State) (typ : Nat) (m : NgMsg) : Host.Outcome State Fault Refusal :=
  if !s.nguidUp then ok s else ok ((s.ngIn m).frameMsg typ m)

/-- NGUID_FRAME_START (R236, R238, R239). -/
def execNguidFrameStart (m : NgMsg) (s : State) : Host.Outcome State Fault Refusal := s.ngFrame 1 m

/-- NGUID_FRAME_CONT (R236, R238, R239). -/
def execNguidFrameCont (m : NgMsg) (s : State) : Host.Outcome State Fault Refusal := s.ngFrame 2 m

/-- NGUID_FRAME_END (R236, R238, R239). -/
def execNguidFrameEnd (m : NgMsg) (s : State) : Host.Outcome State Fault Refusal := s.ngFrame 3 m

/-- NGUID_TYPE_ERROR (R238): an unknown type, a version other than 1, or a type the host may not send. A PAD is no error
(R233). -/
def execNguidTypeError (m : NgMsg) (s : State) : Host.Outcome State Fault Refusal :=
  let bad := m.typ = 4 || decide (10 ≤ m.typ) || (m.ver ≠ 1 && !(m.typ = 0 && m.ver = 0))
  if !s.nguidUp || !bad then ok s
  else if 1 ≤ m.typ && m.typ ≤ 3 then s.ngFrame m.typ m
  else ok ((s.ngIn m).ngErr 1 m.typ m)

/-! ### Credits from the host (R240, R243) -/

/-- The lower word of DATA. -/
def ngLo (m : NgMsg) : Nat := m.data % m32

/-- The upper word of DATA. -/
def ngHi (m : NgMsg) : Nat := m.data / m32

/-- NGUID_CREDIT_GRANT (R240): the host's cumulative counts of an ingress pair. -/
def execNguidCreditGrant (m : NgMsg) (s : State) : Host.Outcome State Fault Refusal :=
  s.ngTake 5 0 m fun s =>
    if (s.pair m.chan m.cls).synced then
      s.updPair m.chan m.cls fun p => { p with ing := { p.ing with granted := (ngLo m), returned := (ngHi m) } }
    else s.ngErr 6 5 m

/-- NGUID_CREDIT_RETURN (R240): unspent egress tokens come back. -/
def execNguidCreditReturn (m : NgMsg) (s : State) : Host.Outcome State Fault Refusal :=
  s.ngTake 6 0 m fun s =>
    let p := s.pair m.chan m.cls
    if p.synced then
      let n := sub32 (ngLo m) p.eg.givenBack
      (s.updPair m.chan m.cls fun p => { p with eg := { p.eg with givenBack := (ngLo m) } }).freeCells m.chan m.cls n
    else s.ngErr 6 6 m

/-- Every pair of every channel not in OFF is resynchronised (R243). Readings: log entry 48 (DEDUCED). -/
def State.allSynced (s : State) : Bool :=
  allCh.all fun c => (s.ch c).sub = .off || clsUp.all fun k => (s.pair c k).synced

/-- NGUID_CREDIT_RESYNC (R243): an answer. When none is owed and none is due, every count of the pair is zero and SEQ
restarts. -/
def execNguidCreditResync (m : NgMsg) (s : State) : Host.Outcome State Fault Refusal :=
  s.ngTake 7 0 m fun s =>
    let c := m.chan
    let k := m.cls
    let p := s.pair c k
    if p.owed = 0 then s.ngErr 6 7 m
    else if 1 < p.owed || p.due then s.updPair c k fun p => { p with owed := p.owed - 1 }
    else
      let s := s.updPair c k fun _ => { Pair.init with synced := true }
      let s := s.updQ c fun q => { q with eg := q.eg.set k.val { q.eg[k.val] with drop := none } }
      let s := if s.powered c then s.cs c .Q_EVT_RESYNC 1 else s
      let s := if s.allSynced then s.ds .HOST_EVT_RESYNC_DONE 1 else s
      s.issue c

/-- CREDIT_GRANT_TIMER (R240): t_GRANT after the oldest unannounced token. -/
def execCreditGrantTimer (c : Ch) (cls : Fin 8) (s : State) : Host.Outcome State Fault Refusal :=
  let p := s.pair c cls
  if s.nguidUp && p.synced && p.eg.granted ≠ p.announced then ok (s.announce c cls) else ok s

/-! ### Time of day and CONTROL (R249, R250) -/

/-- The little-endian word `i` of a message's body. -/
def ngWord (m : NgMsg) (i : Nat) : Nat :=
  (List.range 4).foldl (fun a j => a + ((ngOctets m).getD (4 * i + j) 0).toNat * 256 ^ j) 0

/-- TOD_SET (R249). -/
def execTodSet (m : NgMsg) (s : State) : Host.Outcome State Fault Refusal :=
  s.ngTake 8 16 m fun s => s.updHost fun h => { h with tod := h.tod ++ [(ngWord m 0, ngWord m 1, ngWord m 2, ngWord m 3)] }

/-- TOD_LOAD (R249): the time is loaded into every masked channel not in OFF at one tick. -/
def execTodLoad (s : State) : Host.Outcome State Fault Refusal :=
  match s.host.tod with
  | [] => ok s
  | (w0, w1, w2, mask) :: t =>
    let s := s.updHost fun h => { h with tod := t }
    ok (s.forCh fun s c => if mask.testBit c.val && (s.ch c).sub ≠ .off then s.tsLoad c w0 w1 w2 else s)

/-- The TAG of a CONTROL, and its answer (R250). -/
def ngTag (m : NgMsg) : Nat := m.aux / 256

/-- Answers a CONTROL. -/
def State.answer (s : State) (m : NgMsg) (code result snapSeq : Nat) : State :=
  s.send (.control m.chan code (ngTag m) result snapSeq)

/-- A CONTROL of a known code, refused where the channel is OFF. -/
def State.control (s : State) (code : Nat) (m : NgMsg) (g : State → State) : Host.Outcome State Fault Refusal :=
  s.ngTake 9 0 m fun s => if (s.ch m.chan).sub = .off then s.answer m code 1 0 else g s

/-- CONTROL_FLUSH (R246, R250): answered when the flush is done. -/
def execControlFlush (m : NgMsg) (s : State) : Host.Outcome State Fault Refusal :=
  s.control 1 m fun s =>
    (s.flush m.chan ((ngLo m) % 256) (bits (ngLo m) 15 8)).updQ m.chan fun q => { q with flushTags := q.flushTags ++ [(ngTag m)] }

/-- A host write of `SEQ_MBOX_IN` (R171). -/
def State.mboxIn (s : State) (c : Ch) (v : Nat) : State := (s.cs c .SEQ_MBOX_IN_DATA v).cs c .SEQ_HOSTEVT_MBOX 1

/-- CONTROL_MBOX (R171, R250). -/
def execControlMbox (m : NgMsg) (s : State) : Host.Outcome State Fault Refusal :=
  s.control 2 m fun s => (s.mboxIn m.chan (ngLo m)).answer m 2 0 0

/-- CONTROL_SNAP (R226, R250). -/
def execControlSnap (m : NgMsg) (s : State) : Host.Outcome State Fault Refusal :=
  s.control 3 m fun s =>
    let s := s.acctSnap m.chan
    s.answer m 3 0 (s.cg m.chan .ACCT_STAT_SEQ)

/-- CONTROL_UNKNOWN_CODE (R250): answered with 1. -/
def execControlUnknownCode (m : NgMsg) (s : State) : Host.Outcome State Fault Refusal :=
  let code := m.aux % 256
  if 1 ≤ code && code ≤ 3 then ok s else s.ngTake 9 0 m fun s => s.answer m code 1 0

/-- FLUSH_COMPLETE (R246, R250): the flush is complete, and the CONTROL messages that asked for it are answered. -/
def execFlushComplete (c : Ch) (s : State) : Host.Outcome State Fault Refusal :=
  ok (s.answerFlush c)

/-! ### Toward the host (R237) -/

/-- TSTAMP_MESSAGE_SEND (R249): the oldest stamp leaves once its pair is resynchronised (R243 step 4). -/
def execTstampMessageSend (c : Ch) (s : State) : Host.Outcome State Fault Refusal :=
  match (s.ch c).frame.stamps with
  | [] => ok s
  | t :: rest =>
    if s.nguidUp && (s.pair c t.cls).synced then
      ok ((s.updF c fun f => { f with stamps := rest }).send (.tstamp c t))
    else ok s

/-- A post waits that could be sent: t_EVGAP has passed since the channel's last EVENT (R237, R250).
Readings: log entry 48 (DEDUCED). -/
def State.eventReady (s : State) (c : Ch) : Bool :=
  let q := (s.ch c).seq
  !q.post.isEmpty && (s.pair c 0).synced && match q.evLast with
    | some t => decide (t + 100 ≤ s.now)
    | none => true

/-- EVENT_MESSAGE_SEND (R173, R250): the oldest post leaves the post queue. -/
def execEventMessageSend (c : Ch) (s : State) : Host.Outcome State Fault Refusal :=
  match (s.ch c).seq.post with
  | [] => ok s
  | (code, v) :: rest =>
    if s.nguidUp && s.eventReady c then
      let t := s.now
      ok ((s.updSeq c fun q => { q with post := rest, evLast := some t }).send (.event c code v))
    else ok s

/-- The octets of the next segment of an ingress frame. -/
def InFrame.nextLen (f : InFrame) : Nat := min 256 (f.octets.length - f.sent.getD 0)

/-- The next segment of a class can be sent: its pair is resynchronised and holds the tokens (R239, R242). -/
def State.segReady (s : State) (c : Ch) (k : Fin 8) : Bool :=
  match (s.ch c).queue.ing[k.val] with
  | f :: _ => (s.pair c k).synced && decide (cellsOf f.nextLen ≤ (s.pair c k).ing.unspent)
  | [] => false

/-- The channel and class whose segment goes next (R237): round-robin over channels, the highest class within one. -/
def State.nextSegment (s : State) : Option (Ch × Fin 8) :=
  ((List.range 32).map fun i => Fin.ofNat 32 (s.host.turn + 1 + i)).findSome? fun c =>
    (clsDown.find? fun k => s.segReady c k).map fun k => (c, k)

/-- FLAGS of an ingress FRAME_START, bits 10 to 14 (R234, R235). -/
def InFrame.flags (f : InFrame) : Nat :=
  b2n f.stamp.isSome * 1024 + b2n f.handle.isSome * 2048 + b2n f.yellow * 4096 + b2n f.secured * 8192 +
    b2n f.unverified * 16384

/-- Sends one segment of an ingress frame (R235, R236, R239). A frame's last segment delivers it (R24). -/
def State.sendSegment (s : State) (c : Ch) (k : Fin 8) (f : InFrame) (rest : List InFrame) : State :=
  let off := f.sent.getD 0
  let n := f.nextLen
  let last := f.octets.length ≤ off + n
  let first := f.sent.isNone
  let seq := if first then (s.pair c k).inSeq else f.seq
  let body := (f.octets.drop off).take n
  let msg := if first then
      OutMsg.frame c k 1 last f.flags seq (f.handle.getD 0) (f.stamp.getD 0) body
    else OutMsg.frame c k (if last then 3 else 2) false 0 seq 0 0 body
  let s := s.updPair c k fun p => { p with
    ing := { p.ing with spent := (p.ing.spent + cellsOf n) % m32 }
    inSeq := if first then (p.inSeq + 1) % 65536 else p.inSeq }
  let s := s.updQ c fun q => { q with
    ing := q.ing.set k.val (if last then rest else { f with sent := some (off + n), seq := seq } :: rest) }
  let s := if last then s.acctIn c Acct.deliver else s
  (s.updHost fun h => { h with turn := c.val }).send msg

/-- A stamp waits that could be sent (R237: it goes before frame segments). -/
def State.stampReady (s : State) : Bool :=
  allCh.any fun c => match (s.ch c).frame.stamps with
    | t :: _ => (s.pair c t.cls).synced
    | [] => false

/-- HOST_SEGMENT_SEND (R237, R242): a segment goes only while neither a stamp nor a post is ready. -/
def execHostSegmentSend (s : State) : Host.Outcome State Fault Refusal :=
  if !s.nguidUp || s.stampReady || allCh.any s.eventReady then ok s else
  match s.nextSegment with
  | none => ok s
  | some (c, k) => match (s.ch c).queue.ing[k.val] with
    | f :: rest => ok (s.sendSegment c k f rest)
    | [] => ok s

/-! ### The UCIe link (R230, R232, R243, R248, R253) -/

/-- Anything waits to be sent to the host. -/
def State.hostWaiting (s : State) : Bool :=
  s.stampReady || s.nextSegment.isSome || allCh.any fun c => !(s.ch c).seq.post.isEmpty && (s.pair c 0).synced

/-- L1_IDLE_EXPIRE (R232). -/
def execL1IdleExpire (s : State) : Host.Outcome State Fault Refusal :=
  if s.host.ul = .active && s.host.l1en && !s.hostWaiting then ok (s.updHost fun h => { h with ul := .l1 }) else ok s

/-- HOST_L1_REQUEST (R232): refused while a message waits. -/
def execHostL1Request (s : State) : Host.Outcome State Fault Refusal :=
  if s.host.ul = .active && !s.hostWaiting then ok (s.updHost fun h => { h with ul := .l1 }) else ok s

/-- The host port is powered and out of reset. -/
def State.hostUp (s : State) : Bool := s.servicesUp && s.host.ul ≠ .l2

/-- The link trains (R230, R253): `HOST_CTL` takes effect. The trained rate is the highest both ends support, no faster
than RATE_MAX; how much slower the host makes it is free. Readings: log entry 48 (DEDUCED). -/
def State.trained (s : State) : State :=
  let top := min 2 (s.dg .HOST_CTL_RATE_MAX)
  let r := s.fresh 2
  let s := (r.2.ds .HOST_STAT_RATE (top + r.1 % (3 - top))).ds .HOST_EVT_ACTIVE 1
  let l1 := s.db .HOST_CTL_L1_EN
  s.updHost fun h => { h with ul := .active, l1en := l1 }

/-- The Nguid stream starts (R17, R243): in Active, Service and Safe, for the first time since Boot or a host-port reset,
and every pair is resynchronised. A stream that goes on sends what became due meanwhile (R240, R243). -/
def State.ngStart (s : State) : State :=
  match s.power.mode with
  | .active | .service | .safe =>
    if s.db .HOST_STAT_NG_UP then s.trySyncAll.announceAll else (s.ds .HOST_STAT_NG_UP 1).resyncAll
  | .off | .dormant | .standby | .boot | .lockedOut => s

/-- ADAPTER_ACTIVE (R230, R243): training or a retrain ends. A link that was ACTIVE through Boot starts its stream
after it. Readings: log entry 48 (DEDUCED). -/
def execAdapterActive (s : State) : Host.Outcome State Fault Refusal :=
  if !s.hostUp then ok s else
  match s.host.ul with
  | .reset | .training | .retrain | .linkError => ok s.trained.ngStart
  | .active => ok s.ngStart
  | .l1 | .l2 => ok s

/-- A retrain begins (R230): the adapter replays the flits not acknowledged, whose number is free. -/
def State.retrain (s : State) : State :=
  let r := s.fresh 8
  let s := (r.2.ds .HOST_EVT_RETRAIN 1).dinc .HOST_RETRAINS_COUNT
  (s.dinc .HOST_REPLAY_COUNT r.1).updHost fun h => { h with ul := .retrain }

/-- LinkError (R230, R248, R328). -/
def State.linkError (s : State) (addr : Nat) : State :=
  ((s.ds .HOST_EVT_LINKERROR 1).assertSrc (.dev 9) 2 addr).hostPortReset true

/-- Redundant lanes in use in a direction (R230). -/
def State.lanesUsed (s : State) (rx : Bool) : Nat := (s.otp.lanes.filter fun l => l.1 = rx).length

/-- LANE_FAILURE (R230, R328): the lane is repaired onto a redundant one while one remains, else the module degrades to
x32 where that is allowed and a half works, else the link is in error. -/
def execLaneFailure (l : LaneFail) (s : State) : Host.Outcome State Fault Refusal :=
  if !s.hostUp then ok s else
  let addr := l.lane.val + b2n l.rx * 256
  match s.host.ul with
  | .active | .l1 | .training | .retrain =>
    if s.lanesUsed l.rx < 4 then
      let s := { s with otp := { s.otp with lanes := s.otp.lanes ++ [(l.rx, l.lane.val)] } }
      let s := ((s.ds .HOST_REPAIR_LAST_LANE l.lane.val).ds .HOST_REPAIR_LAST_DIR (b2n l.rx)).ds .HOST_EVT_REPAIR 1
      ok (s.assertSrc (.dev 9) 0 addr).retrain
    else if s.db .HOST_CTL_DEGRADE_EN && l.halfWorks && !s.host.width32 then
      let s := (s.ds .HOST_EVT_DEGRADE 1).updHost fun h => { h with width32 := true }
      ok (s.assertSrc (.dev 9) 1 addr).retrain
    else ok (s.linkError addr)
  | .reset | .l2 | .linkError => ok s

/-- UCIE_LINK_RESET (R248): a LinkError or link reset from either end, in L2 too. No lane is named, so a LinkError's address is
free. -/
def execUcieLinkReset (linkError : Bool) (s : State) : Host.Outcome State Fault Refusal :=
  if !s.servicesUp then ok s
  else if linkError then
    let r := s.fresh 9
    ok (r.2.linkError (r.1 % 64 + r.1 / 256 * 256))
  else ok (s.hostPortReset false)

/-- A write of `HOST_CMD` (R253): HPRESET, then RETRAIN, which a reset makes needless. -/
def State.hostCmd (s : State) (v : Nat) : State :=
  if v.testBit 0 then s.hostPortReset false
  else if v.testBit 1 then
    match s.host.ul with
    | .active | .l1 => s.retrain
    | .reset | .training | .retrain | .l2 | .linkError => s
  else s

end Sys2Proof.Machine
end

