-- ==== Sys2Proof/Machine/Fault.lean ====
section
/-! DEFINITION. Canopy's commands (R329, R335, R336, R339, R342, R343) and the events of chapters 16 and 17 that only assert
a device source (R328, R369). -/

namespace Sys2Proof.Machine

/-! ### Acknowledgement -/

/-- The first record of a home is cleared to VALID = 0, which closes its window (R336). -/
def State.clearRec (s : State) (h : Home) : State := [0, 1, 2, 3].foldl (fun s w => s.setRecWord h w 0) s

/-- A write of `FLT_ACK` (R336, R338): with a first record it closes the window and clears the record; with C2ACT = 1 bit 7 of
the channel's vote goes too.
Choices: log entry 29 (DEDUCED), log entry 53 (DEDUCED). -/
def State.fltAck (s : State) (c : Ch) (v : Nat) : State :=
  if v.testBit 0 && s.recValid (.ch c) then
    let s := s.clearRec (.ch c)
    if s.cb c .FLT_CFG_C2ACT && (s.cg c .CHPWR_VOTE_CLIENTS).testBit 3 then (s.voteBit c 7 false).voteChanged c
    else s
  else s

/-- A write of `FC_ACK` (R336). -/
def State.fcAck (s : State) (v : Nat) : State := if v.testBit 0 && s.recValid .dev then s.clearRec .dev else s

/-! ### Levels and reads -/

/-- The condition of a level source holds in the state (R327, R328), where the state holds it. An ADC slice fault lies
with the analog side. -/
def State.levelHolds (s : State) : FSrc → Bool
  | .chan c k => match k.val with
    | 6 => s.db .INTEG_CTL_MM_REACT && CBlk.all.any fun b => s.cb c (.tr b .CRC_MM)
    | 9 => (s.ch c).stuckOff || (s.powered c && !s.pllsReady c)
    | _ => false
  | .dev i => match i.val with
    | 0 => !s.power.warn.isEmpty
    | 2 => s.db .CLK_REFSTAT_REF_LOST
    | 4 => s.tempAbove (if s.otp.grade = 1 then 600 else 500)
    | 7 => s.db .INTEG_CTL_MM_REACT && DBlk.all.any fun b => s.db (.tr b .CRC_MM)
    | _ => false

/-- A source as Canopy numbers it. -/
def srcIdOf : FSrc → SrcId
  | .chan c k => .ch c k
  | .dev i => .dev i.val

/-- FAULT_LEVEL_FALL (R335): the condition of a level source has fallen. -/
def execFaultLevelFall (x : FSrc) (s : State) : Host.Outcome State Fault Refusal :=
  if !s.servicesUp || s.levelHolds x then ok s else ok (s.fallLevel (srcIdOf x))

/-- A read of word 0 of a first record, or of a source's status, marks it read (R335). -/
def State.markRead (s : State) : FRead → State
  | .first0 c => s.updCh c fun x => { x with firstRead := true }
  | .fcFirst0 => { s with canopy := { s.canopy with firstRead := true } }
  | .status c k => s.updCh c fun x => { x with statRead := if x.statRead.contains k.val then x.statRead else k.val :: x.statRead }
  | .fcStatus i => { s with canopy := { s.canopy with
      statRead := if s.canopy.statRead.contains i.val then s.canopy.statRead else i.val :: s.canopy.statRead } }

/-- A read of `FC_TIME0` latches Canopy time [47:32] into `FC_TIME1` (R345). -/
def State.latchTime (s : State) : State := s.ds .FC_TIME1_TIME (s.canopy.time / m32 % 65536)

/-! ### Classes and forced assertions -/

/-- The classes a device source may take (R328): lowest and highest. -/
def allowedCls (i : Nat) : Nat × Nat :=
  match i with
  | 0 | 1 | 10 => (1, 1)
  | 2 | 4 | 5 | 12 => (1, 3)
  | 3 | 8 | 9 => (0, 2)
  | 6 | 7 => (0, 3)
  | 11 | 14 => (0, 1)
  | 13 => (2, 3)
  | 15 | 16 => (3, 3)
  | _ => (0, 0)

/-- A write of `FC_CLASS<w>` (R328, R329): each allowed class is applied, a refused one sets CLS_REJ, and the bits of
unused sources are ignored. -/
def State.fcClass (s : State) (w v : Nat) : State :=
  (List.range 16).foldl (fun s m =>
    let i := 16 * w + m
    let n := v / 4 ^ m % 4
    if 18 ≤ i then s
    else if (allowedCls i).1 ≤ n && n ≤ (allowedCls i).2 then
      let o := s.dg (.FC_CLASS_CLASS w)
      s.ds (.FC_CLASS_CLASS w) (o - o / 4 ^ m % 4 * 4 ^ m + n * 4 ^ m)
    else s.ds .FC_STAT_CLS_REJ 1) s

/-- Asserts several sources of one cycle in the order of R334. Readings: log entry 53 (DEDUCED). -/
def State.assertAll (s : State) (l : List SrcId) : State :=
  (byClass s.classOfSrc l).foldl (fun t x => t.assertSrc x 0xF 0 true) s

/-- A write of `FLT_FORCE` (R342). Readings: log entry 53 (DEDUCED). -/
def State.fltForce (s : State) (c : Ch) (v : Nat) : State :=
  s.assertAll (((List.finRange 12).filter fun k => v.testBit k.val).map fun k => .ch c k)

/-- A write of `FC_FORCE<w>` (R328, R342): the bits of unused sources are ignored. Readings: log entry 53 (DEDUCED). -/
def State.fcForce (s : State) (w v : Nat) : State :=
  s.assertAll (((List.range 32).filter fun j => v.testBit j && decide (32 * w + j < 18)).map fun j => .dev (32 * w + j))

/-! ### Safe and shared-memory BIST -/

/-- SAFE_EXIT (R339): with CANOPY's record acknowledged and no device source of class C2 or C3 live, the device enters
Active, channels whose home holds no open C2 or C3 window are released, a powered channel in OFF whose sequencer came to
run in Safe enters IDLE (R21), and votes take effect again. The credit state
that a BIST destroyed is resynchronised (R343). Readings: log entry 29 (DEDUCED). -/
def State.safeExit (s : State) : State :=
  if s.power.mode = .safe && !s.recValid .dev &&
      (List.range 18).all fun i => !(s.live (.dev i) && decide (2 ≤ s.classOfSrc (.dev i))) then
    let s := s.setMode .active
    let s := s.forCh fun s c => if (s.ch c).sub = .quarantine && !s.heldBy (.ch c) then s.releaseCh c else s
    let s := s.forCh fun s c => clsUp.foldl (fun s k =>
      let p := s.pair c k
      if !p.synced && p.owed = 0 then (s.updPair c k fun p => { p with due := true }).trySync c k else s) s
    (s.forCh fun s c => s.idleCheck c).evalVotes
  else s.ds .FC_STAT_CMD_REJ 1

/-- A fresh value for each trim of a bank (R343). Choices: log entry 34 (DEDUCED), log entry 52 (DEDUCED). -/
def State.freshUt (s : State) : Ut3 × State :=
  let a := s.fresh 16
  let b := a.2.fresh 12
  let d := b.2.fresh 12
  (⟨a.1, b.1, d.1⟩, d.2)

/-- Shared-memory BIST starts (R343), in Service only. It destroys the credit state, Heartwood's RAM and the class-D
mirror and banks; what the banks then hold is free. Readings: log entry 52 (DEDUCED). -/
def State.smbist (s : State) : State :=
  match s.power.mode with
  | .service =>
    let s := (s.ds .FC_CMD_SMBIST 1).ds .FC_SMBIST_DONE 0
    let pairs := .replicate 32 (.replicate 8 Pair.init)
    let s := (s.clearStaging.updHeart fun h => { h with report := [] }).updHost fun h => { h with pairs := pairs }
    let s := [0, 1].foldl (fun s i =>
      let a := s.fresh 10
      let b := a.2.fresh 10
      b.2.updCal fun k => { k with dev := k.dev.mapIdx fun j x => if j = i then (a.1, b.1) else x }) s
    s.forCh fun s c => [0, 1].foldl (fun s i =>
      let u := s.freshUt
      u.2.updCal fun k => { k with chans := k.chans.set c.val (k.chans[c.val].mapIdx fun j x => if j = i then u.1 else x) }) s
  | .off | .dormant | .standby | .boot | .active | .safe | .lockedOut => s.ds .FC_STAT_CMD_REJ 1

/-- A write of `FC_CMD` (R339, R343). -/
def State.fcCmd (s : State) (v : Nat) : State :=
  let s := if v.testBit 0 then s.safeExit else s
  if v.testBit 1 then s.smbist else s

/-- SMBIST_DONE (R343): the result is written and each failing group asserts source 401.
Readings: log entry 52 (DEDUCED). -/
def execSmbistDone (fail : BitVec 3) (rows : Nat) (s : State) : Host.Outcome State Fault Refusal :=
  if s.db .FC_CMD_SMBIST then
    let s := ((s.ds .FC_CMD_SMBIST 0).ds .FC_SMBIST_FAIL fail.toNat).ds .FC_SMBIST_DONE 1
    ok ([0, 1, 2].foldl (fun s g => if fail.getLsbD g then s.assertSrc (.dev 17) g (rows % m32) else s) s)
  else ok s

/-! ### Queue accounting -/

/-- The accounting checks of a channel that fail (R330): cells in the egress queues, kind 0, and in the ingress queues, kind
1, beyond the buffer; and a class's egress credit below its occupancy, kind 2. -/
def State.acctBad (s : State) (c : Ch) : List (Nat × Nat) :=
  let q := (s.ch c).queue
  (if bufferCells c < q.egHeld then [(0, 0)] else []) ++
    (if bufferCells c < (clsUp.map q.inCells).sum then [(1, 0)] else []) ++
    (clsUp.filter fun k => (s.pair c k).eg.outstanding < q.egCells k).map fun k => (2, k.val)

/-- One cycle of the accounting checks (R330): each that begins to fail asserts k = 8, with the class as the address. The
class that kinds 0 and 1 name is not given, and free. Readings: log entry 53 (DEDUCED). -/
def State.acctCheck (s : State) (c : Ch) : State :=
  if !s.clocked c .queue then s else
  let was := (s.ch c).queue.bad
  let bad := s.acctBad c
  let s := s.updQ c fun q => { q with bad := bad }
  (bad.filter fun x => !was.contains x).foldl (fun s x =>
    if x.1 = 2 then s.assertSrc (.ch c 8) 2 x.2 else
    let r := s.fresh 3
    r.2.assertSrc (.ch c 8) x.1 r.1) s

/-! ### Integrity -/

/-- GLITCH_DETECT (R328): Heartwood's glitch detector trips. -/
def execGlitchDetect (s : State) : Host.Outcome State Fault Refusal :=
  if s.heartOn then ok (s.assertSrc (.dev 15) 1 0) else ok s

/-- KEY_STORE_INTEGRITY_FAIL (R369). -/
def execKeyStoreIntegrityFail (s : State) : Host.Outcome State Fault Refusal :=
  if s.servicesUp then ok (s.assertSrc (.dev 15) 2 0) else ok s

/-- SVC_MEM_ECC_ERROR (R328): PD34 reports only while it is powered. -/
def execSvcMemEccError (pd : Fin 4) (row : Nat) (s : State) : Host.Outcome State Fault Refusal :=
  if s.servicesUp && (pd.val ≠ 1 || s.pd34) then ok (s.assertSrc (.dev 13) pd.val (row % m32)) else ok s

/-- CANOPY_RAM_ECC_ERROR (R328, R343). -/
def execCanopyRamEccError (row : Nat) (s : State) : Host.Outcome State Fault Refusal :=
  if s.servicesUp then ok (s.assertSrc (.dev 16) 0 (row % m32)) else ok s

end Sys2Proof.Machine
end

