-- ==== Sys2Proof/Machine/Heart.lean ====
section
/-! DEFINITION. Heartwood and the debug controller: Boot (R347, R348), images and loads (R349 to R352, R179 to R181), keys,
counters and lifecycle (R353 to R358), attestation (R360, R361), sessions (R362 to R366). -/

namespace Sys2Proof.Machine

/-! ### Sequencer memories and the start of a program -/

/-- Program RAM bytes of a channel's class (R161). -/
def pramBytes (c : Ch) : Nat := match classOf c with | .trunk => 32768 | .branch => 16384 | .segment => 8192

/-- Data RAM bytes of a channel's class (R161). -/
def dramBytes (c : Ch) : Nat := match classOf c with | .trunk => 16384 | .branch => 8192 | .segment => 4096

/-- The ROM program of a channel's class (R181). -/
def romOf (c : Ch) : Nat := match classOf c with | .trunk => 1 | .branch => 2 | .segment => 3

/-- The first word of a ROM program and the word after its last (R181): a nonempty range within the channel's program
RAM. Choices: log entry 8 (DESIGN CHOICE). -/
def romRange (c : Ch) (id : Nat) : Nat × Nat :=
  let n := pramBytes c / 4
  let b := (Config.romPlace id).1 % n
  (b, b + 1 + (Config.romPlace id).2 % (n - b))

/-- The byte of ROM program `id` at address `a`; 0 outside the program and for `id` 0.
Choices: log entry 8 (DESIGN CHOICE). -/
def romAt (c : Ch) (id a : Nat) : Byte :=
  if id = 0 then 0 else
  let r := romRange c id
  if r.1 ≤ a / 4 ∧ a / 4 < r.2 then Config.romByte id a else 0

/-- A byte of program RAM. -/
def State.pramByte (s : State) (c : Ch) (a : Nat) : Byte :=
  let q := (s.ch c).seq
  q.pram.readByte a ^^^ romAt c q.rom a

/-- The word of program RAM at byte address `a` (R184). -/
def State.pramWord (s : State) (c : Ch) (a : Nat) : Word :=
  s.pramByte c (a + 3) ++ s.pramByte c (a + 2) ++ s.pramByte c (a + 1) ++ s.pramByte c a

/-- Writes a word of program RAM. -/
def State.setPramWord (s : State) (c : Ch) (a : Nat) (v : Word) : State :=
  s.updSeq c fun q => { q with pram := (List.range 4).foldl (fun m i =>
    m.writeByte (a + i) (v.extractLsb' (8 * i) 8 ^^^ romAt c q.rom (a + i))) q.pram }

/-- Steps 3 to 6 of R179 for program `src` with its capability field, place and length: data RAM is cleared but for the
parameter block, the program's identity and range are set, and it starts. -/
def State.started (s : State) (c : Ch) (src id rollback cap : Nat) (range : Nat × Nat) : State :=
  let s := s.updSeq c fun q => { q with dram := q.dram.keep (· < 256), ld := .none }
  let s := (((s.cs c .SEQ_IMG_SRC src).cs c .SEQ_IMG_MODIFIED 0).cs c .SEQ_IMG_PROG_ID id).cs c .SEQ_IMG_ROLLBACK rollback
  let s := (s.cs c .SEQ_CAP0_CAP cap).cs c .SEQ_CAP1_CAP (cap / m32)
  let s := (s.cs c .SEQ_LOAD_BASE range.1).cs c .SEQ_LOAD_END range.2
  ((s.cs c .SEQ_TRAPVEC_EN 0).cs c .SEQ_TRAPVEC_VEC 0).seqEnter c

/-- A ROM program is in program RAM and starts (R179, R181). Choices: log entry 8 (DESIGN CHOICE). -/
def State.loadRom (s : State) (c : Ch) (id : Nat) : State :=
  let s := s.updSeq c fun q => { q with pram := [], rom := id, meas := 0 }
  s.started c 1 id 0 (if id = 4 then 0x1601 else 0x1FFFFF) (romRange c id)

/-- An accepted image is in program RAM and starts (R179). -/
def State.loadImg (s : State) (c : Ch) (i : Img) : State :=
  let s := s.updSeq c fun q => { q with pram := i.payload.map fun x => (x.1 + i.addr, x.2), rom := 0, meas := i.meas }
  s.started c 2 0 i.rollback i.cap (i.addr / 4, (i.addr + i.len) / 4)

/-- Bit 6 goes when a load ends, and takes effect (R348). -/
def State.loadEnded (s : State) (c : Ch) : State := ((s.voteBit c 6 false).voteChanged c).idleCheck c

/-- LOAD_COMPLETE (R160, R179, R348): the program starts at its entry point. After an image's channel the next of its mask
follows, and after the last the SUBMIT ends. An image that Standby has taken from Heartwood gives way to the ROM
program. Readings: log entry 49 (DEDUCED). -/
def execLoadComplete (c : Ch) (s : State) : Host.Outcome State Fault Refusal :=
  let q := (s.ch c).seq
  if q.st ≠ .loading || !s.loadable c then ok s else
  match q.ld, s.heart.img with
  | .image, some i =>
    let s := (s.loadImg c i).updHeart fun h => { h with todo := h.todo.filter (· ≠ c) }
    ok (s.loadEnded c).feed
  | .rom id, _ => ok ((s.loadRom c id).loadEnded c).feed
  | .image, none | .none, _ => ok ((s.loadRom c (romOf c)).loadEnded c).feed

/-- SEQ_START (R160, R180, R281): out of reset with its SEQ enable set, the sequencer leaves STOPPED. It runs the program
in program RAM from its entry point; with none there Heartwood loads the accepted image that waits for the channel, or the
class's ROM program, which in Boot comes only at the end (R347). In Service it stays STOPPED (R368).
Readings: log entry 49 (DEDUCED). -/
def execSeqStart (c : Ch) (s : State) : Host.Outcome State Fault Refusal :=
  if (s.ch c).seq.st ≠ .stopped || !s.loadable c || !s.chEn c .seq || s.power.mode = .service then ok s
  else if s.heart.img.isSome && s.heart.todo.head? = some c then ok s.feed
  else if s.cg c .SEQ_IMG_SRC ≠ 0 then ok ((s.seqEnter c).idleCheck c)
  else if s.power.mode = .boot then ok s
  else ok ((s.voteBit c 6 true).startLoad c (.rom (romOf c)))

/-! ### Boot -/

/-- BOOT_OTP_LOAD_DONE (R347 steps 1 to 3, R281, R309, R328, R357): the mask ROM has checked itself, and a failure locks the
device out; the service enables are set, OTP is loaded, an unfinished blanking completes, votes take effect, and the image
window opens, or with WAIT = 0 closes at once. `bad` are the OTP words that read with an uncorrectable error. The word that
a failed factory-trim CRC names is free. Readings: log entry 19 (DEDUCED). -/
def execBootOtpLoadDone (romOk ftOk : Bool) (bad : List Word) (s : State) : Host.Outcome State Fault Refusal :=
  if s.power.mode ≠ .boot || !s.servicesUp || s.db .ID_OTPSTAT_OTP_LOADED then ok s else
  if !romOk then ok (s.assertSrc (.dev 15) 0 0) else
  let s := (((s.ds .CLK_SVCEN_CAL 1).ds .CLK_SVCEN_INTEG 1).ds .CLK_SVCEN_ID 1).ds .CLK_SVCEN_MGMT 1
  let s := (s.ds .ID_OTPSTAT_OTP_LOADED 1).ds .ID_OTPSTAT_FT_VALID (b2n ftOk)
  let s := if s.otp.unfinished then s.updOtp Otp.blank else s
  let s := if ftOk then s else
    let r := s.fresh 32
    r.2.assertSrc (.dev 12) 0 r.1
  let s := bad.foldl (fun s a => s.assertSrc (.dev 12) 1 a.toNat) s
  match s.power.mode with
  | .boot =>
    let s := s.evalVotes
    ok (s.updHeart fun h => { h with boot := if s.dg .HEART_BOOTCFG_WAIT = 0 then 5 else 3 })
  | .off | .dormant | .standby | .active | .service | .safe | .lockedOut => ok s

/-- A submission is in progress (R347 step 5). -/
def HeartSt.submitting (h : HeartSt) : Bool :=
  match h.op with
  | some .submit | some (.keyImage _ _ _) => true
  | _ => false

/-- BOOT_WAIT_EXPIRE (R347 step 5): a submission in progress completes first. -/
def execBootWaitExpire (s : State) : Host.Outcome State Fault Refusal :=
  if s.heart.boot = 3 then ok (s.updHeart fun h => { h with boot := if h.submitting then 4 else 5 }) else ok s

/-- BOOT_END (R347 steps 6 and 7, R181): every powered channel that no accepted image targeted has its ROM program, and
the mode is Active. Readings: log entry 49 (DEDUCED). -/
def execBootEnd (s : State) : Host.Outcome State Fault Refusal :=
  if s.power.mode = .boot && s.servicesUp && s.heart.boot = 5 && !s.heart.submitting then
    let s := s.forCh fun s c =>
      if s.loadable c && (s.ch c).seq.st = .stopped && s.cg c .SEQ_IMG_SRC = 0 then s.loadRom c (romOf c) else s
    let s := ((s.setMode .active).ds .HEART_EVT_BOOT_END 1).updHeart fun h => { h with boot := 0 }
    ok ((s.forCh fun s c => s.idleCheck c).evalVotes)
  else ok s

/-! ### Commands and staging -/

/-- The bytes of the staged header (R350). -/
def State.hdr (s : State) : List Byte := (List.range 64).flatMap fun k => leBytes (s.dg (.HEART_HDR_DATA k))

/-- A write of `HEART_CMD` (R347, R349, R355, R360, R370).
Choices: log entry 23 (DEDUCED), log entry 49 (DEDUCED), log entry 50 (DEDUCED). -/
def State.heartCmd (s : State) (v : Nat) : State :=
  let rej := s.ds .HEART_EVT_CMD_REJ 1
  if s.heart.op.isSome then rej else
  match v % 8 with
  | 1 => if s.power.mode = .boot && s.heart.boot ≠ 3 then rej else s.updHeart fun h => { h with op := some .submit }
  | 2 => if s.power.mode = .boot && s.heart.boot = 3 then s.updHeart fun h => { h with boot := 5 } else rej
  | 3 =>
    if s.otp.lc = 0 || s.otp.lc = 4 then s.heartRes 2 1 2
    else s.updHeart fun h => { h with op := some (.attest s.integ.fprint (s.dg .INTEG_FPSEQ_SEQ)) }
  | 4 => s.clearStaging
  | _ => rej

/-- A write of `HEART_DATA` (R349, R355): bytes beyond 32 KiB are counted and discarded. -/
def State.heartData (s : State) (v : Nat) : State :=
  if s.heart.submitting then s.ds .HEART_EVT_CMD_REJ 1 else
  let n := s.dg .HEART_DCOUNT_VALUE
  let s := s.ds .HEART_DCOUNT_VALUE (n + 4)
  if n + 4 ≤ 32768 then s.updHeart fun h => { h with data := h.data.writeBytes n (leBytes v) } else s

/-! ### Images -/

/-- Word `k` of the staged header. -/
def State.hw (s : State) (k : Nat) : Nat := s.dg (.HEART_HDR_DATA k)

/-- The conditions of R178 on the place of a link image. -/
def layoutOk (mask addr len : Nat) : Bool :=
  addr % 4 = 0 && len % 4 = 0 && len ≠ 0 && mask ≠ 0 && (chansOf mask).all fun c => decide (addr + len ≤ pramBytes c)

/-- The payload of a key-management image (R352): OP, SLOT and HASH, and whether the operation is allowed. A REVOKE's HASH
is one of the bytes that must be 0. -/
def State.keyOpOf (s : State) : Nat × Nat × Nat × Bool :=
  let b := s.heart.data.readBytes 0 48
  let op := (b.getD 0 0).toNat
  let k := (b.getD 1 0).toNat
  let h := ofLe (b.drop 16)
  let form := 1 ≤ k && k ≤ 4 && ((b.drop 2).take 14).all (· = 0)
  let allowed := match op with
    | 1 => !s.otp.populated k && !s.otp.rev.testBit k
    | 2 => h = 0 && s.otp.populated k && custSlots.any fun j => j ≠ k && s.otp.usable j
    | _ => false
  (op, k, h, form && allowed)

/-- Bytes 0 to 31 of a hash equal a slot (R351, R364). -/
def State.slotIs (s : State) (k : Nat) (pub : List Byte) : Bool :=
  ofLe ((sha512 pub).take 32) = s.otp.slots.toList.getD k 0

/-- The number of the first check of R351 that fails, 0 for none. Readings: log entry 50 (DEDUCED). -/
def State.imageReason (s : State) : Nat :=
  let h := s.hdr
  let typ := bits (s.hw 1) 23 16
  let slot := bits (s.hw 1) 31 24
  let len := s.hw 4
  let res0 := bits (s.hw 5) 31 16 = 0 && (List.range 12).all fun i => s.hw (36 + i) = 0
  if s.hw 0 ≠ 0x4D494A46 || bits (s.hw 1) 15 0 ≠ 1 || !res0 then 1
  else if !((typ = 1 || typ = 2) && (s.otp.lc = 1 || s.otp.lc = 2)) then 2
  else if !(1 ≤ slot && slot ≤ 4 && s.otp.usable slot) then 3
  else if !s.slotIs slot ((h.drop 96).take 32) then 4
  else if !edVerify ((h.drop 96).take 32) (h.take 192) (h.drop 192) then 5
  else if !(if typ = 1 then layoutOk (s.hw 2) (s.hw 3) len
      else s.hw 2 = 0 && s.hw 3 = 0 && len = 48 && s.hw 6 = 0 && s.hw 7 = 0) then 6
  else if bits (s.hw 5) 15 0 < s.otp.rb.toList.getD (typ - 1) 0 then 7
  else if !(s.dg .HEART_DCOUNT_VALUE = len && len ≤ 32768 &&
      sha512 (s.heart.data.readBytes 0 len) = (h.drop 32).take 64) then 8
  else if typ = 2 && !s.keyOpOf.2.2.2 then 9
  else 0

/-- IMAGE_VERDICT (R351): a rejected image sets the reason and asserts source 395; an accepted link image is loaded
channel by channel; an accepted key image starts its OTP write. -/
def execImageVerdict (s : State) : Host.Outcome State Fault Refusal :=
  match s.heart.op, s.heart.img with
  | some .submit, none =>
    let r := s.imageReason
    if r ≠ 0 then
      let mask := s.hw 2
      let s := ((s.heartRes 1 1 r).clearStaging).updHeart HeartSt.done
      ok (s.assertSrc (.dev 11) r mask)
    else if bits (s.hw 1) 23 16 = 2 then
      let x := s.keyOpOf
      ok (s.updHeart fun h => { h with op := some (.keyImage x.1 x.2.1 x.2.2.1) })
    else
      let i : Img := ⟨s.hw 3, s.hw 4, bits (s.hw 5) 15 0, s.hw 6 + s.hw 7 * m32, s.heart.data, ofLe ((sha512 s.hdr).take 32)⟩
      let l := chansOf (s.hw 2)
      ok (s.updHeart fun h => { h with img := some i, todo := l }).feed
  | _, _ => ok s

/-! ### Keys, counters and lifecycle -/

/-- Starts an operation that writes OTP or checks a token. -/
def State.startOp (s : State) (op : HeartOp) : State := s.updHeart fun h => { h with op := some op }

/-- RB_SET is allowed (R354). -/
def State.rbAllowed (s : State) (cnt v : Nat) : Bool :=
  (s.otp.lc = 1 || s.otp.lc = 2) && decide (s.otp.rb.toList.getD cnt 0 < v) && decide (v ≤ 64) &&
    (cnt ≠ 0 || allCh.all fun c => s.cg c .SEQ_IMG_SRC ≠ 2 || decide (v ≤ s.cg c .SEQ_IMG_ROLLBACK))

/-- A write of `HEART_LCCMD` (R353 to R357, R370). A command outside the table or refused in its state is rejected with
reason 2. OP = 0 is no command. Readings: log entry 23 (DEDUCED). -/
def State.lcCmd (s : State) (v : Nat) : State :=
  if s.heart.op.isSome then s.ds .HEART_EVT_CMD_REJ 1 else
  let op := bits v 2 0
  let slot := bits v 6 4
  let cnt := bits v 8 8
  let val := bits v 22 16
  let s := ((s.ds .HEART_LCCMD_SLOT slot).ds .HEART_LCCMD_CNT cnt).ds .HEART_LCCMD_VALUE val
  match op with
  | 0 => s
  | 1 =>
    if s.otp.lc = 1 && 1 ≤ slot && slot ≤ 4 && !s.otp.populated slot && !s.otp.rev.testBit slot then
      s.startOp (.keyProg slot (ofLe ((List.range 8).flatMap fun i => leBytes (s.dg (.HEART_KEYHASH_DATA i)))))
    else s.heartRes 3 1 2
  | 2 => if s.otp.lc = 1 && custSlots.any s.otp.usable then s.startOp .deploy else s.heartRes 4 1 2
  | 3 =>
    if s.otp.lc = 1 then s.startOp (.ret 0 0 s.integ.fprint)
    else if s.otp.lc = 2 then (s.startOp (.retTok s.integ.fprint)).ds .DBG_STAT_BUSY (b2n s.pd37)
    else s.heartRes 5 1 2
  | 4 => if s.otp.lc = 1 || s.otp.lc = 3 then s.startOp .scrap else s.heartRes 6 1 2
  | 5 => if s.rbAllowed cnt val then s.startOp (.rbSet cnt val) else s.heartRes 7 1 2
  | _ => s.heartRes (s.dg .HEART_RES_OP) 1 2

/-- RETURN and SCRAP complete (R357): the lifecycle bit, the return record, the blanking and the device soft reset.
Readings: log entry 50 (DEDUCED). -/
def State.lcEnd (s : State) (lc : Nat) (rec_ : List Byte) : State :=
  let s := (s.lcStep lc).endSession 6
  let s := s.updOtp fun o => ({ o with retrec := if lc = 3 then rec_ else o.retrec, recBad := o.recBad && lc ≠ 3 }).blank
  (s.updHeart HeartSt.done).warmReset .soft

/-- The operation writes OTP (R352 to R357). -/
def HeartOp.writes : HeartOp → Bool
  | .keyProg _ _ | .keyImage _ _ _ | .deploy | .rbSet _ _ | .ret _ _ _ | .scrap => true
  | .submit | .attest _ _ | .retTok _ | .openTok => false

/-- LC_PROG_DONE (R352 to R358): the OTP write of a lifecycle, key or counter command ends. A revocation ends a session
that the slot signed (R366). A write of the word `bad` that failed asserts source 396 (R328) and is made again (DEDUCED, log
entry 50). -/
def execLcProgDone (bad : Option Word) (s : State) : Host.Outcome State Fault Refusal :=
  match bad with
  | some a => ok (if s.heart.op.any HeartOp.writes then s.assertSrc (.dev 12) 2 a.toNat else s)
  | none =>
  let fin := fun (s : State) (op : HeartOp) => (s.heartRes op.code 0 0).updHeart HeartSt.done
  match s.heart.op with
  | some (.keyProg k h) =>
    ok (fin (s.updOtp fun o => o.keyOp 1 k h).clearKeyHash (.keyProg k h))
  | some (.keyImage op k h) =>
    let s := fin ((s.updOtp fun o => o.keyOp op k h).clearStaging) (.keyImage op k h)
    ok (if op = 2 && s.dg .DBG_STAT_SLOT = k then s.endSession 7 else s)
  | some .deploy =>
    let s := (s.updOtp fun o => { o with lc := 2 }).ds .HEART_EVT_LC_CHG 1
    ok ((fin s .deploy).endSession 6)
  | some (.rbSet cnt v) =>
    let s := (s.updOtp fun o => o.rbTo cnt v).ds .HEART_EVT_RB_CHG 1
    ok (fin s (.rbSet cnt v))
  | some (.ret ref slot fp) => ok (s.lcEnd 3 (s.retRecord ref slot fp))
  | some .scrap => ok (s.lcEnd 4 [])
  | some .submit | some (.attest _ _) | some (.retTok _) | some .openTok | none => ok s

/-! ### Attestation -/

/-- A word of OTP identification as its register reads (R32). -/
def State.idRev (s : State) : Nat := 0x10000 + s.otp.step * 256 + s.otp.metal

/-- The measurement of one channel in a report (R361): its 36 bytes. -/
def State.measOf (s : State) (c : Ch) : List Byte :=
  let m := if (s.ch c).sub = .off || s.cg c .SEQ_IMG_SRC ≠ 2 then 0 else (s.ch c).seq.meas
  leN 32 m ++ leN 2 (s.cg c .SEQ_IMG_SRC * 16384 + s.cg c .SEQ_IMG_MODIFIED * 8192 + s.cg c .SEQ_IMG_PROG_ID) ++
    leN 2 (s.cg c .SEQ_IMG_ROLLBACK)

/-- The spare figures of one channel in a report (R361): its 8 bytes. -/
def State.graftOf (s : State) (c : Ch) : List Byte :=
  (pools.flatMap fun p => leN 1 (s.poolUsed c p)) ++
    leN 2 (if (s.ch c).sub = .off then 0xFFFF else s.cg c .GRAFT_LIFE_HOURS) ++ [0]

/-- The return record is present and its CRC is right (R357). -/
def Otp.rrValid (o : Otp) : Bool :=
  o.retrec.length = 32 && !o.recBad && crc32c (o.retrec.take 28) = ofLe (o.retrec.drop 28)

/-- The populated slots, as `HEART_SLOTS.POP` shows them (R370). -/
def Otp.pop (o : Otp) : Nat := (List.range 5).foldl (fun m k => if o.populated k then m + 2 ^ k else m) 0

/-- Bytes 0 to 1,495 of the report of R361. -/
def State.reportBody (s : State) (fp seq : Nat) : List Byte :=
  let dbg := b2n s.session + 2 * b2n s.dbgr.opened + 4 * b2n s.otp.vtest + 8 * b2n s.otp.rrValid
  leN 4 0x54414A46 ++ leN 2 1 ++ leN 2 1560 ++
  ((List.range 8).flatMap fun i => leBytes (s.dg (.HEART_ANONCE_DATA i))) ++ leN 16 s.otp.did ++
  leN 1 s.otp.lc ++ leN 1 dbg ++ leN 1 s.power.mode.code ++ leN 1 s.otp.pop ++ leN 1 s.otp.rev ++
  leN 1 s.otp.rb[0] ++ leN 1 s.otp.rb[1] ++ [0] ++ leN 8 fp ++ leN 4 seq ++
  leN 4 (s.otp.bootrom * 65536 + s.otp.seqlib) ++ leN 4 s.idRev ++
  leN 1 (s.lanesUsed false) ++ leN 1 (s.lanesUsed true) ++ leN 2 0 ++
  (allCh.flatMap fun c => s.measOf c) ++ allCh.flatMap fun c => s.graftOf c

/-- The report of R361, signed by the identity key. -/
def State.report (s : State) (fp seq : Nat) : List Byte :=
  let b := s.reportBody fp seq
  b ++ edSign (leN 32 (s.otp.idKey.getD 0)) b

/-- ATTEST_DONE (R360, R361). -/
def execAttestDone (s : State) : Host.Outcome State Fault Refusal :=
  match s.heart.op with
  | some (.attest fp seq) =>
    let r := s.report fp seq
    let s := (s.updHeart fun h => { h with report := Mem.writeBytes [] 0 r }).clearAnonce
    ok (((s.heartRes 2 0 0).ds .HEART_EVT_ATTEST_DONE 1).updHeart HeartSt.done)
  | _ => ok s

/-! ### Debug sessions -/

/-- Word `k` of the token buffer (R363). -/
def State.tw (s : State) (k : Nat) : Nat := s.dg (.DBG_TOKEN_DATA k)

/-- Token words from `a`, `n` of them, are all 0. -/
def State.twZero (s : State) (a n : Nat) : Bool := (List.range n).all fun i => s.tw (a + i) = 0

/-- The bytes of the token buffer from word `a`, `n` words (R363). -/
def State.tokenBytes (s : State) (a n : Nat) : List Byte := (List.range n).flatMap fun i => leBytes (s.tw (a + i))

/-- The number of the first check of R364 that fails, 0 for none; `ret` says the check is RETURN's. -/
def State.tokenReason (s : State) (ret : Bool) : Nat :=
  let typ := bits (s.tw 1) 23 16
  let slot := bits (s.tw 1) 31 24
  let zeros := match typ with
    | 1 => s.twZero 13 2 && s.tw 11 < 8
    | 2 => s.twZero 10 3
    | 3 => s.twZero 10 5
    | _ => true
  if s.tw 0 ≠ 0x4B544A46 || bits (s.tw 1) 15 0 ≠ 1 || !s.twZero 15 1 || !s.twZero 24 8 || !zeros then 1
  else if !(if ret then typ = 2 && s.otp.lc = 2
      else (typ = 1 && (s.otp.lc = 1 || s.otp.lc = 2)) || (typ = 3 && s.otp.lc = 3)) then 2
  else if !(if typ = 3 then slot = 0 else 1 ≤ slot && slot ≤ 4 && s.otp.usable slot) then 3
  else if !s.slotIs slot (s.tokenBytes 16 8) then 4
  else if !((List.range 4).all fun i => s.tw (2 + i) = s.otp.did / m32 ^ i % m32) then 5
  else if !(s.db .DBG_STAT_NONCE_VALID && (List.range 4).all fun i => s.tw (6 + i) = s.dg (.DBG_NONCE_DATA i)) then 6
  else if !edVerify (s.tokenBytes 16 8) (s.tokenBytes 0 32) (s.tokenBytes 32 16) then 7
  else match s.power.mode with
    | .active | .service | .safe => 0
    | .off | .dormant | .standby | .boot | .lockedOut => 8

/-- A session opens under the token (R365). Readings: log entry 51 (DEDUCED). -/
def State.openSession (s : State) : State :=
  let mask := s.tw 10
  let dur := s.tw 12
  let v := bits (s.tw 1) 23 16 = 3
  let s := if v then (s.ds .DBG_STAT_VTEST 1).updOtp fun o => { o with vtest := true } else s.ds .DBG_STAT_OPEN 1
  let s := ((s.ds .DBG_STAT_RIGHTS (s.tw 11)).ds .DBG_CHMASK_CH mask).ds .DBG_STAT_SLOT (bits (s.tw 1) 31 24)
  let s := (s.ds .PWR_DBGVOTE_DEBUG 1).ds .DBG_EVT_OPENED 1
  let s := { s with dbgr := { s.dbgr with left := if dur = 0 then none else some (dur * 25000000), opened := true } }
  let s := (chansOf mask).foldl (fun s c => (s.voteBit c 8 true).voteUp c) s
  s.assertSrc (.dev 14) 0 mask

/-- TOKEN_CHECK_DONE (R364, R365): a session opens or RETURN goes on, or the token is rejected. The nonce is used and the
token buffer cleared either way. The registers of DEBUG change only while PD37 is powered.
Choices: log entry 50 (DEDUCED). -/
def execTokenCheckDone (s : State) : Host.Outcome State Fault Refusal :=
  let check := fun (ret : Bool) (fp : Nat) =>
    let r := s.tokenReason ret
    let ref := s.tw 13 + s.tw 14 * m32
    let slot := bits (s.tw 1) 31 24
    let end_ := fun s : State => (s.dropNonce.clearToken).ds .DBG_STAT_BUSY 0
    if r ≠ 0 then
      let s := end_ s
      let s := if s.pd37 then (s.ds .DBG_RES_REASON r).ds .DBG_EVT_TOKEN_REJ 1 else s
      let s := (if ret then s.heartRes 5 1 2 else s.ds .HEART_EVT_DONE 1).updHeart HeartSt.done
      s.assertSrc (.dev 14) 2 (s.dg .DBG_CHMASK_CH)
    else if ret then (end_ s).startOp (.ret ref slot fp)
    else (end_ s.openSession).updHeart HeartSt.done |>.ds .HEART_EVT_DONE 1
  match s.heart.op with
  | some .openTok => ok (check false 0)
  | some (.retTok fp) => ok (check true fp)
  | _ => ok s

/-- A write of `DBG_CMD` (R355, R362, R364, R366, R371). `n` is the number that Heartwood's random source gives. One
session is open at a time. CMD = 0 is no command. Readings: log entry 23 (DEDUCED). -/
def State.dbgCmd (s : State) (v n : Nat) : State :=
  let rej := s.ds .DBG_EVT_CMD_REJ 1
  match v % 4 with
  | 1 =>
    if s.heartOn then
      ([0, 1, 2, 3].foldl (fun s i => s.ds (.DBG_NONCE_DATA i) (n / m32 ^ i)) s).ds .DBG_STAT_NONCE_VALID 1
    else rej
  | 2 => if s.heart.op.isSome || !s.heartOn || s.session then rej else (s.startOp .openTok).ds .DBG_STAT_BUSY 1
  | 3 => if s.session then s.endSession 1 else rej
  | _ => s

/-- NONCE_EXPIRE (R362). -/
def execNonceExpire (s : State) : Host.Outcome State Fault Refusal :=
  if s.db .DBG_STAT_NONCE_VALID then ok s.dropNonce else ok s

/-- SESSION_EXPIRE (R366, R368): the DURATION has run out; in Standby it is paused. -/
def execSessionExpire (s : State) : Host.Outcome State Fault Refusal :=
  if s.session && s.dbgr.left.isSome && s.power.mode ≠ .standby then ok (s.endSession 2) else ok s

/-- A write of `DBG_TRCTL` (R365, R371): EN is ignored without the TRACE right for the channel it names.
Readings: log entry 51 (DEDUCED). -/
def State.trCtl (s : State) (v : Nat) : State :=
  let c := bits v 4 0
  let grant := if h : c < 32 then s.right 1 ⟨c, h⟩ else false
  let en := v.testBit 8 && grant
  let s := (s.ds .DBG_TRCTL_CH c).ds .DBG_TRCTL_EN (b2n en)
  { s with dbgr := { s.dbgr with tracing := en, cyc := 0 } }

/-- An entry of the PC trace (R371), where channel `c` is traced: kind 0 taken branch, call or ret, 1 trap, 2 end of a
wait, 3 pwr. The sequencer cycles since the entry before saturate. Readings: log entry 51 (DEDUCED). -/
def State.trace (s : State) (c : Ch) (kind pc : Nat) : State :=
  if s.dbgr.tracing && s.dg .DBG_TRCTL_CH = c.val && s.right 1 c then
    let w := BitVec.ofNat 32 (s.dbgr.cyc * 65536 + kind * 8192 + pc % 8192)
    let n := s.dg .DBG_TRSTAT_COUNT
    let s := if n < 1024 then s.ds .DBG_TRSTAT_COUNT (n + 1) else s.ds .DBG_TRSTAT_WRAP 1
    { s with dbgr := { s.dbgr with
        trace := s.dbgr.trace.writeWord (4 * s.dbgr.pos) w, pos := (s.dbgr.pos + 1) % 1024, cyc := 0 } }
  else s

/-- The sequencer cycles since the last entry of the trace, once `n` more have passed in channel `c` (R371): they saturate. -/
def State.traceCyc (s : State) (c : Ch) (n : Nat) : Nat :=
  if s.dbgr.tracing && s.dg .DBG_TRCTL_CH = c.val then min 65535 (s.dbgr.cyc + n) else s.dbgr.cyc

/-- Cycles of the sequencer pass (R189, R371): `SEQ_CYCLES` counts them, and so does the trace of its channel. -/
def State.seqCycles (s : State) (c : Ch) (n : Nat) : State :=
  { s.cinc c .SEQ_CYCLES_COUNT n with dbgr := { s.dbgr with cyc := s.traceCyc c n } }

end Sys2Proof.Machine
end

