-- ==== Sys2Proof/Machine/Pins.lean ====
section
/-! DEFINITION. The IEEE 1149.1 controller's instruction and boundary register (R385, R386), and the levels of the pins that the
boundary register covers (R374, R386, R398). -/

namespace Sys2Proof.Machine

/-! ### The instruction (R385) -/

/-- The TAP controller answers (R385): PD36 is up, from Standby to Locked-out. -/
def State.tapUp (s : State) : Bool := s.servicesUp

/-- The TAP controller answers and TRST_N does not hold it in Test-Logic-Reset (R385). -/
def State.tapLive (s : State) : Bool := s.tapUp && !s.jtag.trst

/-- What the instruction register captures in Capture-IR (R385). -/
def State.irCapture (s : State) : Nat := if s.power.mode = .service then 5 else 1

/-- An instruction is loaded: the scan that shifts it in captures first. Readings: log entry 21 (DEDUCED). -/
def State.tapLoad (s : State) (code : Nat) : State := { s with jtag := { s.jtag with ir := code, cap := s.irCapture } }

/-- What the instruction register selects (R374, R385): an instruction outside its availability selects bypass, and in Locked-out
every one but IDCODE does. Readings: log entry 21 (DEDUCED). -/
def State.tapSel (s : State) : Nat :=
  let ir := s.jtag.ir
  if ir = 1 then 1
  else if (ir = 0 || ir = 2 || ir = 3 || ir = 4) && s.power.mode = .service then ir
  else if ir = 0x20 && s.pd37 && s.power.mode ≠ .lockedOut then 0x20
  else 0xFF

/-! ### The boundary register (R386) -/

/-- The pins that the boundary register covers. -/
inductive Pin where
  | wake | inh | xsd (k : Fin 2) | mdc | mdio | resetN | intN | vid (k : Fin 3) | pgood | refb
  deriving DecidableEq, Repr

/-- The pins in the order of R386. -/
def Pin.all : List Pin :=
  [.wake, .inh, .xsd 0, .xsd 1, .mdc, .mdio, .resetN, .intN, .vid 0, .vid 1, .vid 2, .pgood, .refb]

/-- The data cell of a pin. -/
def Pin.data (p : Pin) : Fin 34 := Config.bndCell (Fin.ofNat 19 (Pin.all.idxOf p))

/-- The control cell of an output or bidirectional pin. -/
def Pin.ctl : Pin → Option (Fin 34)
  | .inh => some (Config.bndCell 13)
  | .mdio => some (Config.bndCell 14)
  | .intN => some (Config.bndCell 15)
  | .vid k => some (Config.bndCell (Fin.ofNat 19 (16 + k.val)))
  | .wake | .xsd _ | .mdc | .resetN | .pgood | .refb => none

/-- INT_N is driven low (R341). -/
def State.intLow (s : State) : Bool := s.dg .FC_IRQ_PEND ≠ 0 || s.power.mode = .lockedOut

/-- What the part itself drives on a pin (R155, R292, R341); MDIO only within a read frame, which is one command. -/
def State.pinOwn (s : State) (p : Pin) : Option Bool :=
  match p with
  | .inh => some s.power.inh
  | .intN => if s.intLow then some false else none
  | .vid k => some ((s.dg .PWR_OP_STAT_VID).testBit k.val)
  | .wake | .xsd _ | .mdc | .mdio | .resetN | .pgood | .refb => none

/-- What is driven on a pin: under EXTEST and CLAMP by its cells, under HIGHZ nothing, else what the part itself drives. INH
leaves it only while VSUP is in range (R386). Readings: log entry 21 (DEDUCED). -/
def State.pinDrive (s : State) (p : Pin) : Option Bool :=
  match p.ctl with
  | none => none
  | some k =>
    if p = .inh && s.power.warn.contains 0 then s.pinOwn p else
    match s.tapSel with
    | 0 | 3 => if s.jtag.bnd.getLsbD k.val = Config.bndDrives then some (s.jtag.bnd.getLsbD p.data.val) else none
    | 4 => none
    | _ => s.pinOwn p

/-- The level on a pin, where `ext` is what the outside gives one that the model does not know: INT_N is pulled up, VID is pulled
down (R374), and a released INH is low. -/
def State.pinLevel (s : State) (p : Pin) (ext : Bool) : Bool :=
  match s.pinDrive p with
  | some b => b
  | none => match p with
    | .intN => true
    | .inh | .vid _ => false
    | .resetN => !s.power.rstLow
    | .pgood => s.power.pgood
    | .wake | .xsd _ | .mdc | .mdio | .refb => ext

/-- The level of WAKE (R398): what is known of this tick, else `ext`, which is known from then on. -/
def State.wakeLevel (s : State) (ext : Bool) : Bool × State :=
  if s.power.wakePin.2 = s.now then (s.power.wakePin.1, s)
  else (ext, { s with power := { s.power with wakePin := (ext, s.now) } })

/-- The cells of a pin as a sample captures them (R386): its level, and whether the part drives it. -/
def State.pinSample (s : State) (wake : Bool) (m : Nat) (p : Pin) : Nat :=
  let m := setBitTo m p.data.val (if p = .wake then wake else s.pinLevel p (m.testBit p.data.val))
  match p.ctl with
  | some k => setBitTo m k.val ((s.pinDrive p).isSome == Config.bndDrives)
  | none => m

/-- What a sample captures in the boundary register, where the outside gives `ext` in the cells that the model does not know. -/
def State.bndSample (s : State) (ext : BitVec 34) : BitVec 34 × State :=
  let w := s.wakeLevel (ext.getLsbD (Pin.wake).data.val)
  (BitVec.ofNat 34 (Pin.all.foldl (fun m p => w.2.pinSample w.1 m p) ext.toNat), w.2)

end Sys2Proof.Machine
end

