-- ==== Sys2Proof/Machine/Views.lean ====
section
/-! DEFINITION. What a read of each register field returns where the field shows state that is held elsewhere (R8), the
fields each channel class implements, and the event groups (R169). -/

namespace Sys2Proof.Machine

/-! ### What a class implements -/

/-- The fields of DIAG that read 0 on segment channels (R142). Readings: log entry 18 (DEDUCED). -/
def diagNotSeg : CFld → Bool
  | .DIAG_SQI_WORST | .DIAG_SQI_VALID | .DIAG_SQI_SQI | .DIAG_SNRTRK_MAX | .DIAG_SNRTRK_MIN | .DIAG_TRSTAT_PRED_MIN
  | .DIAG_PREDCFG_PRED_HRS | .DIAG_PREDCFG_PRED_SQI | .DIAG_PREDCFG_PRED_LIM | .DIAG_SNRPRED_SLOPE | .DIAG_SNRPRED_HOURS
  | .DIAG_FEATA_TRACKED _ | .DIAG_FEATA_TRK _ | .DIAG_TRACKA_VALID _ | .DIAG_TRACKA_CLASS _ | .DIAG_TRACKA_DIST _
  | .DIAG_TRACKB_PRED _ | .DIAG_TRACKB_GAMMA_C _ => true
  | _ => false

/-- A field of the trailer. -/
def CFld.isTr : CFld → Bool
  | .tr _ _ => true
  | _ => false

/-- The fields of the standby bank and of windows 4 to 7, which a branch channel lacks (R82). -/
def branchLacks : CFld → Bool
  | .DSP_WIN_EN k | .DSP_WIN_START k | .DSP_WINE_ENERGY k => 4 ≤ k
  | .DSP_BANK_ACTIVE_TYPE | .DSP_BANK_STBY_VALID | .DSP_BANK_STBY_TYPE | .DSP_BANK_ACTIVE => true
  | _ => false

/-- Channel `c` implements field `f`; the others read 0 and ignore writes (R80, R82, R108, R142, R156, R256).
Readings: log entry 18 (DEDUCED). -/
def implFld (c : Ch) (f : CFld) : Bool :=
  match classOf c with
  | .segment =>
    match f.blk with
    | .dsp | .link => f.isTr
    | .lpi => f.isTr || f = .LPI_CMD_PAD_RELEASE || f = .LPI_EVT_CMD_REJ
    | .diag => !diagNotSeg f
    | .chctl | .afe | .pcs | .frame | .queue | .seq | .calg | .chpwr | .fault | .seg => true
  | .branch => f.blk ≠ .seg && !branchLacks f
  | .trunk => f.blk ≠ .seg

/-! ### Words of fields -/

/-- The value of a field of `w` bits in a word. -/
def FInfo.of (i : FInfo) (v : Nat) : Nat := v / 2 ^ i.lsb % 2 ^ i.wid

/-- The bits of a word that a field takes. -/
def FInfo.mask (i : FInfo) : Nat := (2 ^ i.wid - 1) * 2 ^ i.lsb

/-! ### The maximum amplitude (R35) -/

/-- The largest AMP code of the active type, or of the class's lowest type while none is selected. -/
def State.ampMax (s : State) (c : Ch) : Nat :=
  match s.cg c .PCS_CTL_TYPE with
  | 0 => match classOf c with | .trunk => 520 | .branch => 880 | .segment => 480
  | 1 => 880
  | 2 => 520
  | 7 => 480
  | 8 => 480
  | _ => 400

/-- The AMP code the driver launches with: the clamped one, or the nominal one of the class from a run's acquire phase to its end (R35,
R130). -/
def State.launch (s : State) (c : Ch) : Nat :=
  if (s.ch c).diag.run.launches then tdrAmp c else min (s.cg c .AFE_TXAMP_AMP) (s.ampMax c)

/-! ### Channel fields -/

/-- `BLK_ID.TYPE` (R268). -/
def CBlk.typ : CBlk → Nat
  | .chctl => 0x10 | .afe => 0x11 | .dsp => 0x12 | .pcs => 0x13 | .link => 0x14 | .diag => 0x15 | .lpi => 0x16
  | .frame => 0x17 | .queue => 0x18 | .seq => 0x19 | .calg => 0x1C | .chpwr => 0x1D | .fault => 0x1E | .seg => 0x1F

@[inherit_doc CBlk.typ]
def DBlk.typ : DBlk → Nat
  | .tap => 1 | .clk => 2 | .pwr => 3 | .canopy => 4 | .heart => 5 | .cal => 6 | .host => 7 | .integ => 8 | .id => 9
  | .debug => 10 | .mgmt => 11

/-- The class code of `BLK_ID` (R268). -/
def ChClass.code : ChClass → Nat
  | .trunk => 1 | .branch => 2 | .segment => 3

/-- The code of an XT50 training state in `LINK_STAT.XSTATE` (R93). -/
def XState.code : XState → Nat
  | .silent => 0 | .listen => 1 | .send => 2 | .coef => 3 | .ready => 4 | .count => 5 | .check => 6 | .none => 15

/-- The window slot of a block (R400). -/
def CBlk.slot : CBlk → Nat
  | .chctl => 0 | .afe => 1 | .dsp => 2 | .pcs => 3 | .link => 4 | .diag => 5 | .lpi => 6 | .frame => 7 | .queue => 8
  | .seq => 9 | .calg => 12 | .chpwr => 13 | .fault => 14 | .seg => 15

/-- A domain state in which the isolation clamps are closed: every state but ON and DRAINING (R298, R300). -/
def PState.iso : PState → Bool
  | .on | .draining => false
  | .off | .poweringUp | .poweringDown => true

/-- The sleep method of the active type (R143, R156): 0 TC10, 1 vendor. -/
def State.sleepMethod (s : State) (c : Ch) : Nat :=
  let t := s.cg c .PCS_CTL_TYPE
  b2n (3 ≤ t && t ≤ 7)

/-- The association that `MS_SEL` names (R228). -/
def State.selSa (s : State) (c : Ch) : Option Sa :=
  let m := s.msSel c
  ((s.ch c).frame.sc m.1 m.2.1).sa m.2.2

/-- The transmit AN in use of the selected channel (R228). -/
def State.selEncAn (s : State) (c : Ch) : Nat :=
  let m := s.msSel c
  ((s.ch c).frame.sc m.1 m.2.1).encAn.val

/-- The key check value of the selected association (R215). -/
def State.selKcv (s : State) (c : Ch) : Nat :=
  let m := s.msSel c
  let x := (s.ch c).frame.sc m.1 m.2.1
  match x.sa m.2.2 with
  | some a => (Config.keyCheckValue (BitVec.ofNat 256 (if x.is256 then a.key else a.key % 2 ^ 128)) x.is256).toNat
  | none => 0

/-- A pool's element maps fill words of 32 (R48, R49). -/
def State.segMap (s : State) (c : Ch) : Nat := s.poolMap c 1 0 % 2 ^ 26

/-- The effective trims a channel applies: HYB, AMP, RXG, and whether one saturates (R309).
Readings: log entry 19 (DEDUCED). -/
def State.effTrims (s : State) (c : Ch) : Nat × Nat × Nat × Bool :=
  let ft := s.otp.ft[c.val]
  let ut := (s.ch c).graft.ut
  let h := effHyb ft.hyb ut.hyb
  let a := effTrim 12 ft.amp ut.amp
  let r := effTrim 12 ft.rxg ut.rxg
  (h.1, a.1, r.1, h.2 || a.2 || r.2)

/-- The field of a class-credit view (R254). -/
def State.clsView (s : State) (c : Ch) (k : Nat) (g : Pair → Nat) : Nat := g (s.host.pairs[c.val].toList.getD k Pair.init)

/-- The class index `k` stands for. -/
def clsOf (k : Nat) : Fin 8 := Fin.ofNat 8 k

/-- What a read shows of the channel fields that mirror other state; `none` where the field itself is the state. While no
snapshot is valid its SNR and its age read 0, which R71 does not say (DESIGN CHOICE, log entry 28).
Readings: log entry 10 (DEDUCED). -/
def State.mirror (s : State) (c : Ch) : CFld → Option Nat
  | .CHCTL_STATE_SUBSTATE => some (s.ch c).sub.code
  | .AFE_CTL_HYB_EN => if s.cg c .AFE_CTL_LOOP = 2 then some 0 else none
  | .AFE_TXAMP_AMP_EFF => some (min (s.cg c .AFE_TXAMP_AMP) (s.ampMax c))
  | .AFE_STAT_AMP_CLAMPED => some (b2n (s.ampMax c < s.cg c .AFE_TXAMP_AMP))
  | .AFE_STAT_PAD_HELD => some (b2n (s.ch c).pad.held)
  | .AFE_SEGMAP_SEG_USED => some (s.segMap c)
  | .AFE_SLICEMAP_SLICE_USED k => some (s.poolMap c 0 (32 * k))
  | .DSP_FRZSTAT_SEQ => some (s.ch c).seq.frz
  | .DSP_FRZSTAT_EFF => some (s.frzEff c)
  | .DSP_FRZHW_LINK => some (s.frzLink c)
  | .DSP_PROBESTAT_POS => some (s.probeShown c (s.probePos c))
  | .DSP_STAT_TAP_SAT => some (b2n (s.tapSat c))
  | .DSP_STAT_SNAP_VALID => some (b2n (s.ch c).dsp.snap.isSome)
  | .DSP_STAT_CAPT_BUSY => some (b2n (s.ch c).rx.copy.isSome)
  | .DSP_SNAPSNR_AGE =>
    some (match (s.ch c).dsp.snap with | some p => min 65535 ((s.now - p.time) / 25000) | none => 0)
  | .DSP_SNAPSNR_SNR => some (match (s.ch c).dsp.snap with | some p => p.snr | none => 0)
  | .DSP_TAPDATA_DATA => some (s.tapRead c)
  | .DSP_BANK_ACTIVE_TYPE => some (s.ch c).dsp.actType
  | .DSP_BANK_STBY_VALID => some (b2n (s.ch c).dsp.stbyValid)
  | .DSP_BANK_ACTIVE => some (s.ch c).dsp.active.val
  | .DSP_WIN_EN k => some (b2n ((s.ch c).dsp.act.win k).1)
  | .DSP_WIN_START k => some ((s.ch c).dsp.act.win k).2
  | .DSP_WINE_ENERGY k =>
    some (if ((s.ch c).dsp.act.win k).1 then min (m32 - 1) ((s.ch c).dsp.act.winSq k / 64) else 0)
  | .PCS_FRCOUNT_TX_FR => some (s.txFr c)
  | .LINK_STAT_XSTATE => some (s.ch c).link.x.code
  | .LINK_STAT_LSTATE => some (s.ch c).link.st.code
  | .DIAG_STAT_RUN => some (s.ch c).diag.run.code
  | .DIAG_STAT_BUSY => some (b2n ((s.ch c).diag.run ≠ .none))
  | .DIAG_SQI_VALID => some (b2n (s.sqiValid c))
  | .DIAG_SQI_SQI => some (s.sqiNow c)
  | .DIAG_OPTIME_SECONDS => some (s.opTime c)
  | .LPI_STAT_METHOD => some (s.sleepMethod c)
  | .LPI_IDLE_QEMPTY => some (b2n (s.egEmpty c))
  | .LPI_IDLE_TIME => some (if s.egEmpty c then min (2 ^ 20 - 1) ((s.ch c).lpi.idleT / 25) else 0)
  | .FRAME_STAT_CTX_COUNT => some (s.ch c).frame.ctxs.length
  | .FRAME_STAT_CAM_USED => some (s.ch c).frame.cam.length
  | .CTX_STAT_BUSY => some (b2n (s.ch c).frame.cmd.isSome)
  | .MS_SCCFG_ENC_AN => some (s.selEncAn c)
  | .MS_PN_LO_VALUE => (s.selSa c).map fun a => a.pn % m32
  | .MS_PN_HI_VALUE => (s.selSa c).map fun a => a.pn / m32
  | .MS_STAT_BUSY => some 0
  | .MS_STAT_INUSE => some (b2n (s.selSa c).isSome)
  | .MS_STAT_KCV => some (s.selKcv c)
  | .Q_STAT_DRAIN => some (b2n (s.ch c).queue.drain)
  | .Q_STAT_FLUSH_BUSY => some (b2n (s.ch c).queue.flushBusy)
  | .Q_STAT_IN_FREE => some (s.inFree c)
  | .Q_STAT_EG_FREE => some (s.egFree c)
  | .Q_EGG_N k => some (s.clsView c k fun p => p.eg.granted)
  | .Q_EGR_N k => some (s.clsView c k fun p => p.eg.returned)
  | .Q_EGOCC_N k => some ((s.ch c).queue.egCells (clsOf k))
  | .Q_ING_N k => some (s.clsView c k fun p => p.ing.granted)
  | .Q_INS_N k => some (s.clsView c k fun p => p.ing.spent)
  | .Q_INB_N k => some (s.clsView c k fun p => p.ing.givenBack)
  | .Q_INOCC_N k => some ((s.ch c).queue.inCells (clsOf k))
  | .SEQ_STAT_STATE => some (s.ch c).seq.st.code
  | .SEQ_PC_PC => some (s.ch c).seq.pc
  | .SEQ_STACK_LEN => some (s.cg c .SEQ_LOAD_END - s.cg c .SEQ_LOAD_BASE)
  | .SEQ_STACK_LOOPS => some (s.ch c).seq.loops.length
  | .SEQ_STACK_DEPTH => some (s.ch c).seq.stack.length
  | .CALG_RES_BUSY => some (b2n ((s.ch c).graft.run.isSome || s.copyingCh c))
  | .UT_HYB_UT => some (s.utIdle c).hyb
  | .UT_AMP_UT => some (s.utIdle c).amp
  | .UT_RXG_UT => some (s.utIdle c).rxg
  | .FT_HYB_FT => some s.otp.ft[c.val].hyb
  | .FT_AMP_FT => some s.otp.ft[c.val].amp
  | .FT_RXG_FT => some s.otp.ft[c.val].rxg
  | .CALG_EFF_SAT => some (b2n (s.effTrims c).2.2.2)
  | .CALG_EFF_AMP => some (s.effTrims c).2.1
  | .CALG_EFF_HYB => some (s.effTrims c).1
  | .CALG_EFFRX_RXG => some (s.effTrims c).2.2.1
  | .GRAFT_PEND_VALID => some (b2n (s.ch c).graft.request.isSome)
  | .GRAFT_PEND_RUNNING => some (match (s.ch c).graft.request with | some x => b2n x.running | none => 0)
  | .GRAFT_PEND_COMMITTED => some (match (s.ch c).graft.request with | some x => b2n x.committed | none => 0)
  | .GRAFT_PEND_REASON => some (match (s.ch c).graft.request with | some x => x.reason | none => 0)
  | .GRAFT_PEND_POOL => some (match (s.ch c).graft.request with | some x => x.pool | none => 0)
  | .GRAFT_PEND_ELEM => some (match (s.ch c).graft.request with | some x => x.elem | none => 0)
  | .GRAFT_POOL_USED k => some (s.poolUsed c k)
  | .GRAFT_POOL_BUILT k => some (poolBuilt c k)
  | .GRAFT_POOL_WEAR k => some (s.poolWear c k)
  | .CHPWR_STAT_OPNEED => some (s.opNeed c)
  | .CHPWR_STAT_PAD_HELD => some (b2n (s.ch c).pad.held)
  | .CHPWR_STAT_ISO => some (b2n (s.ch c).pst.iso)
  | .CHPWR_STAT_PSTATE => some (s.ch c).pst.code
  | .FLT_STAT_WIN => some (b2n (s.winOpen (.ch c)))
  | .FLT_SRC_LIVE k => some (b2n ((s.cg c .FLT_LIVE_LIVE).testBit k))
  | .FLT_FORCE_FORCE => some 0
  | .SEG_STAT_SSTATE => some (s.ch c).seg.st.code
  | .SEG_STAT_REWIND_VALID => some (b2n ((s.ch c).queue.line.isSome && (s.ch c).seg.mark))
  | .SEG_STAT_CSMA => some (b2n (s.ch c).seg.csma)
  | .SEG_STAT_COORD => some (b2n (s.ch c).seg.coord)
  | .SEG_STAT_PLCA_OK => some (b2n (s.ch c).seg.plcaOk)
  | .tr b .ID => some (b.typ * 2 ^ 24 + c.val * 65536 + (classOf c).code * 256 + 1)
  | .tr b .WBUSY => some (b2n ((s.ch c).posted.any fun p => p.off / 65536 = b.slot))
  | _ => none

/-- The value of a channel field, wherever its state lies. -/
def State.cval (s : State) (c : Ch) (f : CFld) : Nat :=
  if implFld c f then (s.mirror c f).getD (s.cg c f) % 2 ^ f.info.wid else 0

/-- The register at offset `o` of a block of channel `c`, as its fields stand. Readings: log entry 10 (DEDUCED). -/
def State.creg (s : State) (c : Ch) (b : CBlk) (o : Nat) : Nat :=
  (CFld.at b o).foldl (fun w f => w + s.cval c f * 2 ^ f.info.lsb) 0

/-! ### Event groups (R169) -/

/-- The enable bits of group `g` that have a source. -/
def evMask (c : Ch) (g : Nat) : Nat :=
  match g with
  | 0 => 0xFF | 1 => 0x1FF | 2 => if isSeg c then 0 else 0x1FF | 3 => 0xFF | 4 => 0x3FF | 5 => 3 | 6 => 0xFFFF | 7 => 0xFF
  | _ => 0

/-- The source bits of group `g`. Readings: log entry 18 (DEDUCED). -/
def State.evSource (s : State) (c : Ch) (g : Nat) : Nat :=
  match g with
  | 0 => s.cg c .SEQ_TMRSTAT_EXP
  | 1 => (if isSeg c then s.creg c .seg 0x14 else s.creg c .link 0x38) % 256 + 256 * s.cg c .PCS_STAT_FEC_BURST
  | 2 => s.creg c .dsp 0x34 % 256 + 256 * s.cval c .DSP_TRSTAT_LOCK_LOST
  | 3 => s.creg c .diag 0x1C % 256
  | 4 => s.creg c .lpi 0xC % 1024
  | 5 => s.creg c .seq 0x34 % 4
  | 6 => s.creg c .calg 0x4C % 65536
  | 7 => s.creg c .seq 0x2C % 256
  | _ => 0

/-- The pending groups, as `SEQ_EVPEND` shows them. -/
def State.evPend (s : State) (c : Ch) : Nat :=
  (List.range 8).foldl (fun m g =>
    if s.evSource c g &&& s.cg c (.SEQ_EVEN_EN g) &&& evMask c g = 0 then m else m + 2 ^ g) 0

/-! ### Device fields -/

/-- A mode transition is in progress (R307). -/
def ModeChg.busy : ModeChg → Bool
  | .none => false
  | .stbyPrep | .stbyReady | .stbyExit | .service | .dormantEntry | .dormantExit => true

/-- PD32 to PD37 in bits 0 to 5 (R296, R307). -/
def State.svcDomains (s : State) : Nat :=
  b2n s.servicesUp * 0x1B + b2n s.pd34 * 4 + b2n s.pd37 * 32

/-- The lowest LIFE among powered channels and its channel (R325). -/
def State.lifeMin (s : State) : Nat × Nat :=
  allCh.foldl (fun b c => if s.powered c && decide (s.cg c .GRAFT_LIFE_HOURS < b.1) then (s.cg c .GRAFT_LIFE_HOURS, c.val) else b)
    (0xFFFF, 0)

/-- A word of a byte list. -/
def wordOf (l : List Byte) (k : Nat) : Nat := ofLe ((l.drop (4 * k)).take 4)

/-- A field of OTP as ID shows it: 0 until OTP is loaded (R32). Choices: log entry 7 (DESIGN CHOICE). -/
def State.idOtp (s : State) (v : Nat) : Nat := if s.db .ID_OTPSTAT_OTP_LOADED then v else 0

/-- What a read shows of the device fields that mirror other state; `none` where the field itself is the state.
Choices: log entry 7 (DESIGN CHOICE), log entry 10 (DEDUCED). -/
def State.dmirror (s : State) : DFld → Option Nat
  | .CLK_REFCTL_XSD => some (s.dg .TAP_STRAP_XSD)
  | .CLK_REFSTAT_REFB_OK => some (b2n s.clock.okB)
  | .CLK_REFSTAT_REFA_OK => some (b2n s.clock.okA)
  | .CLK_REFSTAT_RC_RDY => some (b2n s.clock.rcRdy)
  | .CLK_GPEND_CH => some (chMask fun c => s.clock.gates.any fun g => match g with | .chan d _ => d = c | .svc _ => false)
  | .CLK_CHEN_RAM k => some (if (s.dg (.CLK_CHEN_EN k)).testBit 9 then 3 else 0)
  | .PWR_MODE_STAT_BUSY => some (b2n s.power.chg.busy)
  | .PWR_MODE_STAT_STBY_READY => some (b2n (s.power.chg = .stbyReady))
  | .PWR_MODE_STAT_MODE => some s.power.mode.code
  | .PWR_OP_STAT_PGOOD => some (b2n s.power.pgood)
  | .PWR_OP_STAT_BUSY => some (b2n s.power.opChg.isSome)
  | .PWR_OP_STAT_TARGET => some (match s.power.opChg with | some o => o.target | none => s.opTarget)
  | .PWR_DOMSTAT0_ON => some (chMask fun c => (s.ch c).pst = .on)
  | .PWR_DOMSTAT1_ON => some s.svcDomains
  | .PWR_SUPSTAT_WARN => some (s.power.warn.foldl (fun m r => m ||| 2 ^ r) 0)
  | .FC_STAT_WIN => some (b2n (s.winOpen .dev))
  | .FC_IRQ_INT => some (b2n s.intLow)
  | .FC_CHSUM_CH => some (chMask fun c => s.recValid (.ch c))
  | .FC_TIME0_TIME => some (s.canopy.time % m32)
  | .FC_FORCE_BITS _ => some 0
  | .FC_SRC_LIVE k => some (b2n ((s.dg (.FC_LIVE_BITS (k / 32))).testBit (k % 32)))
  | .HEART_STAT_BUSY => some (b2n s.heart.op.isSome)
  | .HEART_STAT_BOOTWIN => some (b2n (s.heart.boot = 3 || s.heart.boot = 4))
  | .HEART_STAT_VTEST => some (b2n s.otp.vtest)
  | .HEART_STAT_RR_VALID => some (b2n s.otp.rrValid)
  | .HEART_STAT_IDKEY => some (b2n s.otp.idKey.isSome)
  | .HEART_STAT_LC => some s.otp.lc
  | .HEART_SLOTS_REV => some s.otp.rev
  | .HEART_SLOTS_POP => some s.otp.pop
  | .HEART_RB_RB1 => some s.otp.rb[1]
  | .HEART_RB_RB0 => some s.otp.rb[0]
  | .HEART_LCCMD_OP => some 0
  | .HEART_RETREC_DATA k => some (wordOf s.otp.retrec k)
  | .HEART_CERT_DATA k => some (s.otp.cert.getD k 0).toNat
  | .CAL_RES_BUSY => some (b2n (s.cal.run.isSome || s.cal.copy.isSome))
  | .CAL_BANK_CH => some (chMask fun c => s.cal.act[c.val] = 1)
  | .CAL_BANKD_ACTIVE => some s.cal.actDev.val
  | .UT_RREF_UT => some s.devIdle.1
  | .UT_VREF_UT => some s.devIdle.2
  | .CAL_EFF_SAT => some (b2n (s.effRref.2 || s.effVref.2))
  | .CAL_EFF_VREF => some s.effVref.1
  | .CAL_EFF_RREF => some s.effRref.1
  | .GRAFT_SUM_CH => some (chMask fun c => (s.ch c).graft.request.isSome)
  | .GRAFT_EXH_CH => some (chMask fun c => pools.any fun p => poolBuilt c p ≠ 0 && s.poolLeft c p = 0)
  | .GRAFT_LIFEMIN_CHANNEL => some s.lifeMin.2
  | .GRAFT_LIFEMIN_HOURS => some s.lifeMin.1
  | .HOST_STAT_SPARE_RX => some (4 - s.lanesUsed true)
  | .HOST_STAT_SPARE_TX => some (4 - s.lanesUsed false)
  | .HOST_STAT_WIDTH => some (b2n s.host.width32)
  | .HOST_STAT_LSTATE => some s.host.ul.code
  | .HOST_REPAIR_USED_RX => some (s.lanesUsed true)
  | .HOST_REPAIR_USED_TX => some (s.lanesUsed false)
  | .INTEG_FPRINT0_FP => some (s.integ.fprint % m32)
  | .INTEG_CHBUSY_BUSY => some (chMask fun c => !(s.ch c).posted.isEmpty)
  | .INTEG_SHPEND_PEND => some (chMask fun c => !(s.ch c).shadow.isEmpty)
  | .INTEG_MMCH_MM => some (chMask fun c => CBlk.all.any fun b => s.cb c (.tr b .CRC_MM))
  | .INTEG_MMSVC_MM => some (DBlk.all.foldl (fun m b => m + s.dg (.tr b .CRC_MM) * 2 ^ (b.typ - 1)) 0)
  | .ID_REV_STEP => some (s.idOtp s.otp.step)
  | .ID_REV_METAL => some (s.idOtp s.otp.metal)
  | .ID_GRADE_XT50_MASK => some (s.idOtp s.otp.xt50)
  | .ID_GRADE_GRADE => some (s.idOtp s.otp.grade)
  | .DEVICE_ID_DID k => some (s.idOtp (s.otp.did / 2 ^ (32 * k) % m32))
  | .ID_ROMVER_BOOTROM => some s.otp.bootrom
  | .ID_ROMVER_SEQLIB => some s.otp.seqlib
  | .MGMT_PINSTAT_XSD => some (s.dg .TAP_STRAP_XSD)
  | .MGMT_PINSTAT_VID => some ((List.finRange 3).foldl (fun m k => m + b2n (s.pinLevel (.vid k) false) * 2 ^ k.val) 0)
  | .MGMT_PINSTAT_INH => some (b2n (s.pinLevel .inh false))
  | .MGMT_PINSTAT_INT_N => some (b2n (s.pinLevel .intN false))
  | .MGMT_PINSTAT_RESET_N => some (b2n (s.pinLevel .resetN false))
  | .MGMT_PINSTAT_PGOOD => some (b2n (s.pinLevel .pgood false))
  | .tr b .ID => some (b.typ * 2 ^ 24 + 0xFF0000 + 1)
  | _ => none

/-- The value of a device field, wherever its state lies. Readings: log entry 10 (DEDUCED). -/
def State.dval (s : State) (f : DFld) : Nat := (s.dmirror f).getD (s.dg f) % 2 ^ f.info.wid

/-! ### Reads -/

/-- What a read of a channel field returns: 0 for a field software only writes (R11); and `SEQ_EVPEND`. -/
def State.cread (s : State) (c : Ch) (f : CFld) : Nat :=
  match f with
  | .SEQ_EVPEND_GROUPS => s.evPend c
  | _ =>
    match f.info.acc with
    | .wo | .wop => 0
    | .ro | .rw | .w1c | .w1s | .rc | .rwk | .woc | .sh | .rwp | .w1cp => s.cval c f

/-- As `State.cread`, where the value may be open: the energy of a window in units of 2^-24 is the sum of its squares
over 64 (R61), and how it is rounded is free. -/
def State.cfetch (s : State) (c : Ch) (f : CFld) : Nat × State :=
  match f with
  | .DSP_WINE_ENERGY k =>
    if implFld c f && ((s.ch c).dsp.act.win k).1 then
      let r := s.roundFree ((s.ch c).dsp.act.winSq k) 64
      (min (m32 - 1) r.1.toNat, r.2)
    else (0, s)
  | _ => (s.cread c f, s)

/-- What a read of a device field returns. Where the spec leaves the value open it is free: the measured VSUP, the RC
frequency while a reference is good, the WAKE pin, the remaining time where it is no whole number of seconds (R371), and
the words of a return record whose write did not finish (R357). -/
def State.dread (s : State) (f : DFld) : Nat × State :=
  match f with
  | .TAP_VSUP_MV => s.fresh 13
  | .CLK_RCMEAS_KHZ =>
    if s.db .CLK_REFSTAT_REF_LOST then (s.dg f, s)
    else
      let r := s.fresh 16
      (r.1, r.2.ds f r.1)
  | .MGMT_PINSTAT_WAKE =>
    let r := s.fresh 1
    let w := if s.power.wakePin.2 = s.now then s.wakeLevel false else r.2.wakeLevel (r.1 = 1)
    (b2n w.1, w.2)
  | .DBG_REMAIN_SECONDS =>
    if !s.session then (0, s) else
    match s.dbgr.left with
    | none => (m32 - 1, s)
    | some t =>
      let r := s.roundFree t 25000000
      (r.1.toNat, r.2)
  | .HEART_RETREC_DATA _ => if s.otp.recBad then s.fresh 32 else (s.dval f, s)
  | _ =>
    match f.info.acc with
    | .wo | .wop => (0, s)
    | .ro | .rw | .w1c | .w1s | .rc | .rwk | .woc | .sh | .rwp | .w1cp => (s.dval f, s)

end Sys2Proof.Machine
end

