-- ==== Sys2Proof/Machine/Land.lean ====
section
/-! DEFINITION. How a write takes effect in its register (R10, R255, R257, R264 to R267, R271): by its fields' access
codes, with the effect each owning chapter gives the register. The commands of `SEQ_CTL` stand with the sequencer. -/

namespace Sys2Proof.Machine

/-! ### Aliases (R257) -/

/-- The operation of an offset's alias (R255). -/
def aliasOp (k : Nat) : WrOp :=
  match k with
  | 0 => .plain
  | 1 => .set
  | 2 => .clr
  | _ => .tgl

/-- Old OP data (R257). -/
def aliasApp (op : WrOp) (old d : Nat) : Nat :=
  match op with
  | .plain => d
  | .set => old ||| d
  | .clr => old ^^^ (old &&& d)
  | .tgl => old ^^^ d

/-- The access codes that an alias write changes (R257). -/
def Acc.aliased : Acc → Bool
  | .rw | .rwk | .sh | .rwp => true
  | .ro | .wo | .w1c | .w1s | .rc | .woc | .w1cp | .wop => false

/-- The old value an alias write starts from (R257): the pending shadow of an SH field; and the bit itself where
`HYB_EN` reads 0 in a loopback. Readings: log entry 14 (DEDUCED). -/
def State.aliasOld (s : State) (c : Ch) (f : CFld) : Nat :=
  match f with
  | .AFE_CTL_HYB_EN => s.cg c f
  | _ => match f.info.acc with
    | .sh => ((s.ch c).shadow.lookup f).getD (s.cval c f)
    | .ro | .rw | .wo | .w1c | .w1s | .rc | .rwk | .woc | .rwp | .w1cp | .wop => s.cval c f

/-- The word whose plain write an alias write amounts to: 0 in every field an alias leaves alone; `none` where the
register has no field that an alias changes. -/
def State.aliasWord (s : State) (c : Ch) (fs : List CFld) (op : WrOp) (v : Nat) : Option Nat :=
  match op with
  | .plain => some v
  | _ =>
    let l := fs.filter fun f => implFld c f && f.info.acc.aliased
    if l.isEmpty then none
    else some (l.foldl (fun w f => w + aliasApp op (s.aliasOld c f) (f.info.of v) * 2 ^ f.info.lsb) 0)

/-- As `State.aliasWord`, for a device register. -/
def State.aliasWordD (s : State) (fs : List DFld) (op : WrOp) (v : Nat) : Option Nat :=
  match op with
  | .plain => some v
  | _ =>
    let l := fs.filter fun f => f.info.acc.aliased
    if l.isEmpty then none
    else some (l.foldl (fun w f => w + aliasApp op (s.dval f) (f.info.of v) * 2 ^ f.info.lsb) 0)

/-! ### One field's part of a plain write (R10) -/

/-- A channel field takes its bits of a written word by its access code. The part has no WOC field. -/
def State.putC (s : State) (c : Ch) (v : Nat) (f : CFld) : State :=
  if !implFld c f then s else
  let x := f.info.of v
  match f.info.acc with
  | .rw | .rwk | .rwp | .wo | .wop => s.cs c f x
  | .sh => s.setSh c f x
  | .w1c | .w1cp => s.candn c f x
  | .w1s => s.cor c f x
  | .ro | .rc | .woc => s

/-- As `State.putC`, for a device field. -/
def State.putD (s : State) (v : Nat) (f : DFld) : State :=
  let x := f.info.of v
  match f.info.acc with
  | .rw | .rwk | .rwp | .wo | .wop | .sh => s.ds f x
  | .w1c | .w1cp => s.ds f (s.dg f &&& (s.dg f ^^^ x))
  | .w1s => s.ds f (s.dg f ||| x)
  | .ro | .rc | .woc => s

/-- Every field of a register takes its bits. -/
def State.putReg (s : State) (c : Ch) (b : CBlk) (o v : Nat) : State := (CFld.at b o).foldl (fun s f => s.putC c v f) s

/-- The SH fields of a register take their bits. -/
def State.putSh (s : State) (c : Ch) (b : CBlk) (o v : Nat) : State :=
  ((CFld.at b o).filter fun f => f.info.acc = .sh).foldl (fun s f => s.putC c v f) s

@[inherit_doc State.putReg]
def State.putRegD (s : State) (b : DBlk) (o v : Nat) : State := (DFld.at b o).foldl (fun s f => s.putD v f) s

/-! ### The gate (R264 to R266) -/

/-- A write that the gate or a write-once field turns away (R266). Readings: log entry 14 (DEDUCED). -/
def State.lockViol (s : State) (addr : Nat) : State :=
  (((s.ds .INTEG_LOCKV_ADDR addr).dinc .INTEG_LOCKVCNT_COUNT).ds .INTEG_EVT_LOCK_VIOLATION 1).assertSrc (.dev 6) 0 addr

/-- The gate is open for an RWK write (R264): as it stood before the cycle, and not for a second one in it. -/
def State.gateOpen (s : State) : Bool := s.cyc.gate.getD (s.db .KEYGATE_OPEN)

/-- The gate closes as a write to an RWK register goes through it (R264). -/
def State.shutGate (s : State) : State :=
  { s.ds .KEYGATE_OPEN 0 with cyc := { s.cyc with gate := s.cyc.gate.map fun _ => false } }

/-- A write to an RWK register (R264): accepted where the gate is open, which closes in that cycle. -/
def State.guard (s : State) (addr : Nat) (g : State → State) : State :=
  if s.gateOpen then g s.shutGate else s.lockViol addr

/-- A write of KEYGATE (R264, R265). -/
def State.keygate (s : State) (v : Nat) : State :=
  if v = 0xA5C30F96 then (s.ds .KEYGATE_OPEN 1).ds .KEYGATE_FAILS 0
  else
    let s := (s.ds .KEYGATE_OPEN 0).ds .INTEG_EVT_KEY_FAIL 1
    if s.dg .KEYGATE_FAILS + 1 = 3 then (s.ds .KEYGATE_FAILS 0).assertSrc (.dev 5) 0 0xFF0
    else s.dinc .KEYGATE_FAILS

/-! ### Comparison (R271) -/

/-- A register's configuration fields at their active values (R269). -/
def State.cfgWord (s : State) (c : Ch) (b : CBlk) (o : Nat) : Nat :=
  ((CFld.at b o).filter fun f => f.info.crc && implFld c f).foldl (fun w f => w + s.cg c f * 2 ^ f.info.lsb) 0

@[inherit_doc State.cfgWord]
def State.cfgWordD (s : State) (b : DBlk) (o : Nat) : Nat :=
  ((DFld.at b o).filter fun f => f.info.crc).foldl (fun w f => w + s.dg f * 2 ^ f.info.lsb) 0

/-- A write to `BLK_CFGREF` (R271): comparison is armed, and the first sweep compared is one that begins after it. -/
def State.arm (s : State) (b : Blk) : State :=
  { s with integ := { s.integ with ready := s.integ.ready.filter (· ≠ b) } }

/-! ### Free figures of a command that carries none -/

/-- What the analog side finds for a calibration that a plain register write starts: free.
Readings: log entry 34 (DEDUCED). -/
def State.freshMeas (s : State) : CalMeas × State :=
  let a := s.fresh 1
  let b := a.2.fresh 16
  let d := b.2.fresh 16
  let e := d.2.fresh 16
  let f := e.2.fresh 16
  (⟨a.1 = 1, b.1, d.1, e.1, f.1⟩, f.2)

/-- The number Heartwood's random source gives (R362): free. -/
def State.freshNonce (s : State) : Nat × State :=
  let a := s.fresh 64
  let b := a.2.fresh 64
  (a.1 + b.1 * 2 ^ 64, b.2)

/-! ### Registers with an effect of their own -/

/-- The host's part of `CHPWR_VOTE` (R297): its own client bits. -/
def State.voteWrite (s : State) (c : Ch) (v : Nat) : State :=
  let was := s.cg c .CHPWR_VOTE_HOST
  let s := s.cs c .CHPWR_VOTE_HOST (v % 16)
  if s.cg c .CHPWR_VOTE_HOST = was then s else s.voteChanged c

/-- The write of 1 to bit 5 of the CLR alias of `CHPWR_VOTE` (R297). -/
def State.voteClr (s : State) (c : Ch) (v : Nat) : State :=
  if v.testBit 5 && (s.cg c .CHPWR_VOTE_CLIENTS).testBit 1 then (s.voteBit c 5 false).voteChanged c else s

/-- A write of a UT register of CAL/GRAFT (R310): to the inactive bank, and ignored while the copy runs.
Readings: log entry 34 (DEDUCED). -/
def State.utWrite (s : State) (c : Ch) (g : Ut3 → Ut3) : State :=
  if s.copyingCh c then s.cs c .GRAFT_EVT_CMD_REJ 1 else s.setUtIdle c g

/-- A write of `GRAFT_CTL` (R319, R322, R326): a policy change to 0 while a swap runs is ignored.
Readings: log entry 35 (DEDUCED). -/
def State.graftCtl (s : State) (c : Ch) (v : Nat) : State :=
  let s := (s.cs c .GRAFT_CTL_TRIG (bits v 25 16)).cs c .GRAFT_CTL_ECC_N (bits v 15 8)
  let p := v % 4
  if (p = 0 || p = 3) && s.policy c ≠ 0 && s.swapRuns c then s.cs c .GRAFT_EVT_CMD_REJ 1
  else s.cs c .GRAFT_CTL_POLICY p

/-- A write of `DSP_WIN<w>` (R61): to the shadows, and ignored in automatic mode. Readings: log entry 28 (DEDUCED). -/
def State.winWrite (s : State) (c : Ch) (w v : Nat) : State :=
  if winCount c ≤ w then s
  else if s.cb c .DSP_WINCTL_AUTO then s.cs c .DSP_STAT_WIN_REJ 1
  else s.putReg c .dsp (0x60 + 4 * w) v

/-- A write of `LINK_ANADV` (R85, R108): the types the class lacks stay 0. -/
def State.anAdv (s : State) (c : Ch) (v : Nat) : State :=
  let t := (List.range 7).foldl (fun m i => if v.testBit i && hasType c (i + 1) then m + 2 ^ i else m) 0
  (s.cs c .LINK_ANADV_EEE (bits v 8 8)).cs c .LINK_ANADV_TYPES t

/-- A commit of one channel (R263); without a pending shadow it has no effect. Readings: log entry 14 (DEDUCED). -/
def State.commit (s : State) (c : Ch) : State := if (s.ch c).shadow.isEmpty then s else s.shApply c

/-- The effect of a plain write of a channel register. `prog` marks the link program's pwr. -/
def State.writeReg (s : State) (c : Ch) (b : CBlk) (o v : Nat) (prog : Bool) : State :=
  if o = 0x3FF8 then
    if implFld c (.tr b .CFGREF) then ((s.putReg c b o v).cs c (.tr b .REF_ARMED) 1).arm (.ch c b) else s
  else
  match b with
  | .chctl =>
    if o = 0 then s.chctlCtl c v prog
    else if o = 0xC then (if v.testBit 0 then s.qrel c else s)
    else s.putReg c b o v
  | .afe => if o = 0 then s.afeCtl c v else s.putReg c b o v
  | .pcs =>
    if o = 0 then (s.pcsCtl c v).putSh c b o v
    else if o = 0x20 then s.testMode c v
    else s.putReg c b o v
  | .dsp =>
    if isSeg c then s.putReg c b o v
    else if o = 4 then s.putReg c b o (v % 128)
    else if o = 0x34 then (s.putReg c b o v) |> fun s => if v.testBit 0 then s.clearDiverged c else s
    else if o = 0x40 then s.dspCmd c v
    else if o = 0x48 then s.tapWrite c v
    else if o = 0x4C then (if isTrunk c then s.stbyType c (bits v 7 4) else s)
    else if 0x60 ≤ o && o < 0x80 then s.winWrite c ((o - 0x60) / 4) v
    else s.putReg c b o v
  | .link =>
    if isSeg c then s.putReg c b o v
    else if o = 4 then s.anAdv c v
    else if o = 0x14 then s.linkCmd c v prog
    else s.putReg c b o v
  | .diag =>
    if o = 0 then s.diagCtl c v
    else if o = 0x14 then s.diagCmd c v
    else s.putReg c b o v
  | .lpi =>
    if o = 0 then (if isSeg c then s else s.txReq c (v.testBit 0))
    else if o = 4 then s.lpiCmd c v
    else s.putReg c b o v
  | .frame =>
    if o = 0 then s.frameCtl c v
    else if o = 0x10 then s.ctxCmd c ((CFld.info .CTX_CMD_OP).of v) ((CFld.info .CTX_CMD_INDEX).of v) ((CFld.info .CTX_CMD_WMASK).of v)
    else if o = 0x70 then s.msCmd c ((CFld.info .MS_CMD_OP).of v)
    else if o = 0x118 then s.tsCmd c v
    else if o = 0x180 then (if v.testBit 0 then s.acctSnap c else s)
    else s.putReg c b o v
  | .queue =>
    if o = 0x10 then s.qFlush c v
    else if 0x40 ≤ o && o < 0x60 then s.egCls c (clsOf ((o - 0x40) / 4)) v
    else s.putReg c b o v
  | .seq =>
    if o = 0 then s
    else if o = 0x18 then (if v.testBit 0 then s.cs c .SEQ_STAT_INTRAP 0 else s)
    else if o = 0x20 then s.updSeq c fun q => { q with wdog := 0 }
    else if o = 0x38 then (if prog then s else s.mboxIn c v)
    else if o = 0x3C then (if prog then s.putReg c b o v else s)
    else if 0x40 ≤ o && o < 0x60 then s.putReg c b o (v &&& evMask c ((o - 0x40) / 4))
    else s.putReg c b o v
  | .calg =>
    if o = 0 then
      let m := s.freshMeas
      m.2.calgCmd c (v % 16) (v.testBit 4) prog m.1
    else if o = 8 then s.utWrite c fun u => { u with hyb := v % 65536 }
    else if o = 0xC then s.utWrite c fun u => { u with amp := v % 4096 }
    else if o = 0x10 then s.utWrite c fun u => { u with rxg := v % 4096 }
    else if o = 0x40 then s.graftCtl c v
    else if o = 0x44 then s.graftCmd c v
    else s.putReg c b o v
  | .chpwr =>
    if o = 0 then s.voteWrite c v
    else if o = 0xC then (if v.testBit 0 then s.chrst c else s)
    else s.putReg c b o v
  | .fault =>
    if o = 0x14 then s.fltAck c v
    else if o = 0x2C then s.fltForce c v
    else s.putReg c b o v
  | .seg =>
    if !isSeg c then s
    else if o = 0 then s.segCtl c v
    else if o = 0xC then s.segCmd c v prog
    else s.putReg c b o v

/-- A write of a channel register by `g` disarms the block's comparison where it changes a configuration field (R271). -/
def State.cfgPut (s : State) (c : Ch) (b : CBlk) (o : Nat) (g : State → State) : State :=
  let was := s.cfgWord c b o
  let s := g s
  if s.cfgWord c b o = was then s else s.cs c (.tr b .REF_ARMED) 0

/-- A write lands in a register block of channel `c` (R255, R257, R264, R271): through an alias or plain, past the gate
where the register is RWK, and disarming the block's comparison where it changes a configuration field. `addr` is the
address the source used. Readings: log entry 14 (DEDUCED). -/
def State.landC (s : State) (c : Ch) (b : CBlk) (op : WrOp) (o v : Nat) (prog : Bool) (addr : Nat) : State :=
  let fs := CFld.at b o
  let s := if op = .clr && b = .chpwr && o = 0 then s.voteClr c v else s
  match s.aliasWord c fs op v with
  | none => s
  | some w =>
    let put := fun s : State => s.cfgPut c b o fun s => s.writeReg c b o w prog
    if fs.any fun f => implFld c f && f.info.acc = .rwk then s.guard addr put else put s

/-! ### Device registers -/

/-- A write of a channel's enables (R281, R282). -/
def State.chenWrite (s : State) (c : Ch) (v : Nat) : State :=
  let was := s.chEn c
  (s.putRegD .clk (0x100 + 4 * c.val) v).enWritten c was

/-- A write of `CLK_SVCEN` (R281, R271): a block whose enable falls leaves the sweep. -/
def State.svcenWrite (s : State) (v : Nat) : State :=
  let was := s
  let s := s.putRegD .clk 0x10 v
  [(0, DBlk.cal), (1, .integ), (2, .id), (3, .debug), (4, .mgmt)].foldl (fun s p =>
    if was.svcEn p.1 && !s.svcEn p.1 then s.blkOff (· = .dev p.2) else s) s

/-- A write of a UT register of CAL (R310). -/
def State.utDev (s : State) (g : Nat × Nat → Nat × Nat) : State :=
  if s.copying then s.ds .CAL_EVT_CMD_REJ 1 else s.setDevIdle g

/-- A write of `INTEG_COMMIT` (R263): the channels named that are powered. -/
def State.commits (s : State) (v : Nat) : State :=
  s.forCh fun s c => if v.testBit c.val && s.powered c then s.commit c else s

/-- The effect of a plain write of a device register. -/
def State.writeRegD (s : State) (b : DBlk) (o v : Nat) : State :=
  if o = 0x3FF8 then ((s.putRegD b o v).ds (.tr b .REF_ARMED) 1).arm (.dev b)
  else
  match b with
  | .tap => if o = 0xFF0 then s.keygate v else s.putRegD b o v
  | .clk =>
    if o = 0x10 then s.svcenWrite v
    else if h : 0x100 ≤ o ∧ o < 0x180 then s.chenWrite ⟨(o - 0x100) / 4, by omega⟩ v
    else s.putRegD b o v
  | .pwr =>
    if o = 4 then (if v % 8 = 0 then s.ds .PWR_EVT_REQ_REJ 1 else s.modeReq (v % 8))
    else if o = 8 then (if v.testBit 0 then s.softReset else s)
    else if o = 0x28 then (s.putRegD b o v).dbgPower
    else s.putRegD b o v
  | .canopy =>
    if o = 0x14 then s.fcAck v
    else if o = 0x28 then s.fcCmd v
    else if 0x40 ≤ o && o < 0x50 then s.fcForce ((o - 0x40) / 4) v
    else if 0x60 ≤ o && o < 0x80 then s.fcClass ((o - 0x60) / 4) v
    else s.putRegD b o v
  | .heart =>
    if o = 0 then s.heartCmd v
    else if o = 0x1C then s.lcCmd v
    else if o = 0x24 then s.heartData v
    else if 0x100 ≤ o && o < 0x200 && s.heart.submitting then s.ds .HEART_EVT_CMD_REJ 1
    else s.putRegD b o v
  | .cal =>
    if o = 0 then
      let m := s.freshMeas
      m.2.calCmd (v % 16) (v.testBit 4) (v.testBit 8) m.1
    else if o = 0x14 then s.utDev fun u => (v % 1024, u.2)
    else if o = 0x18 then s.utDev fun u => (u.1, v % 1024)
    else s.putRegD b o v
  | .host => if o = 0xC then s.hostCmd v else s.putRegD b o v
  | .integ =>
    if o = 0 then ((s.putRegD b o v).forCh fun s c => s.mmLevel c).mmLevelSvc
    else if o = 0x1C then s.commits v
    else s.putRegD b o v
  | .debug =>
    if o = 0 then
      let n := s.freshNonce
      n.2.dbgCmd v n.1
    else if o = 0x40 then s.trCtl v
    else s.putRegD b o v
  | .id => s.putRegD b o v
  | .mgmt => s.putRegD b o v

/-- The image buffer of CAL: words of a register block, with its aliases (R255, R325). -/
def imgArea (b : DBlk) (o : Nat) : Bool := b = .cal && decide (0x1000 ≤ o) && decide (o < 0x2000)

/-- A word of the image buffer is written, through an alias or plain (R257, R325). -/
def State.imgWrite (s : State) (op : WrOp) (o v : Nat) : State :=
  let w := aliasApp op (s.cal.buf.readWord (o - 0x1000)).toNat (v % m32)
  s.updCal fun k => { k with buf := k.buf.writeWord (o - 0x1000) (BitVec.ofNat 32 w) }

/-- A write lands in a device-service block, as `State.landC`. Readings: log entry 14 (DEDUCED). -/
def State.landD (s : State) (b : DBlk) (op : WrOp) (o v : Nat) (addr : Nat) : State :=
  let fs := DFld.at b o
  if imgArea b o then s.imgWrite op o v else
  match s.aliasWordD fs op v with
  | none => s
  | some w =>
    let put := fun s : State =>
      let was := s.cfgWordD b o
      let s := s.writeRegD b o w
      if s.cfgWordD b o = was then s else s.ds (.tr b .REF_ARMED) 0
    if fs.any fun f => f.info.acc = .rwk then s.guard addr put else put s

end Sys2Proof.Machine
end

