-- ==== Sys2Proof/Machine/Read.lean ====
section
/-! DEFINITION. What a read of a location returns and what it changes: registers (R8, R10), the memory areas inside the
blocks (R74, R142, R226, R255), and context memory (R227). -/

namespace Sys2Proof.Machine

/-! ### The memory areas -/

/-- A word of a trend record (R142); Γ entries are 16 bits, 0x8000 where not measured. -/
def TrendRec.word (r : TrendRec) (w : Nat) : Nat :=
  let g := fun i => match r.gam.getD i none with
    | some v => rawOf 16 v
    | none => 0x8000
  match w with
  | 0 => r.time
  | 1 => r.snrMin + r.mean * 65536
  | 2 => r.corr
  | 3 => r.unc + r.losses * 65536 + r.sqi * 2 ^ 24 + b2n r.upAll * 2 ^ 27 + b2n r.isrOk * 2 ^ 28
  | _ => g (2 * (w - 4)) + g (2 * (w - 4) + 1) * 65536

/-- Word `w` of record `i` of the trend log (R136, R142). The newest record lies below NEXT; a record not written reads 0.
Choices: log entry 3 (DESIGN CHOICE). -/
def State.trendWord (s : State) (c : Ch) (i w : Nat) : Nat :=
  match (s.ch c).diag.log[(s.cg c .DIAG_TRSTAT_NEXT + 63 - i) % 64]? with
  | some r => r.word w
  | none => 0

/-- A word of the raw buffer (R142): two samples, the earlier in the low half. Choices: log entry 3 (DESIGN CHOICE). -/
def State.rawWord (s : State) (c : Ch) (k : Nat) : Nat :=
  let l := (s.ch c).diag.raw
  (l.getD (2 * k) 0).toNat + (l.getD (2 * k + 1) 0).toNat * 65536

/-- A word of an accounting area (R226). -/
def Acct.word (a : Acct) (w : Nat) : Nat :=
  match w with
  | 0 => a.accepted
  | 1 => a.delivered
  | 2 => a.resident
  | _ => a.disc.getD (w - 3) 0

/-- The memory areas of a channel's blocks (R255): the word there, `none` outside them. -/
def State.areaC (s : State) (c : Ch) (b : CBlk) (o : Nat) : Option Nat :=
  match b with
  | .dsp => if 0x1000 ≤ o ∧ o < 0x1B20 then some ((s.ch c).rx.buf.readWord o).toNat else none
  | .diag =>
    if 0x400 ≤ o ∧ o < 0xC00 then some (s.trendWord c ((o - 0x400) / 32) ((o - 0x400) / 4 % 8))
    else if 0x2000 ≤ o ∧ o < 0x3000 then some (s.rawWord c ((o - 0x2000) / 4))
    else none
  | .frame =>
    let f := (s.ch c).frame
    if 0x200 ≤ o ∧ o < 0x24C then some (f.egLive.word ((o - 0x200) / 4))
    else if 0x280 ≤ o ∧ o < 0x2CC then some (f.inLive.word ((o - 0x280) / 4))
    else if 0x300 ≤ o ∧ o < 0x34C then some (f.egSnap.word ((o - 0x300) / 4))
    else if 0x380 ≤ o ∧ o < 0x3CC then some (f.inSnap.word ((o - 0x380) / 4))
    else none
  | .chctl | .afe | .pcs | .link | .lpi | .queue | .seq | .calg | .chpwr | .fault | .seg => none

/-- The memory areas of the device blocks (R311, R361, R371). -/
def State.areaD (s : State) (b : DBlk) (o : Nat) : Option Nat :=
  match b with
  | .heart => if 0x1000 ≤ o ∧ o < 0x1618 then some (s.heart.report.readWord (o - 0x1000)).toNat else none
  | .cal => if 0x1000 ≤ o ∧ o < 0x2000 then some (s.cal.buf.readWord (o - 0x1000)).toNat else none
  | .debug => if 0x1000 ≤ o ∧ o < 0x2000 then some (s.dbgr.trace.readWord (o - 0x1000)).toNat else none
  | .tap | .clk | .pwr | .canopy | .host | .integ | .id | .mgmt => none

/-! ### Registers -/

/-- The word of a channel register, with the fields whose value is open taken free. -/
def State.regC (s : State) (c : Ch) (b : CBlk) (o : Nat) : Nat × State :=
  (CFld.at b o).foldl (fun r f =>
    let x := r.2.cfetch c f
    (r.1 + x.1 % 2 ^ f.info.wid * 2 ^ f.info.lsb, x.2)) (0, s)

@[inherit_doc State.regC]
def State.regD (s : State) (b : DBlk) (o : Nat) : Nat × State :=
  (DFld.at b o).foldl (fun r f =>
    let x := r.2.dread f
    (r.1 + x.1 % 2 ^ f.info.wid * 2 ^ f.info.lsb, x.2)) (0, s)

/-- What a read of a channel register changes (R10, R75, R335): RC fields clear, TAPDATA advances its index, and the fault
records note that they were read. -/
def State.readEffC (s : State) (c : Ch) (b : CBlk) (o : Nat) : State :=
  let s := ((CFld.at b o).filter fun f => f.info.acc = .rc).foldl (fun s f => s.cs c f 0) s
  match b with
  | .dsp => if o = 0x48 && !isSeg c then s.tapInc c else s
  | .fault =>
    if o = 0 then s.markRead (.first0 c)
    else if h : 0x40 ≤ o ∧ o < 0x70 then s.markRead (.status c ⟨(o - 0x40) / 4, by omega⟩)
    else s
  | .chctl | .afe | .pcs | .link | .diag | .lpi | .frame | .queue | .seq | .calg | .chpwr | .seg => s

/-- What a read of a device register changes (R10, R273, R335, R345). -/
def State.readEffD (s : State) (b : DBlk) (o : Nat) : State :=
  let s := ((DFld.at b o).filter fun f => f.info.acc = .rc).foldl (fun s f => s.ds f 0) s
  match b with
  | .canopy =>
    if o = 0 then s.markRead .fcFirst0
    else if o = 0x34 then s.latchTime
    else if h : 0x100 ≤ o ∧ o < 0x148 then s.markRead (.fcStatus ⟨(o - 0x100) / 4, by omega⟩)
    else s
  | .integ => if o = 4 then s.ds .INTEG_FPRINT1_FP (s.integ.fprint / m32) else s
  | .tap | .clk | .pwr | .heart | .cal | .host | .id | .debug | .mgmt => s

/-- A read of a location of a channel's block (R255, R257): an alias returns the base's value without side effects.
Choices: log entry 3 (DESIGN CHOICE). -/
def State.readC (s : State) (c : Ch) (b : CBlk) (op : WrOp) (o : Nat) : Nat × State :=
  match s.areaC c b o with
  | some v => (v, s)
  | none =>
    let r := s.regC c b o
    match op with
    | .plain => (r.1, r.2.readEffC c b o)
    | .set | .clr | .tgl => r

@[inherit_doc State.readC]
def State.readD (s : State) (b : DBlk) (op : WrOp) (o : Nat) : Nat × State :=
  match s.areaD b o with
  | some v => (v, s)
  | none =>
    let r := s.regD b o
    match op with
    | .plain => (r.1, r.2.readEffD b o)
    | .set | .clr | .tgl => r

/-! ### Context memory -/

/-- A word of context memory (R204, R227): a word with an uncorrectable error reads 0. -/
def State.ctxWord (s : State) (c : Ch) (o : Nat) : Nat :=
  if ctxCount c ≤ o / 128 then 0 else (s.ch c).frame.ctxWord (o / 128) (o / 4 % 32)

end Sys2Proof.Machine
end

