-- ==== Sys2Proof/Machine/Seq.lean ====
section
/-! DEFINITION. How the sequencer issues an instruction (R158 to R162, R189, R190): the fetch, registers and flags, traps
(R174, R175), completion with its loops (R196), and the ports (R164 to R168, R197). -/

namespace Sys2Proof.Machine

/-! ### Registers and flags (R158) -/

/-- A general register; s0 reads 0. -/
def State.sReg (s : State) (c : Ch) (r : Fin 16) : Word := if r = 0 then 0 else (s.ch c).seq.s[r.val]

/-- Writes a general register; a write to s0 is discarded. -/
def State.setSReg (s : State) (c : Ch) (r : Fin 16) (v : Word) : State :=
  if r = 0 then s else s.updSeq c fun q => { q with s := q.s.set r.val v }

/-- Writes all four flags. -/
def State.setFlags (s : State) (c : Ch) (f : Flags) : State :=
  s.updSeq c fun q => { q with z := f.z, n := f.n, c := f.c, v := f.v }

/-- An accumulator. -/
def State.acc (s : State) (c : Ch) (r : Fin 16) : Int := (s.ch c).seq.a.toList.getD r.val 0

/-- Writes an accumulator, saturated to 40 bits (R158, R193). -/
def State.setAcc (s : State) (c : Ch) (r : Fin 16) (v : Int) : State :=
  s.updSeq c fun q => { q with a := q.a.setIfInBounds r.val (satS 40 v) }

/-- The image's capability bit for a port (R177). -/
def State.cap (s : State) (c : Ch) (p : Nat) : Bool :=
  (s.cg c .SEQ_CAP0_CAP + s.cg c .SEQ_CAP1_CAP * m32).testBit p

/-! ### Fetch and issue -/

/-- The sequencer issues (R159, R281): it is RUNNING and its clock runs. -/
def State.seqRuns (s : State) (c : Ch) : Bool := (s.ch c).seq.st = .running && s.clocked c .seq

/-- A word index lies in the loaded range (R162). -/
def State.inLoad (s : State) (c : Ch) (pc : Nat) : Bool :=
  s.cg c .SEQ_LOAD_BASE ≤ pc && decide (pc < s.cg c .SEQ_LOAD_END)

/-- The word at PC, where PC lies in the loaded range. -/
def State.insn (s : State) (c : Ch) : Option Word :=
  let pc := (s.ch c).seq.pc
  if s.inLoad c pc then some (s.pramWord c (4 * pc)) else none

/-! ### Traps (R174, R175) -/

/-- A trap of the sequencer: its record, vector or stop, and its assertion. `vec` is false where a HALT falls together
with it, so that it ends HALTED (R160); the assertion comes last, since its reaction follows the trap.
Readings: log entry 24 (DEDUCED). -/
def State.seqTrap (s : State) (c : Ch) (cause pc insn : Nat) (vec : Bool) : State :=
  let s := ((s.cs c .SEQ_TRAP_CAUSE cause).cs c .SEQ_TRAP_TRAP_PC (pc % 8192)).cs c .SEQ_TRAPINSN_INSN insn
  let s := s.cs c .SEQ_TRAP_TRAP_CNT (min 255 (s.cg c .SEQ_TRAP_TRAP_CNT + 1))
  let s := s.trace c 1 pc
  let s := s.updSeq c fun q => { q with wait := none, haltedWait := false }
  let s :=
    if !vec then s.updSeq c fun q => { q with st := .halted }
    else if s.cb c .SEQ_TRAPVEC_EN && !s.cb c .SEQ_STAT_INTRAP && cause ≠ 13 then
      (s.cs c .SEQ_STAT_INTRAP 1).updSeq c fun q => { q with
        st := .running, stack := [], loops := [], pc := s.cg c .SEQ_TRAPVEC_VEC }
    else s.updSeq c fun q => { q with st := .trapped }
  s.assertSrc (.ch c 5) (if cause = 13 then 2 else 1) (pc % 8192)

/-! ### Completion (R196) -/

/-- The loop check at the instruction at `pc`, which completed without transfer: the next PC and the loops left.
Readings: log entry 24 (DEDUCED). -/
def loopBack (pc : Nat) : List LoopSt → Nat × List LoopSt
  | [] => (pc + 1, [])
  | l :: ls =>
    if l.fin = pc then
      if l.count = 1 then loopBack pc ls else (l.start, { l with count := l.count - 1 } :: ls)
    else (pc + 1, l :: ls)

/-- The loops left when control at `pc` goes to `t` by a taken br or ret, or by a skipped loop. -/
def loopLeave (pc t : Nat) : List LoopSt → List LoopSt
  | [] => []
  | l :: ls =>
    if l.start ≤ pc ∧ pc ≤ l.fin ∧ ¬(l.start ≤ t ∧ t ≤ l.fin) then loopLeave pc t ls else l :: ls

/-- What an instruction came to. -/
inductive Done where
  /-- it trapped with a cause, and had no effect -/ | trap (cause : Nat)
  /-- it completed, in so many cycles, without transfer of control -/ | next (s : State) (cycles : Nat)
  /-- it went to a target, leaving loops unless it is a call -/ | jump (s : State) (t : Nat) (call : Bool) (cycles : Nat)
  /-- it is a wait that waits -/ | waits (s : State)

/-- The sequencer is where an instruction that completes leaves it: not stopped by what the instruction did. -/
def QState.live : QState → Bool
  | .running | .waiting | .halted => true
  | .stopped | .loading | .trapped => false

/-- An instruction at `pc` completes without transfer (R196). -/
def State.advance (s : State) (c : Ch) (pc : Nat) : State :=
  if (s.ch c).seq.st.live then
    s.updSeq c fun q =>
      let r := loopBack pc q.loops
      { q with pc := r.1, loops := r.2 }
  else s

/-- An instruction at `pc` has completed with its outcome (R189, R190, R196). `step` marks one that a STEP runs: the
sequencer is HALTED again after it, and a wait that waits is one that a HALT interrupted (R160).
Readings: log entry 24 (DEDUCED). -/
def State.finish (s : State) (c : Ch) (w : Word) (step : Bool) (d : Done) : State :=
  let pc := (s.ch c).seq.pc
  let again := fun s : State =>
    if step && (s.ch c).seq.st = .running then s.updSeq c fun q => { q with st := .halted } else s
  match d with
  | .trap k => s.seqTrap c k pc w.toNat !step
  | .next t n => again ((t.seqCycles c n).advance c pc)
  | .jump t d call n =>
    let t := (t.seqCycles c n).updSeq c fun q => { q with
      pc := d, loops := if call then q.loops else loopLeave pc d q.loops }
    again t
  | .waits t =>
    let t := t.seqCycles c 1
    if step then t.updSeq c fun q => { q with st := .halted, haltedWait := true, wait := none } else t

/-- The sequencer of channel `c` issues the instruction at PC, where it is one of mnemonic `m`; a word of that mnemonic
that R185 forbids traps with ILLEGAL. Readings: log entry 24 (DEDUCED). -/
def State.issueMn (s : State) (c : Ch) (m : Mn) (g : State → Word → Done) : Host.Outcome State Fault Refusal :=
  if !s.seqRuns c then ok s else
  match s.insn c with
  | none => ok s
  | some w =>
    if mnOf w = some m then ok (s.finish c w false (if legal m w then g s w else .trap 1)) else ok s

/-- UNDEFINED_OPCODE (R185): the word at PC has an op or a sub that is not assigned.
Readings: log entry 24 (DEDUCED). -/
def execUndefinedOpcode (c : Ch) (s : State) : Host.Outcome State Fault Refusal :=
  if !s.seqRuns c then ok s else
  match s.insn c with
  | none => ok s
  | some w => if (mnOf w).isNone then ok (s.finish c w false (.trap 1)) else ok s

/-- The trap of a fetch outside the loaded range (R162, R190). The instruction word it records is free. -/
def State.pmem (s : State) (c : Ch) (vec : Bool) : State :=
  let r := s.fresh 32
  r.2.seqTrap c 6 (s.ch c).seq.pc r.1 vec

/-- FETCH_OUTSIDE_LOADED_RANGE (R162, R190). Readings: log entry 24 (DEDUCED). -/
def execFetchOutsideLoadedRange (c : Ch) (s : State) : Host.Outcome State Fault Refusal :=
  if s.seqRuns c && (s.insn c).isNone then ok (s.pmem c true) else ok s

/-! ### Ports (R164 to R168, R197) -/

/-- The block a port maps; `none` where it maps none on this class (R164, R167). -/
def portBlk (c : Ch) (p : Nat) : Option CBlk :=
  match p with
  | 0 => some .seq
  | 1 => some .chctl
  | 2 | 3 => some .afe
  | 4 | 5 | 6 | 7 => if isSeg c then none else some .dsp
  | 8 => some .pcs
  | 9 => some (if isSeg c then .seg else .link)
  | 10 => if isSeg c then none else some .link
  | 11 => some .diag
  | 12 => some .lpi
  | 13 => some .calg
  | 14 => some .frame
  | 15 => some .queue
  | 16 => some .fault
  | 17 => some .chpwr
  | _ => none

/-- A register has a field that software writes. -/
def writable (b : CBlk) (o : Nat) : Bool :=
  (CFld.at b o).any fun f => match f.info.acc with
    | .ro | .rc => false
    | .rw | .wo | .w1c | .w1s | .rwk | .woc | .sh | .rwp | .w1cp | .wop => true

/-- A register of the SEQ block that the program may write (R183). -/
def progSeq (o : Nat) : Bool :=
  (CFld.at .seq o).any fun f => match f.info.acc with
    | .rwp | .w1cp | .wop => true
    | .ro | .rc | .rw | .wo | .w1c | .w1s | .rwk | .woc | .sh => false

/-- A port owns the register at offset `o` of its block for writing (R81, R164, R183, R254, R326).
Readings: log entry 18 (DEDUCED). -/
def portOwns (p o : Nat) : Bool :=
  match p with
  | 0 => progSeq o
  | 1 => o = 0
  | 2 => [0, 4, 8, 0xC, 0x18].contains o
  | 3 => [0x10, 0x14].contains o
  | 4 => [0, 4, 0x10, 0x28, 0x2C, 0x34, 0x38, 0x40, 0x44, 0x48, 0x4C].contains o || (0x60 ≤ o && o < 0x80 && o % 4 = 0)
  | 5 => o = 0x14
  | 6 => o = 0x18
  | 7 => [0x1C, 0x20].contains o
  | 8 => [0, 4, 0x1C, 0x20].contains o
  | 9 => [0x14, 0x18, 0x1C, 0x28, 0x38, 0x58].contains o
  | 10 => [0, 4, 0x20, 0x24].contains o
  | 11 => writable .diag o
  | 12 => writable .lpi o
  | 13 => [0, 0x44, 0x4C].contains o
  | 15 => [0, 0xC].contains o
  | _ => false

/-- As `portOwns`, with port 9 of a segment channel, which owns every writable SEG register (R164).
Readings: log entry 18 (DEDUCED). -/
def ownsFor (c : Ch) (p o : Nat) : Bool := if p = 9 && isSeg c then writable .seg o else portOwns p o

/-- A channel block is enabled (R281): CHPWR and FAULT have no gate. -/
def State.blkEn (s : State) (c : Ch) (b : CBlk) : Bool :=
  match b with
  | .chctl => s.chEn c .chctl | .afe => s.chEn c .afe | .dsp => s.chEn c .dsp | .pcs => s.chEn c .pcs
  | .link => s.chEn c .link | .diag => s.chEn c .diag | .lpi => s.chEn c .lpi | .frame => s.chEn c .frame
  | .queue => s.chEn c .queue | .seq => s.chEn c .seq | .calg => s.chEn c .calg | .seg => s.chEn c .seg
  | .chpwr | .fault => true

/-- A program's access to a gated block (R283). -/
def State.gatedAcc (s : State) (c : Ch) : State := (s.ds .CLK_EVT_GATED_ACC 1).ds .CLK_EVT_GATED_CH c.val

/-- A word of the device status port (R168). -/
def State.devStat (s : State) (i : Nat) : Nat :=
  match i with
  | 0 => s.power.mode.code + s.dg .PWR_OP_STAT_OP * 16 + b2n s.power.opChg.isSome * 256
  | 1 => s.dg .PWR_TEMP_TEMP + s.otp.grade * 65536
  | 2 => s.dg .TAP_DIPCNT_COUNT
  | _ => 0

/-- A read through the time port (R197): index 0 latches the clock. -/
def State.timePort (s : State) (c : Ch) (i : Nat) : Nat × State :=
  let s := if i = 0 then
      let t := (s.ch c).frame.ts
      s.updSeq c fun q => { q with time := #v[t.long 0, t.long 1, t.long 2, 0] }
    else s
  ((s.ch c).seq.time.toList.getD i 0, s)

/-- The cycles an access stalls (R166, R189): free. -/
def State.stall (s : State) : Nat × State := s.fresh 6

/-- What a prd of an assigned port returns (R197). -/
def State.portRead (s : State) (c : Ch) (p i : Nat) : Nat × State :=
  if 16384 ≤ i then (0, s)
  else if p = 19 then s.timePort c i
  else if p = 20 then (s.devStat i, s)
  else match portBlk c p with
    | none => (0, s)
    | some b =>
      if s.blkEn c b then s.readC c b (aliasOp (i / 4096)) (4 * i % 16384) else (0, s.gatedAcc c)

/-- The address of a location of a channel's block (R400). -/
def chanAddr (c : Ch) (b : CBlk) (off : Nat) : Nat := 0x01000000 + c.val * 0x100000 + b.slot * 0x10000 + off

/-- A pwr that passed its checks lands (R165, R166, R283). -/
def State.portWrite (s : State) (c : Ch) (b : CBlk) (i v : Nat) : State :=
  if s.blkEn c b then s.landC c b (aliasOp (i / 4096)) (4 * i % 16384) v true (chanAddr c b (4 * i)) else s.gatedAcc c

/-- The trap cause of a pwr to a port and index, 0 for none (R165, R167, R190, R197). -/
def State.pwrCause (s : State) (c : Ch) (p i : Nat) : Nat :=
  if 21 ≤ p then 2
  else if p ≠ 0 && !s.cap c p then 3
  else match portBlk c p with
    | none => if 18 ≤ p then 4 else 0
    | some _ => if 16384 ≤ i || !ownsFor c p (4 * i % 16384) then 4 else 0

end Sys2Proof.Machine
end

