-- ==== Sys2Proof/Machine/SeqArith.lean ====
section
/-! DEFINITION. The sequencer's arithmetic, logic, moves and multiply-accumulate (R191 to R193). -/

namespace Sys2Proof.Machine

/-- A register result with its flags, in so many cycles. -/
def State.putRes (s : State) (c : Ch) (d : Fin 16) (r : Word × Flags) (n : Nat := 1) : Done :=
  .next ((s.setSReg c d r.1).setFlags c r.2) n

/-- A register result with ZN (R188). -/
def State.putZN (s : State) (c : Ch) (d : Fin 16) (r : Word) : Done := s.putRes c d (r, flagsZN r)

/-! ### Register arithmetic and logic (R191) -/

/-- sd = sa + sb (R191). -/
def insAdd (c : Ch) (s : State) (w : Word) : Done :=
  s.putRes c (fD w) (addZNCV (s.sReg c (fA w)) (s.sReg c (fB w)))

/-- ADD (R191). -/
def execAdd (c : Ch) (s : State) : Host.Outcome State Fault Refusal := s.issueMn c .add (insAdd c)

/-- sd = sa - sb (R191). -/
def insSub (c : Ch) (s : State) (w : Word) : Done :=
  s.putRes c (fD w) (subZNCV (s.sReg c (fA w)) (s.sReg c (fB w)))

/-- SUB (R191). -/
def execSub (c : Ch) (s : State) : Host.Outcome State Fault Refusal := s.issueMn c .sub (insSub c)

/-- sd = sa AND sb (R191). -/
def insAnd (c : Ch) (s : State) (w : Word) : Done :=
  s.putZN c (fD w) ((s.sReg c (fA w)) &&& (s.sReg c (fB w)))

/-- AND (R191). -/
def execAnd (c : Ch) (s : State) : Host.Outcome State Fault Refusal := s.issueMn c .and (insAnd c)

/-- sd = sa OR sb (R191). -/
def insOr (c : Ch) (s : State) (w : Word) : Done :=
  s.putZN c (fD w) ((s.sReg c (fA w)) ||| (s.sReg c (fB w)))

/-- OR (R191). -/
def execOr (c : Ch) (s : State) : Host.Outcome State Fault Refusal := s.issueMn c .or (insOr c)

/-- sd = sa XOR sb (R191). -/
def insXor (c : Ch) (s : State) (w : Word) : Done :=
  s.putZN c (fD w) ((s.sReg c (fA w)) ^^^ (s.sReg c (fB w)))

/-- XOR (R191). -/
def execXor (c : Ch) (s : State) : Host.Outcome State Fault Refusal := s.issueMn c .xor (insXor c)

/-- sd = sa shifted left by sb[4:0] (R191). -/
def insShl (c : Ch) (s : State) (w : Word) : Done :=
  s.putZN c (fD w) ((s.sReg c (fA w)) <<< ((s.sReg c (fB w)).toNat % 32))

/-- SHL (R191). -/
def execShl (c : Ch) (s : State) : Host.Outcome State Fault Refusal := s.issueMn c .shl (insShl c)

/-- sd = sa shifted right by sb[4:0] with zeros (R191). -/
def insShr (c : Ch) (s : State) (w : Word) : Done :=
  s.putZN c (fD w) ((s.sReg c (fA w)) >>> ((s.sReg c (fB w)).toNat % 32))

/-- SHR (R191). -/
def execShr (c : Ch) (s : State) : Host.Outcome State Fault Refusal := s.issueMn c .shr (insShr c)

/-- sd = sa shifted right by sb[4:0] with copies of bit 31 (R191). -/
def insSar (c : Ch) (s : State) (w : Word) : Done :=
  s.putZN c (fD w) ((s.sReg c (fA w)).sshiftRight ((s.sReg c (fB w)).toNat % 32))

/-- SAR (R191). -/
def execSar (c : Ch) (s : State) : Host.Outcome State Fault Refusal := s.issueMn c .sar (insSar c)

/-- sd = the lesser of sa and sb as signed values (R191). -/
def insMin (c : Ch) (s : State) (w : Word) : Done :=
  s.putZN c (fD w) (minS (s.sReg c (fA w)) (s.sReg c (fB w)))

/-- MIN (R191). -/
def execMin (c : Ch) (s : State) : Host.Outcome State Fault Refusal := s.issueMn c .min (insMin c)

/-- sd = the greater of sa and sb as signed values (R191). -/
def insMax (c : Ch) (s : State) (w : Word) : Done :=
  s.putZN c (fD w) (maxS (s.sReg c (fA w)) (s.sReg c (fB w)))

/-- MAX (R191). -/
def execMax (c : Ch) (s : State) : Host.Outcome State Fault Refusal := s.issueMn c .max (insMax c)

/-- sd = the absolute value of sa (R191). -/
def insAbs (c : Ch) (s : State) (w : Word) : Done :=
  s.putRes c (fD w) (absFlags (s.sReg c (fA w)))

/-- ABS (R191). -/
def execAbs (c : Ch) (s : State) : Host.Outcome State Fault Refusal := s.issueMn c .abs (insAbs c)

/-- The flags of sa - sb (R191). -/
def insCmp (c : Ch) (s : State) (w : Word) : Done :=
  .next (s.setFlags c (subZNCV (s.sReg c (fA w)) (s.sReg c (fB w))).2) 1

/-- CMP (R191). -/
def execCmp (c : Ch) (s : State) : Host.Outcome State Fault Refusal := s.issueMn c .cmp (insCmp c)

/-- sd = sa (R191). -/
def insMov (c : Ch) (s : State) (w : Word) : Done :=
  .next (s.setSReg c (fD w) (s.sReg c (fA w))) 1

/-- MOV (R191). -/
def execMov (c : Ch) (s : State) : Host.Outcome State Fault Refusal := s.issueMn c .mov (insMov c)

/-! ### Immediates (R192) -/

/-- sd = sa + sext(imm) (R192). -/
def insAddi (c : Ch) (s : State) (w : Word) : Done :=
  s.putRes c (fD w) (addZNCV (s.sReg c (fA w)) (fSext w))

/-- ADDI (imm). -/
def execAddi (c : Ch) (s : State) : Host.Outcome State Fault Refusal := s.issueMn c .addi (insAddi c)

/-- sd = sa AND sext(imm) (R192). -/
def insAndi (c : Ch) (s : State) (w : Word) : Done :=
  s.putZN c (fD w) ((s.sReg c (fA w)) &&& (fSext w))

/-- ANDI (imm). -/
def execAndi (c : Ch) (s : State) : Host.Outcome State Fault Refusal := s.issueMn c .andi (insAndi c)

/-- sd = sa OR sext(imm) (R192). -/
def insOri (c : Ch) (s : State) (w : Word) : Done :=
  s.putZN c (fD w) ((s.sReg c (fA w)) ||| (fSext w))

/-- ORI (imm). -/
def execOri (c : Ch) (s : State) : Host.Outcome State Fault Refusal := s.issueMn c .ori (insOri c)

/-- The flags of sa - sext(imm) (R192). -/
def insCmpi (c : Ch) (s : State) (w : Word) : Done :=
  .next (s.setFlags c (subZNCV (s.sReg c (fA w)) (fSext w)).2) 1

/-- CMPI (imm). -/
def execCmpi (c : Ch) (s : State) : Host.Outcome State Fault Refusal := s.issueMn c .cmpi (insCmpi c)

/-- sd = sext(imm) (R192). -/
def insMovi (c : Ch) (s : State) (w : Word) : Done :=
  .next (s.setSReg c (fD w) (fSext w)) 1

/-- MOVI (imm). -/
def execMovi (c : Ch) (s : State) : Host.Outcome State Fault Refusal := s.issueMn c .movi (insMovi c)

/-- The upper half of sd becomes imm18[15:0] (R192). -/
def insMovh (c : Ch) (s : State) (w : Word) : Done :=
  .next (s.setSReg c (fD w) ((w.extractLsb' 0 16) ++ (s.sReg c (fD w)).extractLsb' 0 16)) 1

/-- MOVH (R192). -/
def execMovh (c : Ch) (s : State) : Host.Outcome State Fault Refusal := s.issueMn c .movh (insMovh c)

/-! ### Multiply-accumulate (R193) -/

/-- an = sat40(an + mul16(sa, sb)) (R193). -/
def insMac (c : Ch) (s : State) (w : Word) : Done :=
  let x := s.acc c (fD w) + mul16 (s.sReg c (fA w)) (s.sReg c (fB w))
  .next ((s.setAcc c (fD w) x).setFlags c (flagsZN40 x)) 1

/-- MAC (an + mul16). -/
def execMac (c : Ch) (s : State) : Host.Outcome State Fault Refusal := s.issueMn c .mac (insMac c)

/-- an = sat40(an - mul16(sa, sb)) (R193). -/
def insMsu (c : Ch) (s : State) (w : Word) : Done :=
  let x := s.acc c (fD w) - mul16 (s.sReg c (fA w)) (s.sReg c (fB w))
  .next ((s.setAcc c (fD w) x).setFlags c (flagsZN40 x)) 1

/-- MSU (an - mul16). -/
def execMsu (c : Ch) (s : State) : Host.Outcome State Fault Refusal := s.issueMn c .msu (insMsu c)

/-- an = 0 (R193). -/
def insClra (c : Ch) (s : State) (w : Word) : Done :=
  .next (s.setAcc c (fD w) 0) 1

/-- CLRA (R193). -/
def execClra (c : Ch) (s : State) : Host.Outcome State Fault Refusal := s.issueMn c .clra (insClra c)

/-- sd = sat32(an >> sh) (R193). -/
def insRda (c : Ch) (s : State) (w : Word) : Done :=
  s.putRes c (fD w) (rdaFlags (s.acc c (fA w)) (fB w).val) 2

/-- RDA (an >> sh). -/
def execRda (c : Ch) (s : State) : Host.Outcome State Fault Refusal := s.issueMn c .rda (insRda c)

end Sys2Proof.Machine
end

