-- ==== Sys2Proof/Machine/SeqFlow.lean ====
section
/-! DEFINITION. The sequencer's data memory and control flow (R194 to R196). -/

namespace Sys2Proof.Machine

/-! ### Data memory (R194) -/

/-- The byte address of ld and st, where it is aligned and within the class's data RAM. -/
def State.dramEa (s : State) (c : Ch) (w : Word) : Option Nat :=
  let ea := (s.sReg c (fA w) + fSext w).toNat
  if ea % 4 = 0 ∧ ea < dramBytes c then some ea else none

/-- sd = the data RAM word at ea (R194). -/
def insLd (c : Ch) (s : State) (w : Word) : Done :=
  match s.dramEa c w with
  | some ea => .next (s.setSReg c (fD w) ((s.ch c).seq.dram.readWord ea)) 2
  | none => .trap 5

/-- LD (R194). -/
def execLd (c : Ch) (s : State) : Host.Outcome State Fault Refusal := s.issueMn c .ld (insLd c)

/-- The data RAM word at ea = sd (R194). -/
def insSt (c : Ch) (s : State) (w : Word) : Done :=
  match s.dramEa c w with
  | some ea =>
    let v := s.sReg c (fD w)
    .next (s.updSeq c fun q => { q with dram := q.dram.writeWord ea v }) 1
  | none => .trap 5

/-- ST (R194). -/
def execSt (c : Ch) (s : State) : Host.Outcome State Fault Refusal := s.issueMn c .st (insSt c)

/-! ### Control flow (R195, R196) -/

/-- The target of br and call: PC-relative where the a field is 0. Readings: log entry 24 (DEDUCED). -/
def State.target (s : State) (c : Ch) (w : Word) : Nat :=
  if fA w = 0 then ((((s.ch c).seq.pc : Int) + fImm w) % (m32 : Nat)).toNat else (s.sReg c (fA w) + fSext w).toNat

/-- The condition of a format-B word holds. -/
def State.cond (s : State) (c : Ch) (w : Word) : Bool :=
  let q := (s.ch c).seq
  condHolds (fCond w) q.z q.n q.c q.v

/-- PC = target (R195). -/
def insBr (c : Ch) (s : State) (w : Word) : Done :=
  if s.cond c w then .jump (s.trace c 0 (s.ch c).seq.pc) (s.target c w) false 2 else .next s 1

/-- BR (R195). -/
def execBr (c : Ch) (s : State) : Host.Outcome State Fault Refusal := s.issueMn c .br (insBr c)

/-- Push PC + 1; PC = target (R195). -/
def insCall (c : Ch) (s : State) (w : Word) : Done :=
  if !s.cond c w then .next s 1
  else if 8 ≤ (s.ch c).seq.stack.length then .trap 7
  else
    let pc := (s.ch c).seq.pc
    let t := s.target c w
    .jump ((s.trace c 0 pc).updSeq c fun q => { q with stack := (pc + 1) :: q.stack }) t true 2

/-- CALL (R195). -/
def execCall (c : Ch) (s : State) : Host.Outcome State Fault Refusal := s.issueMn c .call (insCall c)

/-- PC = pop (R195). -/
def insRet (c : Ch) (s : State) (w : Word) : Done :=
  if !s.cond c w then .next s 1
  else match (s.ch c).seq.stack with
    | [] => .trap 8
    | t :: l => .jump ((s.trace c 0 (s.ch c).seq.pc).updSeq c fun q => { q with stack := l }) t false 2

/-- RET (R195). -/
def execRet (c : Ch) (s : State) : Host.Outcome State Fault Refusal := s.issueMn c .ret (insRet c)

/-- Enters a loop of sa passes, or skips it where sa is 0 (R196). -/
def insLoop (c : Ch) (s : State) (w : Word) : Done :=
  let pc := (s.ch c).seq.pc
  let n := (s.sReg c (fA w)).toNat
  let e := pc + (fImm w).toNat
  if n = 0 then .jump s (e + 1) false 1
  else if 2 ≤ (s.ch c).seq.loops.length then .trap 9
  else .next (s.updSeq c fun q => { q with loops := ⟨n, pc + 1, e⟩ :: q.loops }) 1

/-- LOOP (R196). -/
def execLoop (c : Ch) (s : State) : Host.Outcome State Fault Refusal := s.issueMn c .loop (insLoop c)

end Sys2Proof.Machine
end

