-- ==== Sys2Proof/Machine/Policy.lean ====
section
/-! DEFINITION. What the ROM link programs decide (R63, R96, R97, R106, R154, R181, R182, R295): a write of a ROM program, by a pwr
instruction or by a command that names it, comes about only where its policy makes it. The words of those programs stay opaque.
Choices: log entry 8 (DESIGN CHOICE). -/

namespace Sys2Proof.Machine

/-- The ROM program that runs on a channel, unless its program RAM was changed in a session. -/
def State.romRuns (s : State) (c : Ch) : Option Nat :=
  if s.seqRuns c && !s.cb c .SEQ_IMG_MODIFIED then s.romId c else none

/-- The type `CHCTL.CTL` asks for (R107): 0 is the highest that both ends advertise. -/
def State.wantType (s : State) (c : Ch) : Nat :=
  if s.cg c .CHCTL_CTL_TYPE_REQ = 0 then
    bestType (s.advOf c ((s.ch c).seq.pol.adv.getD (s.cg c .LINK_ANADV_TYPES)) &&& s.cg c .LINK_ANLP_TYPES)
  else s.cg c .CHCTL_CTL_TYPE_REQ

/-- What `LINK_ANADV.TYPES` is to be for a negotiation (R96, R106, R107): the type asked for and no other, where the class has
it; with 0 asked for, what it was before a request narrowed it. -/
def State.wantAdv (s : State) (c : Ch) : Nat :=
  let t := s.cg c .CHCTL_CTL_TYPE_REQ
  if t ≠ 0 && hasType c t then 2 ^ (t - 1) else (s.ch c).seq.pol.adv.getD (s.cg c .LINK_ANADV_TYPES)

/-- An attempt would be made as `CHCTL.CTL` asks (R96, R107): with its role, and negotiating for its types or with its type
forced. -/
def State.asAsked (s : State) (c : Ch) : Bool :=
  s.cg c .LINK_CTL_AN_EN = s.cg c .CHCTL_CTL_AN_REQ && s.cg c .LINK_CTL_ROLE = s.cg c .CHCTL_CTL_ROLE_REQ &&
    (if s.cb c .CHCTL_CTL_AN_REQ then s.cg c .LINK_ANADV_TYPES = s.wantAdv c
     else s.cg c .LINK_CTL_FTYPE = s.cg c .CHCTL_CTL_TYPE_REQ)

/-- The time for START has come (R96, R114): in STOP and IDLE, not under HOLD, after the back-off and after any reflectometry
run that is due. -/
def State.startDue (s : State) (c : Ch) : Bool :=
  let p := (s.ch c).seq.pol
  let stop := if isSeg c then (s.ch c).seg.st = .stop else (s.ch c).link.st = .stop
  stop && (s.ch c).sub = .idle && !s.cb c .CHCTL_CTL_HOLD && decide (p.since + s.backoff c ≤ s.now) && !p.diag &&
    (s.ch c).diag.run = .none

/-- START (R96, R114, R154): when it is due, with the pads released, and as `CHCTL.CTL` asks. -/
def State.polStart (s : State) (c : Ch) : Bool :=
  s.startDue c && !(s.ch c).pad.held && (isSeg c || s.asAsked c)

/-- The channel's sequencer holds its vote for the operating point a type needs (R173, R181). -/
def State.floorVoted (s : State) (c : Ch) (t : Nat) : Bool :=
  match pointOf t with
  | 0 => true
  | 1 => (s.dg .PWR_OPFLOOR1_CH).testBit c.val
  | _ => (s.dg .PWR_OPFLOOR2_CH).testBit c.val

/-- What R97 says of a shift to a type now: 0 where it is possible, else the code of R99. -/
def State.shiftNow (s : State) (c : Ch) (t : Nat) : Nat :=
  s.shiftBlock c t false ((s.ch c).link.st ≠ .up || (s.ch c).sub ≠ .up || (s.ch c).lpi.sleep.isSome)

/-- The type that LP-TRUNK shifts to (R96, R295): 25GBASE-T1 for a hot XT50 trunk, else a type newly asked for. -/
def State.shiftTo (s : State) (c : Ch) : Option Nat :=
  if s.power.hot && s.cg c .PCS_CTL_TYPE = 7 then some 6
  else if (s.ch c).seq.pol.typeReq then some (s.wantType c) else none

/-- A hitless shift (R96, R97, R181, R295): only LP-TRUNK shifts, where R97 allows it and with its operating-point floor voted
before. -/
def State.polShift (s : State) (c : Ch) (id : Nat) : Bool :=
  let t := s.cg c .LINK_SHIFTCFG_TGT
  id = 1 && s.shiftTo c = some t && s.shiftNow c t = 0 && s.floorVoted c t

/-- RESTART (R96, R106, R182): a change of type takes a retrain only where no hitless shift is possible, and as `CHCTL.CTL`
asks; after a divergence only where DIV_RETRAIN asks for it. -/
def State.polRestart (s : State) (c : Ch) (id : Nat) : Bool :=
  !((s.ch c).seq.pol.typeReq && ((id = 1 && s.shiftNow c (s.wantType c) = 0) || !s.asAsked c)) &&
    (!s.cb c .DSP_STAT_DIVERGED || s.pbDivRetrain c)

/-- The precoder setting asked for (R63): 1/(1+D) where DFE tap 1 exceeds half of the slicer's outer level, else off. -/
def State.polPrc (s : State) (c : Ch) : Nat := if 4194304 < tapGet (s.ch c).dsp.act.taps (tapKey 3 0) then 1 else 0

/-- ROM program `id` writes word `v` to register `o` of block `b` now (R96, R181, R182). LP-MIN's only LPI-port write is
PAD_RELEASE, and it runs no diagnostics and no Graft. -/
def State.polWrite (s : State) (c : Ch) (id : Nat) (b : CBlk) (o v : Nat) : Bool :=
  match b with
  | .link =>
    if o = 0x14 then
      (!v.testBit 0 || s.polStart c) && (!v.testBit 3 || s.polShift c id) && (!v.testBit 2 || s.polRestart c id)
    else if o = 0x20 then !v.testBit 10 || v / 256 % 4 = s.polPrc c
    else true
  | .seg => o ≠ 0xC || !v.testBit 0 || s.polStart c
  | .diag =>
    id ≠ 4 &&
      if o = 0x14 then !v.testBit 0 || (s.ch c).seq.pol.diag
      else if o = 0 then !s.linkLive c || isSeg c || (v.testBit 0 = s.pbTrendEn c && v.testBit 1)
      else true
  | .lpi =>
    if id = 4 then o = 4 && v % 8 = 4
    else if o = 0 then !v.testBit 0 || (s.pbLpiEn c && s.cb c .LPI_EVT_IDLE)
    else if o = 0x10 then v % 2 ^ 20 = s.pbIdle c
    else if o = 0x14 then v.testBit 8 = s.pbSleepAccept c
    else true
  | .calg => id ≠ 4
  | .chctl | .afe | .pcs | .dsp | .frame | .queue | .seq | .chpwr | .fault => true

/-- A write of the program of channel `c` comes about: any write of a custom program, and those of a ROM program's policy. -/
def State.progMakes (s : State) (c : Ch) (b : CBlk) (o v : Nat) : Bool :=
  match s.romRuns c with
  | some id => s.polWrite c id b o v
  | none => true

/-- What the ROM program has asked for is due no longer (R96): the reflectometry run, and a change of type. -/
def State.progMade (s : State) (c : Ch) (b : CBlk) (o v : Nat) : State :=
  if (s.romRuns c).isNone then s
  else if b = .diag && o = 0x14 && v.testBit 0 then s.updPol c fun p => { p with diag := false }
  else if b = .link && o = 0x14 && (v.testBit 3 || v.testBit 2) then s.updPol c fun p => { p with typeReq := false }
  else s

/-- A pwr of the program lands, where the program makes it: the word that an alias amounts to is what its policy sees
(R96, R165, R181, R182). One to a gated block is discarded as R283 says, whatever it asks for. -/
def State.portMakes (s : State) (c : Ch) (b : CBlk) (i v : Nat) : State :=
  if !s.blkEn c b then s.gatedAcc c else
  let o := 4 * i % 16384
  match s.aliasWord c (CFld.at b o) (aliasOp (i / 4096)) v with
  | some w => if s.progMakes c b o w then (s.progMade c b o w).portWrite c b i v else s
  | none => s.portWrite c b i v

end Sys2Proof.Machine
end

