-- ==== Sys2Proof/Machine/SeqAct.lean ====
section
/-! DEFINITION. The sequencer's ports, waits, timers, freezes, votes and system group (R165, R170 to R173, R197 to R199), and
the events that end a wait, a timer and the watchdog (R170, R172, R176). -/

namespace Sys2Proof.Machine

/-! ### Ports -/

/-- sd = the word at the index of a port (R197). -/
def insPrd (c : Ch) (s : State) (w : Word) : Done :=
  if 21 ≤ fPort w then .trap 2
  else
    let r := s.portRead c (fPort w) (fIndex w)
    let k := r.2.stall
    .next (k.2.setSReg c (fD w) (BitVec.ofNat 32 r.1)) (2 + k.1)

/-- PRD (R197). -/
def execPrd (c : Ch) (s : State) : Host.Outcome State Fault Refusal := s.issueMn c .prd (insPrd c)

/-- The word at the index of a port = sd (R165, R197). -/
def insPwr (c : Ch) (s : State) (w : Word) : Done :=
  let p := fPort w
  let i := fIndex w
  let k := s.pwrCause c p i
  if k ≠ 0 then .trap k
  else
    let v := (s.sReg c (fD w)).toNat
    let s := s.trace c 3 (s.ch c).seq.pc
    let t := s.stall
    .next (match portBlk c p with | some b => t.2.portMakes c b i v | none => t.2) (2 + t.1)

/-- PWR (R165, R197). -/
def execPwr (c : Ch) (s : State) : Host.Outcome State Fault Refusal := s.issueMn c .pwr (insPwr c)

/-! ### Waiting, timers, freezes (R170, R172, R198) -/

/-- Ends a wait at PC: on an event with the groups that ended it, or with `none` on its timeout (R170).
Readings: log entry 24 (DEDUCED). -/
def State.endWait (s : State) (c : Ch) (hit : Option Nat) : State :=
  let s := (s.updSeq c fun q => { q with z := hit.isNone, wait := none }).cs c .SEQ_EVHIT_GROUPS (hit.getD 0)
  s.trace c 2 (s.ch c).seq.pc

/-- Completes at once on a pending masked group, or waits (R170). -/
def insWait (c : Ch) (s : State) (w : Word) : Done :=
  let m := fMask w
  let t := fTime w
  if m = 0 && t = 0 then .trap 11
  else
    let p := s.evPend c &&& m
    if p ≠ 0 then .next (s.endWait c (some p)) 1
    else .waits (s.updSeq c fun q => { q with st := .waiting, wait := some (m, t) })

/-- WAIT (R170). -/
def execWait (c : Ch) (s : State) : Host.Outcome State Fault Refusal := s.issueMn c .wait (insWait c)

/-- Loads timer n with sa and starts it, or stops it where sa is 0 (R172, R198). -/
def insTset (c : Ch) (s : State) (w : Word) : Done :=
  let n := (fD w).val
  if 8 ≤ n then .trap 12
  else
    let v := (s.sReg c (fA w)).toNat
    let s := (s.cs c (.SEQ_TMR_COUNT n) v).updSeq c fun q => { q with reload := q.reload.setIfInBounds n v }
    .next (s.cs c .SEQ_TMRSTAT_RUN (setBitTo (s.cg c .SEQ_TMRSTAT_RUN) n (v ≠ 0))) 1

/-- TSET (R172, R198). -/
def execTset (c : Ch) (s : State) : Host.Outcome State Fault Refusal := s.issueMn c .tset (insTset c)

/-- SEQ freeze mask = mask OR (R198). -/
def insFrz (c : Ch) (s : State) (w : Word) : Done :=
  .next (s.updSeq c fun q => { q with frz := q.frz ||| (fMask w % 128) }) 1

/-- FRZ (R198). -/
def execFrz (c : Ch) (s : State) : Host.Outcome State Fault Refusal := s.issueMn c .frz (insFrz c)

/-- SEQ freeze mask = mask AND NOT (R198). -/
def insThw (c : Ch) (s : State) (w : Word) : Done :=
  .next (s.updSeq c fun q => { q with frz := q.frz ^^^ (q.frz &&& fMask w) }) 1

/-- THW (R198). -/
def execThw (c : Ch) (s : State) : Host.Outcome State Fault Refusal := s.issueMn c .thw (insThw c)

/-! ### The system group and votes (R173, R199) -/

/-- Asserts source k = 5, kind 0xE, with sa as the address (R173, R199). -/
def insRaise (c : Ch) (s : State) (w : Word) : Done :=
  if s.cap c 16 then .next (s.assertSrc (.ch c 5) 0xE (s.sReg c (fA w)).toNat) 2 else .trap 3

/-- RAISE (R173, R199). -/
def execRaise (c : Ch) (s : State) : Host.Outcome State Fault Refusal := s.issueMn c .raise (insRaise c)

/-- Queues an event message, with C = 1 where the queue is full (R173, R199). -/
def insPost (c : Ch) (s : State) (w : Word) : Done :=
  if !s.cap c 18 then .trap 3
  else
    let m := ((s.sReg c (fA w)).toNat % 256, (s.sReg c (fB w)).toNat)
    .next (s.updSeq c fun q =>
      if 4 ≤ q.post.length then { q with c := true } else { q with c := false, post := q.post ++ [m] }) 1

/-- POST (R173, R199). -/
def execPost (c : Ch) (s : State) : Host.Outcome State Fault Refusal := s.issueMn c .post (insPost c)

/-- Applies every pending shadow of the channel (R173, R263). -/
def insCommit (c : Ch) (s : State) (_w : Word) : Done :=
  let t := s.stall
  .next (t.2.commit c) (2 + t.1)

/-- COMMIT (R173, R263). -/
def execCommit (c : Ch) (s : State) : Host.Outcome State Fault Refusal := s.issueMn c .commit (insCommit c)

/-- The state becomes HALTED (R199). -/
def insHalt (c : Ch) (s : State) (_w : Word) : Done :=
  .next (s.updSeq c fun q => { q with st := .halted }) 1

/-- HALT (R199). -/
def execHalt (c : Ch) (s : State) : Host.Outcome State Fault Refusal := s.issueMn c .halt (insHalt c)

/-- Sets or clears the sequencer's client bit for a target: the channel's own domain, or an operating-point floor (R173,
R297). -/
def State.seqVote (s : State) (c : Ch) (t : Nat) (b : Bool) : State :=
  match t with
  | 0 => if (s.cg c .CHPWR_VOTE_CLIENTS).testBit 0 = b then s else (s.voteBit c 4 b).voteChanged c
  | 1 => s.ds .PWR_OPFLOOR1_CH (setBitTo (s.dg .PWR_OPFLOOR1_CH) c.val b)
  | _ => s.ds .PWR_OPFLOOR2_CH (setBitTo (s.dg .PWR_OPFLOOR2_CH) c.val b)

/-- vote and unvote (R199). -/
def State.voteIns (s : State) (c : Ch) (w : Word) (b : Bool) : Done :=
  if !s.cap c 17 then .trap 3
  else if 2 < wbits w 17 0 then .trap 10
  else .next (s.seqVote c (wbits w 17 0) b) 1

/-- Sets the client bit of target imm18 (R173, R199). -/
def insVote (c : Ch) (s : State) (w : Word) : Done :=
  s.voteIns c w true

/-- VOTE (R173, R199). -/
def execVote (c : Ch) (s : State) : Host.Outcome State Fault Refusal := s.issueMn c .vote (insVote c)

/-- Clears the client bit of target imm18 (R173, R199). -/
def insUnvote (c : Ch) (s : State) (w : Word) : Done :=
  s.voteIns c w false

/-- UNVOTE (R173, R199). -/
def execUnvote (c : Ch) (s : State) : Host.Outcome State Fault Refusal := s.issueMn c .unvote (insUnvote c)

/-! ### One instruction, whichever it is -/

/-- The effect of an instruction of mnemonic `m`. -/
def State.insOf (c : Ch) (m : Mn) : State → Word → Done :=
  match m with
  | .add => insAdd c | .sub => insSub c | .and => insAnd c | .or => insOr c | .xor => insXor c
  | .shl => insShl c | .shr => insShr c | .sar => insSar c | .min => insMin c | .max => insMax c
  | .abs => insAbs c | .cmp => insCmp c | .mov => insMov c
  | .mac => insMac c | .msu => insMsu c | .clra => insClra c | .rda => insRda c
  | .tset => insTset c | .raise => insRaise c | .post => insPost c | .commit => insCommit c | .halt => insHalt c
  | .addi => insAddi c | .andi => insAndi c | .ori => insOri c | .cmpi => insCmpi c | .movi => insMovi c
  | .movh => insMovh c | .ld => insLd c | .st => insSt c | .loop => insLoop c | .vote => insVote c
  | .unvote => insUnvote c | .br => insBr c | .call => insCall c | .ret => insRet c
  | .prd => insPrd c | .pwr => insPwr c | .wait => insWait c | .frz => insFrz c | .thw => insThw c

/-- The instruction at PC runs once from HALTED (R160). Readings: log entry 24 (DEDUCED). -/
def State.oneStep (s : State) (c : Ch) : State :=
  let s := s.updSeq c fun q => { q with st := .running, haltedWait := false }
  match s.insn c with
  | none => s.pmem c false
  | some w =>
    match mnOf w with
    | none => s.finish c w true (.trap 1)
    | some m => s.finish c w true (if legal m w then State.insOf c m s w else .trap 1)

/-! ### The watchdog (R176) -/

/-- The watchdog reaches PERIOD (R176) as one more tick passes; values below 1,024 are treated as 1,024. -/
def State.wdogDue (s : State) (c : Ch) : Bool :=
  decide (max 1024 (s.cg c .SEQ_WDOG_PERIOD) ≤ (s.ch c).seq.wdog + 1)

/-- The watchdog counts in channel `c`: its sequencer runs or waits, with its clock (R176, R281). -/
def State.wdogLive (s : State) (c : Ch) : Bool :=
  s.clocked c .seq && match (s.ch c).seq.st with
    | .running | .waiting => true
    | .stopped | .loading | .halted | .trapped => false

/-- The watchdog trap (R176, R190). A wait ends without writing Z or EVHIT. The instruction word it records is the one at
PC, and free where PC lies outside the loaded range. With `halt` a HALT falls in its cycle, and the state is HALTED (R160). -/
def State.wdogTrap (s : State) (c : Ch) (halt : Bool := false) : State :=
  let pc := (s.ch c).seq.pc
  let s := s.updSeq c fun q => { q with wdog := q.wdog + 1 }
  match s.insn c with
  | some w => s.seqTrap c 13 pc w.toNat !halt
  | none =>
    let r := s.fresh 32
    r.2.seqTrap c 13 pc r.1 !halt

/-! ### Host control (R160) -/

/-- A command that the state does not allow. -/
def State.seqRej (s : State) (c : Ch) : State := s.cs c .SEQ_STAT_CMD_REJ 1

/-- RUN: from HALTED or TRAPPED, at the entry point. After a QUARANTINE halt only its release starts the program. -/
def State.seqRun (s : State) (c : Ch) : State :=
  match (s.ch c).seq.st with
  | .halted | .trapped => s.seqEnter c
  | .stopped | .loading | .running | .waiting => s.seqRej c

/-- HALT: a wait it interrupts is left at its PC. -/
def State.seqHalt (s : State) (c : Ch) : State :=
  match (s.ch c).seq.st with
  | .running => s.updSeq c fun q => { q with st := .halted, haltedWait := false }
  | .waiting => s.updSeq c fun q => { q with st := .halted, haltedWait := true, wait := none }
  | .stopped | .loading | .halted | .trapped => s.seqRej c

/-- RESUME: from HALTED, but not after a QUARANTINE halt. A wait that a HALT interrupted is executed again.
Readings: log entry 24 (DEDUCED). -/
def State.seqResume (s : State) (c : Ch) : State :=
  if (s.ch c).seq.st = .halted && !s.cb c .SEQ_STAT_QHALT then
    let again := (s.ch c).seq.haltedWait
    let s := s.updSeq c fun q => { q with st := .running, haltedWait := false }
    match s.insn c with
    | some w => if again && mnOf w = some .wait then s.finish c w false (insWait c s w) else s
    | none => s
  else s.seqRej c

/-- HALT in the cycle in which the instruction at PC issues (R160, R199): the instruction completes, or traps without a
vector, and the state is HALTED; where it is a halt, there is one halt. In the cycle in which the watchdog expires, its trap
comes before the instruction's effect (R190), without a vector too. -/
def State.seqHaltNow (s : State) (c : Ch) (issue wdog : Bool) : State :=
  if wdog && s.wdogLive c && s.wdogDue c then s.wdogTrap c true
  else if issue && s.seqRuns c then s.oneStep c else s.seqHalt c

/-- STEP: from HALTED, while a session gives the SEQ right for the channel (R160, R365).
Readings: log entry 24 (DEDUCED). -/
def State.seqStep (s : State) (c : Ch) : State :=
  if (s.ch c).seq.st = .halted && s.right 0 c then s.oneStep c else s.seqRej c

/-- A write of `SEQ_CTL` (R160, R183). Readings: log entry 23 (DEDUCED). -/
def State.seqCmd (s : State) (c : Ch) (v : Nat) : State :=
  match v % 8 with
  | 0 => s
  | 1 => s.seqRun c
  | 2 => s.seqHalt c
  | 3 => s.seqResume c
  | 4 => s.seqStep c
  | _ => s.seqRej c

/-! ### Events of the sequencer -/

/-- WAIT_WAKE (R170): a masked group is pending while the sequencer waits. -/
def execWaitWake (c : Ch) (s : State) : Host.Outcome State Fault Refusal :=
  match (s.ch c).seq.st, (s.ch c).seq.wait with
  | .waiting, some (m, _) =>
    let p := s.evPend c &&& m
    if s.clocked c .seq && p ≠ 0 then
      let s := (s.endWait c (some p)).updSeq c fun q => { q with st := .running }
      ok (s.advance c (s.ch c).seq.pc)
    else ok s
  | _, _ => ok s

/-- The timeout of a wait elapses (R170); a masked group that is pending in that cycle wins. -/
def State.waitDone (s : State) (c : Ch) (m : Nat) : State :=
  let p := s.evPend c &&& m
  let s := (s.endWait c (if p = 0 then none else some p)).updSeq c fun q => { q with st := .running }
  s.advance c (s.ch c).seq.pc

/-- WAIT_TIMEOUT (R170): the last tick of the timeout passes with no masked group pending. Where the watchdog expires with that
tick, its trap ends the wait (R190). -/
def execWaitTimeout (c : Ch) (s : State) : Host.Outcome State Fault Refusal :=
  match (s.ch c).seq.st, (s.ch c).seq.wait with
  | .waiting, some (m, t) =>
    if s.clocked c .seq && t = 1 && s.evPend c &&& m = 0 && !s.wdogDue c then ok (s.waitDone c m) else ok s
  | _, _ => ok s

/-- A timer reaches zero (R172): with PERIODIC it reloads and runs on, otherwise it stops. -/
def State.timerDone (s : State) (c : Ch) (n : Fin 8) : State :=
  let s := s.cor c .SEQ_TMRSTAT_EXP (2 ^ n.val)
  if (s.cg c .SEQ_TMRSTAT_PERIODIC).testBit n.val then s.cs c (.SEQ_TMR_COUNT n.val) ((s.ch c).seq.reload[n.val])
  else
    let s := s.cs c (.SEQ_TMR_COUNT n.val) 0
    s.cs c .SEQ_TMRSTAT_RUN (setBitTo (s.cg c .SEQ_TMRSTAT_RUN) n.val false)

/-- TIMER_EXPIRE (R172): the last tick of a running timer's count passes. -/
def execTimerExpire (c : Ch) (n : Fin 8) (s : State) : Host.Outcome State Fault Refusal :=
  if s.clocked c .seq && (s.cg c .SEQ_TMRSTAT_RUN).testBit n.val && decide (s.cg c (.SEQ_TMR_COUNT n.val) ≤ 1) then
    ok (s.timerDone c n)
  else ok s

/-- WATCHDOG_EXPIRE (R176): the tick passes in which the count reaches PERIOD while the sequencer runs or waits. -/
def execWatchdogExpire (c : Ch) (s : State) : Host.Outcome State Fault Refusal :=
  if s.wdogLive c && s.wdogDue c then ok (s.wdogTrap c) else ok s

end Sys2Proof.Machine
end

