-- ==== Sys2Proof/Machine/Bus.lean ====
section
/-! DEFINITION. The native map and the accesses of software to it (R254 to R263, R281 to R283, R399 to R402): the decoding
of an address, what an access meets, the posted-write buffers, and the two forms in which the commands that are register
accesses take effect. -/

namespace Sys2Proof.Machine

/-! ### The native map (R255, R399, R400) -/

/-- What lies at an address. Offsets of registers are those of the base, with the alias's operation apart. -/
inductive Tgt where
  | chan (c : Ch) (b : CBlk) (op : WrOp) (o : Nat)
  | pram (c : Ch) (o : Nat)
  | dram (c : Ch) (o : Nat)
  | ctx (c : Ch) (o : Nat)
  | dev (b : DBlk) (op : WrOp) (o : Nat)
  | empty
  deriving DecidableEq, Repr

/-- The register block in a slot of a channel window; slots 10 and 11 are the RAM windows. -/
def slotCBlk (k : Nat) : Option CBlk := CBlk.all.find? fun b => b.slot = k

/-- The device-service block in a 64 KiB slot from address 0. -/
def devBlk (k : Nat) : Option DBlk := DBlk.all.find? fun b => b.typ = k + 1

/-- What lies at an offset of channel `c`'s window. -/
def winTgt (c : Ch) (off : Nat) : Tgt :=
  match slotCBlk (off / 0x10000) with
  | some b => .chan c b (aliasOp (off % 0x10000 / 0x4000)) (off % 0x4000)
  | none =>
    if off / 0x10000 = 10 then .pram c (off % 0x10000)
    else if off / 0x10000 = 11 then .dram c (off % 0x10000)
    else .empty

/-- The channel of index `n`. -/
def chOf (n : Nat) : Ch := Fin.ofNat 32 n

/-- What lies at an address. -/
def tgtAt (a : Nat) : Tgt :=
  if a < 0xB0000 then
    match devBlk (a / 0x10000) with
    | some b => .dev b (aliasOp (a % 0x10000 / 0x4000)) (a % 0x4000)
    | none => .empty
  else if 0x01000000 ≤ a && a < 0x03000000 then winTgt (chOf ((a - 0x01000000) / 0x100000)) (a % 0x100000)
  else if 0x04000000 ≤ a && a < 0x05000000 then .ctx (chOf ((a - 0x04000000) / 0x80000)) (a % 0x80000)
  else .empty

/-- The address of a register of a device-service block. -/
def devAddr (b : DBlk) (o : Nat) : Nat := (b.typ - 1) * 0x10000 + o

/-! ### What an access meets (R256, R281, R296) -/

/-- A device-service block is powered and clocked (R281, R296, R400). Choices: log entry 12 (DESIGN CHOICE). -/
def State.devOk (s : State) (b : DBlk) : Bool :=
  match b with
  | .tap | .clk | .pwr | .canopy | .host => true
  | .heart => s.pd34
  | .cal => s.svcEn 0
  | .integ => s.svcEn 1
  | .id => s.svcEn 2
  | .debug => s.svcEn 3 && s.pd37
  | .mgmt => s.svcEn 4

/-- The logic clocks of channel `c`'s domain run (R301): the domain is powered and the part is not in Standby. -/
def State.domOk (s : State) (c : Ch) : Bool := s.powered c && !s.retained

/-- A channel block is powered and clocked (R281, R296). Choices: log entry 12 (DESIGN CHOICE). -/
def State.chanOk (s : State) (c : Ch) (b : CBlk) : Bool :=
  match b with
  | .chpwr | .fault => true
  | .chctl | .afe | .dsp | .pcs | .link | .diag | .lpi | .frame | .queue | .seq | .calg | .seg => s.domOk c && s.blkEn c b

/-- The channel in whose window a target lies. -/
def Tgt.win : Tgt → Option Ch
  | .chan c _ _ _ | .pram c _ | .dram c _ => some c
  | .ctx _ _ | .dev _ _ _ | .empty => none

/-- What lies at an address is powered and clocked. The RAM windows follow the SEQ enable (R281); context memory follows
FRAME, whose memory it is (DEDUCED, log entry 41). Choices: log entry 12 (DESIGN CHOICE). -/
def State.tgtOk (s : State) : Tgt → Bool
  | .chan c b _ _ => s.chanOk c b
  | .pram c _ | .dram c _ => s.chanOk c .seq
  | .ctx c _ => s.chanOk c .frame
  | .dev b _ _ => s.devOk b
  | .empty => true

/-- An access of a source meets what lies at an address: in Standby MDIO reaches no channel block (R376). -/
def State.srcOk (s : State) (src : Src) (t : Tgt) : Bool := s.tgtOk t && !(src = .mdio && s.retained && t.win.isSome)

/-- Accesses are answered, and a write is not one that Locked-out refuses (R231, R256, R340).
Choices: log entry 12 (DESIGN CHOICE). -/
def State.busUp (s : State) (write : Bool) : Bool := s.servicesUp && !(write && s.power.mode = .lockedOut)

/-! ### Landing (R258, R260, R402) -/

/-- A host write of program RAM lands (R161, R162). Choices: log entry 13 (DESIGN CHOICE). -/
def State.pramLand (s : State) (c : Ch) (o : Nat) (v : Word) : State :=
  if pramBytes c ≤ o then s
  else if s.right 0 c && (s.ch c).seq.st = .halted then (s.setPramWord c o v).cs c .SEQ_IMG_MODIFIED 1
  else s.cs c .SEQ_STAT_PRAM_WREJ 1

/-- A host write of data RAM lands (R161, R163). Choices: log entry 13 (DESIGN CHOICE). -/
def State.dramLand (s : State) (c : Ch) (o : Nat) (v : Word) : State :=
  if dramBytes c ≤ o then s else s.updSeq c fun q => { q with dram := q.dram.writeWord o v }

/-- A write of a register lands, `SEQ_CTL` among them. -/
def State.landReg (s : State) (c : Ch) (b : CBlk) (op : WrOp) (o v : Nat) (addr : Nat) : State :=
  if b = .seq && o = 0 then (if op = .plain then s.seqCmd c v else s) else s.landC c b op o v false addr

/-- Bits `m` of a register are written and its other fields keep their values, in one step, as by an alias (R257,
R379). -/
def State.landBits (s : State) (c : Ch) (b : CBlk) (o v m addr : Nat) : State :=
  match b with
  | .pcs => s.cfgPut c b o fun s => s.pcsLoop c (v.testBit 10)
  | .chctl | .afe | .dsp | .link | .diag | .lpi | .frame | .queue | .seq | .calg | .chpwr | .fault | .seg =>
    let old := (s.aliasWord c (CFld.at b o) .set 0).getD 0
    s.landReg c b .plain o (((old ||| m) ^^^ m) ||| (v &&& m)) addr

/-- A software write lands at its target; writes of context memory are ignored (R227), as are those of unoccupied
addresses. -/
def State.landAt (s : State) (t : Tgt) (v : Word) (addr : Nat) : State :=
  match t with
  | .chan c b op o => s.landReg c b op o v.toNat addr
  | .pram c o => s.pramLand c o v
  | .dram c o => s.dramLand c o v
  | .dev b op o => s.landD b op o v.toNat addr
  | .ctx _ _ | .empty => s

/-- The address of an offset of channel `c`'s window. -/
def winAddr (c : Ch) (off : Nat) : Nat := 0x01000000 + c.val * 0x100000 + off

/-- A posted write lands. -/
def State.landPosted (s : State) (c : Ch) (p : Posted) : State :=
  match p.only, winTgt c p.off with
  | some m, .chan _ b _ o => s.landBits c b o p.v.toNat m (winAddr c p.off)
  | _, t => s.landAt t p.v (winAddr c p.off)

/-- The head of channel `c`'s buffer leaves it with effect `g`, where its block's clock runs or a power-off waits for it; that
power-off takes place after the last one (R402). Choices: log entry 13 (DESIGN CHOICE). -/
def State.landHead (s : State) (c : Ch) (g : Posted → State → State) : State :=
  match (s.ch c).posted with
  | [] => s
  | p :: t =>
    if s.domOk c || (s.ch c).offDue || p.off / 0x10000 = 13 || p.off / 0x10000 = 14 then
      let s := g p (s.updCh c fun x => { x with posted := t })
      if (s.ch c).offDue && (s.ch c).posted.isEmpty then (s.powerOff c).evalVote c else s
    else s

/-- The head of channel `c`'s buffer lands. -/
def State.landOne (s : State) (c : Ch) : State := s.landHead c fun p s => s.landPosted c p

/-- `n` posted writes of channel `c` land. -/
def State.landN (s : State) (c : Ch) : Nat → State
  | 0 => s
  | n + 1 => (s.landOne c).landN c n

/-- Every write in channel `c`'s buffer lands, in the order of entry (R258, R260). -/
def State.landAll (s : State) (c : Ch) : State := s.landN c (s.ch c).posted.length

/-! ### The posted-write buffer (R258, R259, R402) -/

/-- A write enters channel `c`'s buffer: discarded with WPOST_OVF and INTEG_WPOVF where it is full, and met with a bus error
where the buffer is closed. Either way but the last, it completes toward its source.
Choices: log entry 13 (DESIGN CHOICE). -/
def State.post (s : State) (c : Ch) (p : Posted) : State :=
  if (s.ch c).closing then s.busError
  else if 4 ≤ (s.ch c).posted.length then
    let s := match winTgt c p.off with
      | .chan _ b _ _ => if implFld c (.tr b .WPOST_OVF) then s.cs c (.tr b .WPOST_OVF) 1 else s
      | .pram _ _ | .dram _ _ | .ctx _ _ | .dev _ _ _ | .empty => s
    (s.ds .INTEG_WPOVF_OVF (s.dg .INTEG_WPOVF_OVF ||| 2 ^ c.val)).reply 0
  else (s.updCh c fun x => { x with posted := x.posted ++ [p] }).reply 0

/-! ### Accesses from outside (R256) -/

/-- A 32-bit write from the sideband, MDIO or the debug port. Readings: log entry 11 (DEDUCED). -/
def State.busWrite (s : State) (src : Src) (addr : Nat) (v : Word) : State :=
  let t := tgtAt addr
  if !s.busUp true || addr % 4 ≠ 0 || !s.srcOk src t then s.busError
  else match t.win with
    | some c => s.post c ⟨src, addr % 0x100000, v, none⟩
    | none => (s.landAt t v addr).reply 0

/-- A write that has come to the head of its buffer as it arrives: every earlier write of its channel lands before it.
Readings: log entry 11 (DEDUCED). -/
def State.busLand (s : State) (src : Src) (addr : Nat) (v : Word) : State :=
  let t := tgtAt addr
  if !s.busUp true || addr % 4 ≠ 0 || !s.srcOk src t then s.busError
  else match t.win with
    | some c => if (s.ch c).closing then s.busError else ((s.landAll c).landAt t v addr).reply 0
    | none => (s.landAt t v addr).reply 0

/-- What a read of a target returns. -/
def State.fetch (s : State) (t : Tgt) : Nat × State :=
  match t with
  | .chan c b op o => s.readC c b op o
  | .pram c o => (if pramBytes c ≤ o then 0 else (s.pramWord c o).toNat, s)
  | .dram c o => (if dramBytes c ≤ o then 0 else ((s.ch c).seq.dram.readWord o).toNat, s)
  | .ctx c o => (s.ctxWord c o, s)
  | .dev b op o => s.readD b op o
  | .empty => (0, s)

/-- A 32-bit read: first every write that entered the channel's buffer before it lands (R260). -/
def State.busRead (s : State) (src : Src) (addr : Nat) : State :=
  let t := tgtAt addr
  let s := match t.win with
    | some c => if s.busUp false then s.landAll c else s
    | none => s
  if !s.busUp false || addr % 4 ≠ 0 || !s.srcOk src t then s.busError
  else
    let r := s.fetch t
    r.2.reply r.1

/-! ### Accesses of the link program (R164, R165, R261) -/

/-- The running program of channel `c` can write register `o` of block `b`: some port of its image's capabilities owns it.
Readings: log entry 11 (DEDUCED). -/
def State.progOwns (s : State) (c : Ch) (b : CBlk) (o : Nat) : Bool :=
  s.seqRuns c && (List.range 18).any fun p => portBlk c p = some b && s.pwrCause c p (o / 4) = 0

/-- A pwr of the program of channel `c` reaches register `o` of block `b`: a gated block discards it (R283).
Readings: log entry 11 (DEDUCED). -/
def State.progDo (s : State) (c : Ch) (b : CBlk) (o : Nat) (g : State → State) : State :=
  if s.progOwns c b o then (if s.blkEn c b then g s else s.gatedAcc c) else s

/-- A write of the program lands, where the program makes it (R96, R181, R182). -/
def State.progLand (s : State) (c : Ch) (b : CBlk) (op : WrOp) (o v addr : Nat) : State :=
  match s.aliasWord c (CFld.at b o) op v with
  | some w => if s.progMakes c b o w then (s.progMade c b o w).landC c b op o v true addr else s
  | none => s.landC c b op o v true addr

/-- A pwr to an address: only registers of the program's own channel blocks can be reached. -/
def State.progWrite (s : State) (addr : Nat) (v : Word) : State :=
  match tgtAt addr with
  | .chan c b op o => if addr % 4 = 0 then s.progDo c b o fun s => s.progLand c b op o v.toNat addr else s
  | .pram _ _ | .dram _ _ | .ctx _ _ | .dev _ _ _ | .empty => s

/-- A prd from an address: its port must map the block (R164, R197). -/
def State.progRead (s : State) (addr : Nat) : State :=
  match tgtAt addr with
  | .chan c b op o =>
    if addr % 4 = 0 && s.seqRuns c && (List.range 18).any fun p => portBlk c p = some b then
      if s.blkEn c b then
        let r := s.readC c b op o
        r.2.reply r.1
      else (s.gatedAcc c).reply 0
    else s
  | .pram _ _ | .dram _ _ | .ctx _ _ | .dev _ _ _ | .empty => s

/-! ### The two forms of a register command -/

/-- A command that is a write of `v` to register `o` of block `b` of channel `c`, with its effect. From the sideband, MDIO or
debug it meets the checks of R256, and every earlier posted write of the channel lands before it (R258).
Readings: log entry 11 (DEDUCED). -/
def State.rowDo (s : State) (src : Src) (c : Ch) (b : CBlk) (o v : Nat) (g : State → Bool → State) :
    Host.Outcome State Fault Refusal :=
  match src with
  | .prog => ok (s.progDo c b o fun s => if s.progMakes c b o v then g (s.progMade c b o v) true else s)
  | .sideband | .mdio | .debug =>
    if s.busUp true && s.srcOk src (.chan c b .plain o) && !(s.ch c).closing then ok ((g (s.landAll c) false).reply 0)
    else ok s.busError

/-- A command that is a plain write of a register of channel `c`. Readings: log entry 11 (DEDUCED). -/
def State.rowW (s : State) (src : Src) (c : Ch) (b : CBlk) (o v : Nat) : Host.Outcome State Fault Refusal :=
  s.rowDo src c b o v fun s p => if p then s.landC c b .plain o v true (chanAddr c b o) else s.landReg c b .plain o v (chanAddr c b o)

/-- A command that is a write of a device-service register, with its effect. No port reaches one (R164).
Readings: log entry 11 (DEDUCED). -/
def State.devDo (s : State) (src : Src) (b : DBlk) (g : State → State) : Host.Outcome State Fault Refusal :=
  match src with
  | .prog => ok s
  | .sideband | .mdio | .debug => if s.busUp true && s.devOk b then ok ((g s).reply 0) else ok s.busError

/-- A command that is a plain write of a device-service register. -/
def State.devW (s : State) (src : Src) (b : DBlk) (o v : Nat) : Host.Outcome State Fault Refusal :=
  s.devDo src b fun s => s.landD b .plain o v (devAddr b o)

/-- A write to an address from any source. -/
def State.anyLand (s : State) (src : Src) (addr : Nat) (v : Word) : State :=
  match src with
  | .prog => s.progWrite addr v
  | .sideband | .mdio | .debug => s.busLand src addr v

/-- A read of an address from any source. -/
def State.anyRead (s : State) (src : Src) (addr : Nat) : State :=
  match src with
  | .prog => s.progRead addr
  | .sideband | .mdio | .debug => s.busRead src addr

/-! ### Accesses by address -/

/-- An address with its alias replaced by that of `op`, where it lies in a register block; others stay.
Readings: log entry 14 (DEDUCED). -/
def aliasAddr (op : WrOp) (a : Nat) : Nat :=
  match tgtAt a with
  | .chan _ _ _ _ | .dev _ _ _ => a / 0x10000 * 0x10000 + a % 0x4000 +
    (match op with | .plain => 0 | .set => 0x4000 | .clr => 0x8000 | .tgl => 0xC000)
  | .pram _ _ | .dram _ _ | .ctx _ _ | .empty => a

/-- When a hardware update of a field acts that software writes in the same cycle (R267): before the write, which then
prevails; after it; or not at all, noted in HWUPD_LOST. -/
inductive HwWhen where
  | before | after | lost
  deriving DecidableEq, Repr

/-- The table of R267, by access code: a W1S bit and a self-clearing request are set again by the write; a hardware-updated
RW field keeps the software's value; W1C bits, counters and RO fields take the hardware's part after the write. -/
def hwWhen (a : Acc) (how : HwHow) : HwWhen :=
  match a, how with
  | .w1s, .clr | .rw, .clr | .rwk, .clr | .rwp, .clr => .before
  | .rw, .put _ | .rwk, .put _ | .rwp, .put _ | .rw, .set | .rwk, .set | .rwp, .set => .lost
  | _, _ => .after

/-- The value a field of `w` bits takes by a hardware update. -/
def hwVal (w old : Nat) : HwHow → Nat
  | .set => 2 ^ w - 1
  | .clr => 0
  | .add k => old + k
  | .put v => v

/-- The bits of a register that the accesses of a cycle write: each access as its register's address and the bits it writes. -/
abbrev Touched := List (Nat × Nat)

/-- An access of the cycle writes some bit of a field (R257, R267): an alias leaves alone what its data does not name. -/
def touches (at' : Touched) (u : HwUpd) (i : FInfo) : Bool :=
  at'.any fun p => p.1 = u.addr.toNat && p.2 / 2 ^ i.lsb % 2 ^ i.wid ≠ 0

/-- A hardware update acts, in its part before or after the accesses of the cycle. -/
def State.hwAct (s : State) (before : Bool) (at' : Touched) (u : HwUpd) : State :=
  match tgtAt u.addr.toNat with
  | .chan c b _ o =>
    match (CFld.at b o).find? fun f => f.info.lsb = u.lsb && implFld c f with
    | some f => match hwWhen f.info.acc u.how, before with
      | .before, true | .after, false => s.cs c f (hwVal f.info.wid (s.cg c f) u.how)
      | .lost, false =>
        if touches at' u f.info then s.cs c (.tr b .HWUPD_LOST) 1 else s.cs c f (hwVal f.info.wid (s.cg c f) u.how)
      | .before, false | .after, true | .lost, true => s
    | none => s
  | .dev b _ o =>
    match (DFld.at b o).find? fun f => f.info.lsb = u.lsb with
    | some f => match hwWhen f.info.acc u.how, before with
      | .before, true | .after, false => s.ds f (hwVal f.info.wid (s.dg f) u.how)
      | .lost, false =>
        if touches at' u f.info then s.ds (.tr b .HWUPD_LOST) 1 else s.ds f (hwVal f.info.wid (s.dg f) u.how)
      | .before, false | .after, true | .lost, true => s
    | none => s
  | .pram _ _ | .dram _ _ | .ctx _ _ | .empty => s

/-- Channel `c` stands where a natural boundary applies shadows (R262, R401): a codeword or 80-symbol boundary of data mode,
outside transmit LPI, whose refreshes and exit apply them; or a state in which no PCS runs. In TRAINING data mode has begun
in XT50's X_CHECK (R93), and in a segment channel's JOIN. Readings: log entry 14 (DEDUCED). -/
def State.shBoundary (s : State) (c : Ch) : Bool :=
  let data := (s.ch c).line.frT0.isSome && !s.cb c .LPI_STAT_TX_LPI
  s.running c && match (s.ch c).sub with
    | .idle | .maint | .quarantine => true
    | .up | .lpi => data
    | .training => data && (isSeg c || (s.ch c).link.x = .check)
    | .off | .sleep => false

/-- A natural boundary of the channel whose register lies at an address. -/
def State.boundaryAt (s : State) (a : Nat) : State :=
  match tgtAt a with
  | .chan c _ _ _ => if s.shBoundary c then s.shApply c else s
  | .pram _ _ | .dram _ _ | .ctx _ _ | .dev _ _ _ | .empty => s

/-- The write is one of `INTEG_COMMIT`. -/
def isCommit (a : Access) : Bool := !a.rd && a.addr.toNat = devAddr .integ 0x1C

/-- The accesses of one cycle in the order of R261; a commit comes first, so that an SH write of its cycle stays pending
(R267). -/
def inTurn (l : List Access) : List Access :=
  let l := [Src.sideband, .mdio, .debug, .prog].flatMap fun r => l.filter fun a => a.src = r
  l.filter isCommit ++ l.filter fun a => !isCommit a

/-- An access of any source and size (R256): only words are carried out. -/
def State.access (s : State) (a : Access) : State :=
  if a.size ≠ 4 then (match a.src with
    | .prog => s
    | .sideband | .mdio | .debug => s.busError)
  else if a.rd then s.anyRead a.src a.addr.toNat
  else match a.src with
    | .prog => s.progWrite a.addr.toNat a.v
    | .sideband | .mdio | .debug => s.busWrite a.src a.addr.toNat a.v

/-- The access reaches its register block in its own cycle: the program's, a read, and a write to a device-service block, which
is not posted (R258). -/
def State.direct (s : State) (a : Access) : Bool :=
  let t := tgtAt a.addr.toNat
  a.size = 4 && a.addr.toNat % 4 = 0 && match a.src, t with
    | .prog, .chan c b _ o => (a.rd || s.progOwns c b o) && s.blkEn c b
    | .prog, _ => false
    | r, t => s.busUp (!a.rd) && s.srcOk r t && (a.rd || t.win.isNone)

/-- The register an access reaches, with the bits it writes. -/
def touchedBy (a : Access) : Nat × Nat :=
  let plain : Bool := match tgtAt a.addr.toNat with
    | .chan _ _ op _ | .dev _ op _ => decide (op = .plain)
    | .pram _ _ | .dram _ _ | .ctx _ _ | .empty => true
  (aliasAddr .plain a.addr.toNat, if a.rd then 0 else if plain = true then m32 - 1 else a.v.toNat)

/-- The access asks for a mode (R18). -/
def asksMode (a : Access) : Bool := match tgtAt a.addr.toNat with
  | .dev .pwr .plain 4 => !a.rd
  | _ => false

/-- The access asks for a soft reset (R304). -/
def asksReset (a : Access) : Bool := match tgtAt a.addr.toNat with
  | .dev .pwr op 8 => !a.rd && op ≠ .clr && a.v.toNat.testBit 0
  | _ => false

/-- Some access of the cycle has the part reset (R19, R264): none but a reset outranks a mode request among them. -/
def State.resetTaken (s : State) (l : List Access) : Bool :=
  ((l.filter fun a => !asksMode a).foldl (fun (r : State × Bool) a =>
    (r.1.access a, r.2 || (asksReset a && r.1.direct a && r.1.gateOpen && r.1.resettable && !r.1.outranked r.1.cyc.toSafe)))
    (s, false)).2

/-- The accesses of one cycle act, in turn; a mode request beside a reset that is taken is discarded (R19, R261). -/
def State.turns (s : State) (l : List Access) : State :=
  (if s.resetTaken l then l.filter fun a => !asksMode a else l).foldl (fun s a => s.access a) s

/-- What the cycle of the accesses that reach the registers `at'` holds (R264, R267): the gate as it stands before it, the
boundary that applies shadows, the hardware updates of those registers, and the accesses' effect `g`. -/
def State.cycle (s : State) (al : Along) (at' : Touched) (g : State → State) : State :=
  let hw := al.hw.filter fun u => (at'.map fun p => p.1).contains u.addr.toNat
  let s := if al.boundary then at'.foldl (fun s p => s.boundaryAt p.1) s else s
  let s := hw.foldl (fun s u => s.hwAct true at' u) s
  s.inCyc ⟨some (s.db .KEYGATE_OPEN), al.wake, al.toSafe, al.supply, al.unvote, al.leave, false⟩ fun s =>
    hw.foldl (fun s u => s.hwAct false at' u) (g s)

/-- REGISTER_WRITE (R19, R256, R258, R261, R267): a write of any register, posted for channel windows, with what falls in its
cycle. -/
def execRegisterWrite (a : Access) (al : Along) (s : State) : Host.Outcome State Fault Refusal :=
  let l := inTurn (a :: al.others)
  ok (s.cycle al ((l.filter s.direct).map touchedBy) fun s => s.turns l)

/-- The command registers that the program and the host both write (R84, R113, R129). -/
def cmdReg (b : CBlk) (o : Nat) : Bool := (b = .link && o = 0x14) || (b = .seg && o = 0xC) || (b = .diag && o = 0x14)

/-- The write of the program that lands in one command register together with the host's write `p`. -/
def State.cmdPair (s : State) (c : Ch) (p : Posted) (l : List Access) : Option (CBlk × Access) :=
  match winTgt c p.off with
  | .chan _ b .plain o =>
    if cmdReg b o && p.only.isNone then
      (l.find? fun a => a.src = .prog && !a.rd && a.addr.toNat = winAddr c p.off && s.direct a && s.progMakes c b o a.v.toNat).map
        fun a => (b, a)
    else none
  | _ => none

/-- Both sources' commands in one cycle (R84, R113, R129): one acts, by the order of its register, and the others are
ignored with CMD_REJ. `v` is the host's word. Of two like commands one acts, and two STOPs are recorded as the host's
(DESIGN CHOICE, log entry 37). -/
def State.cmdBoth (s : State) (c : Ch) (b : CBlk) (v v' : Nat) : State :=
  let w := v ||| v'
  match b with
  | .link =>
    let s := if v % 32 ≠ 0 && v' % 32 ≠ 0 then s.linkRej c else s
    s.linkCmd c w (if w.testBit 1 then !v.testBit 1 else !v.testBit 2)
  | .seg => (if v % 4 ≠ 0 && v' % 4 ≠ 0 then s.segRej c else s).segCmd c w (!v.testBit 1)
  | _ => (s.progMade c .diag 0x14 v').diagCmd c w

/-- The channel leaves MAINT in the cycle (R53, R107): its program writes MAINT_REQ 0. -/
def State.leaves (s : State) (c : Ch) (l : List Access) : Bool :=
  (s.ch c).sub = .maint && l.any fun a => a.src = .prog && !a.rd && s.direct a && match tgtAt a.addr.toNat with
    | .chan d .chctl op 0 => d = c && (match op with
      | .plain => !a.v.toNat.testBit 8
      | .set => false
      | .clr => a.v.toNat.testBit 8
      | .tgl => a.v.toNat.testBit 8 && s.cb c .CHCTL_CTL_MAINT_REQ)
    | _ => false

/-- The bits of its register that a posted write changes. -/
def Posted.touched (p : Posted) (c : Ch) : Nat × Nat :=
  let r := touchedBy ⟨p.src, false, BitVec.ofNat 32 (winAddr c p.off), p.v, 4⟩
  (r.1, p.only.getD r.2)

/-- POSTED_WRITE_LAND (R53, R258, R261, R267): the head of the buffer lands, then the accesses of other sources in its cycle. -/
def execPostedWriteLand (c : Ch) (al : Along) (s : State) : Host.Outcome State Fault Refusal :=
  match s.servicesUp, (s.ch c).posted with
  | true, p :: _ =>
    let l := inTurn al.others
    let al := { al with leave := al.leave || s.leaves c l }
    ok (s.cycle al (p.touched c :: (l.filter s.direct).map touchedBy) fun s =>
      let s := (l.filter isCommit).foldl (fun s a => s.access a) s
      let l := l.filter fun a => !isCommit a
      match s.cmdPair c p l with
      | some (b, a) => (s.landHead c fun p s => s.cmdBoth c b p.v.toNat a.v.toNat).turns (l.filter (· ≠ a))
      | none => (s.landOne c).turns l)
  | _, _ => ok s

/-- ALIAS_SET_WRITE (R257). -/
def execAliasSetWrite (src : Src) (addr v : Word) (s : State) : Host.Outcome State Fault Refusal :=
  ok (s.anyLand src (aliasAddr .set addr.toNat) v)

/-- ALIAS_CLR_WRITE (R257). -/
def execAliasClrWrite (src : Src) (addr v : Word) (s : State) : Host.Outcome State Fault Refusal :=
  ok (s.anyLand src (aliasAddr .clr addr.toNat) v)

/-- ALIAS_TGL_WRITE (R257). -/
def execAliasTglWrite (src : Src) (addr v : Word) (s : State) : Host.Outcome State Fault Refusal :=
  ok (s.anyLand src (aliasAddr .tgl addr.toNat) v)

/-- SH_WRITE (R262): a write of a register with SH fields reaches their shadows. -/
def execShWrite (src : Src) (addr v : Word) (s : State) : Host.Outcome State Fault Refusal :=
  ok (s.anyLand src addr.toNat v)

/-- CFGREF_WRITE (R271): a write of the block's `BLK_CFGREF`, whose block the address names.
Readings: log entry 14 (DEDUCED). -/
def execCfgrefWrite (src : Src) (addr v : Word) (s : State) : Host.Outcome State Fault Refusal :=
  ok (s.anyLand src (addr.toNat / 0x10000 * 0x10000 + 0x3FF8) v)

/-- FAULT_FORCE (R342): a write of a force register of FAULT or CANOPY. -/
def execFaultForce (src : Src) (addr v : Word) (s : State) : Host.Outcome State Fault Refusal :=
  ok (s.anyLand src addr.toNat v)

/-- The RC field at a target takes a count that came in the cycle of its read (R267). -/
def State.rcInc (s : State) (t : Tgt) (n : Nat) : State :=
  match t with
  | .chan c b _ o => ((CFld.at b o).filter fun f => f.info.acc = .rc && implFld c f).foldl (fun s f => s.cinc c f n) s
  | .dev b _ o => ((DFld.at b o).filter fun f => f.info.acc = .rc).foldl (fun s f => s.dinc f n) s
  | _ => s

/-- RC_COUNTER_READ (R26, R256, R257, R261, R267): the value is returned, a base read clears the counter, and it keeps what came
in the same cycle. A read of another size is a bus error. The other accesses of the cycle take their turns before or after it. -/
def execRcCounterRead (src : Src) (addr : Word) (size inc : Nat) (others : List Access) (s : State) :
    Host.Outcome State Fault Refusal :=
  let a : Access := ⟨src, true, addr, 0, size⟩
  let l := inTurn (a :: others)
  let t := tgtAt addr.toNat
  ok (s.inCyc { CycSt.none with gate := some (s.db .KEYGATE_OPEN) } fun s =>
    let r := (l.takeWhile (· ≠ a)).foldl (fun s a => s.access a) s
    let r := r.access a
    let seen := r.bus
    let r := { (l.dropWhile (· ≠ a)).tail.foldl (fun s a => s.access a) r with bus := seen }
    if s.servicesUp && s.tgtOk t then r.rcInc t inc else r)

/-- PRAM_WRITE (R162, R258). A program has no path to its own RAM. -/
def execPramWrite (src : Src) (c : Ch) (off : BitVec 16) (v : Word) (s : State) : Host.Outcome State Fault Refusal :=
  match src with
  | .prog => ok s
  | .sideband | .mdio | .debug => ok (s.busLand src (winAddr c (0xA0000 + off.toNat)) v)

/-- FPRINT0_READ (R273). -/
def execFprint0Read (src : Src) (s : State) : Host.Outcome State Fault Refusal := ok (s.anyRead src (devAddr .integ 4))

/-- FC_TIME0_READ (R345). -/
def execFcTime0Read (src : Src) (s : State) : Host.Outcome State Fault Refusal := ok (s.anyRead src (devAddr .canopy 0x34))

/-- The address of a fault record's word 0 or of a source's status (R344, R345). -/
def faultAddr : FRead → Nat
  | .first0 c => chanAddr c .fault 0
  | .fcFirst0 => devAddr .canopy 0
  | .status c k => chanAddr c .fault (0x40 + 4 * k.val)
  | .fcStatus i => devAddr .canopy (0x100 + 4 * i.val)

/-- FAULT_RECORD_READ (R335). -/
def execFaultRecordRead (src : Src) (x : FRead) (s : State) : Host.Outcome State Fault Refusal :=
  ok (s.anyRead src (faultAddr x))

end Sys2Proof.Machine
end

