-- ==== Sys2Proof/Machine/Mgmt.lean ====
section
/-! DEFINITION. The MDIO port (R375 to R384) and the IEEE 1149.1 controller (R385 to R387). -/

namespace Sys2Proof.Machine

/-- Changes the MDIO port of channel `c`. -/
def State.updPort (s : State) (c : Ch) (g : MdPort → MdPort) : State :=
  { s with mgmt := { s.mgmt with ports := s.mgmt.ports.set c.val (g s.mgmt.ports[c.val]) } }

/-! ### The registers of a port (R377, R378, R382 to R384) -/

/-- A register an MDIO frame can name. -/
inductive MdReg where
  /-- 1.0000, 1.0001, 1.0002, 1.0003, 1.0834 -/ | pma1 | pma2 | id1 | id2 | t1
  /-- 3.0000, 3.0001 -/ | pcs1 | pcs2
  /-- 7.0200, 7.0201 -/ | an1 | an2
  /-- 30.8000, 30.8001, 30.8002 -/ | sqi | cable | slp
  /-- 31.CA00 + k -/ | plca (k : Fin 6)
  /-- 31.0000 + k -/ | win (k : Fin 5)
  deriving DecidableEq, Repr

/-- The register an MMD and address name at port `c`; `none` for one the part does not define. -/
def mdReg (c : Ch) (devad reg : Nat) : Option MdReg :=
  match devad, reg with
  | 1, 0 => some .pma1 | 1, 1 => some .pma2 | 1, 2 => some .id1 | 1, 3 => some .id2 | 1, 0x834 => some .t1
  | 3, 0 => some .pcs1 | 3, 1 => some .pcs2
  | 7, 0x200 => if isSeg c then none else some .an1
  | 7, 0x201 => if isSeg c then none else some .an2
  | 30, 0x8000 => some .sqi | 30, 0x8001 => some .cable | 30, 0x8002 => some .slp
  | 31, 0 => some (.win 0) | 31, 1 => some (.win 1) | 31, 2 => some (.win 2) | 31, 3 => some (.win 3) | 31, 4 => some (.win 4)
  | 31, r => if isSeg c && 0xCA00 ≤ r && r < 0xCA06 then some (.plca (Fin.ofNat 6 (r - 0xCA00))) else none
  | _, _ => none

/-- The native block a standard register reads; `none` for one that reads a device-service block or the port itself. -/
def MdReg.blk (c : Ch) : MdReg → Option CBlk
  | .pma1 => some .afe
  | .pma2 => some (if isSeg c then .seg else .link)
  | .t1 | .an1 | .an2 => some .link
  | .pcs1 => some .pcs
  | .pcs2 => some (if isSeg c then .seg else .pcs)
  | .sqi | .cable => some .diag
  | .slp => some .lpi
  | .plca _ => some .seg
  | .id1 | .id2 | .win _ => none

/-- A register of the native window. -/
def MdReg.isWin : MdReg → Bool
  | .win _ => true
  | .pma1 | .pma2 | .id1 | .id2 | .t1 | .pcs1 | .pcs2 | .an1 | .an2 | .sqi | .cable | .slp | .plca _ => false

/-- The native read of a standard register is answered: in Standby none is (R376). -/
def State.mdOk (s : State) (c : Ch) (r : MdReg) : Bool :=
  match r.blk c with
  | some b => s.chanOk c b && !s.retained
  | none => s.devOk .id && !s.retained

/-- The clause's type-selection code of a type (register 1.0834; PRESUMED, log entry 43). -/
def t1Code (typ : Nat) : Option Nat :=
  match typ with
  | 1 => some 0 | 2 => some 1 | 3 => some 4 | 4 => some 5 | 5 => some 6 | 6 => some 7 | 8 => some 3
  | _ => none

/-- The type of a type-selection code, 0 for none. Choices: log entry 43 (PRESUMED). -/
def t1Type (code : Nat) : Nat := ((List.range 9).find? fun t => t1Code t = some code).getD 0

/-- The present condition of the LL bit of a status register (R378, R380). -/
def State.llNow (s : State) (c : Ch) (r : MdReg) : Bool :=
  match r with
  | .pma2 => if isSeg c then (s.ch c).seg.st = .up else (s.ch c).link.st = .up
  | .pcs2 => if isSeg c then (s.ch c).seg.st = .up else s.cb c .PCS_STAT_BLOCK_LOCK
  | .an2 => (s.ch c).link.st = .up
  | _ => false

/-- The latch of an LL bit. Readings: log entry 20 (DEDUCED). -/
def State.llLatch (s : State) (c : Ch) (r : MdReg) : Bool :=
  match r with
  | .pma2 => if isSeg c then (s.ch c).seg.llPma else (s.ch c).link.llPma
  | .pcs2 => if isSeg c then (s.ch c).seg.llPcs else (s.ch c).line.llPcs
  | .an2 => (s.ch c).link.llAn
  | _ => false

/-- An LL latch takes the present condition (R380). Readings: log entry 20 (DEDUCED). -/
def State.llTake (s : State) (c : Ch) (r : MdReg) : State :=
  let b := s.llNow c r
  match r with
  | .pma2 => if isSeg c then s.updSeg c fun g => { g with llPma := b } else s.updLink c fun l => { l with llPma := b }
  | .pcs2 => if isSeg c then s.updSeg c fun g => { g with llPcs := b } else s.updLine c fun l => { l with llPcs := b }
  | .an2 => s.updLink c fun l => { l with llAn := b }
  | _ => s

/-- The distance of the nearest OPEN or SHORT feature in the last result (R382), which is held in millimetres, in 0.1 m. -/
def State.nearFault (s : State) (c : Ch) : Nat :=
  let l := (List.range (min 16 (s.cg c .DIAG_RES_HDR_NFEAT))).filter fun k =>
    s.cg c (.DIAG_FEATA_CLASS k) = 1 || s.cg c (.DIAG_FEATA_CLASS k) = 2
  let d := l.foldl (fun d k => min d (s.cg c (.DIAG_FEATA_DIST k))) 102201
  if 102200 < d then 0x3FF else d / 100

/-- What a standard register reads. A type without a code of the clause reads free in 1.0834.
Choices: log entry 22 (PRESUMED). -/
def State.mdVal (s : State) (c : Ch) (r : MdReg) : Nat × State :=
  let ll := 4 * b2n (s.llLatch c r)
  match r with
  | .pma1 => (b2n (s.cg c .AFE_CTL_LOOP = 1), s)
  | .pma2 | .pcs2 => (ll, s)
  | .id1 => (fjOui.toNat / 64 % 65536, s)
  | .id2 => (fjOui.toNat % 64 * 1024 + 0x32 * 16 + s.dval .ID_REV_STEP % 16, s)
  | .t1 =>
    let m := s.cval c .LINK_ANSTAT_MASTER * 2 ^ 14
    match t1Code (s.cval c .LINK_ANSTAT_RESOLVED) with
    | some k => (m + k, s)
    | none =>
      let x := s.fresh 4
      (m + x.1, x.2)
  | .pcs1 => (s.cg c .PCS_CTL_PCS_LOOP * 2 ^ 14, s)
  | .an1 => (s.cval c .LINK_CTL_AN_EN * 2 ^ 12, s)
  | .an2 => (s.cval c .LINK_ANSTAT_AN_DONE * 32 + ll, s)
  | .sqi => (s.cval c .DIAG_SQI_VALID * 2 ^ 15 + s.cval c .DIAG_SQI_WORST * 256 + s.cval c .DIAG_SQI_SQI, s)
  | .cable => (s.cg c .DIAG_RES_HDR_OA * 2 ^ 14 + s.cval c .DIAG_STAT_BUSY * 2 ^ 13 + s.nearFault c, s)
  | .slp => (b2n (s.mgmt.ports[c.val]).wakeLine * 256 + s.cval c .LPI_STAT_METHOD * 128 + s.cval c .LPI_STAT_SLP_PHASE * 16, s)
  | .plca k =>
    (match k.val with
      | 0 => 0x0A10
      | 1 => b2n (s.cg c .SEG_CTL_MODE = 0) * 2 ^ 15
      | 2 => s.cg c .SEG_PLCA_NODE_CNT * 256 + s.cg c .SEG_PLCA_NODE_ID
      | 3 => b2n (s.ch c).seg.plcaOk * 2 ^ 15
      | 4 => s.cg c .SEG_PLCA_TO_TO_TMR
      | _ => s.cg c .SEG_PLCA_MAX_BC * 256 + s.cg c .SEG_PLCA_BURST_TMR, s)
  | .win _ => (0, s)

/-! ### Frames (R376, R398) -/

/-- MDIO frames are answered (R376). Readings: log entry 20 (DEDUCED). -/
def State.mdOn (s : State) : Bool := s.servicesUp && s.db .MGMT_MDCTL_EN

/-- A native access met a bus error or a refusal (R376, R384). -/
def State.mdBusErr (s : State) : State := s.ds .MGMT_MDSTAT_BUSERR 1

/-- A frame of port `c` and MMD `devad`, with what it does and whether it sets LATE or BUSERR (R376, R398).
Readings: log entry 20 (DEDUCED). -/
def State.mdFrame (s : State) (c : Ch) (devad : Nat) (g : State → State × Bool) : Host.Outcome State Fault Refusal :=
  if !s.mdOn then ok s
  else
    let r := g s
    let s := (r.1.ds .MGMT_MDSTAT_LAST_DEVAD devad).ds .MGMT_MDSTAT_LAST_PRTAD c.val
    let s := s.dinc .MGMT_MDFRAMES_COUNT
    ok (if r.2 then s.dinc .MGMT_MDERR_COUNT else s)

/-- The address register of an MMD. Readings: log entry 20 (DEDUCED). -/
def State.mdAddr (s : State) (c : Ch) (devad : Nat) : Nat := (s.mgmt.ports[c.val]).addrs.toList.getD devad 0

/-- The address of an MMD is fixed (R377, R381): an undefined one that a frame names is noted, and a standard register is
prefetched, after the posted writes of its channel have landed (R260). -/
def State.mdFix (s : State) (c : Ch) (devad reg : Nat) (named : Bool) : State × Bool :=
  let s := s.updPort c fun p => { p with addrs := p.addrs.setIfInBounds devad reg }
  let put := fun (s : State) (v : Nat) => s.updPort c fun p => { p with pre := p.pre.setIfInBounds devad v }
  match mdReg c devad reg with
  | none => (put (if named then s.ds .MGMT_MDSTAT_DEVAD_UNK 1 else s) 0, false)
  | some r =>
    if r.isWin then (s, false)
    else
      let s := if (r.blk c).isSome then s.landAll c else s
      if s.mdOk c r then
        let x := s.mdVal c r
        (put x.2 x.1, false)
      else (put s.mdBusErr 0xFFFF, true)

/-- MDIO_ADDRESS (R381). -/
def execMdioAddress (prtad : Ch) (devad : Fin 32) (reg : BitVec 16) (s : State) : Host.Outcome State Fault Refusal :=
  s.mdFrame prtad devad.val fun s =>
    let r := s.mdFix prtad devad.val reg.toNat true
    (r.1.reply 0, r.2)

/-! ### Writes (R378, R379, R382, R383) -/

/-- A standard register's write reaches one native register: bits `m` change, posted as a write of the MDIO source. -/
def State.mdPost (s : State) (c : Ch) (b : CBlk) (o v m : Nat) : State × Bool :=
  let s := if !s.busUp true || !s.chanOk c b then s.busError
    else s.post c ⟨.mdio, b.slot * 0x10000 + o, BitVec.ofNat 32 v, some m⟩
  if s.bus.err then (s.mdBusErr, true) else (s, false)

/-- Two native writes of one frame, in turn. -/
def both (x : State × Bool) (g : State → State × Bool) : State × Bool :=
  let y := g x.1
  (y.1, x.2 || y.2)

/-- A write of a standard register; in Standby each meets a bus error (R376). Readings: log entry 20 (DEDUCED). -/
def State.mdStd (s : State) (c : Ch) (r : MdReg) (v : Nat) : State × Bool :=
  if s.retained && !r.isWin then (s.busError.mdBusErr, true) else
  let rst := fun s : State => if v.testBit 15 then s.mdPost c .chpwr 0xC 1 1 else (s, false)
  match r with
  | .pma1 => both (s.mdPost c .afe 0 (v % 2 * 16) 0x30) rst
  | .t1 =>
    if isSeg c then (s, false)
    else
      let t := t1Type (v % 16)
      let role := if v.testBit 14 then 0x300 else 0x200
      if t ≠ 0 && hasType c t then s.mdPost c .link 0 (role + t * 16) 0x3F0 else s.mdPost c .link 0 role 0x300
  | .pcs1 => both (s.mdPost c .pcs 0 (bits v 14 14 * 0x400) 0x400) rst
  | .an1 =>
    both (s.mdPost c .link 0 (bits v 12 12) 1) fun s =>
      if v.testBit 9 then s.mdPost c .link 0x14 (if (s.ch c).link.st = .stop then 1 else 4) 0x1F else (s, false)
  | .cable => if v.testBit 0 then s.mdPost c .diag 0x14 1 0x1F else (s, false)
  | .slp => if v % 4 ≠ 0 then s.mdPost c .lpi 4 (v % 4) 7 else (s, false)
  | .plca k =>
    match k.val with
    | 1 => if s.cg c .SEG_CTL_MODE = 2 then (s, false) else s.mdPost c .seg 0 (1 - bits v 15 15) 3
    | 2 => s.mdPost c .seg 4 v 0xFFFF
    | 4 => s.mdPost c .seg 8 v 0xFF
    | 5 => s.mdPost c .seg 4 (v % 256 * 2 ^ 24 + v / 256 % 256 * 2 ^ 16) 0xFFFF0000
    | _ => (s, false)
  | .pma2 | .id1 | .id2 | .pcs2 | .an2 | .sqi | .win _ => (s, false)

/-! ### The native window (R384) -/

/-- The native address of a port. -/
def MdPort.addr (p : MdPort) : Nat := p.hi * 65536 + p.lo

/-- AUTOINC: the address advances by 4. -/
def MdPort.inc (p : MdPort) : MdPort :=
  if p.autoinc then
    let a := p.addr + 4
    { p with lo := a % 65536, hi := a / 65536 % 65536 }
  else p

/-- A native access through the window is refused. -/
def State.natRefused (s : State) (a : Nat) : Bool :=
  !s.db .MGMT_MDLOCK_NAT_EN || (!s.db .MGMT_MDLOCK_NAT_SVC && decide (a < 0xB0000))

/-- A native read that is in progress completes: a bus error loads all ones. Readings: log entry 20 (DEDUCED). -/
def State.natDone (s : State) (c : Ch) : State × Bool :=
  let p := s.mgmt.ports[c.val]
  if p.busy then
    let s := s.busRead .mdio p.reading
    let e := s.bus.err
    let v := if e then 0xFFFFFFFF else s.bus.value
    let s := s.updPort c fun p => { p with latch := v, busy := false }
    (if e then s.mdBusErr else s, e)
  else (s, false)

/-- RD: one native read, after one that may still be in progress. Readings: log entry 20 (DEDUCED). -/
def State.natRead (s : State) (c : Ch) : State × Bool :=
  let x := s.natDone c
  let a := (x.1.mgmt.ports[c.val]).addr
  if x.1.natRefused a then (x.1.mdBusErr.updPort c fun p => { p with latch := 0xFFFFFFFF }, true)
  else (x.1.updPort c fun p => { p with busy := true, reading := a }, x.2)

/-- A write of 31.0002: one native write of the staged high half and `v`. Readings: log entry 20 (DEDUCED). -/
def State.natWrite (s : State) (c : Ch) (v : Nat) : State × Bool :=
  let x := s.natDone c
  let p := x.1.mgmt.ports[c.val]
  let y :=
    if x.1.natRefused p.addr then (x.1.mdBusErr, true)
    else
      let s := x.1.busWrite .mdio p.addr (BitVec.ofNat 32 (p.stage * 65536 + v))
      if s.bus.err then (s.mdBusErr, true) else (s, x.2)
  (y.1.updPort c MdPort.inc, y.2)

/-- A write of a window register. -/
def State.winSet (s : State) (c : Ch) (k v : Nat) : State × Bool :=
  match k with
  | 0 => (s.updPort c fun p => { p with lo := v / 4 * 4 }, false)
  | 1 => (s.updPort c fun p => { p with hi := v }, false)
  | 2 => s.natWrite c v
  | 3 => (s.updPort c fun p => { p with stage := v }, false)
  | _ =>
    let s := s.updPort c fun p => { p with autoinc := v.testBit 8 }
    if v.testBit 1 then s.natRead c else (s, false)

/-- A read of a window register: the value, and whether it came while BUSY = 1. -/
def State.winGet (s : State) (c : Ch) (k : Nat) : Nat × State × Bool :=
  let p := s.mgmt.ports[c.val]
  match k with
  | 0 => (p.lo, s, false)
  | 1 => (p.hi, s, false)
  | 2 => if p.busy then (0xFFFF, s.ds .MGMT_MDSTAT_LATE 1, true) else (p.latch % 65536, s, false)
  | 3 =>
    let t := s.updPort c MdPort.inc
    if p.busy then (0xFFFF, t.ds .MGMT_MDSTAT_LATE 1, true) else (p.latch / 65536 % 65536, t, false)
  | _ => (b2n p.autoinc * 256 + b2n p.busy * 4, s, false)

/-- A write frame of port `c` and MMD `devad`: in Locked-out it is ignored (R374). Readings: log entry 20 (DEDUCED). -/
def State.mdWrFrame (s : State) (c : Ch) (devad : Nat) (g : State → State × Bool) : Host.Outcome State Fault Refusal :=
  if s.power.mode = .lockedOut then ok s else s.mdFrame c devad g

/-- MDIO_WRITE (R379, R382 to R384). -/
def execMdioWrite (prtad : Ch) (devad : Fin 32) (v : BitVec 16) (s : State) : Host.Outcome State Fault Refusal :=
  s.mdWrFrame prtad devad.val fun s =>
    let r := match mdReg prtad devad.val (s.mdAddr prtad devad.val) with
      | none => (s.ds .MGMT_MDSTAT_DEVAD_UNK 1, false)
      | some (.win k) => s.winSet prtad k.val v.toNat
      | some r => s.mdStd prtad r v.toNat
    (r.1.reply 0, r.2)

/-- What a read frame returns and changes (R380, R381, R382): the prefetched value, with an LL bit that it returns as 0 and a
WAKE_LINE that it returns as 1 refreshed; 0xFFFF where it comes too early. -/
def State.mdGet (s : State) (c : Ch) (devad : Nat) (late : Bool) : Nat × State × Bool :=
  match mdReg c devad (s.mdAddr c devad) with
  | none => (0, s.ds .MGMT_MDSTAT_DEVAD_UNK 1, false)
  | some (.win k) => s.winGet c k.val
  | some r =>
    if late then (0xFFFF, s.ds .MGMT_MDSTAT_LATE 1, true)
    else
      let v := (s.mgmt.ports[c.val]).pre.toList.getD devad 0
      if v = 0xFFFF then (v, s, false)
      else
        let s := if v.testBit 2 then s else s.llTake c r
        let s := if r = .slp && v.testBit 8 then s.updPort c fun p => { p with wakeLine := false } else s
        (v, s, false)

/-- MDIO_READ (R381). -/
def execMdioRead (prtad : Ch) (devad : Fin 32) (late : Bool) (s : State) : Host.Outcome State Fault Refusal :=
  s.mdFrame prtad devad.val fun s =>
    let r := s.mdGet prtad devad.val late
    (r.2.1.reply r.1, r.2.2)

/-- MDIO_READ_INC (R381): the value, and the next address is fixed, which no frame has named yet (R377). -/
def execMdioReadInc (prtad : Ch) (devad : Fin 32) (late : Bool) (s : State) : Host.Outcome State Fault Refusal :=
  s.mdFrame prtad devad.val fun s =>
    let r := s.mdGet prtad devad.val late
    let x := r.2.1.mdFix prtad devad.val ((s.mdAddr prtad devad.val + 1) % 65536) false
    (x.1.reply r.1, r.2.2 || x.2)

/-- MDIO_NATIVE_RD (R384): a write frame of 31.0004 with RD. -/
def execMdioNativeRd (prtad : Ch) (s : State) : Host.Outcome State Fault Refusal :=
  s.mdWrFrame prtad 31 fun s =>
    let r := s.natRead prtad
    (r.1.reply 0, r.2)

/-- MDIO_NATIVE_WRITE (R384): a write frame of 31.0002. -/
def execMdioNativeWrite (prtad : Ch) (v : BitVec 16) (s : State) : Host.Outcome State Fault Refusal :=
  s.mdWrFrame prtad 31 fun s =>
    let r := s.natWrite prtad v.toNat
    (r.1.reply 0, r.2)

/-- MDIO_NATIVE_READ_DONE (R384). -/
def execMdioNativeReadDone (prtad : Ch) (s : State) : Host.Outcome State Fault Refusal :=
  if s.servicesUp then
    let r := s.natDone prtad
    ok (if r.2 then r.1.dinc .MGMT_MDERR_COUNT else r.1)
  else ok s

/-! ### IEEE 1149.1 (R385 to R387) -/

/-- The IDCODE (R385). -/
def State.idCode (s : State) : Nat := s.dval .ID_REV_STEP % 16 * 2 ^ 28 + 0x6432 * 2 ^ 12 + 0x4A3 * 2 + 1

/-- BYPASS (R385). -/
def execBypass (s : State) : Host.Outcome State Fault Refusal := if s.tapLive then ok ((s.tapLoad 0xFF).reply 0) else ok s

/-- IDCODE (R385). -/
def execIdcode (s : State) : Host.Outcome State Fault Refusal :=
  if s.tapLive then ok ((s.tapLoad 1).reply s.idCode) else ok s

/-- SAMPLE/PRELOAD (R385, R386): in Service the pins are sampled and the cells loaded. `sampled` is what the outside gives. -/
def execSamplePreload (preload sampled : BitVec 34) (s : State) : Host.Outcome State Fault Refusal :=
  if !s.tapLive then ok s
  else
    let s := s.tapLoad 2
    if s.tapSel = 2 then
      let r := s.bndSample sampled
      ok { r.2.reply r.1.toNat with jtag := { r.2.jtag with bnd := preload, smp := r.1 } }
    else ok (s.reply 0)

/-- EXTEST (R385, R386): in Service the cells drive the pins (`State.pinDrive`). -/
def execExtest (boundary : BitVec 34) (s : State) : Host.Outcome State Fault Refusal :=
  if !s.tapLive then ok s
  else
    let s := (s.tapLoad 0).reply 0
    if s.tapSel = 0 then ok { s with jtag := { s.jtag with bnd := boundary } } else ok s

/-- CLAMP (R385). -/
def execClamp (s : State) : Host.Outcome State Fault Refusal := if s.tapLive then ok ((s.tapLoad 3).reply 0) else ok s

/-- HIGHZ (R385). -/
def execHighz (s : State) : Host.Outcome State Fault Refusal := if s.tapLive then ok ((s.tapLoad 4).reply 0) else ok s

/-- The session grants INSTR for a segment of the 1687 network (R365, R387): a masked channel's, and with every channel
masked also that of the device services, segment 32. Readings: log entry 21 (DEDUCED). -/
def State.sibRight (s : State) (i : Nat) : Bool :=
  if h : i < 32 then s.right 2 ⟨i, h⟩ else allCh.all fun c => s.right 2 c

/-- The segment-insertion bits that a write of `v` leaves (R387). Readings: log entry 21 (DEDUCED). -/
def State.sibSet (s : State) (v : Nat) : Nat :=
  (List.range 33).foldl (fun m i => if v.testBit i && s.sibRight i then m + 2 ^ i else m) 0

/-- INSTR_ACCESS (R387): the network's top level is scanned, and each bit takes effect where the session allows; with PD37 off
it acts as BYPASS, as it does in Locked-out (R374). Readings: log entry 21 (DEDUCED). -/
def execInstrAccess (sib : BitVec 33) (s : State) : Host.Outcome State Fault Refusal :=
  if !s.tapLive then ok s
  else
    let s := s.tapLoad 0x20
    if s.tapSel = 0x20 then
      let t := s.reply s.jtag.sib.toNat
      ok { t with jtag := { t.jtag with sib := BitVec.ofNat 33 (s.sibSet sib.toNat) } }
    else ok (s.reply 0)

/-- TRST (R385): while TRST_N is low it holds the TAP in Test-Logic-Reset, which selects IDCODE; nothing is scanned. -/
def execTrst (low : Bool) (s : State) : Host.Outcome State Fault Refusal :=
  ok { s with jtag := { s.jtag with trst := low, ir := if low then 1 else s.jtag.ir } }

end Sys2Proof.Machine
end

