-- ==== Sys2Proof/Machine/Rows.lean ====
section
/-! DEFINITION. The commands that are writes or reads of one register: each is an access of its source (R256, R261) with the
effect its register has. -/

namespace Sys2Proof.Machine

/-- A word of `HEART_LCCMD` with the given OP (R370). -/
def lcWord (op v : Nat) : Nat := v / 8 * 8 + op

/-! ### Clocks, power and resets -/

/-- CLOCK_ENABLE_WRITE (R281, R282). -/
def execClockEnableWrite (src : Src) (r : EnReg) (v : Word) (s : State) : Host.Outcome State Fault Refusal :=
  match r with
  | .svcen => s.devW src .clk 0x10 v.toNat
  | .chen c => s.devW src .clk (0x100 + 4 * c.val) v.toNat

/-- SOFTRST (R19, R304). `toSafe`: the device enters Safe in its cycle. -/
def execSoftrst (src : Src) (v : Word) (toSafe : Bool) (s : State) : Host.Outcome State Fault Refusal :=
  s.devDo src .pwr fun s => s.inCyc { CycSt.none with toSafe := toSafe } fun s => s.landD .pwr .plain 8 v.toNat (devAddr .pwr 8)

/-- REQ_DORMANT (R302). `wake`: an enabled wake source's condition holds in its cycle. -/
def execReqDormant (src : Src) (wake : Bool) (s : State) : Host.Outcome State Fault Refusal :=
  s.devDo src .pwr fun s => s.inCyc { CycSt.none with wake := wake } fun s => s.landD .pwr .plain 4 1 (devAddr .pwr 4)

/-- REQ_STANDBY (R301). -/
def execReqStandby (src : Src) (s : State) : Host.Outcome State Fault Refusal := s.devW src .pwr 4 2

/-- REQ_ACTIVE (R301). -/
def execReqActive (src : Src) (s : State) : Host.Outcome State Fault Refusal := s.devW src .pwr 4 4

/-- REQ_SERVICE (R18). -/
def execReqService (src : Src) (s : State) : Host.Outcome State Fault Refusal := s.devW src .pwr 4 5

/-- CHPWR_VOTE_WRITE (R297). -/
def execChpwrVoteWrite (src : Src) (c : Ch) (op : WrOp) (v : Word) (s : State) : Host.Outcome State Fault Refusal :=
  s.rowDo src c .chpwr 0 v.toNat fun s p => s.landC c .chpwr op 0 v.toNat p (chanAddr c .chpwr 0)

/-- CHANNEL_RESET (R304, R308). `unvote`: the program withdraws its vote in its cycle. -/
def execChannelReset (src : Src) (c : Ch) (unvote : Bool) (s : State) : Host.Outcome State Fault Refusal :=
  s.rowDo src c .chpwr 0xC 1 fun s p => s.inCyc { CycSt.none with unvote := unvote } fun s =>
    s.landC c .chpwr .plain 0xC 1 p (chanAddr c .chpwr 0xC)

/-! ### Heartwood and debug -/

/-- BOOT_DONE (R347). -/
def execBootDone (src : Src) (s : State) : Host.Outcome State Fault Refusal := s.devW src .heart 0 2

/-- SUBMIT (R351). -/
def execSubmit (src : Src) (s : State) : Host.Outcome State Fault Refusal := s.devW src .heart 0 1

/-- HEART_DATA_WRITE (R349). -/
def execHeartDataWrite (src : Src) (v : Word) (s : State) : Host.Outcome State Fault Refusal :=
  s.devW src .heart 0x24 v.toNat

/-- ATTEST (R360). -/
def execAttest (src : Src) (s : State) : Host.Outcome State Fault Refusal := s.devW src .heart 0 3

/-- HEART_ABORT (R349). -/
def execHeartAbort (src : Src) (s : State) : Host.Outcome State Fault Refusal := s.devW src .heart 0 4

/-- KEY_PROG (R353). -/
def execKeyProg (src : Src) (v : Word) (s : State) : Host.Outcome State Fault Refusal :=
  s.devW src .heart 0x1C (lcWord 1 v.toNat)

/-- DEPLOY (R356). -/
def execDeploy (src : Src) (v : Word) (s : State) : Host.Outcome State Fault Refusal :=
  s.devW src .heart 0x1C (lcWord 2 v.toNat)

/-- RETURN (R357). -/
def execLcReturn (src : Src) (v : Word) (s : State) : Host.Outcome State Fault Refusal :=
  s.devW src .heart 0x1C (lcWord 3 v.toNat)

/-- SCRAP (R357). -/
def execScrap (src : Src) (v : Word) (s : State) : Host.Outcome State Fault Refusal :=
  s.devW src .heart 0x1C (lcWord 4 v.toNat)

/-- RB_SET (R354). -/
def execRbSet (src : Src) (v : Word) (s : State) : Host.Outcome State Fault Refusal :=
  s.devW src .heart 0x1C (lcWord 5 v.toNat)

/-- DBG_NONCE (R362). The number is what Heartwood's random source gives. -/
def execDbgNonce (src : Src) (n : BitVec 128) (s : State) : Host.Outcome State Fault Refusal :=
  s.devDo src .debug fun s => s.dbgCmd 1 n.toNat

/-- DBG_OPEN (R364). -/
def execDbgOpen (src : Src) (s : State) : Host.Outcome State Fault Refusal := s.devDo src .debug fun s => s.dbgCmd 2 0

/-- DBG_CLOSE (R366). -/
def execDbgClose (src : Src) (s : State) : Host.Outcome State Fault Refusal :=
  s.devDo src .debug fun s => s.dbgCmd 3 0

/-! ### The sequencer -/

/-- SEQ_CMD_RUN (R160). -/
def execSeqCmdRun (src : Src) (c : Ch) (s : State) : Host.Outcome State Fault Refusal := s.rowW src c .seq 0 1

/-- SEQ_CMD_HALT (R160, R190, R199). `issue`: the instruction at PC issues in its cycle; `wdog`: the watchdog expires in it. -/
def execSeqCmdHalt (src : Src) (c : Ch) (issue wdog : Bool) (s : State) : Host.Outcome State Fault Refusal :=
  s.rowDo src c .seq 0 2 fun s _ => s.seqHaltNow c issue wdog

/-- SEQ_CMD_RESUME (R160). -/
def execSeqCmdResume (src : Src) (c : Ch) (s : State) : Host.Outcome State Fault Refusal := s.rowW src c .seq 0 3

/-- SEQ_CMD_STEP (R160). -/
def execSeqCmdStep (src : Src) (c : Ch) (s : State) : Host.Outcome State Fault Refusal := s.rowW src c .seq 0 4

/-- SEQ_TRAPACK (R175). -/
def execSeqTrapack (src : Src) (c : Ch) (v : Word) (s : State) : Host.Outcome State Fault Refusal :=
  s.rowW src c .seq 0x18 v.toNat

/-- SEQ_WDKICK (R176). -/
def execSeqWdkick (src : Src) (c : Ch) (v : Word) (s : State) : Host.Outcome State Fault Refusal :=
  s.rowW src c .seq 0x20 v.toNat

/-- SEQ_WDOG_WRITE (R176). -/
def execSeqWdogWrite (src : Src) (c : Ch) (v : Word) (s : State) : Host.Outcome State Fault Refusal :=
  s.rowW src c .seq 0x1C v.toNat

/-- SEQ_MBOX_IN_WRITE (R171). -/
def execSeqMboxInWrite (src : Src) (c : Ch) (v : Word) (s : State) : Host.Outcome State Fault Refusal :=
  s.rowW src c .seq 0x38 v.toNat

/-! ### Integrity -/

/-- INTEG_COMMIT (R263). -/
def execIntegCommit (src : Src) (v : Word) (s : State) : Host.Outcome State Fault Refusal :=
  s.devW src .integ 0x1C v.toNat

/-- KEYGATE_WRITE (R264, R265). -/
def execKeygateWrite (src : Src) (v : Word) (s : State) : Host.Outcome State Fault Refusal :=
  s.devW src .tap 0xFF0 v.toNat

/-! ### AFE, PCS and DSP -/

/-- AFE_CTL_WRITE (R53). `leave`: the channel leaves MAINT in its cycle, here and in the next two. -/
def execAfeCtlWrite (src : Src) (c : Ch) (v : Word) (leave : Bool) (s : State) : Host.Outcome State Fault Refusal :=
  s.rowDo src c .afe 0 v.toNat fun s p => s.inCyc { CycSt.none with leave := leave } fun s =>
    s.landC c .afe .plain 0 v.toNat p (chanAddr c .afe 0)

/-- PCS_CTL_WRITE (R53). -/
def execPcsCtlWrite (src : Src) (c : Ch) (v : Word) (leave : Bool) (s : State) : Host.Outcome State Fault Refusal :=
  s.rowDo src c .pcs 0 v.toNat fun s p => s.inCyc { CycSt.none with leave := leave } fun s =>
    s.landC c .pcs .plain 0 v.toNat p (chanAddr c .pcs 0)

/-- PCS_TESTMODE_WRITE (R53, R55). -/
def execPcsTestmodeWrite (src : Src) (c : Ch) (v : Word) (leave : Bool) (s : State) : Host.Outcome State Fault Refusal :=
  s.rowDo src c .pcs 0x20 v.toNat fun s p => s.inCyc { CycSt.none with leave := leave } fun s =>
    s.landC c .pcs .plain 0x20 v.toNat p (chanAddr c .pcs 0x20)

/-- DSP_WIN_WRITE (R61). -/
def execDspWinWrite (src : Src) (c : Ch) (w : Fin 8) (v : Word) (s : State) : Host.Outcome State Fault Refusal :=
  s.rowW src c .dsp (0x60 + 4 * w.val) v.toNat

/-- CAPT (R73). -/
def execCapt (src : Src) (c : Ch) (s : State) : Host.Outcome State Fault Refusal := s.rowW src c .dsp 0x40 1

/-- SNAP (R71). -/
def execSnap (src : Src) (c : Ch) (s : State) : Host.Outcome State Fault Refusal := s.rowW src c .dsp 0x40 2

/-- CLR (R82). -/
def execClr (src : Src) (c : Ch) (s : State) : Host.Outcome State Fault Refusal := s.rowW src c .dsp 0x40 4

/-- REBASE (R77). -/
def execRebase (src : Src) (c : Ch) (s : State) : Host.Outcome State Fault Refusal := s.rowW src c .dsp 0x40 8

/-- PROBE_RST (R60). -/
def execProbeRst (src : Src) (c : Ch) (s : State) : Host.Outcome State Fault Refusal := s.rowW src c .dsp 0x40 16

/-- DSP_TAPDATA_WRITE (R75). -/
def execDspTapdataWrite (src : Src) (c : Ch) (v : Word) (s : State) : Host.Outcome State Fault Refusal :=
  s.rowW src c .dsp 0x48 v.toNat

/-- DSP_TAPDATA_READ (R75). -/
def execDspTapdataRead (src : Src) (c : Ch) (s : State) : Host.Outcome State Fault Refusal :=
  ok (s.anyRead src (chanAddr c .dsp 0x48))

/-- STBY_TYPE_WRITE (R77). -/
def execStbyTypeWrite (src : Src) (c : Ch) (v : Word) (s : State) : Host.Outcome State Fault Refusal :=
  s.rowW src c .dsp 0x4C v.toNat

/-- DIVERGED_CLEAR (R68). -/
def execDivergedClear (src : Src) (c : Ch) (s : State) : Host.Outcome State Fault Refusal := s.rowW src c .dsp 0x34 1

/-! ### Link control -/

/-- START (R84). -/
def execStart (src : Src) (c : Ch) (s : State) : Host.Outcome State Fault Refusal := s.rowW src c .link 0x14 1

/-- STOP (R84). -/
def execStop (src : Src) (c : Ch) (s : State) : Host.Outcome State Fault Refusal := s.rowW src c .link 0x14 2

/-- RESTART (R84). -/
def execRestart (src : Src) (c : Ch) (s : State) : Host.Outcome State Fault Refusal := s.rowW src c .link 0x14 4

/-- SHIFT (R97). -/
def execShift (src : Src) (c : Ch) (s : State) : Host.Outcome State Fault Refusal := s.rowW src c .link 0x14 8

/-- SHIFT_CANCEL (R102). -/
def execShiftCancel (src : Src) (c : Ch) (s : State) : Host.Outcome State Fault Refusal := s.rowW src c .link 0x14 16

/-- CHCTL_CTL_WRITE (R107). -/
def execChctlCtlWrite (src : Src) (c : Ch) (v : Word) (s : State) : Host.Outcome State Fault Refusal :=
  s.rowW src c .chctl 0 v.toNat

/-- QREL (R338). -/
def execQrel (src : Src) (c : Ch) (s : State) : Host.Outcome State Fault Refusal := s.rowW src c .chctl 0xC 1

/-- SEG_START (R113). -/
def execSegStart (src : Src) (c : Ch) (s : State) : Host.Outcome State Fault Refusal := s.rowW src c .seg 0xC 1

/-- SEG_STOP (R113). -/
def execSegStop (src : Src) (c : Ch) (s : State) : Host.Outcome State Fault Refusal := s.rowW src c .seg 0xC 2

/-- SEG_CTL_WRITE (R109). -/
def execSegCtlWrite (src : Src) (c : Ch) (v : Word) (s : State) : Host.Outcome State Fault Refusal :=
  s.rowW src c .seg 0 v.toNat

/-! ### Diagnostics, low power and sleep -/

/-- TDR (R130). -/
def execTdr (src : Src) (c : Ch) (s : State) : Host.Outcome State Fault Refusal := s.rowW src c .diag 0x14 1

/-- ISR (R131). -/
def execIsr (src : Src) (c : Ch) (s : State) : Host.Outcome State Fault Refusal := s.rowW src c .diag 0x14 2

/-- DIAG_ABORT (R129). -/
def execDiagAbort (src : Src) (c : Ch) (s : State) : Host.Outcome State Fault Refusal := s.rowW src c .diag 0x14 4

/-- TREND_CLR (R136). -/
def execTrendClr (src : Src) (c : Ch) (s : State) : Host.Outcome State Fault Refusal := s.rowW src c .diag 0x14 8

/-- SQI_RST (R127). -/
def execSqiRst (src : Src) (c : Ch) (s : State) : Host.Outcome State Fault Refusal := s.rowW src c .diag 0x14 16

/-- DIAG_CTL_WRITE (R136). -/
def execDiagCtlWrite (src : Src) (c : Ch) (v : Word) (s : State) : Host.Outcome State Fault Refusal :=
  s.rowW src c .diag 0 v.toNat

/-- TX_REQ (R144). -/
def execTxReq (src : Src) (c : Ch) (v : Word) (s : State) : Host.Outcome State Fault Refusal :=
  s.rowW src c .lpi 0 v.toNat

/-- SLEEP (R150). -/
def execSleep (src : Src) (c : Ch) (s : State) : Host.Outcome State Fault Refusal := s.rowW src c .lpi 4 1

/-- WAKE (R152). -/
def execWake (src : Src) (c : Ch) (s : State) : Host.Outcome State Fault Refusal := s.rowW src c .lpi 4 2

/-- PAD_RELEASE (R154). `latch`: the latch closes in its cycle, and wins. -/
def execPadRelease (src : Src) (c : Ch) (latch : Bool) (s : State) : Host.Outcome State Fault Refusal :=
  s.rowDo src c .lpi 4 4 fun s _ => if latch then s.lpiRej c else s.lpiCmd c 4

/-! ### The frame path -/

/-- CTX_INSERT (R207). -/
def execCtxInsert (src : Src) (c : Ch) (s : State) : Host.Outcome State Fault Refusal :=
  s.rowDo src c .frame 0x10 1 fun s _ => s.ctxCmd c 1 0 0

/-- CTX_UPDATE (R207, R213). -/
def execCtxUpdate (src : Src) (c : Ch) (index : Nat) (wmask : BitVec 5) (s : State) : Host.Outcome State Fault Refusal :=
  s.rowDo src c .frame 0x10 2 fun s _ => s.ctxCmd c 2 (index % 4096) wmask.toNat

/-- CTX_DELETE (R207). -/
def execCtxDelete (src : Src) (c : Ch) (index : Nat) (s : State) : Host.Outcome State Fault Refusal :=
  s.rowDo src c .frame 0x10 3 fun s _ => s.ctxCmd c 3 (index % 4096) 0

/-- CTX_LOOKUP (R207). -/
def execCtxLookup (src : Src) (c : Ch) (s : State) : Host.Outcome State Fault Refusal :=
  s.rowDo src c .frame 0x10 4 fun s _ => s.ctxCmd c 4 0 0

/-- CTX_READ (R207). -/
def execCtxRead (src : Src) (c : Ch) (index : Nat) (s : State) : Host.Outcome State Fault Refusal :=
  s.rowDo src c .frame 0x10 5 fun s _ => s.ctxCmd c 5 (index % 4096) 0

/-- FRAME_CTL_WRITE (R207). -/
def execFrameCtlWrite (src : Src) (c : Ch) (v : Word) (s : State) : Host.Outcome State Fault Refusal :=
  s.rowW src c .frame 0 v.toNat

/-- MS_INSTALL (R218). -/
def execMsInstall (src : Src) (c : Ch) (s : State) : Host.Outcome State Fault Refusal := s.rowW src c .frame 0x70 1

/-- MS_RETIRE (R218). -/
def execMsRetire (src : Src) (c : Ch) (s : State) : Host.Outcome State Fault Refusal := s.rowW src c .frame 0x70 2

/-- MS_SWITCH (R218). -/
def execMsSwitch (src : Src) (c : Ch) (s : State) : Host.Outcome State Fault Refusal := s.rowW src c .frame 0x70 3

/-- MS_WRITE_SC (R218). -/
def execMsWriteSc (src : Src) (c : Ch) (s : State) : Host.Outcome State Fault Refusal := s.rowW src c .frame 0x70 4

/-- TS_SET (R221). -/
def execTsSet (src : Src) (c : Ch) (s : State) : Host.Outcome State Fault Refusal := s.rowW src c .frame 0x118 1

/-- TS_ADJ (R221). -/
def execTsAdj (src : Src) (c : Ch) (s : State) : Host.Outcome State Fault Refusal := s.rowW src c .frame 0x118 2

/-- ACCT_SNAP (R226). -/
def execAcctSnap (src : Src) (c : Ch) (s : State) : Host.Outcome State Fault Refusal := s.rowW src c .frame 0x180 1

/-! ### The host port and the queues -/

/-- HPRESET (R248). -/
def execHpreset (src : Src) (s : State) : Host.Outcome State Fault Refusal := s.devW src .host 0xC 1

/-- HOST_RETRAIN (R253). -/
def execHostRetrain (src : Src) (s : State) : Host.Outcome State Fault Refusal := s.devW src .host 0xC 2

/-- QUEUE_FLUSH (R246). -/
def execQueueFlush (src : Src) (c : Ch) (v : Word) (s : State) : Host.Outcome State Fault Refusal :=
  s.rowW src c .queue 0x10 v.toNat

/-- Q_EGCLS_WRITE (R241). -/
def execQEgclsWrite (src : Src) (c : Ch) (cls : Fin 8) (v : Word) (s : State) : Host.Outcome State Fault Refusal :=
  s.rowW src c .queue (0x40 + 4 * cls.val) v.toNat

/-! ### Calibration and spares -/

/-- CAL_RREF (R313). -/
def execCalRref (src : Src) (m : CalMeas) (s : State) : Host.Outcome State Fault Refusal :=
  s.devDo src .cal fun s => s.calCmd 1 false false m

/-- CAL_VREF (R313). -/
def execCalVref (src : Src) (m : CalMeas) (s : State) : Host.Outcome State Fault Refusal :=
  s.devDo src .cal fun s => s.calCmd 2 false false m

/-- IMG_SAVE (R311). -/
def execImgSave (src : Src) (s : State) : Host.Outcome State Fault Refusal := s.devW src .cal 0 4

/-- IMG_LOAD (R312). -/
def execImgLoad (src : Src) (s : State) : Host.Outcome State Fault Refusal := s.devW src .cal 0 5

/-- CAL_COMMIT (R310). -/
def execCalCommit (src : Src) (dev : Bool) (s : State) : Host.Outcome State Fault Refusal :=
  s.devW src .cal 0 (6 + 256 * b2n dev)

/-- CAL_ABORT (R315). `supply`: a supply warning falls in its cycle. -/
def execCalAbort (src : Src) (supply : Bool) (s : State) : Host.Outcome State Fault Refusal :=
  s.devDo src .cal fun s => s.inCyc { CycSt.none with supply := supply } fun s => s.landD .cal .plain 0 0x10 (devAddr .cal 0)

/-- CALG_HYB (R313). -/
def execCalgHyb (src : Src) (c : Ch) (m : CalMeas) (s : State) : Host.Outcome State Fault Refusal :=
  s.rowDo src c .calg 0 1 fun s p => s.calgCmd c 1 false p m

/-- CALG_AMP (R313). -/
def execCalgAmp (src : Src) (c : Ch) (m : CalMeas) (s : State) : Host.Outcome State Fault Refusal :=
  s.rowDo src c .calg 0 2 fun s p => s.calgCmd c 2 false p m

/-- CALG_RXG (R313). -/
def execCalgRxg (src : Src) (c : Ch) (m : CalMeas) (s : State) : Host.Outcome State Fault Refusal :=
  s.rowDo src c .calg 0 3 fun s p => s.calgCmd c 3 false p m

/-- CALG_BIST (R324). -/
def execCalgBist (src : Src) (c : Ch) (s : State) : Host.Outcome State Fault Refusal := s.rowW src c .calg 0 8

/-- CALG_ABORT (R315). `supply`: a supply warning falls in its cycle. -/
def execCalgAbort (src : Src) (c : Ch) (supply : Bool) (s : State) : Host.Outcome State Fault Refusal :=
  s.rowDo src c .calg 0 0x10 fun s p => s.inCyc { CycSt.none with supply := supply } fun s =>
    s.landC c .calg .plain 0 0x10 p (chanAddr c .calg 0)

/-- APPROVE (R319). -/
def execApprove (src : Src) (c : Ch) (s : State) : Host.Outcome State Fault Refusal := s.rowW src c .calg 0x44 1

/-- DENY (R319). -/
def execDeny (src : Src) (c : Ch) (s : State) : Host.Outcome State Fault Refusal := s.rowW src c .calg 0x44 2

/-- SWAP (R319). Of the word only the pool and the element are read. -/
def execSwap (src : Src) (c : Ch) (v : Word) (s : State) : Host.Outcome State Fault Refusal :=
  s.rowW src c .calg 0x44 (v.toNat / 8 * 8 + 4)

/-! ### Fault collection -/

/-- FLT_ACK (R336). -/
def execFltAck (src : Src) (c : Ch) (v : Word) (s : State) : Host.Outcome State Fault Refusal :=
  s.rowW src c .fault 0x14 v.toNat

/-- FC_ACK (R336). -/
def execFcAck (src : Src) (v : Word) (s : State) : Host.Outcome State Fault Refusal := s.devW src .canopy 0x14 v.toNat

/-- SAFE_EXIT (R339). The bit is written 1. -/
def execSafeExit (src : Src) (v : Word) (s : State) : Host.Outcome State Fault Refusal :=
  s.devW src .canopy 0x28 (v.toNat ||| 1)

/-- SMBIST (R343). The bit is written 1. -/
def execSmbist (src : Src) (v : Word) (s : State) : Host.Outcome State Fault Refusal :=
  s.devW src .canopy 0x28 (v.toNat ||| 2)

/-- FC_CLASS_WRITE (R329). -/
def execFcClassWrite (src : Src) (w : Fin 8) (v : Word) (s : State) : Host.Outcome State Fault Refusal :=
  s.devW src .canopy (0x60 + 4 * w.val) v.toNat

end Sys2Proof.Machine
end

