-- ==== Sys2Proof/Machine/Sweep.lean ====
section
/-! DEFINITION. The commands that shadows, KEYGATE and the continuous sweep give (R262, R264, R270 to R272), and the end of a
channel reset (R304). -/

namespace Sys2Proof.Machine

/-! ### Shadows and the gate -/

/-- SHADOW_APPLY (R262). Readings: log entry 14 (DEDUCED). -/
def execShadowApply (c : Ch) (s : State) : Host.Outcome State Fault Refusal :=
  if s.shBoundary c then ok (s.shApply c) else ok s

/-- KEYGATE_TIMEOUT (R264). -/
def execKeygateTimeout (s : State) : Host.Outcome State Fault Refusal := ok (s.ds .KEYGATE_OPEN 0)

/-! ### The sweep (R270) -/

/-- The register offsets of a channel block that hold a configuration field, ascending (R270). -/
def cfgOffs (c : Ch) (b : CBlk) : List Nat := b.offs.filter fun o => (CFld.at b o).any fun f => f.info.crc && implFld c f

@[inherit_doc cfgOffs]
def cfgOffsD (b : DBlk) : List Nat := b.offs.filter fun o => (DFld.at b o).any fun f => f.info.crc

/-- The bytes a block's CRC covers (R270): `BLK_ID`, then each register with its configuration fields alone. -/
def State.cfgBytes (s : State) : Blk → List Byte
  | .ch c b => leBytes (s.cval c (.tr b .ID)) ++ (cfgOffs c b).flatMap fun o => leBytes (s.cfgWord c b o)
  | .dev b => leBytes (s.dval (.tr b .ID)) ++ (cfgOffsD b).flatMap fun o => leBytes (s.cfgWordD b o)

/-- `BLK_CFGCRC` of a block as a sweep over its present configuration computes it. -/
def State.cfgCrc (s : State) (b : Blk) : Nat := crc32c (s.cfgBytes b)

/-- The register blocks in the order of the fingerprint (R272). -/
def allBlks : List Blk := DBlk.all.map .dev ++ allCh.flatMap fun c => CBlk.all.map (.ch c)

/-- A block is clocked, powered and built (R270, R272). Readings: log entry 16 (DEDUCED). -/
def State.blkLive (s : State) : Blk → Bool
  | .ch c b => s.chanOk c b && (b ≠ .seg || isSeg c)
  | .dev b => s.devOk b

/-- A trailer field of a block. -/
def State.trGet (s : State) (b : Blk) (t : TrF) : Nat :=
  match b with
  | .ch c b => s.cg c (.tr b t)
  | .dev b => s.dg (.tr b t)

/-- Sets a trailer field of a block. -/
def State.trSet (s : State) (b : Blk) (t : TrF) (v : Nat) : State :=
  match b with
  | .ch c b => s.cs c (.tr b t) v
  | .dev b => s.ds (.tr b t) v

/-- The base address of a block (R399, R400). -/
def blkBase : Blk → Nat
  | .ch c b => chanAddr c b 0
  | .dev b => devAddr b 0

/-- The integrity source of a block (R271, R327, R328). -/
def mmSrc : Blk → SrcId
  | .ch c _ => .ch c 6
  | .dev _ => .dev 7

/-- The comparison at the end of a block's sweep (R271): a new mismatch sets INTEG_EVT.CRC_MM and, with MM_REACT, the live
level of the block's integrity source. -/
def State.compare (s : State) (b : Blk) : State :=
  if s.trGet b .CFGCRC = s.trGet b .CFGREF then s.trSet b .CRC_MM 0
  else
    let was := s.trGet b .CRC_MM
    let s := (s.trSet b .CRC_MM 1).trSet b .CRC_MM_SEEN 1
    if was ≠ 0 then s
    else
      let s := s.ds .INTEG_EVT_CRC_MM 1
      if s.db .INTEG_CTL_MM_REACT then s.setLive (mmSrc b) true else s

/-- One bit of the unreflected CRC-64 (R272). -/
def crc64Bit (c : BitVec 64) : BitVec 64 := if c.getLsbD 63 then (c <<< 1) ^^^ 0x42F0E1EBA9EA3693#64 else c <<< 1

/-- One byte of the CRC-64/ECMA-182 (R272), most significant bit first. -/
def crc64Byte (c : BitVec 64) (b : Byte) : BitVec 64 :=
  crc64Bit (crc64Bit (crc64Bit (crc64Bit (crc64Bit (crc64Bit (crc64Bit (crc64Bit (c ^^^ (b.setWidth 64 <<< 56)))))))))

/-- CFG_FPRINT (R272): the CRC-64 over the 459 words. -/
def State.fold (s : State) : Nat :=
  ((allBlks.flatMap fun b => leBytes (if s.blkLive b then s.trGet b .CFGCRC else 0)).foldl crc64Byte 0#64).toNat

/-- The first part of a completion instant (R270): the blocks that went through the whole sweep write their CRC.
Readings: log entry 16 (DEDUCED). -/
def State.sweepCrc (s : State) : State :=
  allBlks.foldl (fun s b => if s.blkLive b && s.integ.joined.contains b then s.trSet b .CFGCRC (s.cfgCrc b) else s) s

/-- The armed blocks whose sweep began after the arming, channel blocks first, as their sources are numbered.
Readings: log entry 16 (DEDUCED). -/
def State.compared (s : State) : List Blk :=
  (allCh.flatMap (fun c => CBlk.all.map (Blk.ch c)) ++ DBlk.all.map Blk.dev).filter fun b =>
    s.integ.ready.contains b && s.integ.joined.contains b && s.trGet b .REF_ARMED ≠ 0 && s.blkLive b

/-- The second part (R271): those blocks are compared, and with MM_REACT each new mismatch asserts its block's source, by
class and then by number (R334). -/
def State.sweepCompare (s : State) : State :=
  let l := s.compared
  let t := l.foldl (fun t b => t.compare b) s
  let hits := if s.db .INTEG_CTL_MM_REACT then l.filter fun b => s.trGet b .CRC_MM = 0 && t.trGet b .CRC_MM ≠ 0 else []
  (byClass (fun b => s.classOfSrc (mmSrc b)) hits).foldl (fun t b => t.assertSrc (mmSrc b) 0 (blkBase b)) t

/-- The third part (R272): the fingerprint, its count, and the note of a change. Readings: log entry 16 (DEDUCED). -/
def State.sweepFold (s : State) : State :=
  let fp := s.fold
  let s := s.dinc .INTEG_FPSEQ_SEQ
  let s := if fp = s.integ.fprint then s else s.ds .INTEG_EVT_FP_CHG 1
  { s with integ := { s.integ with fprint := fp } }

/-- The last part (R270, R271): the next sweep begins with the blocks that are clocked and powered, and with the comparisons
that are armed. The level of each integrity source follows the mismatches. Readings: log entry 16 (DEDUCED). -/
def State.sweepNext (s : State) : State :=
  let s := { s with integ := { s.integ with
    joined := allBlks.filter s.blkLive, ready := allBlks.filter fun b => s.trGet b .REF_ARMED ≠ 0 } }
  (s.forCh fun s c => s.mmLevel c).mmLevelSvc

/-- SWEEP_COMPLETE (R270 to R272). INTEG computes the fingerprint while its own clock runs. -/
def execSweepComplete (s : State) : Host.Outcome State Fault Refusal :=
  if !s.servicesUp then ok s
  else
    let s := s.sweepCrc.sweepCompare
    ok (if s.svcEn 1 then s.sweepFold.sweepNext else s.sweepNext)

/-! ### The end of a channel reset (R304, R305, R324) -/

/-- What the channel reset clears (R305): class F, and class E unless RETAIN is set; both and RETAIN itself where it ends
BIST, whose outcome stays readable (R324; DEDUCED, log entry 42). No snapshot is valid afterwards, whatever RETAIN holds (R71). -/
def State.resetClasses (s : State) (c : Ch) : State :=
  let bist := (s.ch c).graft.bistReset
  let keep := s.cb c .CHCTL_RETAIN_EN && !bist
  let t := s.loseF c
  let t := if keep then t else (t.loseE c (!bist)).blkOff (inDomain c)
  let t := if bist then
      [CFld.CALG_BIST_PASS, .CALG_BIST_UNREP, .CALG_BIST_REPAIRED, .CALG_BIST_FAILMEM, .GRAFT_EVT_BIST_DONE].foldl
        (fun t f => t.cs c f (s.cg c f)) t
    else t
  (t.updGraft c fun g => { g with bistReset := false }).updDsp c fun d => { d with snap := none }

/-- CHANNEL_RESET_DONE (R304 steps 1 and 2, R402): every posted write has landed, the reset has cleared what R305 says,
class-D values are restored and the clock enables set, and RST_DONE is set. Votes take effect again, and pairs answered
meanwhile get the tokens that the cells now give (R241). A domain whose last vote has gone since powers off instead.
Choices: log entry 17 (DEDUCED), log entry 42 (DEDUCED). -/
def execChannelResetDone (c : Ch) (s : State) : Host.Outcome State Fault Refusal :=
  if (s.ch c).closing && !(s.ch c).offDue && (s.ch c).pst = .on && s.domOk c then
    let s := s.landAll c
    if !(s.ch c).closing then ok s else
    let s := (s.resetClasses c).restoreD c
    let s := (List.finRange 12).foldl (fun s k => if k = 9 then s else s.setLive (.ch c k) false) s
    let s := (s.setAllEn c).mmLevel c
    let s := s.updCh c fun x => { x with closing := false }
    ok (((s.cs c .CHPWR_EVT_RST_DONE 1).issue c).evalVote c)
  else ok s

end Sys2Proof.Machine
end

