-- ==== Sys2Proof/Machine/Dispatch.lean ====
section
/-! DEFINITION. The one dispatch from a command to its meaning. -/

namespace Sys2Proof.Machine

/-- The effect of a command on everything but the queue. -/
def exec (i : Instr) (s : State) : Host.Outcome State Fault Refusal :=
  match i with
  | .vsupPowerOn xsd => Sys2Proof.Machine.execVsupPowerOn xsd s
  | .vsupBrownOut mv => Sys2Proof.Machine.execVsupBrownOut mv s
  | .rcReady => Sys2Proof.Machine.execRcReady s
  | .xsdDelayExpire => Sys2Proof.Machine.execXsdDelayExpire s
  | .refQualify r => Sys2Proof.Machine.execRefQualify r s
  | .refLost => Sys2Proof.Machine.execRefLost s
  | .svcClockRestart => Sys2Proof.Machine.execSvcClockRestart s
  | .pllLock p => Sys2Proof.Machine.execPllLock p s
  | .pllLockLoss p => Sys2Proof.Machine.execPllLockLoss p s
  | .pllUnlockTimeout p => Sys2Proof.Machine.execPllUnlockTimeout p s
  | .clockEnableWrite src r v => Sys2Proof.Machine.execClockEnableWrite src r v s
  | .gateClose g => Sys2Proof.Machine.execGateClose g s
  | .dormantWake => Sys2Proof.Machine.execDormantWake s
  | .dormantExitToBoot => Sys2Proof.Machine.execDormantExitToBoot s
  | .railupTimeout railsOk => Sys2Proof.Machine.execRailupTimeout railsOk s
  | .wakePinQualify => Sys2Proof.Machine.execWakePinQualify s
  | .mdioAddressWake prtad => Sys2Proof.Machine.execMdioAddressWake prtad s
  | .lineWakeQualify c => Sys2Proof.Machine.execLineWakeQualify c s
  | .resetNAssert toSafe => Sys2Proof.Machine.execResetNAssert toSafe s
  | .resetNRelease => Sys2Proof.Machine.execResetNRelease s
  | .softrst src v toSafe => Sys2Proof.Machine.execSoftrst src v toSafe s
  | .heartWatchdogExpire toSafe => Sys2Proof.Machine.execHeartWatchdogExpire toSafe s
  | .supplyWarnStart rail mv => Sys2Proof.Machine.execSupplyWarnStart rail mv s
  | .supplyWarnEnd rail minMv => Sys2Proof.Machine.execSupplyWarnEnd rail minMv s
  | .dipholdExpire => Sys2Proof.Machine.execDipholdExpire s
  | .supplyReset rail minMv toSafe => Sys2Proof.Machine.execSupplyReset rail minMv toSafe s
  | .supplyResetRelease => Sys2Proof.Machine.execSupplyResetRelease s
  | .tempMeasure quarterDeg => Sys2Proof.Machine.execTempMeasure quarterDeg s
  | .xthotExpire => Sys2Proof.Machine.execXthotExpire s
  | .opRaiseStart => Sys2Proof.Machine.execOpRaiseStart s
  | .opHoldExpire => Sys2Proof.Machine.execOpHoldExpire s
  | .pgoodRise => Sys2Proof.Machine.execPgoodRise s
  | .vsettleExpire => Sys2Proof.Machine.execVsettleExpire s
  | .reqDormant src wake => Sys2Proof.Machine.execReqDormant src wake s
  | .dormantEntryDone => Sys2Proof.Machine.execDormantEntryDone s
  | .reqStandby src => Sys2Proof.Machine.execReqStandby src s
  | .standbyPrepDone => Sys2Proof.Machine.execStandbyPrepDone s
  | .reqActive src => Sys2Proof.Machine.execReqActive src s
  | .reqService src => Sys2Proof.Machine.execReqService src s
  | .serviceEnter => Sys2Proof.Machine.execServiceEnter s
  | .hostL2Request => Sys2Proof.Machine.execHostL2Request s
  | .standbyExit => Sys2Proof.Machine.execStandbyExit s
  | .chpwrVoteWrite src c op v => Sys2Proof.Machine.execChpwrVoteWrite src c op v s
  | .drainEnd c => Sys2Proof.Machine.execDrainEnd c s
  | .drainTimeout c => Sys2Proof.Machine.execDrainTimeout c s
  | .domainPowerUpDone c => Sys2Proof.Machine.execDomainPowerUpDone c s
  | .pdonTimeout c => Sys2Proof.Machine.execPdonTimeout c s
  | .channelReset src c unvote => Sys2Proof.Machine.execChannelReset src c unvote s
  | .channelResetDone c => Sys2Proof.Machine.execChannelResetDone c s
  | .bootOtpLoadDone romOk ftOk bad => Sys2Proof.Machine.execBootOtpLoadDone romOk ftOk bad s
  | .bootDone src => Sys2Proof.Machine.execBootDone src s
  | .bootWaitExpire => Sys2Proof.Machine.execBootWaitExpire s
  | .bootEnd => Sys2Proof.Machine.execBootEnd s
  | .submit src => Sys2Proof.Machine.execSubmit src s
  | .heartDataWrite src v => Sys2Proof.Machine.execHeartDataWrite src v s
  | .imageVerdict => Sys2Proof.Machine.execImageVerdict s
  | .loadComplete c => Sys2Proof.Machine.execLoadComplete c s
  | .attest src => Sys2Proof.Machine.execAttest src s
  | .attestDone => Sys2Proof.Machine.execAttestDone s
  | .heartAbort src => Sys2Proof.Machine.execHeartAbort src s
  | .keyProg src v => Sys2Proof.Machine.execKeyProg src v s
  | .deploy src v => Sys2Proof.Machine.execDeploy src v s
  | .lcReturn src v => Sys2Proof.Machine.execLcReturn src v s
  | .scrap src v => Sys2Proof.Machine.execScrap src v s
  | .rbSet src v => Sys2Proof.Machine.execRbSet src v s
  | .lcProgDone bad => Sys2Proof.Machine.execLcProgDone bad s
  | .dbgNonce src n => Sys2Proof.Machine.execDbgNonce src n s
  | .nonceExpire => Sys2Proof.Machine.execNonceExpire s
  | .dbgOpen src => Sys2Proof.Machine.execDbgOpen src s
  | .tokenCheckDone => Sys2Proof.Machine.execTokenCheckDone s
  | .dbgClose src => Sys2Proof.Machine.execDbgClose src s
  | .sessionExpire => Sys2Proof.Machine.execSessionExpire s
  | .seqStart c => Sys2Proof.Machine.execSeqStart c s
  | .seqCmdRun src c => Sys2Proof.Machine.execSeqCmdRun src c s
  | .seqCmdHalt src c issue wdog => Sys2Proof.Machine.execSeqCmdHalt src c issue wdog s
  | .seqCmdResume src c => Sys2Proof.Machine.execSeqCmdResume src c s
  | .seqCmdStep src c => Sys2Proof.Machine.execSeqCmdStep src c s
  | .waitWake c => Sys2Proof.Machine.execWaitWake c s
  | .waitTimeout c => Sys2Proof.Machine.execWaitTimeout c s
  | .timerExpire c n => Sys2Proof.Machine.execTimerExpire c n s
  | .watchdogExpire c => Sys2Proof.Machine.execWatchdogExpire c s
  | .seqTrapack src c v => Sys2Proof.Machine.execSeqTrapack src c v s
  | .seqWdkick src c v => Sys2Proof.Machine.execSeqWdkick src c v s
  | .seqWdogWrite src c v => Sys2Proof.Machine.execSeqWdogWrite src c v s
  | .seqMboxInWrite src c v => Sys2Proof.Machine.execSeqMboxInWrite src c v s
  | .pramWrite src c off v => Sys2Proof.Machine.execPramWrite src c off v s
  | .add c => Sys2Proof.Machine.execAdd c s
  | .sub c => Sys2Proof.Machine.execSub c s
  | .and c => Sys2Proof.Machine.execAnd c s
  | .or c => Sys2Proof.Machine.execOr c s
  | .xor c => Sys2Proof.Machine.execXor c s
  | .shl c => Sys2Proof.Machine.execShl c s
  | .shr c => Sys2Proof.Machine.execShr c s
  | .sar c => Sys2Proof.Machine.execSar c s
  | .min c => Sys2Proof.Machine.execMin c s
  | .max c => Sys2Proof.Machine.execMax c s
  | .abs c => Sys2Proof.Machine.execAbs c s
  | .cmp c => Sys2Proof.Machine.execCmp c s
  | .mov c => Sys2Proof.Machine.execMov c s
  | .mac c => Sys2Proof.Machine.execMac c s
  | .msu c => Sys2Proof.Machine.execMsu c s
  | .clra c => Sys2Proof.Machine.execClra c s
  | .rda c => Sys2Proof.Machine.execRda c s
  | .tset c => Sys2Proof.Machine.execTset c s
  | .raise c => Sys2Proof.Machine.execRaise c s
  | .post c => Sys2Proof.Machine.execPost c s
  | .commit c => Sys2Proof.Machine.execCommit c s
  | .halt c => Sys2Proof.Machine.execHalt c s
  | .addi c => Sys2Proof.Machine.execAddi c s
  | .andi c => Sys2Proof.Machine.execAndi c s
  | .ori c => Sys2Proof.Machine.execOri c s
  | .cmpi c => Sys2Proof.Machine.execCmpi c s
  | .movi c => Sys2Proof.Machine.execMovi c s
  | .movh c => Sys2Proof.Machine.execMovh c s
  | .ld c => Sys2Proof.Machine.execLd c s
  | .st c => Sys2Proof.Machine.execSt c s
  | .loop c => Sys2Proof.Machine.execLoop c s
  | .vote c => Sys2Proof.Machine.execVote c s
  | .unvote c => Sys2Proof.Machine.execUnvote c s
  | .br c => Sys2Proof.Machine.execBr c s
  | .call c => Sys2Proof.Machine.execCall c s
  | .ret c => Sys2Proof.Machine.execRet c s
  | .prd c => Sys2Proof.Machine.execPrd c s
  | .pwr c => Sys2Proof.Machine.execPwr c s
  | .wait c => Sys2Proof.Machine.execWait c s
  | .frz c => Sys2Proof.Machine.execFrz c s
  | .thw c => Sys2Proof.Machine.execThw c s
  | .registerWrite a al => Sys2Proof.Machine.execRegisterWrite a al s
  | .postedWriteLand c al => Sys2Proof.Machine.execPostedWriteLand c al s
  | .aliasSetWrite src addr v => Sys2Proof.Machine.execAliasSetWrite src addr v s
  | .aliasClrWrite src addr v => Sys2Proof.Machine.execAliasClrWrite src addr v s
  | .aliasTglWrite src addr v => Sys2Proof.Machine.execAliasTglWrite src addr v s
  | .rcCounterRead src addr size inc others => Sys2Proof.Machine.execRcCounterRead src addr size inc others s
  | .shWrite src addr v => Sys2Proof.Machine.execShWrite src addr v s
  | .shadowApply c => Sys2Proof.Machine.execShadowApply c s
  | .integCommit src v => Sys2Proof.Machine.execIntegCommit src v s
  | .keygateWrite src v => Sys2Proof.Machine.execKeygateWrite src v s
  | .keygateTimeout => Sys2Proof.Machine.execKeygateTimeout s
  | .sweepComplete => Sys2Proof.Machine.execSweepComplete s
  | .cfgrefWrite src addr v => Sys2Proof.Machine.execCfgrefWrite src addr v s
  | .fprint0Read src => Sys2Proof.Machine.execFprint0Read src s
  | .afeCtlWrite src c v leave => Sys2Proof.Machine.execAfeCtlWrite src c v leave s
  | .pcsCtlWrite src c v leave => Sys2Proof.Machine.execPcsCtlWrite src c v leave s
  | .pcsTestmodeWrite src c v leave => Sys2Proof.Machine.execPcsTestmodeWrite src c v leave s
  | .satBlockEnd c fullScale => Sys2Proof.Machine.execSatBlockEnd c fullScale s
  | .fecCodewordDecode c corrected => Sys2Proof.Machine.execFecCodewordDecode c corrected s
  | .fecBurstWindowEnd c => Sys2Proof.Machine.execFecBurstWindowEnd c s
  | .alignmentSearch c wrongBits => Sys2Proof.Machine.execAlignmentSearch c wrongBits s
  | .oamFieldReceive c octets => Sys2Proof.Machine.execOamFieldReceive c octets s
  | .updateBlockBoundary c inp => Sys2Proof.Machine.execUpdateBlockBoundary c inp s
  | .acqToTrack c e => Sys2Proof.Machine.execAcqToTrack c e s
  | .probeDwellEnd c est => Sys2Proof.Machine.execProbeDwellEnd c est s
  | .dspWinWrite src c w v => Sys2Proof.Machine.execDspWinWrite src c w v s
  | .capt src c => Sys2Proof.Machine.execCapt src c s
  | .captDone c => Sys2Proof.Machine.execCaptDone c s
  | .snap src c => Sys2Proof.Machine.execSnap src c s
  | .snapPeriodic c => Sys2Proof.Machine.execSnapPeriodic c s
  | .clr src c => Sys2Proof.Machine.execClr src c s
  | .rebase src c => Sys2Proof.Machine.execRebase src c s
  | .rebaseDone c => Sys2Proof.Machine.execRebaseDone c s
  | .probeRst src c => Sys2Proof.Machine.execProbeRst src c s
  | .dspTapdataWrite src c v => Sys2Proof.Machine.execDspTapdataWrite src c v s
  | .dspTapdataRead src c => Sys2Proof.Machine.execDspTapdataRead src c s
  | .stbyTypeWrite src c v => Sys2Proof.Machine.execStbyTypeWrite src c v s
  | .divergedClear src c => Sys2Proof.Machine.execDivergedClear src c s
  | .mseWindowEnd c => Sys2Proof.Machine.execMseWindowEnd c s
  | .tapSatCountExpire c => Sys2Proof.Machine.execTapSatCountExpire c s
  | .start src c => Sys2Proof.Machine.execStart src c s
  | .stop src c => Sys2Proof.Machine.execStop src c s
  | .restart src c => Sys2Proof.Machine.execRestart src c s
  | .shift src c => Sys2Proof.Machine.execShift src c s
  | .shiftCancel src c => Sys2Proof.Machine.execShiftCancel src c s
  | .holdoffEnd c => Sys2Proof.Machine.execHoldoffEnd c s
  | .anPageReceive c p => Sys2Proof.Machine.execAnPageReceive c p s
  | .anResolve c => Sys2Proof.Machine.execAnResolve c s
  | .anTimeout c => Sys2Proof.Machine.execAnTimeout c s
  | .trainTimeout c => Sys2Proof.Machine.execTrainTimeout c s
  | .linkUp c lpReq ack => Sys2Proof.Machine.execLinkUp c lpReq ack s
  | .xsilExpire c => Sys2Proof.Machine.execXsilExpire c s
  | .infofieldReceive c bits crc => Sys2Proof.Machine.execInfofieldReceive c bits crc s
  | .infofieldSend c => Sys2Proof.Machine.execInfofieldSend c s
  | .linkMonitorFail c why => Sys2Proof.Machine.execLinkMonitorFail c why s
  | .shiftReqReceive c m => Sys2Proof.Machine.execShiftReqReceive c m s
  | .shiftAckReceive c m => Sys2Proof.Machine.execShiftAckReceive c m s
  | .shiftNakReceive c m => Sys2Proof.Machine.execShiftNakReceive c m s
  | .shiftSetReceive c m => Sys2Proof.Machine.execShiftSetReceive c m s
  | .shiftSetackReceive c m => Sys2Proof.Machine.execShiftSetackReceive c m s
  | .shiftDoneReceive c m => Sys2Proof.Machine.execShiftDoneReceive c m s
  | .shiftCancelReceive c m => Sys2Proof.Machine.execShiftCancelReceive c m s
  | .shiftRspTimeout c => Sys2Proof.Machine.execShiftRspTimeout c s
  | .shiftSwitch c => Sys2Proof.Machine.execShiftSwitch c s
  | .shiftResumeTimeout c => Sys2Proof.Machine.execShiftResumeTimeout c s
  | .chctlCtlWrite src c v => Sys2Proof.Machine.execChctlCtlWrite src c v s
  | .maintEntry c => Sys2Proof.Machine.execMaintEntry c s
  | .qrel src c => Sys2Proof.Machine.execQrel src c s
  | .segStart src c => Sys2Proof.Machine.execSegStart src c s
  | .segStop src c => Sys2Proof.Machine.execSegStop src c s
  | .segCtlWrite src c v => Sys2Proof.Machine.execSegCtlWrite src c v s
  | .segJoinExpire c => Sys2Proof.Machine.execSegJoinExpire c s
  | .segJoinTimeout c => Sys2Proof.Machine.execSegJoinTimeout c s
  | .beaconReceive c mv => Sys2Proof.Machine.execBeaconReceive c mv s
  | .beaconLoss c => Sys2Proof.Machine.execBeaconLoss c s
  | .plcaToExpire c => Sys2Proof.Machine.execPlcaToExpire c s
  | .collision c bitTime diff => Sys2Proof.Machine.execCollision c bitTime diff s
  | .backoffExpire c => Sys2Proof.Machine.execBackoffExpire c s
  | .retryStart c => Sys2Proof.Machine.execRetryStart c s
  | .rewindOvertake c => Sys2Proof.Machine.execRewindOvertake c s
  | .tdr src c => Sys2Proof.Machine.execTdr src c s
  | .isr src c => Sys2Proof.Machine.execIsr src c s
  | .diagAbort src c => Sys2Proof.Machine.execDiagAbort src c s
  | .trendClr src c => Sys2Proof.Machine.execTrendClr src c s
  | .sqiRst src c => Sys2Proof.Machine.execSqiRst src c s
  | .diagCtlWrite src c v => Sys2Proof.Machine.execDiagCtlWrite src c v s
  | .tdrActivityDetect c => Sys2Proof.Machine.execTdrActivityDetect c s
  | .tdrListenEnd c => Sys2Proof.Machine.execTdrListenEnd c s
  | .tdrAcquireEnd c => Sys2Proof.Machine.execTdrAcquireEnd c s
  | .diagRunComplete c bursts clr => Sys2Proof.Machine.execDiagRunComplete c bursts clr s
  | .trendIntervalEnd c clr => Sys2Proof.Machine.execTrendIntervalEnd c clr s
  | .txReq src c v => Sys2Proof.Machine.execTxReq src c v s
  | .lpiTxEnter c => Sys2Proof.Machine.execLpiTxEnter c s
  | .lpiRxEnter c => Sys2Proof.Machine.execLpiRxEnter c s
  | .lpiRxExit c => Sys2Proof.Machine.execLpiRxExit c s
  | .lpiIdleExpire c => Sys2Proof.Machine.execLpiIdleExpire c s
  | .sleep src c => Sys2Proof.Machine.execSleep src c s
  | .wake src c => Sys2Proof.Machine.execWake src c s
  | .padRelease src c latch => Sys2Proof.Machine.execPadRelease src c latch s
  | .wakeSignalEnd c => Sys2Proof.Machine.execWakeSignalEnd c s
  | .tc10MessageReceive c m => Sys2Proof.Machine.execTc10MessageReceive c m s
  | .slpReqReceive c m => Sys2Proof.Machine.execSlpReqReceive c m s
  | .slpAckReceive c m => Sys2Proof.Machine.execSlpAckReceive c m s
  | .slpNakReceive c m => Sys2Proof.Machine.execSlpNakReceive c m s
  | .slpGoReceive c m => Sys2Proof.Machine.execSlpGoReceive c m s
  | .slpCancelReceive c m => Sys2Proof.Machine.execSlpCancelReceive c m s
  | .sleepRspTimeout c => Sys2Proof.Machine.execSleepRspTimeout c s
  | .sleepEnter c wake loss => Sys2Proof.Machine.execSleepEnter c wake loss s
  | .ctxInsert src c => Sys2Proof.Machine.execCtxInsert src c s
  | .ctxUpdate src c index wmask => Sys2Proof.Machine.execCtxUpdate src c index wmask s
  | .ctxDelete src c index => Sys2Proof.Machine.execCtxDelete src c index s
  | .ctxLookup src c => Sys2Proof.Machine.execCtxLookup src c s
  | .ctxRead src c index => Sys2Proof.Machine.execCtxRead src c index s
  | .ctxCmdComplete c ecc => Sys2Proof.Machine.execCtxCmdComplete c ecc s
  | .frameCtlWrite src c v => Sys2Proof.Machine.execFrameCtlWrite src c v s
  | .ingressFrameReceive c fr => Sys2Proof.Machine.execIngressFrameReceive c fr s
  | .meterRefresh c index => Sys2Proof.Machine.execMeterRefresh c index s
  | .egressFrameStart c ecc => Sys2Proof.Machine.execEgressFrameStart c ecc s
  | .egressFrameDelivered c => Sys2Proof.Machine.execEgressFrameDelivered c s
  | .egressUnderrun c eps => Sys2Proof.Machine.execEgressUnderrun c eps s
  | .msInstall src c => Sys2Proof.Machine.execMsInstall src c s
  | .msRetire src c => Sys2Proof.Machine.execMsRetire src c s
  | .msSwitch src c => Sys2Proof.Machine.execMsSwitch src c s
  | .msWriteSc src c => Sys2Proof.Machine.execMsWriteSc src c s
  | .tsSet src c => Sys2Proof.Machine.execTsSet src c s
  | .tsAdj src c => Sys2Proof.Machine.execTsAdj src c s
  | .acctSnap src c => Sys2Proof.Machine.execAcctSnap src c s
  | .laneFailure l => Sys2Proof.Machine.execLaneFailure l s
  | .ucieLinkReset linkError => Sys2Proof.Machine.execUcieLinkReset linkError s
  | .hpreset src => Sys2Proof.Machine.execHpreset src s
  | .hostRetrain src => Sys2Proof.Machine.execHostRetrain src s
  | .adapterActive => Sys2Proof.Machine.execAdapterActive s
  | .l1IdleExpire => Sys2Proof.Machine.execL1IdleExpire s
  | .hostL1Request => Sys2Proof.Machine.execHostL1Request s
  | .nguidFrameStart m => Sys2Proof.Machine.execNguidFrameStart m s
  | .nguidFrameCont m => Sys2Proof.Machine.execNguidFrameCont m s
  | .nguidFrameEnd m => Sys2Proof.Machine.execNguidFrameEnd m s
  | .nguidCreditGrant m => Sys2Proof.Machine.execNguidCreditGrant m s
  | .nguidCreditReturn m => Sys2Proof.Machine.execNguidCreditReturn m s
  | .nguidCreditResync m => Sys2Proof.Machine.execNguidCreditResync m s
  | .todSet m => Sys2Proof.Machine.execTodSet m s
  | .todLoad => Sys2Proof.Machine.execTodLoad s
  | .controlFlush m => Sys2Proof.Machine.execControlFlush m s
  | .controlMbox m => Sys2Proof.Machine.execControlMbox m s
  | .controlSnap m => Sys2Proof.Machine.execControlSnap m s
  | .creditGrantTimer c cls => Sys2Proof.Machine.execCreditGrantTimer c cls s
  | .hostSegmentSend => Sys2Proof.Machine.execHostSegmentSend s
  | .queueFlush src c v => Sys2Proof.Machine.execQueueFlush src c v s
  | .flushComplete c => Sys2Proof.Machine.execFlushComplete c s
  | .qEgclsWrite src c cls v => Sys2Proof.Machine.execQEgclsWrite src c cls v s
  | .calRref src m => Sys2Proof.Machine.execCalRref src m s
  | .calVref src m => Sys2Proof.Machine.execCalVref src m s
  | .imgSave src => Sys2Proof.Machine.execImgSave src s
  | .imgLoad src => Sys2Proof.Machine.execImgLoad src s
  | .calCommit src dev => Sys2Proof.Machine.execCalCommit src dev s
  | .bankCopyDone => Sys2Proof.Machine.execBankCopyDone s
  | .calAbort src supply => Sys2Proof.Machine.execCalAbort src supply s
  | .calgHyb src c m => Sys2Proof.Machine.execCalgHyb src c m s
  | .calgAmp src c m => Sys2Proof.Machine.execCalgAmp src c m s
  | .calgRxg src c m => Sys2Proof.Machine.execCalgRxg src c m s
  | .calgBist src c => Sys2Proof.Machine.execCalgBist src c s
  | .calgAbort src c supply => Sys2Proof.Machine.execCalgAbort src c supply s
  | .calComplete c meas target target2 => Sys2Proof.Machine.execCalComplete c meas target target2 s
  | .bistComplete c r => Sys2Proof.Machine.execBistComplete c r s
  | .sliceCalUpdate c slice off gain skew fault => Sys2Proof.Machine.execSliceCalUpdate c slice off gain skew fault s
  | .wearUpdate c l => Sys2Proof.Machine.execWearUpdate c l s
  | .approve src c => Sys2Proof.Machine.execApprove src c s
  | .deny src c => Sys2Proof.Machine.execDeny src c s
  | .swap src c v => Sys2Proof.Machine.execSwap src c v s
  | .graftRecordDone c bad => Sys2Proof.Machine.execGraftRecordDone c bad s
  | .graftSwitch c => Sys2Proof.Machine.execGraftSwitch c s
  | .lifeEstimate c => Sys2Proof.Machine.execLifeEstimate c s
  | .faultLevelFall x => Sys2Proof.Machine.execFaultLevelFall x s
  | .fltAck src c v => Sys2Proof.Machine.execFltAck src c v s
  | .fcAck src v => Sys2Proof.Machine.execFcAck src v s
  | .safeExit src v => Sys2Proof.Machine.execSafeExit src v s
  | .smbist src v => Sys2Proof.Machine.execSmbist src v s
  | .smbistDone fail rows => Sys2Proof.Machine.execSmbistDone fail rows s
  | .faultForce src addr v => Sys2Proof.Machine.execFaultForce src addr v s
  | .fcClassWrite src w v => Sys2Proof.Machine.execFcClassWrite src w v s
  | .fcTime0Read src => Sys2Proof.Machine.execFcTime0Read src s
  | .mdioAddress prtad devad reg => Sys2Proof.Machine.execMdioAddress prtad devad reg s
  | .mdioWrite prtad devad v => Sys2Proof.Machine.execMdioWrite prtad devad v s
  | .mdioRead prtad devad late => Sys2Proof.Machine.execMdioRead prtad devad late s
  | .mdioReadInc prtad devad late => Sys2Proof.Machine.execMdioReadInc prtad devad late s
  | .mdioNativeRd prtad => Sys2Proof.Machine.execMdioNativeRd prtad s
  | .mdioNativeWrite prtad v => Sys2Proof.Machine.execMdioNativeWrite prtad v s
  | .mdioNativeReadDone prtad => Sys2Proof.Machine.execMdioNativeReadDone prtad s
  | .bypass => Sys2Proof.Machine.execBypass s
  | .idcode => Sys2Proof.Machine.execIdcode s
  | .samplePreload preload sampled => Sys2Proof.Machine.execSamplePreload preload sampled s
  | .extest boundary => Sys2Proof.Machine.execExtest boundary s
  | .clamp => Sys2Proof.Machine.execClamp s
  | .highz => Sys2Proof.Machine.execHighz s
  | .instrAccess sib => Sys2Proof.Machine.execInstrAccess sib s
  | .trst low => Sys2Proof.Machine.execTrst low s
  | .lpiRefresh c rx begins => Sys2Proof.Machine.execLpiRefresh c rx begins s
  | .blockLockChange c lock aligned => Sys2Proof.Machine.execBlockLockChange c lock aligned s
  | .pgoodFall => Sys2Proof.Machine.execPgoodFall s
  | .refMonitorBad r => Sys2Proof.Machine.execRefMonitorBad r s
  | .eventMessageSend c => Sys2Proof.Machine.execEventMessageSend c s
  | .tstampMessageSend c => Sys2Proof.Machine.execTstampMessageSend c s
  | .undefinedOpcode c => Sys2Proof.Machine.execUndefinedOpcode c s
  | .fetchOutsideLoadedRange c => Sys2Proof.Machine.execFetchOutsideLoadedRange c s
  | .nguidTypeError m => Sys2Proof.Machine.execNguidTypeError m s
  | .controlUnknownCode m => Sys2Proof.Machine.execControlUnknownCode m s
  | .faultRecordRead src x => Sys2Proof.Machine.execFaultRecordRead src x s
  | .glitchDetect => Sys2Proof.Machine.execGlitchDetect s
  | .keyStoreIntegrityFail => Sys2Proof.Machine.execKeyStoreIntegrityFail s
  | .svcMemEccError pd row => Sys2Proof.Machine.execSvcMemEccError pd row s
  | .canopyRamEccError row => Sys2Proof.Machine.execCanopyRamEccError row s

end Sys2Proof.Machine
end

