-- ==== Sys2Proof/Machine/Decide.lean ====
section
/-! DEFINITION. The writes that a ROM link program makes of itself as time passes (R96, R97, R106, R114, R154, R181, R182, R295):
each at the first reference tick at which its policy asks for it. Choices: log entry 8 (DESIGN CHOICE). -/

namespace Sys2Proof.Machine

/-- The ROM program of a channel whose sequencer runs or waits, with its clock. -/
def State.romActs (s : State) (c : Ch) : Option Nat :=
  let live := match (s.ch c).seq.st with
    | .running | .waiting => true
    | .stopped | .loading | .halted | .trapped => false
  if live && s.clocked c .seq && !s.cb c .SEQ_IMG_MODIFIED then s.romId c else none

/-- The program writes a register of its channel, whose block's gate is open (R283). -/
def State.polPut (s : State) (c : Ch) (b : CBlk) (o v : Nat) : State :=
  if s.blkEn c b then s.landC c b .plain o v true (chanAddr c b o) else s

/-- The program changes the bits `m` of a register. -/
def State.polBits (s : State) (c : Ch) (b : CBlk) (o v m : Nat) : State :=
  let old := (s.aliasWord c (CFld.at b o) .set 0).getD 0
  s.polPut c b o (((old ||| m) ^^^ m) ||| v)

/-- The program makes an attempt ready as `CHCTL.CTL` and the parameter block ask (R96, R107, R182). -/
def State.polReady (s : State) (c : Ch) (id : Nat) : State :=
  let adv := s.wantAdv c
  let was := s.cg c .LINK_ANADV_TYPES
  let an := s.cb c .CHCTL_CTL_AN_REQ
  let ft := if an then s.cg c .LINK_CTL_FTYPE else s.cg c .CHCTL_CTL_TYPE_REQ
  let s := s.polBits c .link 0 (s.cg c .CHCTL_CTL_ROLE_REQ * 256 + ft * 16 + b2n an) 0x3F1
  let s := if an && adv ≠ was then
      let keep := s.cg c .CHCTL_CTL_TYPE_REQ ≠ 0
      (s.polBits c .link 4 adv 0x7F).updPol c fun p => { p with adv := if keep then some (p.adv.getD was) else none }
    else s
  if id = 4 then s else (s.polBits c .lpi 0x10 (s.pbIdle c) 0xFFFFF).polBits c .lpi 0x14 (256 * b2n (s.pbSleepAccept c)) 0x100

/-- The pads are released before the first START (R154). -/
def State.polPads (s : State) (c : Ch) : State :=
  if (s.ch c).pad.held && !s.padsHeld then s.polPut c .lpi 4 4 else s

/-- One part of a hitless shift to type `t` (R97, R100, R181): the operating-point floor is voted and waited for, the standby
bank is filled, and then comes SHIFT. -/
def State.polShiftTo (s : State) (c : Ch) (t : Nat) : State :=
  if !s.floorVoted c t then s.seqVote c (pointOf t) true
  else if s.dg .PWR_OP_STAT_OP < pointOf t || (s.ch c).rx.rebasing then s
  else if s.cg c .DSP_BANK_STBY_TYPE ≠ t then s.polBits c .dsp 0x4C (t * 16) 0xF0
  else if !(s.ch c).dsp.stbyValid then s.polPut c .dsp 0x40 8
  else
    let s := (s.polBits c .link 0x18 t 0xF).updPol c fun p => { p with typeReq := false }
    s.polPut c .link 0x14 8

/-- A new type is asked for while the link is up (R96, R97, R106): a hitless shift where R97 allows one, once the operating
point suffices; else the fallback retrain. -/
def State.polType (s : State) (c : Ch) (id : Nat) : State :=
  match s.shiftTo c with
  | none => s
  | some t =>
    if id = 1 && (s.shiftNow c t = 0 || s.shiftNow c t = 3) then s.polShiftTo c t
    else if !(s.ch c).seq.pol.typeReq then s
    else
      let retrain := t ≠ s.cg c .PCS_CTL_TYPE
      let s := s.updPol c fun p => { p with typeReq := false }
      if retrain then (s.polReady c id).polPut c .link 0x14 4 else s

/-- What the program does in UP (R181, R182): the trends it turns on or off at UP, LPI on the idle event, and a change of type. -/
def State.polUp (s : State) (c : Ch) (id : Nat) : State :=
  let s := if (s.ch c).seq.pol.up then
      let s := s.updPol c fun p => { p with up := false }
      if id = 4 then s else s.polBits c .diag 0 (b2n (s.pbTrendEn c) + 2) 3
    else s
  let s := if id ≠ 4 && s.cb c .LPI_EVT_IDLE && s.pbLpiEn c && !s.cb c .LPI_CTL_TX_REQ then
      (s.polPut c .lpi 0 1).polPut c .lpi 0xC 16
    else s
  if (s.ch c).link.st = .up then s.polType c id else s

/-- START would be accepted (R89, R113). -/
def State.startOk (s : State) (c : Ch) : Bool :=
  if isSeg c then !(s.cg c .SEG_CTL_MODE = 0 && s.cg c .SEG_PLCA_NODE_ID = 255)
  else s.cb c .LINK_CTL_AN_EN || s.forcedOk c

/-- What the program does in STOP (R96, R114): the reflectometry run that is due, and then START. -/
def State.polDown (s : State) (c : Ch) (id : Nat) : State :=
  if (s.ch c).seq.pol.diag then
    let s := if (s.ch c).sub = .idle then s.polPads c else s
    if s.tdrOk c then (s.polPut c .diag 0x14 1).updPol c fun p => { p with diag := false } else s
  else if !s.startDue c then s
  else
    let s := s.polPads c
    let s := if isSeg c then s else s.polReady c id
    if (s.ch c).pad.held || !s.startOk c then s
    else if isSeg c then s.polPut c .seg 0xC 1 else s.polPut c .link 0x14 1

/-- The ROM program of a channel acts (R96). -/
def State.tickPol (s : State) (c : Ch) : State :=
  match s.romActs c with
  | none => s
  | some id => if s.linkLive c && !isSeg c then s.polUp c id else s.polDown c id

end Sys2Proof.Machine
end

