-- ==== Sys2Proof/Machine/Tick.lean ====
section
/-! DEFINITION. What time alone does in one reference tick of 40 ns with no command waiting (R278): clocks and counts run, and
those of the sequencer end (R170, R172, R176). What else time brings to an end is a command of its own (log entry 4). -/

namespace Sys2Proof.Machine

/-- The timers of a channel's sequencer (R172): each running one counts down, and expires as it reaches 0. -/
def State.tickTimers (s : State) (c : Ch) : State :=
  (List.finRange 8).foldl (fun s n =>
    if !(s.cg c .SEQ_TMRSTAT_RUN).testBit n.val then s
    else if s.cg c (.SEQ_TMR_COUNT n.val) ≤ 1 then s.timerDone c n
    else s.cs c (.SEQ_TMR_COUNT n.val) (s.cg c (.SEQ_TMR_COUNT n.val) - 1)) s

/-- The timeout of a wait counts down, and ends the wait with its last tick (R170). -/
def State.tickWait (s : State) (c : Ch) : State :=
  match (s.ch c).seq.st, (s.ch c).seq.wait with
  | .waiting, some (m, t) =>
    if t = 0 then s else if t = 1 then s.waitDone c m else s.updSeq c fun q => { q with wait := some (m, t - 1) }
  | _, _ => s

/-- The watchdog rises while the sequencer runs or waits, and traps as it reaches PERIOD (R176); its trap takes precedence over
what else the tick ends, a timeout among it (R190). -/
def State.tickWdog (s : State) (c : Ch) : State :=
  if !s.wdogLive c then s
  else if s.wdogDue c then s.wdogTrap c
  else (s.updSeq c fun q => { q with wdog := q.wdog + 1 }).tickWait c

/-- A channel's sequencer, whose clock runs with its enable (R281). -/
def State.tickSeq (s : State) (c : Ch) : State :=
  if s.clocked c .seq then (s.tickTimers c).tickWdog c else s

/-- A channel's time-stamp clock (R221). -/
def State.tickTs (s : State) (c : Ch) : State :=
  if s.clocked c .frame then
    let rate := sint (CFld.info .TS_RATE_VALUE).wid (s.cg c .TS_RATE_VALUE)
    s.updF c fun f => { f with ts := f.ts.tick c (s.now - 1) rate }
  else s

/-- A count of microseconds in LPI: 25 ticks make one. -/
def State.lpiTime (s : State) (c : Ch) (n : Nat) (f : CFld) : Nat × State := if 25 ≤ n + 1 then (0, s.cinc c f) else (n + 1, s)

/-- The LPI times of a channel (R144, R156): since its egress queue became empty, and in LPI by direction. -/
def State.tickLpi (s : State) (c : Ch) : State :=
  if !s.clocked c .lpi then s
  else
    let e := s.egEmpty c
    let s := s.updLpi c fun l => { l with idleT := if e then l.idleT + 1 else 0 }
    let s := if s.cb c .LPI_STAT_TX_LPI then
        let r := s.lpiTime c (s.ch c).lpi.txT .LPI_TXTIME_COUNT
        r.2.updLpi c fun l => { l with txT := r.1 }
      else s
    if s.cb c .LPI_STAT_RX_LPI then
      let r := s.lpiTime c (s.ch c).lpi.rxT .LPI_RXTIME_COUNT
      r.2.updLpi c fun l => { l with rxT := r.1 }
    else s

/-- The operation time of a channel's diagnostics (R136). -/
def State.tickDiag (s : State) (c : Ch) : State :=
  if s.clocked c .diag then s.updDiag c fun d => { d with opTicks := d.opTicks + 1 } else s

/-- A new frame of the line's coding takes its OAM message (R98). -/
def State.tickOam (s : State) (c : Ch) : State :=
  if s.linkLive c && { s with now := s.now - 1 }.txFr c ≠ s.txFr c then s.oamFrame c else s

/-- The octets that a type's MAC sends in eight reference ticks (R33). -/
def macOctets (typ : Nat) : Nat := match typ with | 1 => 4 | 2 => 40 | 3 => 100 | 4 => 200 | 5 => 400 | 6 => 1000 | 7 => 2000 | _ => 0

/-- The cells of the frame on a trunk's or branch's line that have been sent, after eight octets of preamble. -/
def State.cellsOut (s : State) (c : Ch) (l : LineEg) : Nat :=
  ((s.now - l.t0) * macOctets (s.cg c .PCS_CTL_TYPE) / 8 - 8) / 64

/-- On a trunk or branch a cell is freed as soon as it is sent, and its token returns (R121, R239). -/
def State.tickCells (s : State) (c : Ch) : State :=
  match (s.ch c).queue.line with
  | some l =>
    let n := min (s.cellsOut c l - l.freed) l.frame.cells
    if isSeg c || !s.clocked c .frame || n = 0 then s else
    let s := s.updQ c fun q => { q with
      line := some { l with freed := l.freed + n, frame := { l.frame with cells := l.frame.cells - n } } }
    s.freeCells c l.cls n
  | none => s

/-- One channel's part of a tick: its counts, the spares' triggers that waited for a calibration (R322) and the queue
accounting checks (R330). Choices: log entry 4 (DESIGN CHOICE). -/
def State.tickCh (s : State) (c : Ch) : State :=
  if s.running c then
    let s := (((((s.tickSeq c).tickTs c).tickLpi c).tickDiag c).tickOam c).tickCells c
    let s := if s.clocked c .calg then s.triggers c else s
    let s := if s.clocked c .queue then s.acctCheck c else s
    s.tickPol c
  else s

/-- Canopy time (R331): it counts from the entry to Boot after a VSUP power-on or a Dormant wake.
Choices: log entry 4 (DESIGN CHOICE). -/
def State.tickCanopy (s : State) : State :=
  match s.power.mode with
  | .off | .dormant => s
  | .standby | .boot | .active | .service | .safe | .lockedOut =>
    if s.power.clockWait then s else { s with canopy := { s.canopy with time := (s.canopy.time + 1) % 2 ^ 48 } }

/-- The time left of a debug session with a limit; it pauses in Standby (R366, R368).
Choices: log entry 4 (DESIGN CHOICE). -/
def State.tickDebug (s : State) : State :=
  match s.power.mode with
  | .standby => s
  | .off | .dormant | .boot | .active | .service | .safe | .lockedOut =>
    { s with dbgr := { s.dbgr with left := s.dbgr.left.map fun t => t - 1 } }

/-- One reference tick with no command. Choices: log entry 4 (DESIGN CHOICE). -/
def State.tick (s : State) : State :=
  let s := { s with now := s.now + 1, power := { s.power with wakeNow := false } }
  (s.tickCanopy.tickDebug).forCh fun s c => s.tickCh c

end Sys2Proof.Machine
end

