-- ==== Sys2Proof/Safety.lean ====
section
/-! DEFINITION. What every state of the part keeps: a register store in one canonical form whose values fit their fields,
and byte memories in one canonical form. -/

namespace Sys2Proof.Machine

/-- The register store is canonical: one entry for a field at most, and each entry within its field's width and other than
its reset value (R8, R15: a field reads what was last stored in it, in its own bits). -/
def State.regsOk (s : State) : Prop :=
  (s.regs.map Prod.fst).Nodup ∧ ∀ p ∈ s.regs, p.2 < 2 ^ p.1.info.wid ∧ p.2 ≠ p.1.reset

/-- Every byte memory of a channel is in the canonical form. -/
def Chan.memOk (c : Chan) : Prop :=
  Memory.wf c.seq.pram = true ∧ Memory.wf c.seq.dram = true ∧ Memory.wf c.rx.buf = true ∧
    ∀ k, c.rx.copy = some k → Memory.wf k.1 = true

/-- Every byte memory of the part is in the canonical form. -/
def State.memOk (s : State) : Prop :=
  (∀ c, (s.ch c).memOk) ∧ Memory.wf s.cal.buf = true ∧ Memory.wf s.heart.data = true ∧
    Memory.wf s.heart.report = true ∧ Memory.wf s.dbgr.trace = true ∧
    ∀ i, s.heart.img = some i → Memory.wf i.payload = true

/-! ### Accesses that are answered -/

/-- A write from outside to a register block of channel `c` is taken (R256, R281, R296, R376, R402): accesses are answered, the
block is powered and clocked and the source reaches it, and the channel's posted-write buffer is not closed. -/
def State.arrives (s : State) (src : Src) (c : Ch) (b : CBlk) : Prop :=
  src ≠ .prog ∧ s.busUp true = true ∧ s.srcOk src (.chan c b .plain 0) = true ∧ (s.ch c).closing = false

/-- As `State.arrives`, for a device-service block. -/
def State.arrivesDev (s : State) (src : Src) (b : DBlk) : Prop :=
  src ≠ .prog ∧ s.busUp true = true ∧ s.devOk b = true

/-- What one-time programmable memory may do (R317, R346, R357): a revocation bit once set stays set, an identity key once
blanked does not come back, spare and lane records are only added to, and what the factory programmed stays. -/
def Otp.onlyOn (a b : Otp) : Prop :=
  (∀ k, a.rev.testBit k = true → b.rev.testBit k = true) ∧ (a.idKey = none → b.idKey = none) ∧
    (∀ c : Ch, a.subst[c.val] <+: b.subst[c.val]) ∧ a.lanes <+: b.lanes ∧ (a.vtest = true → b.vtest = true) ∧
    b.step = a.step ∧ b.grade = a.grade ∧ b.did = a.did ∧ b.cert = a.cert ∧ b.ftDev = a.ftDev ∧ b.ft = a.ft

/-! ### Frame accounting -/

/-- The frames accepted are those delivered, resident and discarded under the sixteen reasons together (R24). -/
def Acct.balanced (a : Acct) : Prop :=
  a.disc.length = 16 ∧ a.accepted % m32 = (a.delivered + a.resident + a.disc.sum) % m32

/-- A channel's accounting: every count set is balanced, live and in the snapshot, and the live residents of a direction are
the frames that its queues hold, with the one on the line (R24). -/
def Chan.acctOk (c : Chan) : Prop :=
  c.frame.egLive.balanced ∧ c.frame.inLive.balanced ∧ c.frame.egSnap.balanced ∧ c.frame.inSnap.balanced ∧
    c.frame.egLive.resident % m32 =
      ((c.queue.eg.toList.map fun k => k.frames.length).sum + b2n c.queue.line.isSome) % m32 ∧
    c.frame.inLive.resident % m32 = (c.queue.ing.toList.map List.length).sum % m32

/-- Every channel's accounting holds. -/
def State.acctOk (s : State) : Prop := ∀ c, (s.ch c).acctOk

/-! ### Instructions of the link program -/

/-- Channel `c`'s sequencer issues the word `w` of mnemonic `m` (R159, R162, R185): it runs, and the word lies at PC within
the loaded range and is well formed. -/
def State.issues (s : State) (c : Ch) (m : Mn) (w : Word) : Prop :=
  s.seqRuns c = true ∧ s.insn c = some w ∧ mnOf w = some m ∧ legal m w = true

/-- The general registers with `v` in register `d`; register 0 takes nothing (R158). -/
def SeqSt.put (q : SeqSt) (d : Fin 16) (v : Word) : SeqSt := if d = 0 then q else { q with s := q.s.set d.val v }

/-- From `s` an instruction of channel `c` completed in `n` cycles without transfer of control and left `t`, with the
sequencer as `q` says but for PC and the loops, which go on as R196 says: nothing else of the part has changed, but for the
counts of cycles (R189, R371). -/
def State.seqDone (s t : State) (c : Ch) (n : Nat) (q : SeqSt) : Prop :=
  t = { s with regs := t.regs, chans := t.chans, dbgr := { s.dbgr with cyc := s.traceCyc c n } } ∧
    (∀ d, d ≠ c → t.ch d = s.ch d) ∧ t.ch c = { s.ch c with seq := { q with pc := (loopBack q.pc q.loops).1, loops := (loopBack q.pc q.loops).2 } } ∧
    t.cg c .SEQ_CYCLES_COUNT = (s.cg c .SEQ_CYCLES_COUNT + n) % 2 ^ 32 ∧
    ∀ f, f ≠ .ch c .SEQ_CYCLES_COUNT → t.rd f = s.rd f

/-- As `State.seqDone`, for an instruction that takes two cycles and transfers control: `q` says all of the sequencer,
PC and loops as well. The program trace may have taken an entry (R371). -/
def State.seqWent (s t : State) (c : Ch) (q : SeqSt) : Prop :=
  (∀ d, d ≠ c → t.ch d = s.ch d) ∧ t.ch c = { s.ch c with seq := q } ∧
    t.cg c .SEQ_CYCLES_COUNT = (s.cg c .SEQ_CYCLES_COUNT + 2) % 2 ^ 32 ∧
    (s.dbgr.tracing = false → t = { s with regs := t.regs, chans := t.chans } ∧
      ∀ f, f ≠ .ch c .SEQ_CYCLES_COUNT → t.rd f = s.rd f)

/-- The command that issues an instruction of a mnemonic. -/
def Mn.instr (c : Ch) : Mn → Instr
  | .add => .add c | .sub => .sub c | .and => .and c | .or => .or c | .xor => .xor c | .shl => .shl c | .shr => .shr c
  | .sar => .sar c | .min => .min c | .max => .max c | .abs => .abs c | .cmp => .cmp c | .mov => .mov c
  | .mac => .mac c | .msu => .msu c | .clra => .clra c | .rda => .rda c | .tset => .tset c | .raise => .raise c
  | .post => .post c | .commit => .commit c | .halt => .halt c | .addi => .addi c | .andi => .andi c | .ori => .ori c
  | .cmpi => .cmpi c | .movi => .movi c | .movh => .movh c | .ld => .ld c | .st => .st c | .loop => .loop c
  | .vote => .vote c | .unvote => .unvote c | .br => .br c | .call => .call c | .ret => .ret c | .prd => .prd c
  | .pwr => .pwr c | .wait => .wait c | .frz => .frz c | .thw => .thw c

/-- The four flags of a sequencer. -/
def SeqSt.withFlags (q : SeqSt) (z n c v : Bool) : SeqSt := { q with z := z, n := n, c := c, v := v }

end Sys2Proof.Machine
end

