-- ==== Sys2Proof/WellFormed.lean ====
section
/-! DEFINITION. Which commands are well formed: what a command carries in fits the operand the spec gives it. -/

namespace Sys2Proof

/-- An access (R256): a program's are always of 32 bits. -/
def Access.wf (a : Access) : Bool := decide (a.size < 4096) && (decide (a.src ≠ .prog) || decide (a.size = 4))

/-- A hardware update of the cycle (R267) names a bit of a word, at the word's plain address. -/
def HwUpd.wf (u : HwUpd) : Bool :=
  decide (u.lsb < 32) && decide (u.addr.toNat % 4 = 0) && match u.how with
    | .set | .clr => true
    | .add k => decide (k < 2 ^ 32)
    | .put v => decide (v < 2 ^ 32)

/-- What falls in one cycle beside an access (R261, R267). -/
def Along.wf (al : Along) : Bool := al.others.all Access.wf && al.hw.all HwUpd.wf

/-- What an update block delivers (R54, R63 to R65, R75): coefficients, gain and phase inside their ranges. -/
def BlockIn.wf (b : BlockIn) : Bool :=
  (b.grads.all fun g => decide (g.index < 1024)) && decide (b.pga < 64) && decide (b.pd.natAbs ≤ 64) &&
    decide (b.syms.length ≤ 8192) && (b.clear.all fun n => decide (n < 8192))

/-- A line frame (R50, R51, R120). -/
def LineFrame.wf (f : LineFrame) : Bool :=
  decide (f.octets.length < 65536) && decide (f.cws ≤ 144) && decide (f.mv < 8192) &&
    (f.ecc.all fun e => decide (e.idx < 4096))

/-- A Nguid message of a type (R234, R236): its header says the type, and its body has the length of R233. -/
def NgMsg.wf (m : NgMsg) (typ : Nat) : Bool :=
  decide (m.hdr.toNat % 16 = typ) &&
    decide (m.body.length = if typ ≤ 3 then m.hdr.toNat / 2 ^ 16 % 512 else if typ = 8 then 16 else 0)

/-- A message of a type this end does not take (R238): its body has a length its header can say. -/
def NgMsg.other (m : NgMsg) : Bool := decide (m.body.length < 512)

/-- What the analog side finds before a calibration (R313). -/
def CalMeas.wf (m : CalMeas) : Bool :=
  decide (m.load < 2 ^ 32) && decide (m.calR < 2 ^ 32) && decide (m.calV < 2 ^ 32) && decide (m.calVpp < 2 ^ 32)

/-- A measured figure fits the result register (R325, R326). -/
def figure (x : Int) : Bool := decide (-32768 ≤ x ∧ x < 65536)

/-- A measurement of wear (R318): an element of a pool, and a factory frequency that is not 0. -/
def WearMeas.wf (m : WearMeas) : Bool := decide (m.elem < 1024) && decide (0 < m.fFac)

/-- A command is well formed. -/
def Instr.wf : Instr → Bool
  | .vsupBrownOut mv => decide (mv < 8192)
  | .supplyWarnStart _ mv => decide (mv < 8192)
  | .supplyWarnEnd _ mv => decide (mv < 8192)
  | .supplyReset _ mv _ => decide (mv < 8192)
  | .registerWrite a al => a.wf && al.wf
  | .postedWriteLand _ al => al.wf
  | .rcCounterRead src addr size inc l =>
    decide (addr.toNat % 4 = 0) && decide (inc < 2 ^ 32) && Access.wf ⟨src, true, addr, 0, size⟩ && l.all Access.wf
  | .satBlockEnd _ n => decide (n ≤ 1024)
  | .fecCodewordDecode _ k => (k.all fun n => decide (n ≤ 22))
  | .alignmentSearch _ n => decide (n ≤ 257)
  | .oamFieldReceive _ l => l.length = 128
  | .updateBlockBoundary _ b => b.wf
  | .probeDwellEnd _ l => decide (l.length ≤ 64)
  | .collision _ _ d => (d.all fun n => decide (n < 8192))
  | .beaconReceive _ mv => decide (mv < 8192)
  | .diagRunComplete _ l _ => decide (l.length ≤ 2 ^ 14) && (l.all fun b => decide (b.length ≤ 16384))
  | .ctxUpdate _ _ i _ => decide (i < 4096)
  | .ctxDelete _ _ i => decide (i < 4096)
  | .ctxRead _ _ i => decide (i < 4096)
  | .ingressFrameReceive _ f => f.wf
  | .meterRefresh _ i => decide (i < 4096)
  | .egressFrameStart _ e => (e.all fun e => decide (e.idx < 4096))
  | .nguidFrameStart m => m.wf 1
  | .nguidFrameCont m => m.wf 2
  | .nguidFrameEnd m => m.wf 3
  | .nguidCreditGrant m => m.wf 5
  | .nguidCreditReturn m => m.wf 6
  | .nguidCreditResync m => m.wf 7
  | .todSet m => m.wf 8
  | .controlFlush m => m.wf 9
  | .controlMbox m => m.wf 9
  | .controlSnap m => m.wf 9
  | .calRref _ m => m.wf
  | .calVref _ m => m.wf
  | .calgHyb _ _ m => m.wf
  | .calgAmp _ _ m => m.wf
  | .calgRxg _ _ m => m.wf
  | .calComplete _ m t t2 => figure m && figure t && figure t2
  | .bistComplete _ r => (r.ctxRows ++ r.seqRows).all fun n => decide (n < 4096)
  | .sliceCalUpdate _ k _ _ _ _ => decide (k < 96)
  | .wearUpdate _ l => l.all WearMeas.wf
  | .smbistDone _ rows => decide (rows < 2 ^ 32)
  | .nguidTypeError m => m.other
  | .controlUnknownCode m => m.wf 9
  | .svcMemEccError _ row => decide (row < 2 ^ 32)
  | .canopyRamEccError row => decide (row < 2 ^ 32)
  | .vsupPowerOn .. | .rcReady | .xsdDelayExpire | .refQualify .. | .refLost | .svcClockRestart | .pllLock ..
  | .pllLockLoss .. | .pllUnlockTimeout .. | .clockEnableWrite .. | .gateClose .. | .dormantWake | .dormantExitToBoot
  | .railupTimeout .. | .wakePinQualify | .mdioAddressWake .. | .lineWakeQualify .. | .resetNAssert ..
  | .resetNRelease | .softrst .. | .heartWatchdogExpire .. | .dipholdExpire | .supplyResetRelease | .tempMeasure ..
  | .xthotExpire | .opRaiseStart | .opHoldExpire | .pgoodRise | .vsettleExpire | .reqDormant .. | .dormantEntryDone
  | .reqStandby .. | .standbyPrepDone | .reqActive .. | .reqService .. | .serviceEnter | .hostL2Request | .standbyExit
  | .chpwrVoteWrite .. | .drainEnd .. | .drainTimeout .. | .domainPowerUpDone .. | .pdonTimeout .. | .channelReset ..
  | .channelResetDone .. | .bootOtpLoadDone .. | .bootDone .. | .bootWaitExpire | .bootEnd | .submit ..
  | .heartDataWrite .. | .imageVerdict | .attestDone | .loadComplete .. | .attest .. | .heartAbort .. | .keyProg .. | .deploy ..
  | .lcReturn .. | .scrap .. | .rbSet .. | .lcProgDone .. | .dbgNonce .. | .nonceExpire | .dbgOpen ..
  | .tokenCheckDone | .dbgClose .. | .sessionExpire | .seqStart .. | .seqCmdRun .. | .seqCmdHalt ..
  | .seqCmdResume .. | .seqCmdStep .. | .waitWake .. | .waitTimeout .. | .timerExpire .. | .watchdogExpire ..
  | .seqTrapack .. | .seqWdkick .. | .seqWdogWrite .. | .seqMboxInWrite .. | .pramWrite .. | .add .. | .sub ..
  | .and .. | .or .. | .xor .. | .shl .. | .shr .. | .sar .. | .min .. | .max .. | .abs .. | .cmp .. | .mov ..
  | .mac .. | .msu .. | .clra .. | .rda .. | .tset .. | .raise .. | .post .. | .commit .. | .halt .. | .addi ..
  | .andi .. | .ori .. | .cmpi .. | .movi .. | .movh .. | .ld .. | .st .. | .loop .. | .vote .. | .unvote .. | .br ..
  | .call .. | .ret .. | .prd .. | .pwr .. | .wait .. | .frz .. | .thw .. | .aliasSetWrite .. | .aliasClrWrite ..
  | .aliasTglWrite .. | .shWrite .. | .shadowApply .. | .integCommit .. | .keygateWrite .. | .keygateTimeout
  | .sweepComplete | .cfgrefWrite .. | .fprint0Read .. | .afeCtlWrite .. | .pcsCtlWrite .. | .pcsTestmodeWrite ..
  | .fecBurstWindowEnd .. | .acqToTrack .. | .dspWinWrite .. | .capt .. | .captDone .. | .snap .. | .snapPeriodic ..
  | .clr .. | .rebase .. | .rebaseDone .. | .probeRst .. | .dspTapdataWrite .. | .dspTapdataRead ..
  | .stbyTypeWrite .. | .divergedClear .. | .mseWindowEnd .. | .tapSatCountExpire .. | .start .. | .stop ..
  | .restart .. | .shift .. | .shiftCancel .. | .holdoffEnd .. | .anPageReceive .. | .anResolve .. | .anTimeout ..
  | .trainTimeout .. | .linkUp .. | .xsilExpire .. | .infofieldReceive .. | .infofieldSend .. | .linkMonitorFail ..
  | .shiftReqReceive .. | .shiftAckReceive .. | .shiftNakReceive .. | .shiftSetReceive .. | .shiftSetackReceive ..
  | .shiftDoneReceive .. | .shiftCancelReceive .. | .shiftRspTimeout .. | .shiftSwitch .. | .shiftResumeTimeout ..
  | .chctlCtlWrite .. | .maintEntry .. | .qrel .. | .segStart .. | .segStop .. | .segCtlWrite .. | .segJoinExpire ..
  | .segJoinTimeout .. | .beaconLoss .. | .plcaToExpire .. | .backoffExpire .. | .retryStart .. | .rewindOvertake ..
  | .tdr .. | .isr .. | .diagAbort .. | .trendClr .. | .sqiRst .. | .diagCtlWrite .. | .tdrActivityDetect ..
  | .tdrListenEnd .. | .tdrAcquireEnd .. | .trendIntervalEnd .. | .txReq .. | .lpiTxEnter .. | .lpiRxEnter ..
  | .lpiRxExit .. | .lpiIdleExpire .. | .sleep .. | .wake .. | .padRelease .. | .wakeSignalEnd ..
  | .tc10MessageReceive .. | .slpReqReceive .. | .slpAckReceive .. | .slpNakReceive .. | .slpGoReceive ..
  | .slpCancelReceive .. | .sleepRspTimeout .. | .sleepEnter .. | .ctxInsert .. | .ctxLookup .. | .ctxCmdComplete ..
  | .frameCtlWrite .. | .egressFrameDelivered .. | .egressUnderrun .. | .msInstall .. | .msRetire .. | .msSwitch ..
  | .msWriteSc .. | .tsSet .. | .tsAdj .. | .acctSnap .. | .laneFailure .. | .ucieLinkReset .. | .hpreset ..
  | .hostRetrain .. | .adapterActive | .l1IdleExpire | .hostL1Request | .todLoad | .creditGrantTimer ..
  | .hostSegmentSend | .queueFlush .. | .flushComplete .. | .qEgclsWrite .. | .imgSave .. | .imgLoad ..
  | .calCommit .. | .bankCopyDone | .calAbort .. | .calgBist .. | .calgAbort .. | .approve .. | .deny .. | .swap ..
  | .graftRecordDone .. | .graftSwitch .. | .lifeEstimate .. | .faultLevelFall .. | .fltAck .. | .fcAck ..
  | .safeExit .. | .smbist .. | .faultForce .. | .fcClassWrite .. | .fcTime0Read .. | .mdioAddress .. | .mdioWrite ..
  | .mdioRead .. | .mdioReadInc .. | .mdioNativeRd .. | .mdioNativeWrite .. | .mdioNativeReadDone .. | .bypass
  | .idcode | .samplePreload .. | .extest .. | .clamp | .highz | .instrAccess .. | .trst .. | .lpiRefresh ..
  | .blockLockChange .. | .pgoodFall | .refMonitorBad .. | .eventMessageSend .. | .tstampMessageSend ..
  | .undefinedOpcode .. | .fetchOutsideLoadedRange .. | .faultRecordRead .. | .glitchDetect | .keyStoreIntegrityFail => true

end Sys2Proof
end

