-- ==== Sys2Proof/Certificates/Slice0/Obligations.lean ====
section
/-! DEFINITION. The statements about the part: each is a proposition over the model, with the rules of the spec it states. -/

open Sys2Proof Sys2Proof.Machine

/-- When commands wait, a step takes the front one off the queue and answers what exec answers for it on the state with
the rest of the queue. This is the model's reading of the block's commands as a queue. -/
def Obligations.StepRunsFrontCommand : Prop :=
  ∀ (s : State) (c : Instr) (rest : List Instr),
    step { s with pending := c :: rest } = exec c { s with pending := rest }

/-- On an empty queue a step answers a next state, in which one more reference tick has passed, the queue is still
empty, and Canopy time has gone on by one modulo 2^48 from Standby upward outside clock-wait and stands elsewhere.
That time passes on an empty queue is the model's choice (log entry 4). -/
def Obligations.IdleStepIsOneReferenceTick : Prop :=
  ∀ s : State, s.pending = [] →
    ∃ t, step s = .next t ∧ t.now = s.now + 1 ∧ t.pending = [] ∧
      (s.power.mode ≠ .off → s.power.mode ≠ .dormant → s.power.clockWait = false →
        t.canopy.time = (s.canopy.time + 1) % 2 ^ 48) ∧
      (s.power.mode = .off ∨ s.power.mode = .dormant ∨ s.power.clockWait = true → t.canopy.time = s.canopy.time)

/-- At reset the part is in Dormant with the wake cause POWER_ON pending, every channel domain is off and in sub-state
OFF with its pads held and its posted-write buffer empty, no command waits, and every register field reads its reset
value. The register store then holds at most one entry for a field, each within its field's width and other than its
reset value, and every byte memory is in the canonical form; the two forms are the model's own. -/
def Obligations.ResetIsDormantWithPowerOnPending : Prop :=
  State.reset.power.mode = .dormant ∧ State.reset.power.wake = some ⟨1, 0, 0, 0⟩ ∧ State.reset.pending = [] ∧
    (∀ c, (State.reset.ch c).pst = .off ∧ (State.reset.ch c).sub = .off ∧ (State.reset.ch c).pad.held = true ∧
      (State.reset.ch c).posted = []) ∧
    (∀ f, State.reset.rd f = f.reset) ∧ State.reset.regsOk ∧ State.reset.memOk

/-- For every state and every command, and for a tick: if each register field has at most one entry and each entry lies
within its field's width and differs from its reset value, the same holds after a step. So no access, message, event
or program ever puts into a field a value the field cannot hold. -/
def Obligations.EveryStepKeepsRegisterStoreCanonical : Prop :=
  ∀ s t : State, step s = .next t → s.regsOk → t.regsOk

/-- For every state and every command, and for a tick: a revocation bit once set stays set, an identity key once blanked
stays blanked, spare and lane records are only added to, a vendor session once used stays used, and what the factory
programmed into OTP stays. -/
def Obligations.OneTimeMemoryIsNeverUndone : Prop :=
  ∀ s t : State, step s = .next t → s.otp.onlyOn t.otp

/-- Every command answers a next state, whose queue of waiting commands is the one it was given, and what a command
takes as happening in its own cycle does not outlast it (log entry 9). So the part never faults and never refuses,
and a queue is worked through in its order. -/
def Obligations.CommandsLeaveTheQueueAlone : Prop :=
  ∀ (i : Instr) (s : State), ∃ t, exec i s = .next t ∧ t.pending = s.pending ∧ (s.cyc = CycSt.none → t.cyc = CycSt.none)

/-- RC_READY arms the REFB monitor outside Off; XSD_DELAY_EXPIRE arms the REFA monitor, which starts from bad; an armed
monitor that qualifies reports good, and outside clock-wait and with the reference not lost changes nothing else; a
monitor of a reference not in use reports bad and changes nothing else; and the loss of the reference in use, with
the part out of reset and the loss not yet noted, reports its monitor bad and takes the steps of the loss of a
reference. -/
def Obligations.ReferenceMonitorsAndLossOfReference : Prop :=
  ∀ s : State,
    (s.power.mode ≠ .off → exec .rcReady s = .next { s with clock := { s.clock with rcRdy := true, armedB := true } }) ∧
    (s.clock.rcRdy = true → s.clock.armedA = false →
      exec .xsdDelayExpire s = .next { s with clock := { s.clock with armedA := true, okA := false } }) ∧
    (s.clock.armedA = true → s.power.clockWait = false → s.db .CLK_REFSTAT_REF_LOST = false →
      exec (.refQualify .refA) s = .next { s with clock := { s.clock with okA := true } }) ∧
    (s.clock.armedB = true → s.power.clockWait = false → s.db .CLK_REFSTAT_REF_LOST = false →
      exec (.refQualify .refB) s = .next { s with clock := { s.clock with okB := true } }) ∧
    (s.dg .CLK_REFSTAT_ACTIVE ≠ 1 →
      exec (.refMonitorBad .refA) s = .next { s with clock := { s.clock with okA := false } }) ∧
    (s.dg .CLK_REFSTAT_ACTIVE ≠ 2 →
      exec (.refMonitorBad .refB) s = .next { s with clock := { s.clock with okB := false } }) ∧
    (s.servicesUp = true → s.db .CLK_REFSTAT_REF_LOST = false → s.dg .CLK_REFSTAT_ACTIVE = 1 →
      exec .refLost s = .next ({ s with clock := { s.clock with okA := false } }.loseRef .refA)) ∧
    (s.servicesUp = true → s.db .CLK_REFSTAT_REF_LOST = false → s.dg .CLK_REFSTAT_ACTIVE = 2 →
      exec .refLost s = .next ({ s with clock := { s.clock with okB := false } }.loseRef .refB))

/-- With the part out of reset the service clock restarts on the RC oscillator while the loops are open, setting SVC_SRC
and SVC_SWITCH, and on the service PLL once that has locked with the loops closed, clearing SVC_SRC and setting
SVC_SWITCH. A channel or line PLL of a powered channel that locks with its loop closed sets its own lock bit and no
other, and the live level of source k = 9 of a channel that does not use XT50 falls with its channel PLL's lock; the
service PLL sets SPLL_LOCK. A lock that is lost with the reference good clears its own lock bit and asserts source k
= 9 of its channel, with kind 1 for a channel PLL and 2 for a line PLL, the service PLL only clears SPLL_LOCK. 4 us
without lock end a trunk or branch link by cause 0x15, for a line PLL only where the channel's clocks are those of
XT50. -/
def Obligations.ServiceClockAndLockOfPlls : Prop :=
  ∀ s : State,
    (s.servicesUp = true → s.clock.coasting = true → s.db .CLK_REFSTAT_SVC_SRC = false →
      exec .svcClockRestart s = .next ((s.ds .CLK_REFSTAT_SVC_SRC 1).ds .CLK_EVT_SVC_SWITCH 1)) ∧
    (s.servicesUp = true → s.clock.coasting = false → s.db .CLK_REFSTAT_SPLL_LOCK = true →
      s.db .CLK_REFSTAT_SVC_SRC = true → s.db .CLK_REFSTAT_REF_LOST = false →
      exec .svcClockRestart s = .next ((s.ds .CLK_REFSTAT_SVC_SRC 0).ds .CLK_EVT_SVC_SWITCH 1)) ∧
    (∀ c : Ch, s.servicesUp = true → s.clock.coasting = false → s.powered c = true →
      ∃ t, exec (.pllLock (.channel c)) s = .next t ∧
        (∀ d : Ch, (t.dg .CLK_PLLSTAT_LOCK).testBit d.val = (decide (d = c) || (s.dg .CLK_PLLSTAT_LOCK).testBit d.val)) ∧
        t.dg .CLK_LPLLSTAT_LOCK = s.dg .CLK_LPLLSTAT_LOCK ∧ (s.clockTyp c ≠ 7 → t.live (.ch c 9) = false)) ∧
    (∀ k : Fin 8, s.servicesUp = true → s.clock.coasting = false → s.powered ⟨k.val, by omega⟩ = true →
      ∃ t, exec (.pllLock (.line k)) s = .next t ∧
        (∀ d : Fin 8, (t.dg .CLK_LPLLSTAT_LOCK).testBit d.val = (decide (d = k) || (s.dg .CLK_LPLLSTAT_LOCK).testBit d.val)) ∧
        t.dg .CLK_PLLSTAT_LOCK = s.dg .CLK_PLLSTAT_LOCK) ∧
    (s.servicesUp = true → s.clock.coasting = false → s.db .CLK_REFSTAT_REF_LOST = false →
      exec (.pllLock .service) s = .next (s.ds .CLK_REFSTAT_SPLL_LOCK 1)) ∧
    (∀ c : Ch, (s.dg .CLK_PLLSTAT_LOCK).testBit c.val = true → s.db .CLK_REFSTAT_REF_LOST = false →
      exec (.pllLockLoss (.channel c)) s = .next ((s.ds .CLK_PLLSTAT_LOCK
        (setBitTo (s.dg .CLK_PLLSTAT_LOCK) c.val false)).raiseLevel (.ch c 9) 1 0)) ∧
    (∀ k : Fin 8, (s.dg .CLK_LPLLSTAT_LOCK).testBit k.val = true → s.db .CLK_REFSTAT_REF_LOST = false →
      exec (.pllLockLoss (.line k)) s = .next ((s.ds .CLK_LPLLSTAT_LOCK
        (setBitTo (s.dg .CLK_LPLLSTAT_LOCK) k.val false)).raiseLevel (.ch ⟨k.val, by omega⟩ 9) 2 0)) ∧
    exec (.pllLockLoss .service) s = .next (s.ds .CLK_REFSTAT_SPLL_LOCK 0) ∧
    (∀ c : Ch, (s.dg .CLK_PLLSTAT_LOCK).testBit c.val = false → s.db .CLK_REFSTAT_REF_LOST = false → isSeg c = false →
      exec (.pllUnlockTimeout (.channel c)) s = .next (s.linkLoss c 0x15 false)) ∧
    (∀ k : Fin 8, (s.dg .CLK_LPLLSTAT_LOCK).testBit k.val = false → s.db .CLK_REFSTAT_REF_LOST = false →
      s.clockTyp ⟨k.val, by omega⟩ = 7 →
      exec (.pllUnlockTimeout (.line k)) s = .next (s.linkLoss ⟨k.val, by omega⟩ 0x15 false))

/-- A write of a clock-enable register from outside lands by the register's own effect. GATE_CLOSE of a channel block
that waits to close, with no posted write for the block in the channel's buffer, closes it: the gate waits no more,
the other waiting gates stay, and what follows is the closing of that block's gate. GATE_CLOSE of a service block
only ends its wait. -/
def Obligations.ClockGatesCloseAfterWaitingWrites : Prop :=
  ∀ s : State,
    (∀ (src : Src) (v : Word), s.arrivesDev src .clk →
      exec (.clockEnableWrite src .svcen v) s = .next ((s.landD .clk .plain 0x10 v.toNat 0x10010).reply 0)) ∧
    (∀ (src : Src) (c : Ch) (v : Word), s.arrivesDev src .clk →
      exec (.clockEnableWrite src (.chen c) v) s =
        .next ((s.landD .clk .plain (0x100 + 4 * c.val) v.toNat (0x10100 + 4 * c.val)).reply 0)) ∧
    (∀ (c : Ch) (b : Slot), s.clock.gates.contains (Gate.chan c b) = true → s.postedFor c b = false →
      exec (.gateClose (.chan c b)) s =
        .next ({ s with clock := { s.clock with gates := s.clock.gates.filter (· ≠ Gate.chan c b) } }.gateShut c b)) ∧
    (∀ i : Fin 5, exec (.gateClose (.svc i)) s =
      .next { s with clock := { s.clock with gates := s.clock.gates.filter (· ≠ Gate.svc i) } })

/-- A request that arrives from outside. Standby asked for in Active with no mode change under way begins its
preparation, after every powered channel has been brought to it: a channel in IDLE, TRAINING, UP or LPI is in IDLE
with its link control at STOP, and with cause 0x07 recorded where its link was up; one in MAINT, QUARANTINE or SLEEP
keeps its sub-state, and records no cause; the pads of each are latched, its ingress frames stay, and its egress
queues stay but for a frame that was on the line; a channel that is not powered stays as it was. Service asked for
there begins draining every channel that is on, and an asked-for power-up ends. Active asked for with no change
under way, Standby or Service asked for outside Active or during another change, and Dormant asked for outside
Active and Standby are rejected, setting REQ_REJ and nothing else. Active asked for while Standby is prepared ends
the preparation and lets the votes take effect, and once it is ready has the PLLs locked again first. Dormant asked
for in Active or Standby in whose cycle an enabled wake source's condition holds only sets SLEEP_ABORTED_WAKE; with
none it passes the commit point of Dormant entry, whatever change of mode is under way: MODE is Dormant with every
pad held, KEYGATE closed and no wake pending, and every channel's domain is off, or powering off until the writes
posted to it have landed. That a Standby or Service request is rejected during another change is the model's reading
(log entry 23), and that a domain powers off only once its posted writes have landed is that of R402. -/
def Obligations.ModeRequestsMoveThePart : Prop :=
  ∀ (s : State) (src : Src), s.arrivesDev src .pwr →
    (s.power.mode = .active → s.power.chg = .none →
      (∃ t, exec (.reqStandby src) s = .next t ∧ t.power.chg = .stbyPrep ∧ t.power.mode = .active ∧
        ∀ c, (s.powered c = false → t.ch c = s.ch c) ∧
          (s.powered c = true → (t.ch c).pad.held = true ∧ (t.ch c).queue.ing = (s.ch c).queue.ing ∧
            ((s.ch c).queue.line = none → (t.ch c).queue.eg = (s.ch c).queue.eg) ∧
            ((s.ch c).sub ∈ [.idle, .training, .up, .lpi] →
              (t.ch c).sub = .idle ∧ (isSeg c = false → (t.ch c).link.st = .stop) ∧ (isSeg c = true → (t.ch c).seg.st = .stop) ∧
              (s.linkLive c = true → isSeg c = false → t.cg c .LINK_DROP_CAUSE = 7) ∧
              (s.linkLive c = true → isSeg c = true → t.cg c .SEG_DROP_CAUSE = 7)) ∧
            ((s.ch c).sub ∈ [.maint, .quarantine, .sleep] →
              (t.ch c).sub = (s.ch c).sub ∧ t.cg c .LINK_DROP_CAUSE = s.cg c .LINK_DROP_CAUSE ∧
              t.cg c .SEG_DROP_CAUSE = s.cg c .SEG_DROP_CAUSE))) ∧
      (∃ t, exec (.reqService src) s = .next t ∧ t.power.chg = .service ∧ t.power.mode = .active ∧
        ∀ c, ((s.ch c).pst = .on → (t.ch c).pst = .draining) ∧ ((s.ch c).pst = .poweringUp → (t.ch c).pst = .off)) ∧
      exec (.reqActive src) s = .next ((s.ds .PWR_EVT_REQ_REJ 1).reply 0)) ∧
    (s.power.mode ≠ .active ∨ s.power.chg ≠ .none →
      exec (.reqStandby src) s = .next ((s.ds .PWR_EVT_REQ_REJ 1).reply 0) ∧
      exec (.reqService src) s = .next ((s.ds .PWR_EVT_REQ_REJ 1).reply 0)) ∧
    (s.power.mode ≠ .active → exec (.reqActive src) s = .next ((s.ds .PWR_EVT_REQ_REJ 1).reply 0)) ∧
    (s.power.mode = .active → s.power.chg = .stbyPrep →
      exec (.reqActive src) s = .next (({ s with power := { s.power with chg := .none } }.evalVotes).reply 0)) ∧
    (s.power.mode = .active → s.power.chg = .stbyReady →
      exec (.reqActive src) s = .next (({ s.relock with power := { s.relock.power with chg := .none } }.evalVotes).reply 0)) ∧
    (∀ wake, s.power.mode ≠ .active → s.power.mode ≠ .standby →
      exec (.reqDormant src wake) s = .next (({ s with cyc := CycSt.none }.ds .PWR_EVT_REQ_REJ 1).reply 0)) ∧
    (∀ wake, s.power.mode = .active ∨ s.power.mode = .standby → s.power.wakeNow = true ∨ wake = true →
      exec (.reqDormant src wake) s = .next (({ s with cyc := CycSt.none }.ds .TAP_STAT_SLEEP_ABORTED_WAKE 1).reply 0)) ∧
    (s.power.mode = .active ∨ s.power.mode = .standby → s.power.wakeNow = false →
      ∃ t, exec (.reqDormant src false) s = .next t ∧ t.power.mode = .dormant ∧ t.power.chg = .dormantEntry ∧
        t.power.wake = none ∧ t.dg .KEYGATE_OPEN = 0 ∧ ∀ c, (t.ch c).pad.held = true ∧
          ((s.ch c).posted = [] → (s.ch c).pst ≠ .poweringDown → (t.ch c).pst = .off) ∧
          ((t.ch c).pst = .off ∨ (t.ch c).pst = .poweringDown))

/-- With Standby prepared, STANDBY_PREP_DONE unlocks every channel and line PLL, powers Heartwood off and makes the part
ready; only then an L2 request of the host is accepted, and at any other time it changes nothing; accepted, it puts
the UCIe link in L2 and the part in Standby with every pad held, and leaves a channel whose pad was held as it was.
The exit from Standby puts the link in active, records the wake that started it, or cause 5 where none did, has the
channel PLLs of the powered channels locked where the loops are closed, and returns the part to Active. Service is
entered once every domain is off after a Service request. -/
def Obligations.StandbyAndServiceAreEntered : Prop :=
  ∀ s : State,
    (s.power.chg = .stbyPrep →
      ∃ t, exec .standbyPrepDone s = .next t ∧ t.power.chg = .stbyReady ∧ t.dg .CLK_PLLSTAT_LOCK = 0 ∧
        t.dg .CLK_LPLLSTAT_LOCK = 0 ∧ t.heart = HeartSt.init) ∧
    (s.power.chg = .stbyReady →
      ∃ t, exec .hostL2Request s = .next t ∧ t.power.mode = .standby ∧ t.power.chg = .none ∧ t.host.ul = .l2 ∧
        ∀ c, (t.ch c).pad.held = true ∧ ((s.ch c).pad.held = true → t.ch c = s.ch c)) ∧
    (s.power.chg ≠ .stbyReady → exec .hostL2Request s = .next s) ∧
    (s.power.mode = .standby →
      ∃ t, exec .standbyExit s = .next t ∧ t.power.mode = .active ∧ t.power.chg = .none ∧ t.power.wake = none ∧
        t.host.ul = .active ∧
        t.dg .TAP_WAKECAUSE_CAUSE = (match s.power.wake with | some w => w.cause | none => 5) % 2 ^ (DFld.info .TAP_WAKECAUSE_CAUSE).wid ∧
        (s.clock.coasting = false → ∀ c, (t.dg .CLK_PLLSTAT_LOCK).testBit c.val = s.powered c)) ∧
    (s.power.chg = .service → (∀ c, (s.ch c).pst = .off) →
      ∃ t, exec .serviceEnter s = .next t ∧ t.power.mode = .service ∧ t.power.chg = .none)

/-- A WAKE pin that has been high is seen as high from then on; where its wake is enabled it is kept in Dormant where no
wake is pending, or in the place of one of the same cycle with a higher code; in Standby it starts the exit, where
no change runs and no wake is pending; and in Active it is noted for its own cycle. An MDIO address frame that is
enabled acts the same and carries its port address. In Dormant a pending wake asserts INH and starts the reference
again; with the supplies up, and a reference that Boot may use or the cause POWER_ON, the part enters Boot with its
wake recorded and Canopy time at 0; where the wake path takes too long because the rails or the reference failed,
the part stays in Dormant with INH released and what failed recorded. The end of Dormant entry, once no posted write
waits, releases INH, or with a wake pending since its commit point sets LATE_WAKE and begins the wake path with INH
kept. -/
def Obligations.WakesAreKeptAndServed : Prop :=
  ∀ s : State,
    (s.db .TAP_WAKEEN_PIN = true → s.power.mode = .dormant → s.power.wake = none →
      exec .wakePinQualify s = .next { s with power := { s.power with wake := some ⟨4, 0, 0, s.now⟩, wakePin := (true, s.now) } }) ∧
    (∀ w, s.db .TAP_WAKEEN_PIN = true → s.power.mode = .dormant → s.power.wake = some w →
      exec .wakePinQualify s = .next { s with power := { s.power with
        wake := if w.time = s.now ∧ 4 < w.cause then some ⟨4, 0, 0, s.now⟩ else some w, wakePin := (true, s.now) } }) ∧
    (s.db .TAP_WAKEEN_PIN = true → s.power.mode = .standby → s.power.chg = .none → s.power.wake = none →
      exec .wakePinQualify s = .next { s with power := { s.power with
        wake := some ⟨4, 0, 0, s.now⟩, chg := .stbyExit, wakeNow := true, wakePin := (true, s.now) } }) ∧
    (s.db .TAP_WAKEEN_PIN = true → s.power.mode = .active →
      exec .wakePinQualify s = .next { s with power := { s.power with wakeNow := true, wakePin := (true, s.now) } }) ∧
    (s.db .TAP_WAKEEN_PIN = false →
      exec .wakePinQualify s = .next { s with power := { s.power with wakePin := (true, s.now) } }) ∧
    (∀ p : Fin 32, s.db .TAP_WAKEEN_MDIO = true → s.power.mode = .dormant → s.power.wake = none →
      exec (.mdioAddressWake p) s = .next { s with power := { s.power with wake := some ⟨2, 0, p.val, s.now⟩ } }) ∧
    (∀ (p : Fin 32) w, s.db .TAP_WAKEEN_MDIO = true → s.power.mode = .dormant → s.power.wake = some w →
      exec (.mdioAddressWake p) s = .next { s with power := { s.power with
        wake := if w.time = s.now ∧ 2 < w.cause then some ⟨2, 0, p.val, s.now⟩ else some w } }) ∧
    (s.power.mode = .dormant → s.power.chg = .none → s.power.wake.isSome = true →
      exec .dormantWake s = .next { s with
        clock := { s.clock with armedA := false, okA := false }
        power := { s.power with chg := .dormantExit, inh := true } }) ∧
    (∀ w, s.power.chg = .dormantExit → s.power.wake = some w → (w.cause = 1 ∨ s.refChoice.isSome = true) →
      ∃ t, exec .dormantExitToBoot s = .next t ∧ t.power.mode = .boot ∧ t.power.chg = .none ∧
        t.canopy.time = 0 ∧ t.power.clockWait = (decide (w.cause = 1) && s.refChoice.isNone) ∧
        t.dg .TAP_WAKECAUSE_CAUSE = w.cause % 2 ^ (DFld.info .TAP_WAKECAUSE_CAUSE).wid) ∧
    (∀ w railsOk, s.power.chg = .dormantExit → s.power.wake = some w →
      railsOk = false ∨ (w.cause ≠ 1 ∧ s.refChoice = none) →
      ∃ t, exec (.railupTimeout railsOk) s = .next t ∧ t.power.mode = s.power.mode ∧ t.power.chg = .none ∧
        t.power.wake = none ∧ t.power.inh = false ∧
        t.dg .TAP_STAT_RAIL_TIMEOUT = (if railsOk then s.dg .TAP_STAT_RAIL_TIMEOUT else 1) ∧
        t.dg .TAP_STAT_REF_TIMEOUT = (if w.cause ≠ 1 ∧ s.refChoice = none then 1 else s.dg .TAP_STAT_REF_TIMEOUT)) ∧
    (s.power.chg = .dormantEntry → (∀ c, (s.ch c).posted = []) →
      (s.power.wake = none → ∃ t, exec .dormantEntryDone s = .next t ∧ t.power.mode = s.power.mode ∧
        t.power.chg = .none ∧ t.power.inh = false ∧ t.otp = s.otp) ∧
      (s.power.wake.isSome = true → ∃ t, exec .dormantEntryDone s = .next t ∧ t.power.mode = s.power.mode ∧
        t.power.chg = .dormantExit ∧ t.power.inh = s.power.inh ∧ t.dg .TAP_STAT_LATE_WAKE = 1))

/-- A VSUP power-on in Off gives the state after reset with the straps read and OTP kept, with what the pins RESET_N,
WAKE, PGOOD and TRST_N read at that moment, and a brown-out below VSUP's reset level puts the part in Off from any
other mode, both leaving the queue alone. A warm reset (RESET_N, the Heartwood watchdog while Heartwood runs,
SOFTRST through the open gate, a supply reset of a rail other than VSUP at a voltage below its reset level) is taken
in every mode but Off, Dormant and Locked-out, leaves the part in Boot and records its kind, unless the part enters
Safe in its cycle; RESET_N and a supply reset hold the part until both are released, which begins the Boot. -/
def Obligations.ResetsOfThePart : Prop :=
  ∀ s : State,
    (∀ x : Fin 4, s.power.mode = .off →
      exec (.vsupPowerOn x) s = .next (({ State.reset with
        pending := s.pending, otp := s.otp, now := s.now, free := s.free, bus := s.bus
        power := { State.reset.power with rstLow := s.power.rstLow, wakePin := s.power.wakePin, pgood := s.power.pgood }
        jtag := { State.reset.jtag with trst := s.jtag.trst } }).ds .TAP_STRAP_XSD x.val)) ∧
    (∀ mv, s.power.mode ≠ .off → mv < 2350 →
      ∃ t, exec (.vsupBrownOut mv) s = .next t ∧ t.power.mode = .off ∧ t.power.wake = none ∧ t.regs = [] ∧
        t.chans = State.reset.chans ∧ t.pending = s.pending ∧ (s.heart.op = none → t.otp = s.otp)) ∧
    (s.power.mode ≠ .off → s.power.mode ≠ .dormant → s.power.mode ≠ .lockedOut →
      (∀ toSafe, (toSafe = true → s.power.mode ≠ .safe) →
        ∃ t, exec (.resetNAssert toSafe) s = .next t ∧ t.power.mode = .boot ∧ t.power.rstLow = true ∧ t.dg .TAP_RSTCAUSE_KIND = 2 ∧
          t.power.held = .resetN :: s.power.held.filter (· ≠ .resetN) ∧ ∀ c, (t.ch c).pst = .off) ∧
      (∀ toSafe, (toSafe = true → s.power.mode ≠ .safe) → s.heartOn = true →
        exec (.heartWatchdogExpire toSafe) s = .next (s.warmReset .heartWdog)) ∧
      (∀ src v toSafe, (toSafe = true → s.power.mode ≠ .safe) → s.arrivesDev src .pwr → v.toNat.testBit 0 = true →
        s.db .KEYGATE_OPEN = true →
        ∃ t, exec (.softrst src v toSafe) s = .next t ∧ t.dg .TAP_RSTCAUSE_KIND = 3 ∧ t.dg .KEYGATE_OPEN = 0 ∧
          (∀ c, (t.ch c).pst = .off) ∧ (s.clock.okA = true → s.clock.okB = true → t.power.mode = .boot)) ∧
      (∀ (rail : Fin 6) mv toSafe, (toSafe = true → s.power.mode ≠ .safe) → rail.val ≠ 0 →
        mv * 10 < s.resetLevel rail → s.power.dip = none →
        exec (.supplyReset rail mv toSafe) s = .next ({ (s.writeDip ⟨rail, mv, s.now, false⟩) with
          power := { s.power with warn := [], dip := none } }.warmReset .supply rail))) ∧
    (s.power.mode = .safe → exec (.resetNAssert true) s = .next { s with power := { s.power with rstLow := true } } ∧ exec (.heartWatchdogExpire true) s = .next s) ∧
    ((s.warmReset .supply).dg .TAP_RSTCAUSE_KIND = 5 ∧ .supply ∈ (s.warmReset .supply).power.held ∧
      (s.warmReset .supply).power.mode = .boot ∧ (s.warmReset .heartWdog).dg .TAP_RSTCAUSE_KIND = 4) ∧
    (s.power.held = [.resetN] →
      exec .resetNRelease s = .next ({ s with power := { s.power with rstLow := false } }.enterBoot)) ∧
    (s.power.held = [.supply] → exec .supplyResetRelease s = .next s.enterBoot) ∧
    (s.power.held = [.resetN, .supply] →
      exec .resetNRelease s = .next { s with power := { s.power with rstLow := false, held := [.supply] } } ∧
      exec .supplyResetRelease s = .next { s with power := { s.power with held := [.resetN] } })

/-- A rail that is monitored and in no warning, at a voltage below its warning level, enters one: it is listed, the dip
record names it with its minimum where no dip runs, and VSUP and VCORE dips count in TAP_DIPCNT; below Standby no
channel changes. With the services up its bit of PWR_SUPSTAT.WARN reads 1, PWR_EVT.DIP_START is set, the supply-
warning source 384 is live and asserted, no calibration of the part is left running, and every channel that is then
powered holds the SUPPLY freeze mask 0x6F and SEQ_SYSEVT.SUPPLY_WARN. The last rail to leave a warning starts the
hold of the record, which then holds the rail that went lowest, its minimum and the duration in microseconds,
rounded down, which is the model's choice (log entry 33, DESIGN CHOICE); with the services up it sets DIP_END and
SUPPLY_OK. The end of the hold closes the record and clears the SUPPLY freeze mask of every powered channel. -/
def Obligations.SupplyWarningsAreRecordedAndReported : Prop :=
  ∀ s : State,
    (∀ (rail : Fin 6) mv, s.monitored rail = true → s.power.warn.contains rail.val = false → mv * 10 < s.warnLevel rail →
      (s.servicesUp = false →
        ∃ t, exec (.supplyWarnStart rail mv) s = .next t ∧ t.power.warn = rail.val :: s.power.warn ∧
          (s.power.dip = none → t.power.dip = some ⟨rail, mv, s.now, false⟩) ∧ t.chans = s.chans ∧
          (rail.val ≤ 1 → t.dg .TAP_DIPCNT_COUNT = (s.dg .TAP_DIPCNT_COUNT + 1) % 2 ^ (DFld.info .TAP_DIPCNT_COUNT).wid)) ∧
      (s.servicesUp = true →
        ∃ t, exec (.supplyWarnStart rail mv) s = .next t ∧ t.power.warn = rail.val :: s.power.warn ∧
          (s.power.dip = none → t.power.dip = some ⟨rail, mv, s.now, false⟩) ∧
          (t.dval .PWR_SUPSTAT_WARN).testBit rail.val = true ∧ t.dg .PWR_EVT_DIP_START = 1 ∧
          (rail.val ≤ 1 → t.dg .TAP_DIPCNT_COUNT = (s.dg .TAP_DIPCNT_COUNT + 1) % 2 ^ (DFld.info .TAP_DIPCNT_COUNT).wid) ∧
          t.live (.dev 0) = true ∧ t.dg (.FC_SRC_STICKY 0) = 1 ∧ t.cal.run = none ∧
          ∀ c, t.powered c = true → t.cg c .DSP_FRZHW_SUPPLY = 0x6F ∧ t.cg c .SEQ_SYSEVT_SUPPLY_WARN = 1)) ∧
    (∀ (rail : Fin 6) mv d, s.power.warn = [rail.val] → s.power.dip = some d →
      ∃ t, exec (.supplyWarnEnd rail mv) s = .next t ∧ t.power.warn = [] ∧
        t.power.dip = some { s.dipMin d rail mv with hold := true } ∧
        t.dg .TAP_DIPDUR_US = min ((s.now - d.start) / 25) (2 ^ 32 - 1) ∧
        t.dg .TAP_DIPLOG_RAIL = (s.dipMin d rail mv).rail % 2 ^ (DFld.info .TAP_DIPLOG_RAIL).wid ∧
        (s.servicesUp = true → t.dg .PWR_EVT_DIP_END = 1 ∧
          ∀ c, s.powered c = true → t.cg c .SEQ_SYSEVT_SUPPLY_OK = 1)) ∧
    (∀ d, s.power.dip = some d → d.hold = true →
      ∃ t, exec .dipholdExpire s = .next t ∧ t.power.dip = none ∧
        ∀ c, s.powered c = true → t.cg c .DSP_FRZHW_SUPPLY = 0)

/-- With no change running and the part out of reset and not in Locked-out, where VID keeps its value and PGOOD is
ignored: a target above the point in force starts a raise and a target below it, held for its time, a lowering; each
writes the target's code to VID and nothing else but the change under way. A fall of PGOOD is noted in the change.
In a raise with PGOOD_EN set, PGOOD rising after a fall completes the change; where it does not, the settling time
does, OP takes the target, OP_DONE is set, and in a raise with PGOOD_EN set the missing PGOOD is noted and asserts
device source 3. -/
def Obligations.OperatingPointChanges : Prop :=
  ∀ s : State,
    (s.servicesUp = true → s.power.mode ≠ .lockedOut → s.power.opChg = none → s.dg .PWR_OP_STAT_OP < s.opTarget →
      exec .opRaiseStart s = .next { s.ds .PWR_OP_STAT_VID s.opTarget with
        power := { s.power with opChg := some ⟨s.opTarget, true, false⟩ } }) ∧
    (s.servicesUp = true → s.power.mode ≠ .lockedOut → s.power.opChg = none → s.opTarget < s.dg .PWR_OP_STAT_OP →
      exec .opHoldExpire s = .next { s.ds .PWR_OP_STAT_VID s.opTarget with
        power := { s.power with opChg := some ⟨s.opTarget, false, false⟩ } }) ∧
    (s.power.mode = .lockedOut → exec .opRaiseStart s = .next s ∧ exec .opHoldExpire s = .next s ∧
      exec .pgoodFall s = .next { s with power := { s.power with pgood := false } } ∧
      exec .pgoodRise s = .next { s with power := { s.power with pgood := true } }) ∧
    (s.power.mode ≠ .lockedOut → exec .pgoodFall s = .next { s with power := { s.power with
      pgood := false, opChg := s.power.opChg.map fun o => { o with sawLow := true } } }) ∧
    (s.power.opChg = none → exec .pgoodRise s = .next { s with power := { s.power with pgood := true } }) ∧
    (∀ o, s.power.opChg = some o → o.raise = true → o.sawLow = true → s.db .PWR_OP_CTL_PGOOD_EN = true →
      s.power.mode ≠ .lockedOut →
      ∃ t, exec .pgoodRise s = .next t ∧ t.dg .PWR_OP_STAT_OP = o.target % 2 ^ (DFld.info .PWR_OP_STAT_OP).wid ∧
        t.dg .PWR_EVT_OP_DONE = 1 ∧ t.power.opChg = none ∧ t.power.pgood = true) ∧
    (∀ o, s.power.opChg = some o → (o.raise = false ∨ s.db .PWR_OP_CTL_PGOOD_EN = false) →
      ∃ t, exec .vsettleExpire s = .next t ∧ t.dg .PWR_OP_STAT_OP = o.target % 2 ^ (DFld.info .PWR_OP_STAT_OP).wid ∧
        t.dg .PWR_EVT_OP_DONE = 1 ∧ t.power.opChg = none) ∧
    (∀ o, s.power.opChg = some o → o.raise = true → s.db .PWR_OP_CTL_PGOOD_EN = true →
      exec .vsettleExpire s = .next (((s.opDone o).ds .PWR_EVT_PGOOD_TMO 1).assertSrc (.dev 3) 0 o.target))

/-- A measurement taken with the part out of reset joins the last ten. While their mean stays at or below 125 degrees
and no TEMP_HI is in force, it leaves every channel and the mode as they were and the over-temperature source's live
level low. On an -H part the first mean above 125 degrees sets TEMP_HI, in PWR_EVT and in SEQ_SYSEVT of every
powered channel, and the first one at 125 degrees or below sets TEMP_OK there; on an -E part neither is set. A mean
above the grade maximum, 150 degrees of an -H part and 125 of an -E part, has the over-temperature source 388 live,
and asserts it where it was not; one at or below it has the source's level low. When the time after TEMP_HI runs
out, every trunk channel still in XT50 loses its link by cause 0x08 with a restart due, in the order of R334. -/
def Obligations.TemperatureMeasurements : Prop :=
  ∀ s : State,
    (∀ q : Int, s.servicesUp = true →
      ∃ t, exec (.tempMeasure q) s = .next t ∧ t.power.temps = (q :: s.power.temps).take 10 ∧
        (s.power.hot = false → ((q :: s.power.temps).take 10).sum ≤ 500 * ((q :: s.power.temps).take 10).length →
          t.power.hot = false ∧ t.chans = s.chans ∧ t.power.mode = s.power.mode ∧ t.live (.dev 4) = false) ∧
        (s.otp.grade = 1 → s.power.hot = false →
          500 * ((q :: s.power.temps).take 10).length < ((q :: s.power.temps).take 10).sum →
          t.power.hot = true ∧ t.dg .PWR_EVT_TEMP_HI = 1 ∧ ∀ c, t.powered c = true → t.cg c .SEQ_SYSEVT_TEMP_HI = 1) ∧
        (s.otp.grade = 1 → s.power.hot = true →
          ((q :: s.power.temps).take 10).sum ≤ 500 * ((q :: s.power.temps).take 10).length →
          t.power.hot = false ∧ t.dg .PWR_EVT_TEMP_OK = 1 ∧ ∀ c, s.powered c = true → t.cg c .SEQ_SYSEVT_TEMP_OK = 1) ∧
        (s.otp.grade ≠ 1 → t.power.hot = s.power.hot ∧ t.dg .PWR_EVT_TEMP_HI = s.dg .PWR_EVT_TEMP_HI ∧
          t.dg .PWR_EVT_TEMP_OK = s.dg .PWR_EVT_TEMP_OK) ∧
        ((if s.otp.grade = 1 then 600 else 500) * ((q :: s.power.temps).take 10).length < ((q :: s.power.temps).take 10).sum →
          t.live (.dev 4) = true ∧ (s.live (.dev 4) = false → t.dg (.FC_SRC_STICKY 4) = 1)) ∧
        (((q :: s.power.temps).take 10).sum ≤ (if s.otp.grade = 1 then 600 else 500) * ((q :: s.power.temps).take 10).length →
          t.live (.dev 4) = false)) ∧
    (s.power.hot = true → exec .xthotExpire s = .next
      ((byClass (fun c => s.classOfSrc (.ch c 4)) (allCh.filter fun c => isTrunk c && decide (s.cg c .PCS_CTL_TYPE = 7))).foldl
        (fun s c => s.linkLoss c 0x08 true) s))

/-- In Active with no mode change and nothing in the channel's posted-write buffer, a plain write of CHPWR_VOTE from
outside sets the host's four client bits; where they change from none to some and the domain is off, the domain
starts to power up; where they change from some to none, no other client votes and the domain is on, the channel
starts to drain. The link program's write to it changes nothing, since no port reaches it. -/
def Obligations.VotesPowerAChannelUpAndDrainIt : Prop :=
  ∀ (s : State) (c : Ch) (v : Word),
    (∀ src, s.arrives src c .chpwr → (s.ch c).posted = [] → s.power.mode = .active → s.power.chg = .none →
      (s.cg c .CHPWR_VOTE_HOST = 0 → v.toNat % 16 ≠ 0 → (s.ch c).pst = .off →
        ∃ t, exec (.chpwrVoteWrite src c .plain v) s = .next t ∧ (t.ch c).pst = .poweringUp ∧
          t.cg c .CHPWR_VOTE_HOST = v.toNat % 16) ∧
      (s.cg c .CHPWR_VOTE_HOST ≠ 0 → v.toNat % 16 = 0 → s.cg c .CHPWR_VOTE_CLIENTS = 0 → (s.ch c).pst = .on →
        ∃ t, exec (.chpwrVoteWrite src c .plain v) s = .next t ∧ (t.ch c).pst = .draining ∧
          t.cg c .CHPWR_VOTE_HOST = 0)) ∧
    (∀ op, exec (.chpwrVoteWrite .prog c op v) s = .next s)

/-- Outside Standby and its last preparation, where every domain keeps its power state: a domain that is powering up and
still voted for becomes ON with every clock enable set and the substitutions its OTP records name, and CHPWR_EVT.ON
set; where it is not ON in time it is off, its switch stays open, and source k = 9 of the channel asserts. A drain
that is complete sets DRAIN_DONE, one that takes too long discards what is queued and sets DRAIN_TMO, and each then
gives the host's tokens back and powers the domain off. A domain that powers off with no posted write waiting and no
image loading into it is off at once, with the channel in OFF, its pads held, its sequencer stopped and its keys,
SAs and program gone. -/
def Obligations.DomainPowerUpAndPowerOff : Prop :=
  ∀ (s : State) (c : Ch),
    ((s.ch c).pst = .poweringUp → s.retained = false → s.voted c = true →
      ∃ t, exec (.domainPowerUpDone c) s = .next t ∧ (t.ch c).pst = .on ∧ t.cg c .CHPWR_EVT_ON = 1 ∧
        t.dg (.CLK_CHEN_EN c.val) = 0x3FF ∧ t.dg (.CLK_CHEN_CALG c.val) = 1 ∧ (t.ch c).graft.subst = s.otp.subst[c.val] ∧
        ∀ d, d ≠ c → t.ch d = s.ch d) ∧
    ((s.ch c).pst = .poweringUp → s.retained = false →
      exec (.pdonTimeout c) s =
        .next ((s.updCh c fun x => { x with pst := .off, stuckOff := true }).raiseLevel (.ch c 9) 0 0)) ∧
    ((s.ch c).pst = .draining → s.retained = false →
      (s.drained c = true → exec (.drainEnd c) s = .next (((s.cs c .Q_EVT_DRAIN_DONE 1).giveBack c).offNow c)) ∧
      exec (.drainTimeout c) s = .next ((((s.dropAll c).cs c .Q_EVT_DRAIN_TMO 1).giveBack c).offNow c)) ∧
    ((s.ch c).posted = [] → (s.ch c).seq.ld ≠ .image →
      ((s.offNow c).ch c).pst = .off ∧ ((s.offNow c).ch c).sub = .off ∧ ((s.offNow c).ch c).pad.held = true ∧
      ((s.offNow c).ch c).seq.st = .stopped ∧ ((s.offNow c).ch c).frame.tx = [] ∧
      ((s.offNow c).ch c).frame.rx = [] ∧ ((s.offNow c).ch c).seq.pram = [] ∧ ((s.offNow c).ch c).posted = [])

/-- A write of 1 to CHRST from outside with nothing in the posted-write buffer is rejected with CMD_REJ in sub-state
OFF; in any other sub-state, with no debug session and no image loading into the channel, it closes the posted-write
buffer, puts the channel in OFF with its sequencer stopped and its pads held, and leaves KEYGATE closed. One in
whose cycle the program withdraws the last vote on the channel acts as a power-off: in Active the channel starts to
drain, and a drain that has begun is not ended by a reset. When the reset ends, with no posted write waiting and the
channel still voted for, the buffer opens, RST_DONE is set and every clock enable of the channel is set. -/
def Obligations.ChannelResetIsTakenAndEnds : Prop :=
  ∀ (s : State) (c : Ch),
    (∀ src, s.arrives src c .chpwr → (s.ch c).posted = [] →
      ((s.ch c).sub = .off → exec (.channelReset src c false) s = .next (({ s with cyc := CycSt.none }.cs c .CHPWR_EVT_CMD_REJ 1).reply 0)) ∧
      ((s.ch c).sub ≠ .off → s.session = false → (s.ch c).seq.ld ≠ .image →
        ∃ t, exec (.channelReset src c false) s = .next t ∧ (t.ch c).closing = true ∧ (t.ch c).sub = .off ∧
          (t.ch c).seq.st = .stopped ∧ (t.ch c).pad.held = true ∧ t.dg .KEYGATE_OPEN = 0) ∧
      ((s.ch c).sub ≠ .off → (s.ch c).pst = .on → s.power.mode = .active → s.power.chg = .none →
        s.cg c .CHPWR_VOTE_HOST = 0 → s.cg c .CHPWR_VOTE_CLIENTS = 1 →
        ∃ t, exec (.channelReset src c true) s = .next t ∧ (t.ch c).pst = .draining ∧ (t.ch c).closing = false ∧
          (t.ch c).sub = (s.ch c).sub)) ∧
    ((s.ch c).closing = true → (s.ch c).pst = .draining → exec (.channelResetDone c) s = .next s) ∧
    ((s.ch c).closing = true → (s.ch c).pst = .on → (s.ch c).offDue = false → (s.ch c).posted = [] → s.domOk c = true → s.voted c = true →
      ∃ t, exec (.channelResetDone c) s = .next t ∧ (t.ch c).closing = false ∧ t.cg c .CHPWR_EVT_RST_DONE = 1 ∧
        t.dg (.CLK_CHEN_EN c.val) = 0x3FF)

/-- In Boot, out of reset and with OTP not yet loaded, the end of the OTP load with a good mask ROM, good factory trims
and every record read sets OTP_LOADED and FT_VALID, completes a blanking left unfinished, and opens the image
window, or with WAIT = 0 closes it at once; a mask ROM that fails its check asserts device source 399 and Boot goes
no further. BOOT_DONE closes the open window when Heartwood is idle; the end of the waiting time closes it at once,
or after the submission in progress. With the window closed, the end of Boot puts the part in Active and sets
BOOT_END. -/
def Obligations.BootRunsThroughItsWindow : Prop :=
  ∀ s : State,
    (s.power.mode = .boot → s.servicesUp = true → s.db .ID_OTPSTAT_OTP_LOADED = false →
      (∀ ftOk bad, exec (.bootOtpLoadDone false ftOk bad) s = .next (s.assertSrc (.dev 15) 0 0)) ∧
      ∃ t, exec (.bootOtpLoadDone true true []) s = .next t ∧ t.dg .ID_OTPSTAT_OTP_LOADED = 1 ∧ t.dg .ID_OTPSTAT_FT_VALID = 1 ∧
        t.heart.boot = (if s.dg .HEART_BOOTCFG_WAIT = 0 then 5 else 3) ∧
        (s.otp.unfinished = true → t.otp = s.otp.blank) ∧ (s.otp.unfinished = false → t.otp = s.otp)) ∧
    (∀ src, s.arrivesDev src .heart → s.heart.op = none → s.power.mode = .boot → s.heart.boot = 3 →
      exec (.bootDone src) s = .next ({ s with heart := { s.heart with boot := 5 } }.reply 0)) ∧
    (s.heart.boot = 3 → exec .bootWaitExpire s =
      .next { s with heart := { s.heart with boot := if s.heart.submitting then 4 else 5 } }) ∧
    (s.power.mode = .boot → s.servicesUp = true → s.heart.boot = 5 → s.heart.op = none →
      ∃ t, exec .bootEnd s = .next t ∧ t.power.mode = .active ∧ t.dg .HEART_EVT_BOOT_END = 1 ∧ t.heart.boot = 0)

/-- A word written to HEART_DATA while no submission runs is counted, and stored while it lies within 32 KiB; ABORT
clears the staged header, data and count; SUBMIT of an idle Heartwood in Active starts a submission. A verdict
against the image, by the checks of R351 in their order, ends it with status 1 and the number of the first check
that failed, clears the staging and asserts device source 395 with that number; a good key-management image starts
its OTP write; a good link image is kept with its channels and its measurement, the start of the SHA-512 of its
header, and loaded from the first on; a good image has a signature that verifies under its public key over its
header, and a payload whose SHA-512 is the one in the header. A channel whose program is loaded runs from its entry
point. -/
def Obligations.ImagesAreStagedJudgedAndLoaded : Prop :=
  ∀ s : State,
    (∀ src v, s.arrivesDev src .heart → s.heart.submitting = false →
      (s.dg .HEART_DCOUNT_VALUE + 4 ≤ 32768 → exec (.heartDataWrite src v) s =
        .next (({ s.ds .HEART_DCOUNT_VALUE (s.dg .HEART_DCOUNT_VALUE + 4) with heart := { s.heart with
          data := s.heart.data.writeBytes (s.dg .HEART_DCOUNT_VALUE) (leBytes v.toNat) } }).reply 0)) ∧
      (32768 < s.dg .HEART_DCOUNT_VALUE + 4 → exec (.heartDataWrite src v) s =
        .next ((s.ds .HEART_DCOUNT_VALUE (s.dg .HEART_DCOUNT_VALUE + 4)).reply 0))) ∧
    (∀ src, s.arrivesDev src .heart → s.heart.op = none →
      (∃ t, exec (.heartAbort src) s = .next t ∧ t.heart.data = [] ∧ t.dg .HEART_DCOUNT_VALUE = 0 ∧
        (∀ k, t.dg (.HEART_HDR_DATA k) = 0) ∧ t.chans = s.chans ∧ t.otp = s.otp) ∧
      (s.power.mode = .active →
        exec (.submit src) s = .next ({ s with heart := { s.heart with op := some .submit } }.reply 0))) ∧
    (s.heart.op = some .submit → s.heart.img = none →
      (s.imageReason ≠ 0 → exec .imageVerdict s =
        .next ((((s.heartRes 1 1 s.imageReason).clearStaging).updHeart HeartSt.done).assertSrc (.dev 11)
          s.imageReason (s.hw 2))) ∧
      (s.imageReason = 0 → bits (s.hw 1) 23 16 = 2 → exec .imageVerdict s = .next { s with
        heart := { s.heart with op := some (.keyImage s.keyOpOf.1 s.keyOpOf.2.1 s.keyOpOf.2.2.1) } }) ∧
      (s.imageReason = 0 → bits (s.hw 1) 23 16 ≠ 2 → exec .imageVerdict s = .next ({ s with
        heart := { s.heart with
          img := some ⟨s.hw 3, s.hw 4, bits (s.hw 5) 15 0, s.hw 6 + s.hw 7 * m32, s.heart.data, ofLe ((sha512 s.hdr).take 32)⟩
          todo := chansOf (s.hw 2) } }.feed)) ∧
      (s.imageReason = 0 → edVerify ((s.hdr.drop 96).take 32) (s.hdr.take 192) (s.hdr.drop 192) = true ∧
        sha512 (s.heart.data.readBytes 0 (s.hw 4)) = (s.hdr.drop 32).take 64)) ∧
    (∀ c : Ch, (s.ch c).seq.st = .loading → s.loadable c = true →
      (∀ i, (s.ch c).seq.ld = .image → s.heart.img = some i → exec (.loadComplete c) s =
        .next ((((s.loadImg c i).updHeart fun h => { h with todo := h.todo.filter (· ≠ c) }).loadEnded c).feed)) ∧
      (∀ id, (s.ch c).seq.ld = .rom id → exec (.loadComplete c) s = .next (((s.loadRom c id).loadEnded c).feed))) ∧
    (∀ (c : Ch) (i : Img), ((s.loadImg c i).ch c).seq.st = .running ∧ ((s.loadImg c i).ch c).seq.wait = none ∧
      ((s.loadImg c i).ch c).seq.pc = i.addr / 4 % 2 ^ (CFld.info .SEQ_LOAD_BASE).wid ∧
      ((s.loadImg c i).ch c).seq.meas = i.meas ∧ (s.loadImg c i).cg c .SEQ_IMG_SRC = 2)

/-- With the gate that KEYGATE shows open before the cycle and Heartwood idle a write of HEART_LCCMD from outside closes
the gate and starts the OTP write it names where its conditions hold: KEY_PROG of a customer slot neither populated
nor revoked, in lifecycle 1, with the hash in HEART_KEYHASH; DEPLOY in lifecycle 1 with a usable customer slot;
RETURN in lifecycle 1; SCRAP in lifecycle 1 or 3; RB_SET within its bounds. RETURN in lifecycle 2 starts the check
of its token. The end of KEY_PROG puts the hash into its slot and clears HEART_KEYHASH; DEPLOY, with no debug
session, sets lifecycle 2; RB_SET sets its counter; each ends with status 0, EVT.DONE set and Heartwood idle, and
changes no other part of OTP. RETURN and SCRAP go to lifecycle 3 and 4 with the customer slots blanked, and a soft
reset follows. RETURN leaves the return record of the fingerprint at its command. An OTP write that fails asserts
device source 396 with kind 2 and its address, and that it is then made again is the model's reading (log entry 50,
DEDUCED). The end of an attestation leaves the report of the fingerprint and sequence number captured at its start,
signed with the identity key, clears the nonce, and sets ATTEST_DONE. -/
def Obligations.LifecycleCommandsAndTheirEnds : Prop :=
  (∀ (s : State) (src : Src) (v : Word), s.arrivesDev src .heart → s.gateOpen = true → s.heart.op = none →
      (s.otp.lc = 1 → 1 ≤ bits v.toNat 6 4 → bits v.toNat 6 4 ≤ 4 → s.otp.populated (bits v.toNat 6 4) = false →
        s.otp.rev.testBit (bits v.toNat 6 4) = false →
        ∃ t, exec (.keyProg src v) s = .next t ∧ t.dg .KEYGATE_OPEN = 0 ∧ t.otp = s.otp ∧ t.chans = s.chans ∧
          t.heart.op = some (.keyProg (bits v.toNat 6 4)
            (ofLe ((List.range 8).flatMap fun i => leBytes (s.dg (.HEART_KEYHASH_DATA i)))))) ∧
      (s.otp.lc = 1 → (∃ k ∈ custSlots, s.otp.usable k = true) →
        ∃ t, exec (.deploy src v) s = .next t ∧ t.dg .KEYGATE_OPEN = 0 ∧ t.otp = s.otp ∧ t.heart.op = some .deploy) ∧
      (s.otp.lc = 1 → ∃ t, exec (.lcReturn src v) s = .next t ∧ t.otp = s.otp ∧ t.heart.op = some (.ret 0 0 s.integ.fprint)) ∧
      (s.otp.lc = 2 → ∃ t, exec (.lcReturn src v) s = .next t ∧ t.otp = s.otp ∧ t.heart.op = some (.retTok s.integ.fprint)) ∧
      (s.otp.lc = 1 ∨ s.otp.lc = 3 → ∃ t, exec (.scrap src v) s = .next t ∧ t.otp = s.otp ∧ t.heart.op = some .scrap) ∧
      (s.rbAllowed (bits v.toNat 8 8) (bits v.toNat 22 16) = true →
        ∃ t, exec (.rbSet src v) s = .next t ∧ t.otp = s.otp ∧
          t.heart.op = some (.rbSet (bits v.toNat 8 8) (bits v.toNat 22 16)))) ∧
  ∀ s : State,
    (∀ k h, s.heart.op = some (.keyProg k h) →
        ∃ t, exec (.lcProgDone none) s = .next t ∧ t.otp = s.otp.keyOp 1 k h ∧ t.heart.op = none ∧ t.dg .HEART_RES_OP = 3 ∧
          t.dg .HEART_RES_STATUS = 0 ∧ t.dg .HEART_EVT_DONE = 1 ∧ ∀ i, t.dg (.HEART_KEYHASH_DATA i) = 0) ∧
    (s.heart.op = some .deploy → s.session = false →
        ∃ t, exec (.lcProgDone none) s = .next t ∧ t.otp = { s.otp with lc := 2 } ∧ t.heart.op = none ∧
          t.dg .HEART_EVT_LC_CHG = 1 ∧ t.dg .HEART_RES_STATUS = 0 ∧ t.dg .HEART_EVT_DONE = 1) ∧
    (∀ cnt v, s.heart.op = some (.rbSet cnt v) →
        ∃ t, exec (.lcProgDone none) s = .next t ∧ t.otp = s.otp.rbTo cnt v ∧ t.heart.op = none ∧ t.dg .HEART_EVT_RB_CHG = 1 ∧
          t.dg .HEART_RES_STATUS = 0 ∧ t.dg .HEART_EVT_DONE = 1) ∧
    (∀ ref slot fp, s.heart.op = some (.ret ref slot fp) →
        ∃ t, exec (.lcProgDone none) s = .next t ∧ t.otp.lc = 3 ∧ (∀ k ∈ custSlots, t.otp.slots.toList.getD k 0 = blanked) ∧
          t.otp.idKey = s.otp.idKey ∧ t.otp.retrec = s.retRecord ref slot fp ∧ t.otp.unfinished = false ∧ t.dg .TAP_RSTCAUSE_KIND = 3) ∧
    (s.heart.op = some .scrap →
        ∃ t, exec (.lcProgDone none) s = .next t ∧ t.otp.lc = 4 ∧ (∀ k ∈ custSlots, t.otp.slots.toList.getD k 0 = blanked) ∧
          t.otp.idKey = none ∧ t.otp.unfinished = false ∧ t.dg .TAP_RSTCAUSE_KIND = 3) ∧
    (∀ a op, s.heart.op = some op → op.writes = true →
        exec (.lcProgDone (some a)) s = .next (s.assertSrc (.dev 12) 2 a.toNat)) ∧
    (∀ fp n, s.heart.op = some (.attest fp n) →
        ∃ t, exec .attestDone s = .next t ∧ t.heart.report = Mem.writeBytes [] 0
            (s.reportBody fp n ++ edSign (leN 32 (s.otp.idKey.getD 0)) (s.reportBody fp n)) ∧
          t.heart.op = none ∧ t.dg .HEART_RES_OP = 2 ∧ t.dg .HEART_EVT_ATTEST_DONE = 1 ∧
          ∀ i, t.dg (.HEART_ANONCE_DATA i) = 0) ∧
    (∀ src, s.arrivesDev src .heart → s.heart.op = none → s.otp.lc ≠ 0 → s.otp.lc ≠ 4 →
        exec (.attest src) s = .next ({ s with heart := { s.heart with
          op := some (.attest s.integ.fprint (s.dg .INTEG_FPSEQ_SEQ)) } }.reply 0))

/-- A nonce command with Heartwood on stores the 128 bits of the random source, low word first, and marks them valid;
their expiry zeroes them. OPEN with Heartwood idle and no session starts the token check; a token that passes, whose
signature then verifies under its public key, opens the session under its words and uses up the nonce and the token,
and one that fails does so too, with the number of the first check that failed. CLOSE and the end of the duration
end an open session with causes 1 and 2; CLOSE without one is rejected. The end of a session withdraws every debug
vote of R297, and in this model it clears the session's rights and its channel mask as well (log entry 51, DEDUCED).
That a rejected token asserts device source 398 with DBG_CHMASK as its address is the model's reading too (log entry
50, DEDUCED). -/
def Obligations.DebugSessionsOpenAndEnd : Prop :=
  ∀ s : State,
    (∀ src (n : BitVec 128), s.arrivesDev src .debug → s.heartOn = true →
      ∃ t, exec (.dbgNonce src n) s = .next t ∧ t.dg .DBG_STAT_NONCE_VALID = 1 ∧ t.chans = s.chans ∧
        ∀ i < 4, t.dg (.DBG_NONCE_DATA i) = n.toNat / 2 ^ (32 * i) % 2 ^ 32) ∧
    (s.db .DBG_STAT_NONCE_VALID = true →
      ∃ t, exec .nonceExpire s = .next t ∧ t.dg .DBG_STAT_NONCE_VALID = 0 ∧ (∀ i, t.dg (.DBG_NONCE_DATA i) = 0) ∧
        t.chans = s.chans) ∧
    (∀ src, s.arrivesDev src .debug → s.heartOn = true → s.heart.op = none → s.session = false →
      exec (.dbgOpen src) s = .next (({ s with heart := { s.heart with op := some .openTok } }.ds .DBG_STAT_BUSY 1).reply 0)) ∧
    (s.heart.op = some .openTok → s.tokenReason false = 0 →
      exec .tokenCheckDone s = .next ((((s.openSession.dropNonce.clearToken).ds .DBG_STAT_BUSY 0).updHeart
        HeartSt.done).ds .HEART_EVT_DONE 1)) ∧
    (s.heart.op = some .openTok → s.tokenReason false = 0 →
      edVerify (s.tokenBytes 16 8) (s.tokenBytes 0 32) (s.tokenBytes 32 16) = true) ∧
    (s.heart.op = some .openTok → s.tokenReason false ≠ 0 → s.pd37 = true →
      exec .tokenCheckDone s = .next ((((((((s.dropNonce.clearToken).ds .DBG_STAT_BUSY 0).ds .DBG_RES_REASON
        (s.tokenReason false)).ds .DBG_EVT_TOKEN_REJ 1).ds .HEART_EVT_DONE 1).updHeart HeartSt.done)).assertSrc
        (.dev 14) 2 (s.dg .DBG_CHMASK_CH))) ∧
    (∀ src, s.arrivesDev src .debug →
      (s.session = true → exec (.dbgClose src) s = .next ((s.endSession 1).reply 0)) ∧
      (s.session = false → exec (.dbgClose src) s = .next ((s.ds .DBG_EVT_CMD_REJ 1).reply 0))) ∧
    (s.session = true → s.dbgr.left.isSome = true → s.power.mode ≠ .standby →
      exec .sessionExpire s = .next (s.endSession 2)) ∧
    (∀ cause, (s.closeSession cause).session = false ∧ (s.closeSession cause).dg .DBG_STAT_RIGHTS = 0 ∧
      (s.closeSession cause).dg .DBG_CHMASK_CH = 0 ∧ (s.closeSession cause).dbgr.tracing = false ∧
      ∀ c, ((s.closeSession cause).cg c .CHPWR_VOTE_CLIENTS).testBit 4 = false)

/-- A write of the key opens the gate and clears the count of failures; any other value closes it and sets KEY_FAIL, and
counts one failure up to the second; the third returns the count to 0 and asserts device source 389 with kind 0 and
the register's offset; the end of its time closes the gate. A write from outside of a class register of CANOPY,
which is RWK, is taken through the gate that stood open before the cycle, which closes: the class of each source
that the register holds becomes the one written where the source allows it, a class outside the allowed range leaves
the source's class unchanged and sets CLS_REJ, bits of unused sources are ignored, and no other class changes; the
closed gate leaves the class unchanged and records the violation with the address used. -/
def Obligations.KeygateOpensAndCloses : Prop :=
  ∀ s : State,
    (∀ src v, s.arrivesDev src .tap →
      (v = 0xA5C30F96#32 → exec (.keygateWrite src v) s = .next (((s.ds .KEYGATE_OPEN 1).ds .KEYGATE_FAILS 0).reply 0)) ∧
      (v ≠ 0xA5C30F96#32 → s.dg .KEYGATE_FAILS + 1 ≠ 3 → exec (.keygateWrite src v) s = .next
        ((((s.ds .KEYGATE_OPEN 0).ds .INTEG_EVT_KEY_FAIL 1).ds .KEYGATE_FAILS (s.dg .KEYGATE_FAILS + 1)).reply 0)) ∧
      (v ≠ 0xA5C30F96#32 → s.dg .KEYGATE_FAILS + 1 = 3 → exec (.keygateWrite src v) s = .next
        (((((s.ds .KEYGATE_OPEN 0).ds .INTEG_EVT_KEY_FAIL 1).ds .KEYGATE_FAILS 0).assertSrc (.dev 5) 0 0xFF0).reply 0))) ∧
    (exec .keygateTimeout s = .next (s.ds .KEYGATE_OPEN 0)) ∧
    (∀ src (w : Fin 8) v, s.arrivesDev src .canopy →
      (s.gateOpen = true →
        ∃ t, exec (.fcClassWrite src w v) s = .next t ∧ t.dg .KEYGATE_OPEN = 0 ∧
          (∀ m < 16, t.dg (.FC_CLASS_CLASS w.val) / 4 ^ m % 4 =
            if 16 * w.val + m < 18 ∧ (allowedCls (16 * w.val + m)).1 ≤ v.toNat / 4 ^ m % 4 ∧
              v.toNat / 4 ^ m % 4 ≤ (allowedCls (16 * w.val + m)).2 then v.toNat / 4 ^ m % 4
            else s.dg (.FC_CLASS_CLASS w.val) / 4 ^ m % 4) ∧
          t.dg .FC_STAT_CLS_REJ =
            (if (List.range 16).any fun m => decide (16 * w.val + m < 18 ∧ ¬ ((allowedCls (16 * w.val + m)).1 ≤ v.toNat / 4 ^ m % 4 ∧
              v.toNat / 4 ^ m % 4 ≤ (allowedCls (16 * w.val + m)).2)) then 1 else s.dg .FC_STAT_CLS_REJ) ∧
          ∀ u : Fin 8, u ≠ w → t.dg (.FC_CLASS_CLASS u.val) = s.dg (.FC_CLASS_CLASS u.val)) ∧
      (s.gateOpen = false →
        exec (.fcClassWrite src w v) s = .next ((s.lockViol (0x30060 + 4 * w.val)).reply 0)))

/-- At a natural boundary, and at a commit through INTEG_COMMIT, every pending shadow of a powered channel but the
window placements, which meet their own boundary later (R61), becomes the active value of its field together and is
pending no more, while the shadows of the other channels stay. Without the boundary nothing applies. A write of a
register with SH fields is a write of its address from its source. -/
def Obligations.ShadowsApplyTogether : Prop :=
  ∀ s : State,
    (∀ c, s.shBoundary c = true → ∃ t, exec (.shadowApply c) s = .next t ∧
      (t.ch c).shadow = (s.ch c).shadow.filter (fun p => isWinSh p.1) ∧ (∀ d, d ≠ c → t.ch d = s.ch d) ∧
      (((s.ch c).shadow.map Prod.fst).Nodup → ∀ p ∈ (s.ch c).shadow, p.1.info.acc = .sh → isWinSh p.1 = false →
        t.cg c p.1 = p.2 % 2 ^ p.1.info.wid)) ∧
    (∀ c, s.shBoundary c = false → exec (.shadowApply c) s = .next s) ∧
    (∀ src (c : Ch) v, s.arrivesDev src .integ → (∀ d : Ch, v.toNat.testBit d.val = decide (d = c)) → s.powered c = true →
      ∃ t, exec (.integCommit src v) s = .next t ∧
        (t.ch c).shadow = (s.ch c).shadow.filter (fun p => isWinSh p.1) ∧ ∀ d, d ≠ c → t.ch d = s.ch d) ∧
    (∀ src addr v, src ≠ .prog → exec (.shWrite src addr v) s = .next (s.busLand src addr.toNat v)) ∧
    (∀ addr v, exec (.shWrite .prog addr v) s = .next (s.progWrite addr.toNat v))

/-- With the part out of reset and INTEG clocked a completion instant adds one to FPSEQ and leaves as fingerprint the
CRC-64 over the blocks' CFGCRC words as they stand after it, in the order of the rule, a block without clock or
power counting as 0; the next sweep begins with the blocks then clocked and powered. Out of service nothing happens.
A read of FPRINT0 from outside with INTEG answering returns the low word and latches the high word of the same
fingerprint. -/
def Obligations.SweepFoldsTheConfiguration : Prop :=
  ∀ s : State,
    (s.servicesUp = true → s.svcEn 1 = true →
      exec .sweepComplete s = .next s.sweepCrc.sweepCompare.sweepFold.sweepNext) ∧
    (s.servicesUp = true → s.svcEn 1 = false → exec .sweepComplete s = .next s.sweepCrc.sweepCompare.sweepNext) ∧
    (s.servicesUp = false → exec .sweepComplete s = .next s) ∧
    (s.sweepFold.integ.fprint = s.fold ∧
      s.sweepFold.dg .INTEG_FPSEQ_SEQ = (s.dg .INTEG_FPSEQ_SEQ + 1) % 2 ^ 32 ∧ s.sweepFold.chans = s.chans) ∧
    (∀ src, src ≠ .prog → s.busUp false = true → s.svcEn 1 = true →
      ∃ t, exec (.fprint0Read src) s = .next t ∧ t.bus = ⟨s.integ.fprint % 2 ^ 32, false⟩ ∧
        t.dg .INTEG_FPRINT1_FP = s.integ.fprint / 2 ^ 32 % 2 ^ 32)

/-- For every mnemonic and every value of its fields, the word written from the mnemonic's op and sub and those fields
decodes to that mnemonic and gives each field back, in each of the formats A, I (with B), P and W; and every 32-bit
word is the word of its own fields in each format, so that no bit of a word is dropped. -/
def Obligations.SequencerWordsReadBack : Prop :=
  (∀ (m : Mn) (d a b : Fin 16) (sub : Nat), m.code = (m.code.1, some sub) →
    mnOf (wordA m.code.1 d a b sub) = some m ∧ fD (wordA m.code.1 d a b sub) = d ∧ fA (wordA m.code.1 d a b sub) = a ∧
      fB (wordA m.code.1 d a b sub) = b ∧ fSub (wordA m.code.1 d a b sub) = sub ∧ fZero (wordA m.code.1 d a b sub) = 0) ∧
  (∀ (m : Mn) (d a : Fin 16) (imm : Int), m.code.2 = none → -131072 ≤ imm → imm < 131072 →
    mnOf (wordI m.code.1 d a imm) = some m ∧ fD (wordI m.code.1 d a imm) = d ∧ fA (wordI m.code.1 d a imm) = a ∧
      fImm (wordI m.code.1 d a imm) = imm ∧ fCond (wordI m.code.1 d a imm) = d.val) ∧
  (∀ (m : Mn) (d : Fin 16) (p i : Nat), m.code.2 = none → p < 64 → i < 65536 →
    mnOf (wordP m.code.1 d p i) = some m ∧ fD (wordP m.code.1 d p i) = d ∧ fPort (wordP m.code.1 d p i) = p ∧
      fIndex (wordP m.code.1 d p i) = i) ∧
  (∀ (m : Mn) (k t : Nat), m.code.2 = none → k < 256 → t < 262144 →
    mnOf (wordW m.code.1 k t) = some m ∧ fMask (wordW m.code.1 k t) = k ∧ fTime (wordW m.code.1 k t) = t) ∧
  ∀ w : Word,
    w = wordA (fOp w) (fD w) (fA w) (fB w) (fSub w) ||| BitVec.ofNat 32 (fZero w) ∧
    w = wordI (fOp w) (fD w) (fA w) (fImm w) ∧ w = wordP (fOp w) (fD w) (fPort w) (fIndex w) ∧
    w = wordW (fOp w) (fMask w) (fTime w)

/-- Each instruction of op 0x00 that the sequencer issues completes in one cycle: sd takes the result of the table over
sa and sb (nothing where sd is s0, and sa or sb reads 0 where it is s0), shifts use bits 4:0 of the shift register,
min and max compare as signed values, abs of 0x80000000 gives 0x7FFFFFFF, the flags are as their column says, and
nothing else of the part changes but PC, the loops and the count of cycles. -/
def Obligations.SequencerRegisterArithmetic : Prop :=
  ∀ (s : State) (c : Ch) (w : Word),
    let q := (s.ch c).seq
    let a := s.sReg c (fA w)
    let b := s.sReg c (fB w)
    let res := fun (r : Word) (cy ov : Bool) => (q.put (fD w) r).withFlags (r = 0) r.msb cy ov
    (s.issues c .add w → ∃ t, exec (.add c) s = .next t ∧ s.seqDone t c 1 (res (a + b) (decide (2 ^ 32 ≤ a.toNat + b.toNat))
      (decide (a.toInt + b.toInt < -2147483648 ∨ 2147483647 < a.toInt + b.toInt)))) ∧
    (s.issues c .sub w → ∃ t, exec (.sub c) s = .next t ∧ s.seqDone t c 1 (res (a - b) (decide (a.toNat < b.toNat))
      (decide (a.toInt - b.toInt < -2147483648 ∨ 2147483647 < a.toInt - b.toInt)))) ∧
    (s.issues c .and w → ∃ t, exec (.and c) s = .next t ∧ s.seqDone t c 1 (res (a &&& b) false false)) ∧
    (s.issues c .or w → ∃ t, exec (.or c) s = .next t ∧ s.seqDone t c 1 (res (a ||| b) false false)) ∧
    (s.issues c .xor w → ∃ t, exec (.xor c) s = .next t ∧ s.seqDone t c 1 (res (a ^^^ b) false false)) ∧
    (s.issues c .shl w → ∃ t, exec (.shl c) s = .next t ∧ s.seqDone t c 1 (res (a <<< (b.toNat % 32)) false false)) ∧
    (s.issues c .shr w → ∃ t, exec (.shr c) s = .next t ∧ s.seqDone t c 1 (res (a >>> (b.toNat % 32)) false false)) ∧
    (s.issues c .sar w → ∃ t, exec (.sar c) s = .next t ∧ s.seqDone t c 1 (res (a.sshiftRight (b.toNat % 32)) false false)) ∧
    (s.issues c .min w → ∃ t, exec (.min c) s = .next t ∧
      s.seqDone t c 1 (res (if a.toInt < b.toInt then a else b) false false)) ∧
    (s.issues c .max w → ∃ t, exec (.max c) s = .next t ∧
      s.seqDone t c 1 (res (if b.toInt < a.toInt then a else b) false false)) ∧
    (s.issues c .abs w → ∃ t, exec (.abs c) s = .next t ∧
      s.seqDone t c 1 (res (BitVec.ofInt 32 (min 2147483647 (if a.toInt < 0 then -a.toInt else a.toInt)))
        (decide (a.toInt < 0)) (decide (a.toInt = -2147483648)))) ∧
    (s.issues c .cmp w → ∃ t, exec (.cmp c) s = .next t ∧ s.seqDone t c 1 (q.withFlags (a = b) (a - b).msb
      (decide (a.toNat < b.toNat)) (decide (a.toInt - b.toInt < -2147483648 ∨ 2147483647 < a.toInt - b.toInt)))) ∧
    (s.issues c .mov w → ∃ t, exec (.mov c) s = .next t ∧ s.seqDone t c 1 (q.put (fD w) a))

/-- Each format-I arithmetic, logic or move instruction that the sequencer issues completes in one cycle with sd, or for
cmpi only the flags, as its table says of sa and imm18 sign-extended to 32 bits, the logic instructions included;
movi and movh change no flag, and movh keeps the lower half of sd; nothing else of the part changes but PC, the
loops and the count of cycles. -/
def Obligations.SequencerImmediateArithmetic : Prop :=
  ∀ (s : State) (c : Ch) (w : Word),
    let q := (s.ch c).seq
    let a := s.sReg c (fA w)
    let i := BitVec.ofInt 32 (fImm w)
    let res := fun (r : Word) (cy ov : Bool) => (q.put (fD w) r).withFlags (r = 0) r.msb cy ov
    (s.issues c .addi w → ∃ t, exec (.addi c) s = .next t ∧ s.seqDone t c 1 (res (a + i)
      (decide (2 ^ 32 ≤ a.toNat + i.toNat)) (decide (a.toInt + fImm w < -2147483648 ∨ 2147483647 < a.toInt + fImm w)))) ∧
    (s.issues c .andi w → ∃ t, exec (.andi c) s = .next t ∧ s.seqDone t c 1 (res (a &&& i) false false)) ∧
    (s.issues c .ori w → ∃ t, exec (.ori c) s = .next t ∧ s.seqDone t c 1 (res (a ||| i) false false)) ∧
    (s.issues c .cmpi w → ∃ t, exec (.cmpi c) s = .next t ∧ s.seqDone t c 1 (q.withFlags (a = i) (a - i).msb
      (decide (a.toNat < i.toNat)) (decide (a.toInt - fImm w < -2147483648 ∨ 2147483647 < a.toInt - fImm w)))) ∧
    (s.issues c .movi w → ∃ t, exec (.movi c) s = .next t ∧ s.seqDone t c 1 (q.put (fD w) i)) ∧
    (s.issues c .movh w → ∃ t, exec (.movh c) s = .next t ∧ s.seqDone t c 1
      (q.put (fD w) (BitVec.ofNat 32 (w.toNat % 65536 * 65536 + (s.sReg c (fD w)).toNat % 65536))))

/-- mac and msu add to and subtract from accumulator n the signed product of the low halves of sa and sb and limit the
result to 40 bits, clra clears accumulator n, each in one cycle; rda shifts accumulator n right by 0 to 15 with sign
fill and limits the result to 32 bits, in two cycles; the flags are ZN40, none and ZN with V for the limit. A number
above 3, a sub from 4 on, or a nonzero a or b of clra traps with ILLEGAL. The largest product is 2^30, and 511 of
them do not saturate an accumulator from 0. -/
def Obligations.SequencerMultiplyAccumulate : Prop :=
  (∀ (s : State) (c : Ch) (w : Word),
    let q := (s.ch c).seq
    let x := (s.sReg c (fA w)).toInt.bmod 65536
    let y := (s.sReg c (fB w)).toInt.bmod 65536
    let sat := fun i : Int => max (-549755813888) (min 549755813887 i)
    let mac := fun (n : Fin 4) (r : Int) => { q with a := q.a.set n.val (sat r) }.withFlags (sat r = 0) (decide (sat r < 0))
      false (sat r ≠ r)
    (∀ n : Fin 4, (fD w).val = n.val →
      (s.issues c .mac w → ∃ t, exec (.mac c) s = .next t ∧ s.seqDone t c 1 (mac n (q.a[n.val] + x * y))) ∧
      (s.issues c .msu w → ∃ t, exec (.msu c) s = .next t ∧ s.seqDone t c 1 (mac n (q.a[n.val] - x * y))) ∧
      (s.issues c .clra w → ∃ t, exec (.clra c) s = .next t ∧ s.seqDone t c 1 { q with a := q.a.set n.val 0 })) ∧
    (∀ n : Fin 4, (fA w).val = n.val → s.issues c .rda w →
      let v := q.a[n.val] / 2 ^ (fB w).val
      let r := max (-2147483648) (min 2147483647 v)
      ∃ t, exec (.rda c) s = .next t ∧ s.seqDone t c 2
        ((q.put (fD w) (BitVec.ofInt 32 r)).withFlags (r = 0) (decide (r < 0)) false (r ≠ v))) ∧
    (s.seqRuns c = true → s.insn c = some w →
      let ill : State := s.seqTrap c 1 q.pc w.toNat true
      (mnOf w = some .mac → 3 < (fD w).val → exec (.mac c) s = .next ill) ∧
      (mnOf w = some .msu → 3 < (fD w).val → exec (.msu c) s = .next ill) ∧
      (mnOf w = some .clra → 3 < (fD w).val → exec (.clra c) s = .next ill) ∧
      (mnOf w = some .rda → 3 < (fA w).val → exec (.rda c) s = .next ill) ∧
      (mnOf w = some .clra → fA w ≠ 0 ∨ fB w ≠ 0 → exec (.clra c) s = .next ill) ∧
      (fOp w = 1 → 4 ≤ fSub w → exec (.undefinedOpcode c) s = .next ill))) ∧
  (∀ w : Word, fOp w = 1 → (fSub w = 0 → mnOf w = some .mac) ∧ (fSub w = 1 → mnOf w = some .msu) ∧
    (fSub w = 2 → mnOf w = some .clra) ∧ (fSub w = 3 → mnOf w = some .rda)) ∧
  (∀ a b : Word, mul16 a b ≤ 2 ^ 30) ∧ mul16 0x8000#32 0x8000#32 = 2 ^ 30 ∧ 511 * (2 : Int) ^ 30 ≤ 2 ^ 39 - 1

/-- Each code of cond tests the flags its row names. After the flags of a subtraction a - b, as cmp and cmpi set them,
eq, ne, lt, ge, gt and le hold as the signed comparisons of a and b, ult, uge, ugt and ule as the unsigned ones, neg
and nneg with bit 31 of the difference, ovf and novf with signed overflow, and al always; after an addition C marks
a carry out of bit 31, and after abs a negative operand. A br, call or ret whose condition does not hold has no
effect but to go on, in one cycle, and a word of one with condition 15 traps with ILLEGAL. -/
def Obligations.BranchConditions : Prop :=
  (∀ z n cy v : Bool,
    let holds := fun k => condHolds k z n cy v
    holds 0 = z ∧ holds 1 = !z ∧ holds 2 = decide (n ≠ v) ∧ holds 3 = decide (n = v) ∧ holds 4 = (!z && decide (n = v)) ∧
    holds 5 = (z || decide (n ≠ v)) ∧ holds 6 = cy ∧ holds 7 = !cy ∧ holds 8 = (!cy && !z) ∧ holds 9 = (cy || z) ∧
    holds 10 = n ∧ holds 11 = !n ∧ holds 12 = v ∧ holds 13 = !v ∧ holds 14 = true) ∧
  (∀ a b : Word,
    let f := (subZNCV a b).2
    let holds := fun k => condHolds k f.z f.n f.c f.v
    (holds 0 = decide (a = b)) ∧ (holds 1 = decide (a ≠ b)) ∧ (holds 2 = decide (a.toInt < b.toInt)) ∧
    (holds 3 = decide (b.toInt ≤ a.toInt)) ∧ (holds 4 = decide (b.toInt < a.toInt)) ∧
    (holds 5 = decide (a.toInt ≤ b.toInt)) ∧ (holds 6 = decide (a.toNat < b.toNat)) ∧
    (holds 7 = decide (b.toNat ≤ a.toNat)) ∧ (holds 8 = decide (b.toNat < a.toNat)) ∧
    (holds 9 = decide (a.toNat ≤ b.toNat)) ∧ (holds 10 = (a - b).msb) ∧ (holds 11 = !(a - b).msb) ∧
    (holds 12 = decide (a.toInt - b.toInt < -2147483648 ∨ 2147483647 < a.toInt - b.toInt)) ∧
    (holds 13 = !decide (a.toInt - b.toInt < -2147483648 ∨ 2147483647 < a.toInt - b.toInt)) ∧ holds 14 = true ∧
    (addZNCV a b).2.c = decide (2 ^ 32 ≤ a.toNat + b.toNat) ∧ (absFlags a).2.c = decide (a.toInt < 0)) ∧
  ∀ (s : State) (c : Ch) (w : Word) (m : Mn), m = .br ∨ m = .call ∨ m = .ret →
    (s.issues c m w → condHolds (fCond w) (s.ch c).seq.z (s.ch c).seq.n (s.ch c).seq.c (s.ch c).seq.v = false →
      ∃ t, exec (m.instr c) s = .next t ∧ s.seqDone t c 1 (s.ch c).seq) ∧
    (s.seqRuns c = true → s.insn c = some w → mnOf w = some m → fCond w = 15 →
      exec (m.instr c) s = .next (s.seqTrap c 1 (s.ch c).seq.pc w.toNat true))

/-- br, call and ret whose condition does not hold complete in one cycle with no other effect. Taken, each goes in two
cycles: br and call to PC + offset modulo 2^32 where the a field is 0 and to sa + offset modulo 2^32 otherwise, call
pushing PC + 1 unless eight entries are held, when it traps with STACK_OVF; ret to the entry it pops, or it traps
with STACK_UNF where none is held. None changes a flag, a call ends no loop, and the target is judged only when it
is fetched. A taken br or ret ends the loops whose body it leaves. That a PC-relative target is taken modulo 2^32 is
the model's reading (log entry 24, DEDUCED). A nonzero a or offset of ret traps with ILLEGAL. -/
def Obligations.BranchesCallsAndReturns : Prop :=
  ∀ (s : State) (c : Ch) (w : Word),
    let q := (s.ch c).seq
    let cond := condHolds (fCond w) q.z q.n q.c q.v
    let tgt := if fA w = 0 then (((q.pc : Int) + fImm w) % 4294967296).toNat
      else (s.sReg c (fA w) + BitVec.ofInt 32 (fImm w)).toNat
    (cond = false →
      (s.issues c .br w → ∃ t, exec (.br c) s = .next t ∧ s.seqDone t c 1 q) ∧
      (s.issues c .call w → ∃ t, exec (.call c) s = .next t ∧ s.seqDone t c 1 q) ∧
      (s.issues c .ret w → ∃ t, exec (.ret c) s = .next t ∧ s.seqDone t c 1 q)) ∧
    (cond = true →
      (s.issues c .br w → ∃ t, exec (.br c) s = .next t ∧
        s.seqWent t c { q with pc := tgt, loops := loopLeave q.pc tgt q.loops }) ∧
      (s.issues c .call w → q.stack.length < 8 → ∃ t, exec (.call c) s = .next t ∧
        s.seqWent t c { q with pc := tgt, stack := (q.pc + 1) :: q.stack }) ∧
      (s.issues c .call w → 8 ≤ q.stack.length → exec (.call c) s = .next (s.seqTrap c 7 q.pc w.toNat true)) ∧
      (s.issues c .ret w → ∀ r l, q.stack = r :: l → ∃ t, exec (.ret c) s = .next t ∧
        s.seqWent t c { q with pc := r, stack := l, loops := loopLeave q.pc r q.loops }) ∧
      (s.issues c .ret w → q.stack = [] → exec (.ret c) s = .next (s.seqTrap c 8 q.pc w.toNat true))) ∧
    (fOp w = 0x10 → mnOf w = some .br) ∧ (fOp w = 0x11 → mnOf w = some .call) ∧ (fOp w = 0x12 → mnOf w = some .ret) ∧
    (s.seqRuns c = true → s.insn c = some w → fOp w = 0x12 → fA w ≠ 0 ∨ w.toNat % 262144 ≠ 0 →
      exec (.ret c) s = .next (s.seqTrap c 1 q.pc w.toNat true))

/-- ld reads, in two cycles, and st writes, in one, the aligned word of data RAM at sa + imm modulo 2^32, st leaving
every other byte of it as it was; an address that is not aligned or lies beyond the class's data RAM traps with
DMEM. A loop with a count enters a loop over the words from PC + 1 to PC + offset, a third traps with LOOP, and a
count of 0 goes on behind the body in one cycle, ending the loops whose body that leaves. Nothing else of the part
changes but PC, the loops and the counts of cycles. -/
def Obligations.DataMemoryAndLoops : Prop :=
  ∀ (s : State) (c : Ch) (w : Word),
    let q := (s.ch c).seq
    let ea := (s.sReg c (fA w) + BitVec.ofInt 32 (fImm w)).toNat
    let n := (s.sReg c (fA w)).toNat
    (ea % 4 = 0 → ea < dramBytes c →
      (s.issues c .ld w → ∃ t, exec (.ld c) s = .next t ∧ s.seqDone t c 2 (q.put (fD w) (q.dram.readWord ea))) ∧
      (s.issues c .st w → ∃ t m, exec (.st c) s = .next t ∧ s.seqDone t c 1 { q with dram := m } ∧
        (Memory.wf q.dram = true → m.readWord ea = s.sReg c (fD w)) ∧
        ∀ a, a < ea ∨ ea + 4 ≤ a → m.readByte a = q.dram.readByte a)) ∧
    (ea % 4 ≠ 0 ∨ dramBytes c ≤ ea →
      (s.issues c .ld w → exec (.ld c) s = .next (s.seqTrap c 5 q.pc w.toNat true)) ∧
      (s.issues c .st w → exec (.st c) s = .next (s.seqTrap c 5 q.pc w.toNat true))) ∧
    (s.issues c .loop w →
      (n ≠ 0 → q.loops.length < 2 → ∃ t, exec (.loop c) s = .next t ∧
        s.seqDone t c 1 { q with loops := ⟨n, q.pc + 1, q.pc + (fImm w).toNat⟩ :: q.loops }) ∧
      (n ≠ 0 → 2 ≤ q.loops.length → exec (.loop c) s = .next (s.seqTrap c 9 q.pc w.toNat true)) ∧
      (n = 0 → ∃ t, exec (.loop c) s = .next t ∧
        t = { s with regs := t.regs, chans := t.chans, dbgr := { s.dbgr with cyc := s.traceCyc c 1 } } ∧
        (∀ d, d ≠ c → t.ch d = s.ch d) ∧ t.cg c .SEQ_CYCLES_COUNT = (s.cg c .SEQ_CYCLES_COUNT + 1) % 2 ^ 32 ∧
        t.ch c = { s.ch c with seq := { q with
          pc := q.pc + (fImm w).toNat + 1
          loops := loopLeave q.pc (q.pc + (fImm w).toNat + 1) q.loops } } ∧
        ∀ f, f ≠ .ch c .SEQ_CYCLES_COUNT → t.rd f = s.rd f))

/-- A prd that the sequencer issues to a block whose clock is gated completes without trap, after a stall: it returns 0,
and GATED_ACC is set and GATED_CH names the channel. A pwr that passes its checks, to such a block, completes
without trap too: the same two fields are set and no register of the block, nor anything else but PC, the loops, the
counts of cycles, the free-value count and the program trace, changes. The length of a stall is not the spec's: that
it is a free value under 64 cycles, which uses up one step of the free-value count, is the model's (log entry 5,
DESIGN CHOICE). -/
def Obligations.GatedBlockAccessesOfAProgram : Prop :=
  ∀ (s : State) (c : Ch) (w : Word) (b : CBlk), portBlk c (fPort w) = some b → s.blkEn c b = false →
    (s.issues c .prd w → fIndex w < 16384 →
      ∃ t k, exec (.prd c) s = .next t ∧ k < 64 ∧
        State.seqDone { (s.ds .CLK_EVT_GATED_ACC 1).ds .CLK_EVT_GATED_CH c.val with free := s.free + 1 } t c (2 + k)
          ((s.ch c).seq.put (fD w) 0)) ∧
    (s.issues c .pwr w → s.pwrCause c (fPort w) (fIndex w) = 0 → s.dbgr.tracing = false →
      ∃ t k, exec (.pwr c) s = .next t ∧ k < 64 ∧
        State.seqDone { (s.ds .CLK_EVT_GATED_ACC 1).ds .CLK_EVT_GATED_CH c.val with free := s.free + 1 } t c (2 + k)
          (s.ch c).seq) ∧
    (s.issues c .pwr w → s.pwrCause c (fPort w) (fIndex w) = 0 →
      ∃ t, exec (.pwr c) s = .next t ∧ t.dg .CLK_EVT_GATED_ACC = 1 ∧ t.dg .CLK_EVT_GATED_CH = c.val)

/-- A prd of an unassigned port traps with PORT_UNASSIGNED; of any other it completes and sd takes what the port returns
at the index, 0 through HOSTEV, the three status words through DEVSTAT. A pwr that fails a check traps with the
lowest cause that applies; one that passes lands in the block its port maps, as a write of the program with the
aliases of its index, after a stall of under 64 cycles; of a ROM program only the writes that its policy makes come
about. That figure and the length of a stall are the model's (log entry 5). -/
def Obligations.PortAccessesOfAProgram : Prop :=
  ∀ (s : State) (c : Ch) (w : Word),
    (s.issues c .prd w → 21 ≤ fPort w → exec (.prd c) s = .next (s.seqTrap c 2 (s.ch c).seq.pc w.toNat true)) ∧
    (s.issues c .prd w → fPort w < 21 → fD w ≠ 0 →
      ∃ t, exec (.prd c) s = .next t ∧ t.sReg c (fD w) = BitVec.ofNat 32 (s.portRead c (fPort w) (fIndex w)).1) ∧
    (s.issues c .prd w → fPort w = 20 →
      ∃ t k, exec (.prd c) s = .next t ∧ k < 64 ∧
        State.seqDone { s with free := s.free + 1 } t c (2 + k) ((s.ch c).seq.put (fD w) (BitVec.ofNat 32
          (if 16384 ≤ fIndex w then 0 else s.devStat (fIndex w))))) ∧
    (s.issues c .prd w → fPort w = 18 →
      ∃ t k, exec (.prd c) s = .next t ∧ k < 64 ∧
        State.seqDone { s with free := s.free + 1 } t c (2 + k) ((s.ch c).seq.put (fD w) 0)) ∧
    (s.issues c .pwr w → s.pwrCause c (fPort w) (fIndex w) ≠ 0 →
      exec (.pwr c) s = .next (s.seqTrap c (s.pwrCause c (fPort w) (fIndex w)) (s.ch c).seq.pc w.toNat true)) ∧
    (∀ b, s.issues c .pwr w → s.pwrCause c (fPort w) (fIndex w) = 0 → portBlk c (fPort w) = some b →
      s.dbgr.tracing = false →
      ∃ k, k < 64 ∧ (s.romRuns c = none → exec (.pwr c) s = .next (s.finish c w false (.next
        ({ s with free := s.free + 1 }.portWrite c b (fIndex w) (s.sReg c (fD w)).toNat) (2 + k)))) ∧
        (s.romRuns c ≠ none → exec (.pwr c) s = .next (s.finish c w false (.next
          ({ s with free := s.free + 1 }.portMakes c b (fIndex w) (s.sReg c (fD w)).toNat) (2 + k))))) ∧
    (21 ≤ fPort w → s.pwrCause c (fPort w) (fIndex w) = 2) ∧
    (fPort w ≠ 0 → fPort w < 21 → s.cap c (fPort w) = false → s.pwrCause c (fPort w) (fIndex w) = 3) ∧
    (fPort w = 14 ∨ 16 ≤ fPort w → fPort w < 21 → s.cap c (fPort w) = true → s.pwrCause c (fPort w) (fIndex w) = 4)

/-- A wait with mask 0 and timeout 0 traps; with a masked group pending it completes with Z = 0 and the groups in EVHIT;
otherwise the sequencer waits. A masked group that becomes pending ends the wait the same way, and the last tick of
the timeout with none pending, and the watchdog not expiring in it, ends it with Z = 1 and EVHIT 0. tset loads and
starts, or with 0 stops, a timer 0 to 7 and traps above; a running timer whose last tick passes sets its EXP bit and
stops or, when periodic, reloads. frz and thw set and clear bits of the freeze mask, bit 7 ignored. -/
def Obligations.WaitsTimersAndFreezes : Prop :=
  ∀ (s : State) (c : Ch) (w : Word),
    let q := (s.ch c).seq
    (s.issues c .wait w →
      (fMask w = 0 → fTime w = 0 → exec (.wait c) s = .next (s.seqTrap c 11 q.pc w.toNat true)) ∧
      (s.evPend c &&& fMask w ≠ 0 → ∃ t, exec (.wait c) s = .next t ∧ (t.ch c).seq.z = false ∧
        (t.ch c).seq.pc = (loopBack q.pc q.loops).1 ∧ (t.ch c).seq.st = .running ∧
        t.cg c .SEQ_EVHIT_GROUPS = (s.evPend c &&& fMask w) % 256) ∧
      (s.evPend c &&& fMask w = 0 → ¬(fMask w = 0 ∧ fTime w = 0) → ∃ t, exec (.wait c) s = .next t ∧
        t.ch c = { s.ch c with seq := { q with st := .waiting, wait := some (fMask w, fTime w) } } ∧
        (∀ d, d ≠ c → t.ch d = s.ch d) ∧ ∀ f, f ≠ .ch c .SEQ_CYCLES_COUNT → t.rd f = s.rd f)) ∧
    (∀ m n, q.st = .waiting → q.wait = some (m, n) → s.clocked c .seq = true →
      (s.evPend c &&& m ≠ 0 → ∃ t, exec (.waitWake c) s = .next t ∧ (t.ch c).seq = { q with
          st := .running, wait := none, z := false, pc := (loopBack q.pc q.loops).1, loops := (loopBack q.pc q.loops).2 } ∧
        t.cg c .SEQ_EVHIT_GROUPS = (s.evPend c &&& m) % 256) ∧
      (n = 1 → s.evPend c &&& m = 0 → q.wdog + 1 < max 1024 (s.cg c .SEQ_WDOG_PERIOD) →
        ∃ t, exec (.waitTimeout c) s = .next t ∧ (t.ch c).seq = { q with
          st := .running, wait := none, z := true, pc := (loopBack q.pc q.loops).1, loops := (loopBack q.pc q.loops).2 } ∧
        t.cg c .SEQ_EVHIT_GROUPS = 0)) ∧
    (s.issues c .tset w →
      (8 ≤ (fD w).val → exec (.tset c) s = .next (s.seqTrap c 12 q.pc w.toNat true)) ∧
      (∀ n : Fin 8, (fD w).val = n.val → ∃ t, exec (.tset c) s = .next t ∧
        t.cg c (.SEQ_TMR_COUNT n.val) = (s.sReg c (fA w)).toNat ∧
        (∀ k : Fin 8, (t.cg c .SEQ_TMRSTAT_RUN).testBit k.val =
          if k = n then decide ((s.sReg c (fA w)).toNat ≠ 0) else (s.cg c .SEQ_TMRSTAT_RUN).testBit k.val) ∧
        t.cg c .SEQ_TMRSTAT_EXP = s.cg c .SEQ_TMRSTAT_EXP ∧ (t.ch c).seq.reload[n.val] = (s.sReg c (fA w)).toNat)) ∧
    (∀ n : Fin 8, s.clocked c .seq = true → (s.cg c .SEQ_TMRSTAT_RUN).testBit n.val = true →
      s.cg c (.SEQ_TMR_COUNT n.val) ≤ 1 → ∃ t, exec (.timerExpire c n) s = .next t ∧ (t.cg c .SEQ_TMRSTAT_EXP).testBit n.val = true ∧ t.chans = s.chans ∧
        ((s.cg c .SEQ_TMRSTAT_PERIODIC).testBit n.val = true →
          t.cg c (.SEQ_TMR_COUNT n.val) = q.reload[n.val] % 2 ^ 32 ∧ t.cg c .SEQ_TMRSTAT_RUN = s.cg c .SEQ_TMRSTAT_RUN) ∧
        ((s.cg c .SEQ_TMRSTAT_PERIODIC).testBit n.val = false →
          t.cg c (.SEQ_TMR_COUNT n.val) = 0 ∧ (t.cg c .SEQ_TMRSTAT_RUN).testBit n.val = false)) ∧
    (s.issues c .frz w → ∃ t, exec (.frz c) s = .next t ∧ s.seqDone t c 1 { q with frz := q.frz ||| fMask w % 128 }) ∧
    (s.issues c .thw w → ∃ t m, exec (.thw c) s = .next t ∧ s.seqDone t c 1 { q with frz := m } ∧
      ∀ k, m.testBit k = (q.frz.testBit k && !(fMask w).testBit k))

/-- raise asserts source k = 5 of its channel with kind 0xE and sa as the address; post queues the low byte of sa and
sb, or with four messages queued discards them and sets C; commit applies the channel's pending shadows after a
stall, whose length, a free value under 64 cycles with its step of the free-value count, is the model's (log entry
5, DESIGN CHOICE); halt leaves the sequencer HALTED behind it; vote and unvote set and clear the sequencer's client
bit of the channel's own domain for target 0, and the channel's bit of an operating-point floor for targets 1 and 2.
Without its capability bit raise, post, vote and unvote trap with PORT_CAP, and a target above 2 traps with
VOTE_TARGET. -/
def Obligations.SystemGroupAndVotes : Prop :=
  ∀ (s : State) (c : Ch) (w : Word),
    let q := (s.ch c).seq
    let a := s.sReg c (fA w)
    (s.issues c .raise w →
      (s.cap c 16 = true → exec (.raise c) s = .next (s.finish c w false (.next (s.assertSrc (.ch c 5) 0xE a.toNat) 2))) ∧
      (s.cap c 16 = false → exec (.raise c) s = .next (s.seqTrap c 3 q.pc w.toNat true))) ∧
    (s.issues c .post w →
      (s.cap c 18 = false → exec (.post c) s = .next (s.seqTrap c 3 q.pc w.toNat true)) ∧
      (s.cap c 18 = true → q.post.length < 4 → ∃ t, exec (.post c) s = .next t ∧ s.seqDone t c 1
        { q with c := false, post := q.post ++ [(a.toNat % 256, (s.sReg c (fB w)).toNat)] }) ∧
      (s.cap c 18 = true → 4 ≤ q.post.length → ∃ t, exec (.post c) s = .next t ∧ s.seqDone t c 1 { q with c := true })) ∧
    (s.issues c .commit w →
      ∃ k < 64, exec (.commit c) s = .next (s.finish c w false (.next ({ s with free := s.free + 1 }.commit c) (2 + k)))) ∧
    (s.issues c .halt w → ∃ t, exec (.halt c) s = .next t ∧ s.seqDone t c 1 { q with st := .halted }) ∧
    (s.issues c .vote w →
      (s.cap c 17 = false → exec (.vote c) s = .next (s.seqTrap c 3 q.pc w.toNat true)) ∧
      (s.cap c 17 = true → 2 < w.toNat % 262144 → exec (.vote c) s = .next (s.seqTrap c 10 q.pc w.toNat true)) ∧
      (s.cap c 17 = true → w.toNat % 262144 = 0 →
        exec (.vote c) s = .next (s.finish c w false (.next (s.seqVote c 0 true) 1))) ∧
      (s.cap c 17 = true → w.toNat % 262144 = 1 → ∃ t, exec (.vote c) s = .next t ∧
        (∀ d : Ch, (t.dg .PWR_OPFLOOR1_CH).testBit d.val =
          if d = c then true else (s.dg .PWR_OPFLOOR1_CH).testBit d.val) ∧ t.dg .PWR_OPFLOOR2_CH = s.dg .PWR_OPFLOOR2_CH) ∧
      (s.cap c 17 = true → w.toNat % 262144 = 2 → ∃ t, exec (.vote c) s = .next t ∧
        (∀ d : Ch, (t.dg .PWR_OPFLOOR2_CH).testBit d.val =
          if d = c then true else (s.dg .PWR_OPFLOOR2_CH).testBit d.val) ∧ t.dg .PWR_OPFLOOR1_CH = s.dg .PWR_OPFLOOR1_CH)) ∧
    (s.issues c .unvote w →
      (s.cap c 17 = false → exec (.unvote c) s = .next (s.seqTrap c 3 q.pc w.toNat true)) ∧
      (s.cap c 17 = true → 2 < w.toNat % 262144 → exec (.unvote c) s = .next (s.seqTrap c 10 q.pc w.toNat true)) ∧
      (s.cap c 17 = true → w.toNat % 262144 = 0 →
        exec (.unvote c) s = .next (s.finish c w false (.next (s.seqVote c 0 false) 1))) ∧
      (s.cap c 17 = true → w.toNat % 262144 = 1 → ∃ t, exec (.unvote c) s = .next t ∧
        (∀ d : Ch, (t.dg .PWR_OPFLOOR1_CH).testBit d.val =
          if d = c then false else (s.dg .PWR_OPFLOOR1_CH).testBit d.val) ∧ t.dg .PWR_OPFLOOR2_CH = s.dg .PWR_OPFLOOR2_CH) ∧
      (s.cap c 17 = true → w.toNat % 262144 = 2 → ∃ t, exec (.unvote c) s = .next t ∧
        (∀ d : Ch, (t.dg .PWR_OPFLOOR2_CH).testBit d.val =
          if d = c then false else (s.dg .PWR_OPFLOOR2_CH).testBit d.val) ∧ t.dg .PWR_OPFLOOR1_CH = s.dg .PWR_OPFLOOR1_CH))

/-- A word whose op or sub is unassigned, and a word that R185 forbids of any mnemonic, traps with ILLEGAL; a fetch
outside the loaded range traps with PMEM; the watchdog of a running or waiting program traps with WATCHDOG in the
tick in which its count reaches PERIOD, values below 1,024 taken as 1,024. A trap writes its cause, the low 13 bits
of its PC and the instruction word; with source k = 5 of class C0 or C1, which has no reaction, the program goes on
at the vector with INTRAP set and empty stack and loops where vectoring is enabled, no trap is in service and the
cause is not WATCHDOG, and otherwise stands TRAPPED; a trap in the cycle of a HALT or under STEP is recorded without
a vector, and leaves the program HALTED. -/
def Obligations.TrapsOfTheSequencer : Prop :=
  ∀ (s : State) (c : Ch),
    let q := (s.ch c).seq
    (∀ w, s.seqRuns c = true → s.insn c = some w →
      (mnOf w = none → exec (.undefinedOpcode c) s = .next (s.seqTrap c 1 q.pc w.toNat true)) ∧
      ∀ m, mnOf w = some m → legal m w = false → exec (m.instr c) s = .next (s.seqTrap c 1 q.pc w.toNat true)) ∧
    (s.seqRuns c = true → s.insn c = none → ∃ v, exec (.fetchOutsideLoadedRange c) s =
      .next ({ s with free := s.free + 1 }.seqTrap c 6 q.pc v true)) ∧
    (∀ w, q.st = .running ∨ q.st = .waiting → s.clocked c .seq = true → s.insn c = some w →
      max 1024 (s.cg c .SEQ_WDOG_PERIOD) ≤ q.wdog + 1 → exec (.watchdogExpire c) s =
        .next ((s.updSeq c fun q => { q with wdog := q.wdog + 1 }).seqTrap c 13 q.pc w.toNat true)) ∧
    ∀ (k p i : Nat), k < 16 → s.classOfSrc (.ch c 5) ≤ 1 →
      (((s.seqTrap c k p i false).ch c).seq = { q with st := .halted, wait := none, haltedWait := false } ∧
        (s.seqTrap c k p i false).cg c .SEQ_TRAP_CAUSE = k ∧
        (s.seqTrap c k p i false).cg c .SEQ_STAT_INTRAP = s.cg c .SEQ_STAT_INTRAP) ∧
      let t := s.seqTrap c k p i true
      t.cg c .SEQ_TRAP_CAUSE = k ∧ t.cg c .SEQ_TRAP_TRAP_PC = p % 8192 ∧ t.cg c .SEQ_TRAPINSN_INSN = i % 2 ^ 32 ∧
      (s.cb c .SEQ_TRAPVEC_EN = true → s.cb c .SEQ_STAT_INTRAP = false → k ≠ 13 →
        t.cg c .SEQ_STAT_INTRAP = 1 ∧ (t.ch c).seq =
          { q with st := .running, wait := none, haltedWait := false, stack := [], loops := [], pc := s.cg c .SEQ_TRAPVEC_VEC }) ∧
      (s.cb c .SEQ_TRAPVEC_EN = false ∨ s.cb c .SEQ_STAT_INTRAP = true ∨ k = 13 →
        (t.ch c).seq = { q with st := .trapped, wait := none, haltedWait := false })

/-- From outside, with nothing in the posted-write buffer: RUN starts a HALTED or TRAPPED program at its entry point;
HALT stops a running or waiting one, remembering a wait it cut, one in the cycle of an instruction lets it complete
first, and one in the cycle in which the watchdog expires leaves the trap recorded, without a vector, and the
program HALTED; RESUME lets a HALTED one go on; STEP runs one instruction under a debug right; each sets CMD_REJ,
and changes nothing else, in the other states. TRAPACK clears INTRAP, WDKICK the watchdog count, SEQ_WDOG takes its
period, MBOX_IN its word with the MBOX event, and program RAM is written only when HALTED under the right. A STOPPED
sequencer with a program in its RAM starts it, and without one in Active waits for the ROM program. -/
def Obligations.HostControlOfTheSequencer : Prop :=
  ∀ (s : State) (c : Ch),
    let q := (s.ch c).seq
    (∀ src, s.arrives src c .seq → (s.ch c).posted = [] →
      (q.st = .halted ∨ q.st = .trapped → exec (.seqCmdRun src c) s = .next ((s.seqEnter c).reply 0)) ∧
      (q.st ≠ .halted → q.st ≠ .trapped → exec (.seqCmdRun src c) s = .next ((s.cs c .SEQ_STAT_CMD_REJ 1).reply 0)) ∧
      (q.st = .running → exec (.seqCmdHalt src c false false) s =
        .next ((s.updSeq c fun q => { q with st := .halted, haltedWait := false }).reply 0)) ∧
      (s.seqRuns c = true → exec (.seqCmdHalt src c true false) s = .next ((s.oneStep c).reply 0)) ∧
      (∀ issue, q.st = .waiting → exec (.seqCmdHalt src c issue false) s =
        .next ((s.updSeq c fun q => { q with st := .halted, haltedWait := true, wait := none }).reply 0)) ∧
      (∀ issue w, q.st = .running ∨ q.st = .waiting → s.clocked c .seq = true → s.insn c = some w →
        max 1024 (s.cg c .SEQ_WDOG_PERIOD) ≤ q.wdog + 1 → exec (.seqCmdHalt src c issue true) s =
          .next (((s.updSeq c fun q => { q with wdog := q.wdog + 1 }).seqTrap c 13 q.pc w.toNat false).reply 0)) ∧
      (∀ issue wdog, q.st ≠ .running → q.st ≠ .waiting → exec (.seqCmdHalt src c issue wdog) s =
        .next ((s.cs c .SEQ_STAT_CMD_REJ 1).reply 0)) ∧
      (q.st = .halted → s.cb c .SEQ_STAT_QHALT = false → q.haltedWait = false → exec (.seqCmdResume src c) s =
        .next ((s.updSeq c fun q => { q with st := .running, haltedWait := false }).reply 0)) ∧
      (q.st ≠ .halted ∨ s.cb c .SEQ_STAT_QHALT = true →
        exec (.seqCmdResume src c) s = .next ((s.cs c .SEQ_STAT_CMD_REJ 1).reply 0)) ∧
      (q.st = .halted → s.right 0 c = true →
        exec (.seqCmdStep src c) s = .next ((s.oneStep c).reply 0)) ∧
      (q.st ≠ .halted ∨ s.right 0 c = false →
        exec (.seqCmdStep src c) s = .next ((s.cs c .SEQ_STAT_CMD_REJ 1).reply 0)) ∧
      (∀ v, v.toNat.testBit 0 = true →
        exec (.seqTrapack src c v) s = .next ((s.cs c .SEQ_STAT_INTRAP 0).reply 0)) ∧
      (∀ v, exec (.seqWdkick src c v) s = .next ((s.updSeq c fun q => { q with wdog := 0 }).reply 0)) ∧
      (∀ v, ∃ t, exec (.seqWdogWrite src c v) s = .next t ∧ t.cg c .SEQ_WDOG_PERIOD = v.toNat ∧ t.chans = s.chans) ∧
      (∀ v, exec (.seqMboxInWrite src c v) s =
        .next (((s.cs c .SEQ_MBOX_IN_DATA v.toNat).cs c .SEQ_HOSTEVT_MBOX 1).reply 0)) ∧
      (∀ (off : BitVec 16) v, off.toNat % 4 = 0 → off.toNat < pramBytes c →
        (s.right 0 c = true → q.st = .halted → exec (.pramWrite src c off v) s =
          .next (((s.setPramWord c off.toNat v).cs c .SEQ_IMG_MODIFIED 1).reply 0)) ∧
        (s.right 0 c = false ∨ q.st ≠ .halted → exec (.pramWrite src c off v) s =
          .next ((s.cs c .SEQ_STAT_PRAM_WREJ 1).reply 0)))) ∧
    (q.st = .stopped → s.loadable c = true → s.chEn c .seq = true → s.power.mode = .active → s.heart.img = none →
      (s.cg c .SEQ_IMG_SRC ≠ 0 → exec (.seqStart c) s = .next ((s.seqEnter c).idleCheck c)) ∧
      (s.cg c .SEQ_IMG_SRC = 0 → ∃ t, exec (.seqStart c) s = .next t ∧ (t.ch c).seq.st = .loading ∧
        (t.ch c).seq.ld = .rom (romOf c)))

/-- A write from outside of another size than 32 bits, or that no block answers, ends in a bus error and changes nothing
else; one to a device-service register lands at once; one to a channel window enters the channel's posted-write
buffer of four, and with four entries there is discarded with the channel's bit of INTEG_WPOVF set; a closed buffer
gives a bus error. Accesses of one cycle take effect from the sideband first, then MDIO, then the debug port; but a
mode request is discarded beside a soft reset that is taken in its cycle, whichever comes first. The head of a
buffer leaves it and lands at its address where the channel's domain runs. A write through an alias and a write that
is judged at landing land after every write posted before them. Between commands no cycle is open (State.cyc is
CycSt.none), and the model runs an access in a cycle of its own (State.inCyc, log entry 9). -/
def Obligations.AccessesByAddress : Prop :=
  (∀ (s : State) (a : Access), a.src ≠ .prog → s.cyc = CycSt.none →
    (a.size ≠ 4 ∨ a.rd = false ∧ (s.busUp true = false ∨ a.addr.toNat % 4 ≠ 0 ∨ s.srcOk a.src (tgtAt a.addr.toNat) = false) →
      exec (.registerWrite a Along.none) s = .next s.busError) ∧
    (a.size = 4 → a.rd = false → s.busUp true = true → a.addr.toNat % 4 = 0 → s.srcOk a.src (tgtAt a.addr.toNat) = true →
      ((tgtAt a.addr.toNat).win = none →
        exec (.registerWrite a Along.none) s = .next (s.inCyc ⟨some (s.db .KEYGATE_OPEN), false, false, false, false, false, false⟩ fun s =>
          (s.landAt (tgtAt a.addr.toNat) a.v a.addr.toNat).reply 0)) ∧
      ∀ c : Ch, (tgtAt a.addr.toNat).win = some c →
        ((s.ch c).closing = true → exec (.registerWrite a Along.none) s = .next s.busError) ∧
        ((s.ch c).closing = false → (s.ch c).posted.length < 4 → exec (.registerWrite a Along.none) s = .next
          ((s.updCh c fun x => { x with posted := x.posted ++ [⟨a.src, a.addr.toNat % 0x100000, a.v, none⟩] }).reply 0)) ∧
        ((s.ch c).closing = false → 4 ≤ (s.ch c).posted.length →
          ∃ t, exec (.registerWrite a Along.none) s = .next t ∧ t.chans = s.chans ∧ t.bus = ⟨0, false⟩ ∧
            ∀ d : Ch, (t.dg .INTEG_WPOVF_OVF).testBit d.val =
              (decide (d = c) || (s.dg .INTEG_WPOVF_OVF).testBit d.val)))) ∧
  (∀ (s : State) (a b d : Access), a.src = .sideband → b.src = .mdio → d.src = .debug →
    (∀ x ∈ [a, b, d], x.addr.toNat ≠ devAddr .integ 0x1C ∧ asksReset x = false) → ∀ x y z, [x, y, z].Perm [a, b, d] →
      exec (.registerWrite x ⟨[y, z], [], false, false, false, false, false, false⟩) s = .next
        (s.inCyc ⟨some (s.db .KEYGATE_OPEN), false, false, false, false, false, false⟩ fun s => ((s.access a).access b).access d)) ∧
  (∀ (s : State) (v w : Word), s.cyc = CycSt.none → s.busUp true = true → s.devOk .pwr = true → s.db .KEYGATE_OPEN = true →
    s.resettable = true → w.toNat.testBit 0 = true →
      let req : Access := ⟨.sideband, false, BitVec.ofNat 32 (devAddr .pwr 4), v, 4⟩
      let rst : Access := ⟨.debug, false, BitVec.ofNat 32 (devAddr .pwr 8), w, 4⟩
      ∃ t, exec (.registerWrite req ⟨[rst], [], false, false, false, false, false, false⟩) s = .next t ∧
        t.dg .TAP_RSTCAUSE_KIND = 3 ∧ (s.clock.okA = true → s.clock.okB = true → t.power.mode = .boot)) ∧
  (∀ (s : State) (c : Ch) (p : Posted) (l : List Posted), s.servicesUp = true → (s.ch c).posted = p :: l →
    s.domOk c = true → (s.ch c).offDue = false → p.only = none →
    ∀ t, t = ({ s with cyc := ⟨some (s.db .KEYGATE_OPEN), false, false, false, false, false, false⟩ }.updCh c fun x => { x with posted := l }).landAt
        (winTgt c p.off) p.v (winAddr c p.off) →
      (t.ch c).offDue = false → exec (.postedWriteLand c Along.none) s = .next { t with cyc := CycSt.none }) ∧
  ∀ (s : State) (src : Src) (a v : Word), src ≠ .prog → s.busUp true = true →
    let lands := fun (i : Instr) (n : Nat) => n % 4 = 0 → s.srcOk src (tgtAt n) = true →
      ((tgtAt n).win = none → exec i s = .next ((s.landAt (tgtAt n) v n).reply 0)) ∧
      ∀ c : Ch, (tgtAt n).win = some c → (s.ch c).closing = false →
        exec i s = .next (((s.landAll c).landAt (tgtAt n) v n).reply 0)
    lands (.shWrite src a v) a.toNat ∧ lands (.aliasSetWrite src a v) (aliasAddr .set a.toNat) ∧
      lands (.aliasClrWrite src a v) (aliasAddr .clr a.toNat) ∧ lands (.aliasTglWrite src a v) (aliasAddr .tgl a.toNat)

/-- A write of FC_INTEN through its SET, CLR and TGL aliases ORs the word in, clears its bits and inverts its bits, each
bit by itself, and leaves every other field of a device block. A read of INTEG_LOCKVCNT returns the count and leaves
what came in the same cycle; so does one of PCS_FEC_CW; a read of another size is a bus error. Reads of one counter
in one cycle take their turns, the sideband's first: the later one reads 0. A hardware update of an RW field of a
device block in the cycle of its write is lost and noted in HWUPD_LOST, and acts where an alias write of its
register leaves the field alone; one of a W1C field acts after the write. A write of the trailer's CFGREF takes the
word and arms comparison from the next sweep. A write of FLT_FORCE through the open gate, which closes, asserts the
sources named; with the gate closed it is a lock violation. A read of word 0 of FC_FIRST marks the record read and
returns it, and a read of FC_TIME0 returns the low word of Canopy time and latches the rest. -/
def Obligations.AliasesCountersForcesAndRecords : Prop :=
  (∀ (s : State) (src : Src) (a v : Word) (k : WrOp), s.arrivesDev src .canopy → tgtAt a.toNat = .dev .canopy k 0x20 →
    a.toNat % 4 = 0 →
      let left := fun t : State => t.chans = s.chans ∧ ∀ f, f ≠ .FC_INTEN_CLS → f ≠ .tr .canopy .REF_ARMED → t.dg f = s.dg f
      (∃ t, exec (.aliasSetWrite src a v) s = .next t ∧ left t ∧ ∀ j < 4, (t.dg .FC_INTEN_CLS).testBit j =
        ((s.dg .FC_INTEN_CLS).testBit j || v.toNat.testBit j)) ∧
      (∃ t, exec (.aliasClrWrite src a v) s = .next t ∧ left t ∧ ∀ j < 4, (t.dg .FC_INTEN_CLS).testBit j =
        ((s.dg .FC_INTEN_CLS).testBit j && !v.toNat.testBit j)) ∧
      ∃ t, exec (.aliasTglWrite src a v) s = .next t ∧ left t ∧ ∀ j < 4, (t.dg .FC_INTEN_CLS).testBit j =
        ((s.dg .FC_INTEN_CLS).testBit j ^^ v.toNat.testBit j)) ∧
  (∀ (s : State) (src : Src) (a : Word) (n : Nat), src ≠ .prog → s.servicesUp = true → a.toNat % 4 = 0 →
    (tgtAt a.toNat = .dev .integ .plain 0x2C → s.svcEn 1 = true → s.dg .INTEG_LOCKVCNT_COUNT < m32 →
      ∃ t, exec (.rcCounterRead src a 4 n []) s = .next t ∧ t.bus = ⟨s.dg .INTEG_LOCKVCNT_COUNT, false⟩ ∧
        t.dg .INTEG_LOCKVCNT_COUNT = n % m32 ∧ ∀ f, f ≠ .INTEG_LOCKVCNT_COUNT → t.dg f = s.dg f) ∧
    (tgtAt a.toNat = .dev .integ .plain 0x2C → s.svcEn 1 = true → s.dg .INTEG_LOCKVCNT_COUNT < m32 →
      (∃ t, exec (.rcCounterRead .debug a 4 n [⟨.sideband, true, a, 0, 4⟩]) s = .next t ∧ t.bus = ⟨0, false⟩ ∧
        t.dg .INTEG_LOCKVCNT_COUNT = n % m32) ∧
      ∃ t, exec (.rcCounterRead .sideband a 4 n [⟨.debug, true, a, 0, 4⟩]) s = .next t ∧
        t.bus = ⟨s.dg .INTEG_LOCKVCNT_COUNT, false⟩ ∧ t.dg .INTEG_LOCKVCNT_COUNT = n % m32) ∧
    (∀ c : Ch, tgtAt a.toNat = .chan c .pcs .plain 8 → s.srcOk src (.chan c .pcs .plain 8) = true → (s.ch c).posted = [] →
      s.cg c .PCS_FEC_CW_COUNT < m32 →
      ∃ t, exec (.rcCounterRead src a 4 n []) s = .next t ∧ t.bus = ⟨s.cg c .PCS_FEC_CW_COUNT, false⟩ ∧
        t.cg c .PCS_FEC_CW_COUNT = n % m32 ∧ ∀ f, f ≠ .ch c .PCS_FEC_CW_COUNT → t.rd f = s.rd f) ∧
    ∀ z, z ≠ 4 → s.tgtOk (tgtAt a.toNat) = true →
      ∃ t, exec (.rcCounterRead src a z n []) s = .next t ∧ t.bus.err = true ∧ t.chans = s.chans) ∧
  (∀ (s : State) (u : HwUpd) (b : DBlk) (k : WrOp) (o : Nat) (f : DFld), tgtAt u.addr.toNat = .dev b k o →
    ((DFld.at b o).find? fun f => f.info.lsb = u.lsb) = some f →
      ∀ w : Touched,
      (∀ n, f.info.acc = .rw → u.how = .put n → s.hwAct true w u = s ∧
        (touches w u f.info = true → s.hwAct false w u = s.ds (.tr b .HWUPD_LOST) 1) ∧
        (touches w u f.info = false → s.hwAct false w u = s.ds f n)) ∧
      (f.info.acc = .w1c → u.how = .set → s.hwAct true w u = s ∧ s.hwAct false w u = s.ds f (2 ^ f.info.wid - 1))) ∧
  (∀ (s : State) (src : Src) (a v : Word) (b : DBlk) (k : WrOp) (o : Nat), s.arrivesDev src b →
    tgtAt a.toNat = .dev b k o →
      ∃ t, exec (.cfgrefWrite src a v) s = .next t ∧ t.dg (.tr b .CFGREF) = v.toNat ∧ t.dg (.tr b .REF_ARMED) = 1 ∧
        t.integ.ready = s.integ.ready.filter (· ≠ .dev b) ∧ t.chans = s.chans) ∧
  (∀ (s : State) (src : Src) (a v : Word) (c : Ch), s.arrives src c .fault → (s.ch c).posted = [] →
    tgtAt a.toNat = .chan c .fault .plain 0x2C → a.toNat % 4 = 0 →
    (s.gateOpen = true → exec (.faultForce src a v) s = .next ((s.shutGate.fltForce c v.toNat).reply 0)) ∧
    (s.gateOpen = false → exec (.faultForce src a v) s = .next ((s.lockViol a.toNat).reply 0))) ∧
  ∀ (s : State) (src : Src), src ≠ .prog → s.servicesUp = true →
    (∃ t, exec (.faultRecordRead src .fcFirst0) s = .next t ∧ t.bus = ⟨s.dg (.FC_FIRST_REC 0) % m32, false⟩ ∧
      t.canopy = { s.canopy with firstRead := true } ∧ t.chans = s.chans ∧ t.regs = s.regs) ∧
    (∀ c : Ch, (s.ch c).posted = [] → src ≠ .mdio ∨ s.retained = false → ∃ t, exec (.faultRecordRead src (.first0 c)) s = .next t ∧
      t.bus = ⟨s.cg c (.FLT_FIRST_REC 0) % m32, false⟩ ∧ (t.ch c).firstRead = true ∧ t.regs = s.regs) ∧
    ∃ t, exec (.fcTime0Read src) s = .next t ∧ t.bus = ⟨s.canopy.time % m32, false⟩ ∧
      t.dg .FC_TIME1_TIME = s.canopy.time / m32 % 65536

/-- A write of AFE_CTL takes ADC_EN and HYB_EN, and DRV_MODE unless it is 3; LOOP 0 is always taken, LOOP 1 or 2 only in
MAINT with the PCS loopback off, and any other sets LOOP_REJ and leaves LOOP. A write of PCS_CTL turns PCS_LOOP and
SCR_BYPASS off always and on only in MAINT, PCS_LOOP only with no AFE loopback; a test mode other than 0 is taken
only in MAINT and where the active type has it; a write that would turn one on in the cycle in which the channel
leaves MAINT counts as one outside it; a turned-away write sets LOOP_REJ. A sample block with fewer full-scale
samples than SAT_N, or with SAT_N 0, counts nothing; one with as many counts an event and sets SAT; the event that
brings the open window to SAT_FAULT asserts source k = 0 of the channel, once. -/
def Obligations.LoopbacksTestModesAndSaturation : Prop :=
  ∀ (s : State) (c : Ch),
    (∀ (src : Src) (v : Word), s.arrives src c .afe → (s.ch c).posted = [] →
      let m := bits v.toNat 5 4
      ∀ leave, ∃ t, exec (.afeCtlWrite src c v leave) s = .next t ∧ t.cg c .AFE_CTL_ADC_EN = bits v.toNat 7 7 ∧
        t.cg c .AFE_CTL_HYB_EN = bits v.toNat 6 6 ∧ (v.toNat % 4 ≠ 3 → t.cg c .AFE_CTL_DRV_MODE = v.toNat % 4) ∧
        (v.toNat % 4 = 3 → t.cg c .AFE_CTL_DRV_MODE = s.cg c .AFE_CTL_DRV_MODE) ∧
        (m = 0 → t.cg c .AFE_CTL_LOOP = 0) ∧
        (m = 1 ∨ m = 2 → (s.ch c).sub = .maint → leave = false → s.cb c .PCS_CTL_PCS_LOOP = false →
          t.cg c .AFE_CTL_LOOP = m ∧ t.cg c .AFE_STAT_LOOP_REJ = s.cg c .AFE_STAT_LOOP_REJ) ∧
        (m = 3 ∨ m ≠ 0 ∧ ((s.ch c).sub ≠ .maint ∨ leave = true ∨ s.cb c .PCS_CTL_PCS_LOOP = true) →
          t.cg c .AFE_CTL_LOOP = s.cg c .AFE_CTL_LOOP ∧ t.cg c .AFE_STAT_LOOP_REJ = 1)) ∧
    (∀ (src : Src) (v : Word) (leave : Bool), s.arrives src c .pcs → (s.ch c).posted = [] →
      (∃ t, exec (.pcsCtlWrite src c v leave) s = .next t ∧ t.cg c .PCS_CTL_TYPE = s.cg c .PCS_CTL_TYPE ∧
        (v.toNat.testBit 10 = false → t.cg c .PCS_CTL_PCS_LOOP = 0) ∧
        (v.toNat.testBit 10 = true → (s.ch c).sub = .maint → leave = false → s.cg c .AFE_CTL_LOOP = 0 → t.cg c .PCS_CTL_PCS_LOOP = 1) ∧
        (v.toNat.testBit 10 = true → (s.ch c).sub ≠ .maint ∨ leave = true ∨ s.cg c .AFE_CTL_LOOP ≠ 0 →
          t.cg c .PCS_CTL_PCS_LOOP = s.cg c .PCS_CTL_PCS_LOOP ∧ t.cg c .PCS_STAT_LOOP_REJ = 1) ∧
        (v.toNat.testBit 11 = false → t.cg c .PCS_CTL_SCR_BYPASS = 0) ∧
        (v.toNat.testBit 11 = true → (s.ch c).sub = .maint → leave = false → t.cg c .PCS_CTL_SCR_BYPASS = 1) ∧
        (v.toNat.testBit 11 = true → (s.ch c).sub ≠ .maint ∨ leave = true →
          t.cg c .PCS_CTL_SCR_BYPASS = s.cg c .PCS_CTL_SCR_BYPASS ∧ t.cg c .PCS_STAT_LOOP_REJ = 1)) ∧
      ∃ t, exec (.pcsTestmodeWrite src c v leave) s = .next t ∧
        (v.toNat % 16 = 0 → t.cg c .PCS_TESTMODE_MODE = 0) ∧
        (v.toNat % 16 ≠ 0 → (s.ch c).sub = .maint → leave = false → testModeOf (s.cg c .PCS_CTL_TYPE) (v.toNat % 16) = true →
          t.cg c .PCS_TESTMODE_MODE = v.toNat % 16) ∧
        (v.toNat % 16 ≠ 0 → (s.ch c).sub ≠ .maint ∨ leave = true ∨ testModeOf (s.cg c .PCS_CTL_TYPE) (v.toNat % 16) = false →
          t.cg c .PCS_TESTMODE_MODE = s.cg c .PCS_TESTMODE_MODE ∧ t.cg c .PCS_STAT_LOOP_REJ = 1)) ∧
    (∀ n : Nat, s.clocked c .afe = true → s.cb c .AFE_CTL_ADC_EN = true →
      ((s.ch c).line.satN = 0 ∨ n < (s.ch c).line.satN → exec (.satBlockEnd c n) s =
        .next (s.updLine c fun l => { l with satN := s.cg c .AFE_SATCFG_SAT_N })) ∧
      ((s.ch c).line.satN ≠ 0 → (s.ch c).line.satN ≤ n →
        (s.cg c .AFE_SATCFG_SAT_FAULT = 0 → ∃ t, exec (.satBlockEnd c n) s = .next t ∧ t.cg c .AFE_STAT_SAT = 1 ∧
          t.cg c .AFE_SATCNT_SAT_EVENTS = (s.cg c .AFE_SATCNT_SAT_EVENTS + 1) % m32) ∧
        ∀ b k, (s.ch c).line.satWin = some (b, k, false) → s.now < b + 25000 → s.cg c .AFE_SATCFG_SAT_FAULT ≠ 0 →
          s.cg c .AFE_SATCFG_SAT_FAULT ≤ k + 1 →
          let t := ((((s.cinc c .AFE_SATCNT_SAT_EVENTS).cs c .AFE_STAT_SAT 1).updLine c fun l =>
            { l with satWin := some (b, k + 1, true) }).assertSrc (.ch c 0) 0 0)
          exec (.satBlockEnd c n) s = .next (t.updLine c fun l => { l with satN := t.cg c .AFE_SATCFG_SAT_N })))

/-- With FEC running and no shift under way, a codeword within the burst window is counted, and its corrected symbols or
its being uncorrectable, as it is with more symbols in error than the code corrects, 15 in XT50, 22 in 1000BASE-T1
and 17 in the types 3 to 6; the uncorrectable codeword that brings the window to BURST_N sets FEC_BURST and asserts
source k = 3, once; at the end of the window the next one starts. Two matches in a row of at most 20 wrong bits set
ALIGNED; with ALIGNED, a match clears the count of misses, the third miss in a row clears ALIGNED and is a link
loss, and fewer only count. An OAM field whose CRC fits is kept with its SFC, unless the codeword that carries it
was uncorrectable, which the model takes to be the one decoded last (log entry 27, DEDUCED), and any other changes
nothing; the field this end sends has a CRC that fits, its SFC first, low octet first, and then its FLAGS; a frame
carries the oldest message that none has carried yet, and else the one that a running transaction repeats (log entry
36, DEDUCED). BLOCK_LOCK_CHANGE sets BLOCK_LOCK, and ALIGNED of the IEEE FEC types only. -/
def Obligations.CodewordsAlignmentAndOam : Prop :=
  ∀ (s : State) (c : Ch),
    let l := (s.ch c).line
    (s.fecRuns c = true → (s.ch c).link.shift = none → l.cw ≠ 0 → l.cw < l.burstWin →
      (∀ n, fecLimit (s.rxType c) < n → exec (.fecCodewordDecode c (some n)) s = exec (.fecCodewordDecode c none) s) ∧
      (∀ n, n ≤ fecLimit (s.rxType c) → l.burstN = 0 ∨ l.unc < l.burstN ∨ l.burstDone = true →
        ∃ t, exec (.fecCodewordDecode c (some n)) s = .next t ∧
          t.cg c .PCS_FEC_CW_COUNT = (s.cg c .PCS_FEC_CW_COUNT + 1) % m32 ∧
          (n ≠ 0 → t.cg c .PCS_FEC_CORRCW_COUNT = (s.cg c .PCS_FEC_CORRCW_COUNT + 1) % m32 ∧
            t.cg c .PCS_FEC_CORRSYM_COUNT = (s.cg c .PCS_FEC_CORRSYM_COUNT + n) % m32) ∧
          t.cg c .PCS_FEC_UNCORR_COUNT = s.cg c .PCS_FEC_UNCORR_COUNT ∧
          (t.ch c).line = { l with cw := l.cw + 1, sinceUnc := min 144 (l.sinceUnc + 1) }) ∧
      (l.burstN = 0 ∨ l.unc + 1 < l.burstN ∨ l.burstDone = true →
        ∃ t, exec (.fecCodewordDecode c none) s = .next t ∧
          t.cg c .PCS_FEC_CW_COUNT = (s.cg c .PCS_FEC_CW_COUNT + 1) % m32 ∧
          t.cg c .PCS_FEC_UNCORR_COUNT = (s.cg c .PCS_FEC_UNCORR_COUNT + 1) % m32 ∧
          (t.ch c).line = { l with cw := l.cw + 1, unc := l.unc + 1, sinceUnc := 0 }) ∧
      (l.burstN ≠ 0 → l.burstN ≤ l.unc + 1 → l.burstDone = false →
        ∃ t : State, exec (.fecCodewordDecode c none) s = .next ((t.assertSrc (.ch c 3) 0 (l.unc + 1)).shiftQualify c) ∧
          t.cg c .PCS_STAT_FEC_BURST = 1 ∧ (t.ch c).line.burstDone = true)) ∧
    (s.clocked c .pcs = true → l.burstWin ≤ l.cw → exec (.fecBurstWindowEnd c) s =
      .next (s.updLine c fun l => { l with cw := 0, unc := 0, burstDone := false })) ∧
    (∀ n, s.xtRx c = true → (s.ch c).link.shift = none → s.cb c .LPI_STAT_RX_LPI = false →
      (s.cb c .PCS_STAT_ALIGNED = false → n ≤ 20 → l.hit = true →
        ∃ t, exec (.alignmentSearch c n) s = .next t ∧ t.cg c .PCS_STAT_ALIGNED = 1) ∧
      (s.cb c .PCS_STAT_ALIGNED = false → 20 < n ∨ l.hit = false →
        ∃ t, exec (.alignmentSearch c n) s = .next t ∧ t.regs = s.regs ∧ (t.ch c).line = { l with hit := decide (n ≤ 20) }) ∧
      (s.cb c .PCS_STAT_ALIGNED = true → n ≤ 20 →
        ∃ t, exec (.alignmentSearch c n) s = .next t ∧ t.regs = s.regs ∧ (t.ch c).line = { l with miss := 0 }) ∧
      (s.cb c .PCS_STAT_ALIGNED = true → 20 < n → l.miss < 2 →
        exec (.alignmentSearch c n) s = .next (s.updLine c fun l => { l with miss := l.miss + 1 })) ∧
      (s.cb c .PCS_STAT_ALIGNED = true → 20 < n → 2 ≤ l.miss → exec (.alignmentSearch c n) s =
        .next (((s.updLine c fun l => { l with miss := 0, hit := false }).cs c .PCS_STAT_ALIGNED 0).critLoss c 0x20))) ∧
    (∀ o : List Byte, s.xtRx c = true → s.cb c .PCS_STAT_ALIGNED = true →
      (oamOk o = true → l.sinceUnc ≠ 0 → ∃ t, exec (.oamFieldReceive c o) s = .next t ∧ (t.ch c).line = { l with oam := o } ∧
        t.cg c .PCS_FRCOUNT_RX_FR = ((o.getD 0 0).toNat + 256 * (o.getD 1 0).toNat) % 65536) ∧
      (oamOk o = false ∨ l.sinceUnc = 0 → exec (.oamFieldReceive c o) s = .next s)) ∧
    (oamOk (s.oamOut c) = true ∧ (s.oamOut c).getD 2 0 = BitVec.ofNat 8 (s.oamFlags c (s.ch c).link.onAir) ∧
      (s.oamOut c).take 2 = [BitVec.ofNat 8 (s.txFr c), BitVec.ofNat 8 (s.txFr c / 256)]) ∧
    (s.oamOpen c = true →
      (∀ m r, (s.ch c).link.carry = m :: r → ((s.oamFrame c).ch c).link.onAir = some m ∧ ((s.oamFrame c).ch c).link.carry = r) ∧
      ((s.ch c).link.carry = [] → ((s.oamFrame c).ch c).link.onAir = (s.ch c).link.msg)) ∧
    (fecLimit 7 = 15 ∧ fecLimit 2 = 22 ∧ ∀ y, 3 ≤ y → y ≤ 6 → fecLimit y = 17) ∧
    (∀ lock aligned : Bool, isSeg c = false → s.clocked c .pcs = true → (s.ch c).link.shift = none →
      ∃ t, exec (.blockLockChange c lock aligned) s = .next t ∧ t.cg c .PCS_STAT_BLOCK_LOCK = b2n lock ∧
        (2 ≤ s.rxType c → s.rxType c ≤ 6 → t.cg c .PCS_STAT_ALIGNED = b2n aligned) ∧
        (s.rxType c < 2 ∨ 6 < s.rxType c → t.cg c .PCS_STAT_ALIGNED = s.cg c .PCS_STAT_ALIGNED))

/-- On a trunk or branch with nothing in its buffer: CAPT requests a capture, or sets CMD_REJ while one is copied; SNAP
requests a snapshot in UP and does nothing elsewhere; CLR requests a clear; PROBE_RST drops what the probe found;
REBASE starts on a trunk whose standby type is another trunk type and else sets CMD_REJ. A window write goes to the
shadows, or with AUTO sets WIN_REJ. TAPDATA reads and writes the selected coefficient and advances INDEX with
AUTOINC; a write of the active bank is taken only while its engine is frozen and else sets TAP_REJ; a placement word
waits for the next boundary while the windows are frozen, and one that leaves an invalid set sets WIN_REJ. A write
of STBY_TYPE clears STBY_VALID. Clearing DIVERGED clears the DIV mask. A finished copy replaces the buffer, and a
finished rebase makes the standby bank valid. -/
def Obligations.CommandsOfTheReceiveDsp : Prop :=
  ∀ (s : State) (c : Ch), isSeg c = false →
    (∀ src : Src, s.arrives src c .dsp → (s.ch c).posted = [] →
      ((s.ch c).rx.copy = none → exec (.capt src c) s = .next ((s.updRx c fun r => { r with captReq := true }).reply 0)) ∧
      ((s.ch c).rx.copy.isSome = true → exec (.capt src c) s = .next ((s.cs c .DSP_STAT_CMD_REJ 1).reply 0)) ∧
      ((s.ch c).sub = .up → exec (.snap src c) s = .next ((s.updRx c fun r => { r with snapReq := true }).reply 0)) ∧
      ((s.ch c).sub ≠ .up → exec (.snap src c) s = .next (s.reply 0)) ∧
      exec (.clr src c) s = .next ((s.updRx c fun r => { r with clrReq := true }).reply 0) ∧
      exec (.probeRst src c) s =
        .next ((s.updRx c fun r => { r with est := [], swept := [], lastSwept := [], pos := denseLen c, dwell := 0 }).reply 0) ∧
      (let ty := s.cg c .DSP_BANK_STBY_TYPE
       (isTrunk c = true → 2 ≤ ty → ty ≤ 7 → ty ≠ (s.ch c).dsp.actType →
         exec (.rebase src c) s = .next ((s.updRx c fun r => { r with rebasing := true }).reply 0)) ∧
       (isTrunk c = false ∨ ty < 2 ∨ 7 < ty ∨ ty = (s.ch c).dsp.actType →
         exec (.rebase src c) s = .next ((s.cs c .DSP_STAT_CMD_REJ 1).reply 0))) ∧
      (∀ (w : Fin 8) (v : Word), w.val < winCount c →
        (s.cb c .DSP_WINCTL_AUTO = true →
          exec (.dspWinWrite src c w v) s = .next ((s.cs c .DSP_STAT_WIN_REJ 1).reply 0)) ∧
        (s.cb c .DSP_WINCTL_AUTO = false → ∃ t, exec (.dspWinWrite src c w v) s = .next t ∧ t.regs = s.regs ∧
          (t.ch c).dsp = (s.ch c).dsp ∧ (t.ch c).shadow.lookup (.DSP_WIN_EN w.val) = some (bits v.toNat 31 31) ∧
          (t.ch c).shadow.lookup (.DSP_WIN_START w.val) = some (v.toNat % 8192))) ∧
      (∃ t, exec (.dspTapdataRead src c) s = .next t ∧ t.bus = ⟨s.tapRead c % m32, false⟩ ∧ t.chans = s.chans ∧
        t.cg c .DSP_TAPSEL_INDEX =
          if s.cb c .DSP_TAPSEL_AUTOINC then (s.cg c .DSP_TAPSEL_INDEX + 1) % 1024 else s.cg c .DSP_TAPSEL_INDEX) ∧
      (∀ v : Word,
        let a := s.cg c .DSP_TAPSEL_AREA
        let i := s.cg c .DSP_TAPSEL_INDEX
        a < 4 → hasTap c a i = true →
        (s.cb c .DSP_TAPSEL_BANK = false → (s.ch c).rx.eff.testBit (engineOf a i).2 = true →
          exec (.dspTapdataWrite src c v) s = .next (((s.updAct c fun b => { b with
            taps := tapSet b.taps (tapKey a i) (sint 16 (v.toNat % 65536) * 256) }).tapInc c).reply 0)) ∧
        (s.cb c .DSP_TAPSEL_BANK = false → (s.ch c).rx.eff.testBit (engineOf a i).2 = false →
          exec (.dspTapdataWrite src c v) s = .next (((s.cs c .DSP_STAT_TAP_REJ 1).tapInc c).reply 0)) ∧
        (s.cb c .DSP_TAPSEL_BANK = true → isTrunk c = true →
          exec (.dspTapdataWrite src c v) s = .next (((s.updStby c fun b => { b with
            taps := tapSet b.taps (tapKey a i) (sint 16 (v.toNat % 65536) * 256) }).tapInc c).reply 0))) ∧
      (∀ v : Word,
        let i := s.cg c .DSP_TAPSEL_INDEX
        let w := v.toNat % 8192
        s.cg c .DSP_TAPSEL_AREA = 4 → s.cb c .DSP_TAPSEL_BANK = false →
        (winCount c ≤ i ∨ (s.ch c).rx.eff.testBit 1 = false →
          exec (.dspTapdataWrite src c v) s = .next (((s.cs c .DSP_STAT_TAP_REJ 1).tapInc c).reply 0)) ∧
        (i < winCount c → (s.ch c).rx.eff.testBit 1 = true → (s.ch c).rx.placeTap = [] →
          (Bank.valid c ((s.ch c).dsp.banks[(s.ch c).dsp.active.val].place i (v.toNat.testBit 15) w) = true →
            exec (.dspTapdataWrite src c v) s = .next (((s.updRx c fun r => { r with
              placeTap := [((s.ch c).dsp.active, i, v.toNat.testBit 15, w)] }).tapInc c).reply 0)) ∧
          (Bank.valid c ((s.ch c).dsp.banks[(s.ch c).dsp.active.val].place i (v.toNat.testBit 15) w) = false →
            exec (.dspTapdataWrite src c v) s = .next (((s.cs c .DSP_STAT_WIN_REJ 1).tapInc c).reply 0)))) ∧
      (∀ v : Word, isTrunk c = true → ∃ t, exec (.stbyTypeWrite src c v) s = .next t ∧
        t.cg c .DSP_BANK_STBY_TYPE = bits v.toNat 7 4 ∧ (t.ch c).dsp = { (s.ch c).dsp with stbyValid := false }) ∧
      ∃ t, exec (.divergedClear src c) s = .next t ∧ t.cg c .DSP_STAT_DIVERGED = 0 ∧ t.cg c .DSP_FRZHW_DIV = 0 ∧
        t.chans = s.chans) ∧
    (s.clocked c .dsp = true →
      (∀ m b, (s.ch c).rx.copy = some (m, b) → ∃ t, exec (.captDone c) s = .next t ∧ (t.ch c).rx.copy = none ∧
        (t.ch c).rx.buf = m ∧ t.cg c .DSP_STAT_CAPT_DONE = 1 ∧ t.cg c .DSP_CAPTSTAMP_BLOCK = b % m32) ∧
      ((s.ch c).rx.rebasing = true → (s.ch c).link.shift = none → ∃ t, exec (.rebaseDone c) s = .next t ∧
        (t.ch c).dsp.stbyValid = true ∧ (t.ch c).rx.rebasing = false ∧ (t.ch c).dsp.act = (s.ch c).dsp.act) ∧
      (s.cg c .DSP_DIVCFG_SNAP_MIN ≤ s.cg c .DSP_MSE_SNR → s.cb c .DSP_STAT_DIVERGED = false → (s.ch c).sub = .up →
        exec (.snapPeriodic c) s = .next (s.updRx c fun r => { r with snapReq := true })))

/-- With the DSP running, an update-block boundary counts a block, puts the freeze mask of that cycle in force, swaps
the banks where the switch point lies there, and takes the captures and the snapshots requested, in this model also
one asked for in UP after the channel has left UP (log entry 28, DESIGN CHOICE); with the engines frozen it moves no
coefficient. An engine that has adapted for 2 to the ACQLEN blocks goes to tracking. The probe, once it has dwelt
there for 2^DWELL symbols, DWELL clamped to 12 to 24, keeps 16 estimates for its position and goes on, or ends a
sweep at the last one. A window of 2^MSE_WIN update blocks sets SNR to ten times the logarithm of the slicer's power
over its mean squared error, in 1/16 dB within one unit, and LOCK by the rms of its phase errors, below 4 units of
1/128 UI; it loses LOCK with LOCK_LOST, and below SNR_MIN for the last of LOSS_N windows is a loss of the link,
which is asserted before or after a divergence of the same window by their classes (R334), and after it in one
class. A coefficient at its limit for 4,096 update blocks, in UP with SAT_DIV, is a divergence, which sets DIVERGED
and the DIV mask, asks for the snapshot where one is held, and asserts source k = 2, once. -/
def Obligations.ConvergenceOfTheReceiveDsp : Prop :=
  ∀ (s : State) (c : Ch), s.dspRuns c = true →
    (∀ inp : BlockIn, (s.ch c).diag.run = .none → (s.ch c).rx.swapReq = false → (s.ch c).rx.restoreReq = false →
      (s.ch c).rx.clrReq = false → (s.ch c).rx.winDue = false → (s.ch c).rx.placeTap = [] → (s.ch c).rx.placeAuto = none →
      s.frzEff c = 0x7F →
      ∃ t, exec (.updateBlockBoundary c inp) s = .next t ∧ (t.ch c).rx.block = (s.ch c).rx.block + 1 ∧
        (t.ch c).rx.eff = 0x7F ∧ (t.ch c).dsp.act = (s.ch c).dsp.act ∧ (t.ch c).rx.captReq = false ∧
        (t.ch c).rx.snapReq = false ∧
        ((s.ch c).rx.captReq = true → (t.ch c).rx.copy.isSome = true) ∧
        ((s.ch c).rx.snapReq = true →
          (t.ch c).dsp.snap = some ⟨(s.ch c).dsp.act, s.cg c .DSP_MSE_SNR, s.now⟩)) ∧
    (∀ inp : BlockIn, (s.ch c).diag.run = .none → (s.ch c).rx.swapReq = true →
      let x := s.updRx c fun r => { r with block := r.block + 1 }
      exec (.updateBlockBoundary c inp) s = .next ((((((x.bankSwap c).placeAll c).updRx c fun r =>
        { r with eff := ((x.bankSwap c).placeAll c).frzEff c }).adapt c inp).probeDwell c).captSnap c)) ∧
    ((s.bankSwap c).ch c).dsp.active = 1 - (s.ch c).dsp.active ∧
    ((s.bankSwap c).ch c).dsp.actType = s.cg c .DSP_BANK_STBY_TYPE ∧ ((s.bankSwap c).ch c).dsp.snap = none ∧
    (∀ e : Engine, ((s.ch c).rx.phases.toList.getD (engineIx e) ⟨false, 0⟩).track = false →
      2 ^ s.acqLen c e ≤ ((s.ch c).rx.phases.toList.getD (engineIx e) ⟨false, 0⟩).count →
      ∃ t, exec (.acqToTrack c e) s = .next t ∧ t.regs = s.regs ∧ (t.ch c).dsp = (s.ch c).dsp ∧
        ∀ k, (t.ch c).rx.phases.toList.getD k ⟨false, 0⟩ =
          if k = engineIx e then ⟨true, ((s.ch c).rx.phases.toList.getD k ⟨false, 0⟩).count⟩
          else (s.ch c).rx.phases.toList.getD k ⟨false, 0⟩) ∧
    (∀ (l : List Int) (p : Nat), s.cb c .DSP_PROBE_EN = true → (s.ch c).rx.eff.testBit 6 = false → s.probePos c = some p →
      let ps := (s.ch c).dsp.act.positions c
      ((s.ch c).rx.dwell * blockLen c < 2 ^ max 12 (min 24 (s.cg c .DSP_PROBE_DWELL)) →
        exec (.probeDwellEnd c l) s = .next s) ∧
      (2 ^ max 12 (min 24 (s.cg c .DSP_PROBE_DWELL)) ≤ (s.ch c).rx.dwell * blockLen c →
      (∀ q, ps.find? (fun q => p < q) = some q → ∃ t, exec (.probeDwellEnd c l) s = .next t ∧ t.regs = s.regs ∧
        (t.ch c).rx.pos = q ∧ (t.ch c).rx.est.lookup p = some ((List.range 16).map fun i => satS 24 (l.getD i 0))) ∧
      (ps.find? (fun q => p < q) = none → ∃ t, exec (.probeDwellEnd c l) s = .next t ∧ (t.ch c).rx.pos = ps.headD 0 ∧
        (t.ch c).rx.swept = [] ∧ t.cg c .DSP_PROBESTAT_SWEEPS =
          (s.cg c .DSP_PROBESTAT_SWEEPS + 1) % 2 ^ (CFld.info .DSP_PROBESTAT_SWEEPS).wid))) ∧
    ((s.ch c).sub = .maint → (s.ch c).link.st = .stop → s.cb c .DSP_MSE_VALID = false →
      (s.ch c).link.shift = none → (s.ch c).link.x = .none →
      (2 ^ s.cg c .DSP_CTL_MSE_WIN ≤ (s.ch c).rx.winN → ∃ t, exec (.mseWindowEnd c) s = .next t ∧
        t.cg c .DSP_MSE_SNR = (s.snrOf (decide (3 ≤ s.rxType c)) (s.ch c).rx.winN (s.ch c).rx.winErr).1 ∧
        t.cg c .DSP_TRSTAT_LOCK = b2n (decide ((s.ch c).rx.winPd < 16 * (s.ch c).rx.winN)) ∧
        (s.cb c .DSP_TRSTAT_LOCK = true → 16 * (s.ch c).rx.winN ≤ (s.ch c).rx.winPd →
          t.cg c .DSP_TRSTAT_LOCK_LOST = 1) ∧ t.cg c .DSP_MSE_VALID = 0 ∧ (t.ch c).rx.winN = 0) ∧
      ((s.ch c).rx.winN < 2 ^ s.cg c .DSP_CTL_MSE_WIN → exec (.mseWindowEnd c) s = .next s)) ∧
    (∀ (pam4 : Bool) (n err : Nat), 0 < err →
      let num := (if pam4 then 5 else 6) * n * 2 ^ 24
      9 * err ≤ num →
        let q := (s.snrOf pam4 n err).1
        (q = 0 ∨ 10 ^ (q - 1) * (9 * err) ^ 160 ≤ num ^ 160) ∧ (q = 4095 ∨ num ^ 160 < 10 ^ (q + 1) * (9 * err) ^ 160)) ∧
    (∀ n : Nat, s.linkLive c = true → n < s.cg c .LINK_LOSSCFG_SNR_MIN →
      max 1 (s.cg c .LINK_LOSSCFG_LOSS_N) ≤ (s.ch c).rx.lossRun + 1 → 
        s.lossWindow c n = (true, s.updRx c fun r => { r with lossRun := 0 })) ∧
    (∀ d : Bool, s.windowFaults c d true =
      if s.classOfSrc (.ch c 2) < s.classOfSrc (.ch c 4) then (if d then (s.critLoss c 0x30).diverge c 0 else s.critLoss c 0x30)
      else (if d then s.diverge c 0 else s).critLoss c 0x30) ∧
    ((s.ch c).sub = .up → s.cb c .DSP_DIVCFG_SAT_DIV = true → (∃ p ∈ (s.ch c).rx.satRun, 4096 ≤ p.2) →
      (s.cb c .DSP_STAT_DIVERGED = true → exec (.tapSatCountExpire c) s = .next s) ∧
      (s.cb c .DSP_STAT_DIVERGED = false → (s.ch c).dsp.snap = none → exec (.tapSatCountExpire c) s =
        .next (((s.cs c .DSP_STAT_DIVERGED 1).cs c .DSP_FRZHW_DIV 0x6F).assertSrc (.ch c 2) 1 0)) ∧
      (s.cb c .DSP_STAT_DIVERGED = false → (s.ch c).dsp.snap.isSome = true → exec (.tapSatCountExpire c) s =
        .next ((((s.cs c .DSP_STAT_DIVERGED 1).cs c .DSP_FRZHW_DIV 0x6F).updRx c fun r =>
          { r with restoreReq := true }).assertSrc (.ch c 2) 1 0)))

/-- START in STOP and IDLE begins an attempt, by negotiation or forced, and with a forced type that fails its checks is
ignored with CMD_REJ; STOP in AN and TRAIN goes to HOLDOFF, in UP and SHIFT is a link loss with cause 0x01, in
HOLDOFF drops a restart, and in STOP is rejected; RESTART is the same with a restart due and cause 0x03, but
rejected in HOLDOFF. SHIFT that fails a check records the check's code, sets CMD_REJ and leaves the link; one that
passes sends REQ. A shift not committed can be cancelled, by a CANCEL with reason 6. HOLDOFF ends in STOP, or with a
restart due in a new attempt. A write of CHCTL_CTL takes its fields and sets CTL_CHG, and with MAINT_REQ 0 leaves
MAINT; with MAINT_REQ 1 a channel in IDLE or UP enters MAINT with its link forced to STOP. QREL releases a
QUARANTINE that nothing holds, and otherwise is rejected. -/
def Obligations.CommandsOfLinkControl : Prop :=
  ∀ (s : State) (c : Ch),
    let l := (s.ch c).link
    (∀ src : Src, isSeg c = false → s.arrives src c .link → (s.ch c).posted = [] →
      (l.st = .stop → (s.ch c).sub = .idle →
        let x := s.updLink c fun l => { l with restart := false }
        (s.cb c .LINK_CTL_AN_EN = true → exec (.start src c) s = .next ((x.enterAn c).reply 0)) ∧
        (s.cb c .LINK_CTL_AN_EN = false → s.forcedOk c = true → exec (.start src c) s = .next ((x.enterForced c).reply 0)) ∧
        (s.cb c .LINK_CTL_AN_EN = false → s.forcedOk c = false →
          exec (.start src c) s = .next ((x.cs c .LINK_EVT_CMD_REJ 1).reply 0))) ∧
      (l.st ≠ .stop ∨ (s.ch c).sub ≠ .idle →
        exec (.start src c) s = .next ((s.cs c .LINK_EVT_CMD_REJ 1).reply 0)) ∧
      (l.st = .stop → exec (.stop src c) s = .next ((s.cs c .LINK_EVT_CMD_REJ 1).reply 0)) ∧
      (l.st = .holdoff → exec (.stop src c) s = .next ((s.updLink c fun l => { l with restart := false }).reply 0)) ∧
      (l.st = .an ∨ l.st = .train → exec (.stop src c) s = .next ((s.toHoldoff c false).reply 0) ∧
        exec (.restart src c) s = .next ((s.toHoldoff c true).reply 0)) ∧
      (l.st = .up ∨ l.st = .shift → exec (.stop src c) s = .next ((s.linkLoss c 0x01 false).reply 0) ∧
        exec (.restart src c) s = .next ((s.linkLoss c 0x03 true).reply 0)) ∧
      (l.st = .stop ∨ l.st = .holdoff →
        exec (.restart src c) s = .next ((s.cs c .LINK_EVT_CMD_REJ 1).reply 0)) ∧
      (let k := s.shiftBlock c (s.cg c .LINK_SHIFTCFG_TGT) false
          (decide (l.st = .shift) || decide ((s.ch c).sub ≠ .up) || (s.ch c).lpi.sleep.isSome)
       l.st = .up ∨ l.st = .shift →
        (k ≠ 0 → exec (.shift src c) s =
          .next (((s.cs c .LINK_SHIFTSTAT_REASON k).cs c .LINK_EVT_CMD_REJ 1).reply 0)) ∧
        (k = 0 → ∃ t m, exec (.shift src c) s = .next t ∧ (t.ch c).link.st = .shift ∧ t.cg c .LINK_SHIFTSTAT_PHASE = 1 ∧
          (t.ch c).link.msg = some m ∧ m.is 0x10 = true ∧ m.target = s.cg c .LINK_SHIFTCFG_TGT % 16)) ∧
      (l.st ≠ .up → l.st ≠ .shift → exec (.shift src c) s = .next ((s.cs c .LINK_EVT_CMD_REJ 1).reply 0)) ∧
      (l.shift = none → exec (.shiftCancel src c) s = .next ((s.cs c .LINK_EVT_CMD_REJ 1).reply 0)) ∧
      (∀ h, l.shift = some h →
        (h.committed = true → exec (.shiftCancel src c) s = .next ((s.cs c .LINK_EVT_CMD_REJ 1).reply 0)) ∧
        (h.committed = false → ∃ t m, exec (.shiftCancel src c) s = .next t ∧ (t.ch c).link.st = .up ∧
          (t.ch c).link.shift = none ∧ t.cg c .LINK_SHIFTSTAT_REASON = 6 ∧ t.cg c .LINK_EVT_SHIFT_FAIL = 1 ∧
          (t.ch c).link.msg = none ∧ (t.ch c).link.sent = l.sent ++ [m] ∧ m.is 0x16 = true ∧ m.reason = 6))) ∧
    (s.linkIn c .holdoff = true →
      (l.restart = false → exec (.holdoffEnd c) s = .next (s.toStop c)) ∧
      (l.restart = true → s.cb c .LINK_CTL_AN_EN = true → exec (.holdoffEnd c) s = .next (s.enterAn c)) ∧
      (l.restart = true → s.cb c .LINK_CTL_AN_EN = false → s.forcedOk c = true →
        exec (.holdoffEnd c) s = .next (s.enterForced c)) ∧
      (l.restart = true → s.cb c .LINK_CTL_AN_EN = false → s.forcedOk c = false →
        exec (.holdoffEnd c) s = .next ((s.toStop c).cs c .LINK_EVT_CMD_REJ 1))) ∧
    (∀ (src : Src) (v : Word), s.arrives src c .chctl → (s.ch c).posted = [] →
      ((s.cg c .CHPWR_VOTE_CLIENTS).testBit 1 = false → ∃ t, exec (.chctlCtlWrite src c v) s = .next t ∧
        t.cg c .CHCTL_CTL_MAINT_REQ = bits v.toNat 8 8 ∧ t.cg c .CHCTL_CTL_HOLD = bits v.toNat 9 9 ∧
        t.cg c .CHCTL_CTL_TYPE_REQ = bits v.toNat 7 4 ∧ t.cg c .CHCTL_CTL_ROLE_REQ = bits v.toNat 3 2 ∧
        t.cg c .CHCTL_CTL_AN_REQ = v.toNat % 2 ∧ t.cg c .SEQ_HOSTEVT_CTL_CHG = 1 ∧
        (t.ch c).sub = if v.toNat.testBit 8 = false ∧ (s.ch c).sub = .maint then .idle else (s.ch c).sub) ∧
      ((s.ch c).sub = .quarantine → s.heldBy (.ch c) = false → s.liveHigh c = false → s.power.mode ≠ .safe →
        exec (.qrel src c) s = .next (((s.releaseCh c).voteChanged c).reply 0)) ∧
      ((s.ch c).sub ≠ .quarantine ∨ s.heldBy (.ch c) = true ∨ s.liveHigh c = true ∨ s.power.mode = .safe →
        exec (.qrel src c) s = .next ((s.cs c .CHCTL_STATE_CMD_REJ 1).reply 0))) ∧
    (s.cb c .CHCTL_CTL_MAINT_REQ = true → s.running c = true → (s.ch c).sub = .idle ∨ (s.ch c).sub = .up →
      exec (.maintEntry c) s = .next ((s.forceStop c (some 0x05)).setSub c .maint)) ∧
    ((s.enterAn c).ch c).link.st = .an ∧ ((s.enterAn c).ch c).sub = .training ∧
    ((s.enterForced c).ch c).link.st = .train ∧ ((s.enterForced c).ch c).link.typ = s.cg c .LINK_CTL_FTYPE ∧
    ((s.releaseCh c).ch c).sub = .idle

/-- In AN a base page is recorded as the partner's, an unformatted page after the vendor's message page is its
capability word, and other pages are not kept. Resolution, by the types advertised and the role and seed sent, with
no agreed role or no common type is a failure, which counts, sets its flags and goes to HOLDOFF; otherwise training
of the highest common type begins in the resolved role. A timer that expires in AN or TRAIN is a failure with its
event. XT50 leaves X_SILENT for X_SEND as master and X_LISTEN as slave; an infofield with a correct CRC is recorded,
and one that confirms a lower state of the partner sends this end back to X_SEND; another changes nothing; the count
of X_COUNT ends in X_CHECK. Training ends in UP with LINK_EVT.UP, of a PAM-4 type of the IEEE with the precoders
that the partner asked for, also by the code 3 that R55 calls not used (log entry 36, DESIGN CHOICE), and that it
acknowledged, of XT50 only once X_CHECK qualifies, and never of a type the channel's class does not have; the
monitor of an IEEE type that fails is a link loss. -/
def Obligations.NegotiationAndTraining : Prop :=
  ∀ (s : State) (c : Ch),
    let l := (s.ch c).link
    (s.linkIn c .an = true →
      (∀ types eee role seed, ∃ t, exec (.anPageReceive c (.base types eee role seed)) s = .next t ∧
        t.cg c .LINK_ANLP_TYPES % 64 = types.toNat % 64 ∧ t.cg c .LINK_ANLP_EEE = b2n eee ∧
        (t.ch c).link.lpBase = some (role.val, seed.toNat) ∧ (t.ch c).link.st = .an) ∧
      (∀ oui, exec (.anPageReceive c (.ouiMessage oui)) s =
        .next (s.updLink c fun l => { l with lpOui := decide (oui = 0x4C6A91#24) })) ∧
      (∀ code, l.lpOui = true → ∃ t, exec (.anPageReceive c (.unformatted code)) s = .next t ∧
        t.cg c .LINK_LPCAP_CAP = code.toNat % 2 ^ (CFld.info .LINK_LPCAP_CAP).wid ∧ t.cg c .LINK_ANLP_LP_FJ = 1 ∧
        (t.cg c .LINK_ANLP_TYPES).testBit 6 = code.toNat.testBit 0) ∧
      (∀ code, l.lpOui = false → exec (.anPageReceive c (.unformatted code)) s = .next s) ∧
      (∀ role lp, l.lpBase = some (role, lp) →
        let r := (s.resolveRole l.role role l.seed lp).1
        let ty := bestType ((if s.power.hot then l.adv % 64 else l.adv) &&& s.cg c .LINK_ANLP_TYPES)
        (r = none → ∃ t, exec (.anResolve c) s = .next t ∧ (t.ch c).link.st = .holdoff ∧
          t.cg c .LINK_ANSTAT_MS_FAULT = 1 ∧ t.cg c .LINK_EVT_AN_FAIL = 1 ∧
          t.cg c .LINK_TRFAIL_COUNT = (s.cg c .LINK_TRFAIL_COUNT + 1) % m32) ∧
        (r.isSome = true → ty = 0 → ∃ t, exec (.anResolve c) s = .next t ∧ (t.ch c).link.st = .holdoff ∧
          t.cg c .LINK_ANSTAT_NO_HCD = 1 ∧ t.cg c .LINK_EVT_AN_FAIL = 1) ∧
        (∀ m, r = some m → ty ≠ 0 → ∃ t, exec (.anResolve c) s = .next t ∧ (t.ch c).link.st = .train ∧
          (t.ch c).link.typ = ty ∧ (t.ch c).link.master = m ∧ t.cg c .LINK_ANSTAT_AN_DONE = 1 ∧
          t.cg c .LINK_ANSTAT_RESOLVED = ty ∧ t.cg c .LINK_ANSTAT_MASTER = b2n m)) ∧
      exec (.anTimeout c) s = .next (s.trainFail c .LINK_EVT_AN_FAIL)) ∧
    (s.linkIn c .train = true →
      exec (.trainTimeout c) s = .next (s.trainFail c .LINK_EVT_TRAIN_TMO) ∧
      (l.x = .silent → exec (.xsilExpire c) s = .next (s.toX c (if l.master then .send else .listen))) ∧
      (∀ (v : BitVec 192) crc, xiCrcOk v crc = false → exec (.infofieldReceive c v crc) s = .next s) ∧
      (∀ (v : BitVec 192) crc, l.x.hears = true → xiCrcOk v crc = true →
        let conf := if l.xiCount = 0 then l.xiConf else xiConfirm l.xiConf l.xiLast v.toNat
        ∃ t, exec (.infofieldReceive c v crc) s = .next t ∧ (t.ch c).link.xiLast = v.toNat ∧
          (t.ch c).link.xiCount = l.xiCount + 1 ∧ (t.ch c).link.xiConf = conf ∧
          (∀ k < 6, t.cg c (.LINK_XINFO_BITS k) = v.toNat / 2 ^ (32 * k) % m32) ∧
          (bits conf 2 0 ≠ bits l.xiConf 2 0 → bits conf 2 0 < l.x.istate → (t.ch c).link.x = .send)) ∧
      (l.x.sends = true → l.x ≠ .count →
        exec (.infofieldSend c) s = .next (s.updLink c fun l => { l with xiOut := s.xiSend c })) ∧
      (l.x = .count → l.master = true → bits (s.xiSend c) 30 26 ≠ 0 → ∃ t, exec (.infofieldSend c) s = .next t ∧
        t.regs = s.regs ∧ (t.ch c).link.x = .count ∧ (t.ch c).link.swCnt = l.swCnt - 1) ∧
      (l.x = .count → l.master = true → bits (s.xiSend c) 30 26 = 0 → ∃ t, exec (.infofieldSend c) s = .next t ∧
        (t.ch c).link.x = .check ∧ ((s.ch c).shadow = [] → t.cg c .PCS_CTL_TYPE = 7)) ∧
      (∀ (r : Option (Fin 4)) (ack : Bool), l.opWait = false →
        (s.trainable c = false → exec (.linkUp c r ack) s = .next s) ∧
        (s.trainable c = true →
        (l.typ ≠ 7 → ∃ t, exec (.linkUp c r ack) s = .next t ∧ (t.ch c).link.st = .up ∧ (t.ch c).sub = .up ∧
          t.cg c .LINK_EVT_UP = 1 ∧ ((s.ch c).shadow = [] → l.typ < 16 → t.cg c .PCS_CTL_TYPE = l.typ) ∧
          (3 ≤ l.typ → (∀ k, r = some k → t.cg c .PCS_CTL_TX_PRECODE = k.val) ∧
            (ack = true → t.cg c .PCS_CTL_RX_PRECODE = s.cg c .LINK_XREQ_PRC % 4))) ∧
        (l.typ = 7 → s.checkOk c = true → ∃ t, exec (.linkUp c r ack) s = .next t ∧
          (t.ch c).link.st = .up ∧ (t.ch c).sub = .up ∧ t.cg c .LINK_EVT_UP = 1 ∧
          t.cg c .PCS_CTL_TYPE = s.cg c .PCS_CTL_TYPE) ∧
        (l.typ = 7 → s.checkOk c = false → exec (.linkUp c r ack) s = .next s)))) ∧
    (isSeg c = false → s.cg c .PCS_CTL_TYPE ≠ 7 →
      exec (.linkMonitorFail c .blockLock) s = .next (s.critLoss c 0x10) ∧
      exec (.linkMonitorFail c .frameSync) s = .next (s.critLoss c 0x11) ∧
      exec (.linkMonitorFail c .other) s = .next (s.critLoss c 0x12))

/-- A REQ not heard before that fails a check is answered NAK with the check's code; one that passes begins the shift,
after a rebase where the standby bank is not valid or holds another type than the target; during another transaction
it is NAK 4; where it crosses this end's own, the master ignores it and the slave withdraws its own with CONTEND.
ACK brings the initiating master to SET and its commit point; CANCEL and a missing answer before the commit point
end the shift with SHIFT_FAIL and the link UP, and so does NAK, of which the spec says only its reason (log entry
36, DEDUCED); SET commits the slave, which answers SETACK. At the frame agreed the type changes, block lock and
alignment are lost and the banks are to swap; with DONE both ways the shift is done; a shift that does not resume is
a link loss, 0x40 after the switch and 0x41 for a slave before it. -/
def Obligations.HitlessShift : Prop :=
  ∀ (s : State) (c : Ch) (m : LinkMsg),
    let l := (s.ch c).link
    (s.oamLive c = true → s.heard c 0x10 m = false →
      (let k := s.shiftBlock c m.target (!s.cb c .LINK_CTL_SHIFT_EN)
          (decide (l.st = .shift) || decide ((s.ch c).sub ≠ .up) || (s.ch c).lpi.sleep.isSome)
       l.shift = none →
        (k ≠ 0 → ∃ t, exec (.shiftReqReceive c m) s = .next t ∧ t.cg c .LINK_SHIFTSTAT_REASON = k ∧
          (t.ch c).link.shift = none ∧ (t.ch c).link.sent = l.sent ++ [LinkMsg.build 0x12 m.tid m.target m.active k 0]) ∧
        (k = 0 → (s.ch c).dsp.stbyValid = true → s.cg c .DSP_BANK_STBY_TYPE = m.target →
          exec (.shiftReqReceive c m) s =
            .next (((s.acted c 0x10 m).beginShift c false m.target m.tid true).ackIfDue c)) ∧
        (k = 0 → (s.ch c).dsp.stbyValid = false ∨ s.cg c .DSP_BANK_STBY_TYPE ≠ m.target → exec (.shiftReqReceive c m) s =
          .next (((((s.acted c 0x10 m).stbyType c m.target).rebase c).beginShift c false m.target m.tid
            true).ackIfDue c))) ∧
      (∀ h, l.shift = some h →
        (h.init = true → s.cg c .LINK_SHIFTSTAT_PHASE = 1 → l.master = true →
          exec (.shiftReqReceive c m) s = .next (s.acted c 0x10 m)) ∧
        (h.init = true → s.cg c .LINK_SHIFTSTAT_PHASE = 1 → l.master = false → exec (.shiftReqReceive c m) s =
          .next (((((s.acted c 0x10 m).cs c .LINK_SHIFTSTAT_CONTEND 1).cs c .LINK_SHIFTSTAT_PHASE 0).updLink c fun l =>
            { l with st := .up, shift := none, msg := none }).takeReq c m)) ∧
        (h.init = false ∨ s.cg c .LINK_SHIFTSTAT_PHASE ≠ 1 → ∃ t, exec (.shiftReqReceive c m) s = .next t ∧
          t.cg c .LINK_SHIFTSTAT_REASON = 4 ∧ (t.ch c).link.shift = some h ∧
          (t.ch c).link.sent = l.sent ++ [LinkMsg.build 0x12 m.tid m.target m.active 4 0]))) ∧
    ∀ h, s.clocked c .link = true → l.shift = some h →
      (s.ourTid c m = true → h.init = true → s.cg c .LINK_SHIFTSTAT_PHASE = 1 →
        (s.heard c 0x11 m = false → l.master = true → ∃ t f, exec (.shiftAckReceive c m) s = .next t ∧
          (t.ch c).link.shift = some { h with committed := true } ∧ t.cg c .LINK_SHIFTSTAT_PHASE = 3 ∧
          t.cg c .LINK_SHIFTSTAT_F = f.f ∧ (t.ch c).link.msg = some f ∧ f.is 0x13 = true ∧ f.tid = m.tid) ∧
        (s.heard c 0x11 m = false → l.master = false →
          exec (.shiftAckReceive c m) s = .next ((s.acted c 0x11 m).cs c .LINK_SHIFTSTAT_PHASE 2)) ∧
        (s.heard c 0x12 m = false → ∃ t, exec (.shiftNakReceive c m) s = .next t ∧ (t.ch c).link.st = .up ∧
          (t.ch c).link.shift = none ∧ (t.ch c).link.msg = none ∧ t.cg c .LINK_EVT_SHIFT_FAIL = 1)) ∧
      (s.ourTid c m = true → h.committed = false →
        (h.ackDue = false → l.master = false → s.heard c 0x13 m = false → ∃ t r, exec (.shiftSetReceive c m) s = .next t ∧
          (t.ch c).link.shift = some { h with committed := true } ∧ t.cg c .LINK_SHIFTSTAT_F = m.f ∧
          t.cg c .LINK_SHIFTSTAT_PHASE = 3 ∧ (t.ch c).link.msg = some r ∧ r.is 0x14 = true ∧ r.f = m.f) ∧
        (s.heard c 0x16 m = false → ∃ t, exec (.shiftCancelReceive c m) s = .next t ∧ (t.ch c).link.st = .up ∧
          (t.ch c).link.shift = none ∧ t.cg c .LINK_EVT_SHIFT_FAIL = 1)) ∧
      (h.committed = false → h.ackDue = false → ∃ t r, exec (.shiftRspTimeout c) s = .next t ∧
        (t.ch c).link.st = .up ∧ (t.ch c).link.shift = none ∧ t.cg c .LINK_EVT_SHIFT_FAIL = 1 ∧
        (t.ch c).link.msg = none ∧ (t.ch c).link.sent = l.sent ++ [r] ∧ r.is 0x16 = true) ∧
      (s.ourTid c m = true → h.committed = true →
        (l.master = true → s.heard c 0x14 m = false → exec (.shiftSetackReceive c m) s = .next (s.acted c 0x14 m)) ∧
        (s.heard c 0x15 m = false → h.sentDone = true → ∃ t, exec (.shiftDoneReceive c m) s = .next t ∧
          (t.ch c).link.st = .up ∧ (t.ch c).link.shift = none ∧ t.cg c .LINK_EVT_SHIFT_DONE = 1 ∧
          t.cg c .LINK_SHIFTSTAT_PHASE = 0) ∧
        (s.heard c 0x15 m = false → h.sentDone = false → ∃ t, exec (.shiftDoneReceive c m) s = .next t ∧
          (t.ch c).link.shift = some { h with gotDone := true } ∧ t.regs = s.regs)) ∧
      (h.committed = true → h.switched = false → ∃ t, exec (.shiftSwitch c) s = .next t ∧
        (t.ch c).link.shift = some { h with switched := true } ∧ (t.ch c).link.typ = h.target ∧
        (t.ch c).rx.swapReq = true ∧ (t.ch c).rx.mseSkip = decide ((s.ch c).rx.winN ≠ 0) ∧ t.cg c .PCS_STAT_BLOCK_LOCK = 0 ∧
        t.cg c .PCS_STAT_ALIGNED = 0 ∧ t.cg c .LINK_SHIFTSTAT_PHASE = 4 ∧
        ((s.ch c).shadow = [] → h.target < 16 → t.cg c .PCS_CTL_TYPE = h.target)) ∧
      (h.switched = true →
        exec (.shiftResumeTimeout c) s = .next ((s.cs c .LINK_EVT_SHIFT_FAIL 1).critLoss c 0x40)) ∧
      (h.switched = false → h.committed = true → l.master = false →
        exec (.shiftResumeTimeout c) s = .next ((s.cs c .LINK_EVT_SHIFT_FAIL 1).critLoss c 0x41))

/-- On a segment START in STOP and IDLE latches its settings and joins, but not in PLCA with the unconfigured node
number, and STOP leaves; a MODE of 3 is ignored. That START latches the PLCA fields too, which R383 says of writes
over MDIO, and that a write with MODE = 3 writes its other fields, are the model's reading (log entry 37, DEDUCED).
JOIN and UP stay while the reference is lost; else JOIN ends in UP: without PLCA as CSMA/CD, as coordinator with a
first BEACON, as follower on a BEACON, or with FALLBACK after its time; without FALLBACK it times out. The loss of
the BEACON of a follower in PLCA falls back to CSMA/CD, or without FALLBACK is a link loss with cause 0x50, which
leaves BCN_LOST and its counter as they are (log entry 37, DESIGN CHOICE); a BEACON, which only a signal above the
receive threshold is, brings PLCA back. A transmit opportunity that is not used ends with its time, and under PLCA
one with a collision ends, and after the last one a coordinator sends a BEACON. A collision, of a signal above the
collision threshold or under PLCA, counts and makes a retry due, with the channel's next backoff draw under CSMA/CD,
and after the last attempt discards the frame; a retry starts from the rewind mark, under PLCA in the node's own
opportunity, and without the mark discards the frame; with the buffer full of cells, a sent cell of an incomplete
frame is freed, and that clears the mark and counts. -/
def Obligations.SegmentsJoinShareAndRetry : Prop :=
  ∀ (s : State) (c : Ch), isSeg c = true →
    let g := (s.ch c).seg
    (∀ src : Src, s.arrives src c .seg → (s.ch c).posted = [] →
      (g.st = .stop → (s.ch c).sub = .idle → s.cg c .SEG_CTL_MODE ≠ 0 ∨ s.cg c .SEG_PLCA_NODE_ID ≠ 255 →
        ∃ t, exec (.segStart src c) s = .next t ∧ (t.ch c).seg.st = .join ∧ (t.ch c).sub = .training ∧
          (t.ch c).seg.mode = s.cg c .SEG_CTL_MODE ∧ (t.ch c).seg.nid = s.cg c .SEG_PLCA_NODE_ID ∧
          (t.ch c).seg.ext = s.cb c .SEG_CTL_EXT ∧ (t.ch c).seg.term = s.cb c .SEG_CTL_TERM ∧
          (t.ch c).seg.ncnt = max 1 (s.cg c .SEG_PLCA_NODE_CNT) ∧ (t.ch c).seg.maxBc = s.cg c .SEG_PLCA_MAX_BC ∧
          (t.ch c).seg.toTmr = max 1 (s.cg c .SEG_PLCA_TO_TO_TMR) ∧
          (t.ch c).seg.burstTmr = s.cg c .SEG_PLCA_BURST_TMR) ∧
      (g.st ≠ .stop ∨ (s.ch c).sub ≠ .idle ∨ s.cg c .SEG_CTL_MODE = 0 ∧ s.cg c .SEG_PLCA_NODE_ID = 255 →
        exec (.segStart src c) s = .next ((s.cs c .SEG_EVT_CMD_REJ 1).reply 0)) ∧
      (g.st = .stop → exec (.segStop src c) s = .next ((s.cs c .SEG_EVT_CMD_REJ 1).reply 0)) ∧
      (g.st = .join → exec (.segStop src c) s = .next (((s.toStop c).setSub c .idle).reply 0)) ∧
      (g.st = .up → exec (.segStop src c) s = .next ((s.linkLoss c 0x01 false).reply 0)) ∧
      ∀ v : Word, ∃ t, exec (.segCtlWrite src c v) s = .next t ∧ t.cg c .SEG_CTL_ATTEMPTS = bits v.toNat 20 16 ∧
        t.cg c .SEG_CTL_FALLBACK = bits v.toNat 11 11 ∧ t.cg c .SEG_CTL_EXT = bits v.toNat 10 10 ∧
        t.cg c .SEG_CTL_TERM = bits v.toNat 8 8 ∧ (v.toNat % 4 ≠ 3 → t.cg c .SEG_CTL_MODE = v.toNat % 4) ∧
        (v.toNat % 4 = 3 → t.cg c .SEG_CTL_MODE = s.cg c .SEG_CTL_MODE ∧ t.cg c .SEG_EVT_CMD_REJ = 1)) ∧
    (s.segIn c .join = true →
      (s.db .CLK_REFSTAT_REF_LOST = true → exec (.segJoinExpire c) s = .next s ∧
        exec (.segJoinTimeout c) s = .next s) ∧
      (s.db .CLK_REFSTAT_REF_LOST = false →
        (g.mode ≠ 0 → exec (.segJoinExpire c) s = .next (s.segUp c true false)) ∧
        (g.mode = 0 → g.nid = 0 → exec (.segJoinExpire c) s = .next ((s.segUp c false true).sendBeacon c)) ∧
        (g.mode = 0 → g.nid ≠ 0 → s.cb c .SEG_CTL_FALLBACK = true →
          exec (.segJoinExpire c) s = .next (s.segUp c true false))) ∧
      (g.mode = 0 → g.nid ≠ 0 → s.cb c .SEG_CTL_FALLBACK = false → exec (.segJoinExpire c) s = .next s ∧
        (s.db .CLK_REFSTAT_REF_LOST = false →
          exec (.segJoinTimeout c) s = .next (((s.cs c .SEG_EVT_JOIN_TMO 1).toStop c).setSub c .idle))) ∧
      ∀ mv, g.mode = 0 → g.nid ≠ 0 → s.segHears c mv = true → ∃ t, exec (.beaconReceive c mv) s = .next t ∧
        (t.ch c).seg.st = .up ∧ (t.ch c).sub = .up ∧ (t.ch c).seg.csma = false ∧ (t.ch c).seg.plcaOk = true ∧
        t.cg c .SEG_EVT_UP = 1 ∧ t.cg c .SEG_BCNRX_COUNT = (s.cg c .SEG_BCNRX_COUNT + 1) % m32) ∧
    (∀ mv, s.segHears c mv = false → exec (.beaconReceive c mv) s = .next s) ∧
    (s.segIn c .up = true →
      (∀ mv, g.mode = 0 → g.nid = 0 → s.segHears c mv = true → ∃ t, exec (.beaconReceive c mv) s = .next t ∧
        t.chans = s.chans ∧ t.cg c .SEG_EVT_DUP_COORD = 1 ∧
        t.cg c .SEG_DUPCOORD_COUNT = (s.cg c .SEG_DUPCOORD_COUNT + 1) % m32) ∧
      (∀ mv, g.mode = 0 → g.nid ≠ 0 → s.segHears c mv = true → g.csma = true → (s.ch c).queue.line = none →
        ∃ t, exec (.beaconReceive c mv) s = .next t ∧ (t.ch c).seg.csma = false ∧ (t.ch c).seg.plcaOk = true ∧
          t.cg c .SEG_EVT_BCN_FOUND = 1) ∧
      (s.db .CLK_REFSTAT_REF_LOST = true → exec (.beaconLoss c) s = .next s) ∧
      (s.db .CLK_REFSTAT_REF_LOST = false → g.mode = 0 → g.nid ≠ 0 → s.cb c .SEG_CTL_FALLBACK = false →
        exec (.beaconLoss c) s = .next (s.linkLoss c 0x50 false)) ∧
      (s.db .CLK_REFSTAT_REF_LOST = false → g.mode = 0 → g.nid ≠ 0 → s.cb c .SEG_CTL_FALLBACK = true →
        g.csma = false → ∃ t,
        exec (.beaconLoss c) s = .next t ∧ (t.ch c).seg.csma = true ∧ (t.ch c).seg.plcaOk = false ∧
        t.cg c .SEG_EVT_BCN_LOST = 1 ∧ t.cg c .SEG_BCNLOST_COUNT = (s.cg c .SEG_BCNLOST_COUNT + 1) % m32) ∧
      (s.plcaDue c = false → exec (.plcaToExpire c) s = .next s) ∧
      (s.plcaDue c = true → g.cycle.isSome = true → (s.ch c).queue.line = none ∨ g.retry = true →
        let x := s.updSeg c fun g => { g with burst := 0, commit := false, toT0 := s.now }
        (g.coord = true → g.ncnt ≤ s.cg c .SEG_PLCASTAT_CUR_TO + 1 →
          exec (.plcaToExpire c) s = .next (x.sendBeacon c)) ∧
        (g.coord = false ∨ s.cg c .SEG_PLCASTAT_CUR_TO + 1 < g.ncnt → exec (.plcaToExpire c) s =
          .next (x.cs c .SEG_PLCASTAT_CUR_TO (min 255 (s.cg c .SEG_PLCASTAT_CUR_TO + 1))))) ∧
      ∀ l, (s.ch c).queue.line = some l →
        (∀ (b : Nat) (d : Option Nat), g.retry = false →
          let seen := (∃ mv, d = some mv ∧ Config.collisionMv g.extended < mv) ∨ d = none ∧ s.plcaRuns c = true
          (seen → g.att < s.maxAtt c → ∃ t, exec (.collision c b d) s = .next t ∧
            (t.ch c).seg.retry = true ∧ (t.ch c).seg.back = (if g.csma then
              some (Config.backoffDraw s.otp.did c.val g.draws % 2 ^ min g.att 10) else none) ∧
            (t.ch c).seg.draws = (if g.csma then g.draws + 1 else g.draws) ∧
            (g.csma = false → g.cycle.isSome = true → t.cg c .SEG_PLCASTAT_CUR_TO =
              if g.coord = true ∧ g.ncnt ≤ s.cg c .SEG_PLCASTAT_CUR_TO + 1 then 0
              else min 255 (s.cg c .SEG_PLCASTAT_CUR_TO + 1)) ∧
            t.cg c .SEG_COLCNT_COUNT = (s.cg c .SEG_COLCNT_COUNT + 1) % m32 ∧
            (512 < b → t.cg c .SEG_LATECOL_COUNT = (s.cg c .SEG_LATECOL_COUNT + 1) % m32)) ∧
          (seen → s.maxAtt c ≤ g.att → ∃ t, exec (.collision c b d) s = .next t ∧ (t.ch c).queue.line = none) ∧
          (¬seen → exec (.collision c b d) s = .next s)) ∧
        (g.back.isSome = true →
          exec (.backoffExpire c) s = .next ((s.updSeg c fun g => { g with back := none }).plcaBack c)) ∧
        (g.retry = true → g.back = none → s.db .CLK_REFSTAT_REF_LOST = false → (s.plcaRuns c = false ∨ s.plcaTurn c = true) → g.mark = false →
          exec (.retryStart c) s = .next (s.segDiscard c 15)) ∧
        (g.retry = true → g.back = none → s.db .CLK_REFSTAT_REF_LOST = false → (s.plcaRuns c = false ∨ s.plcaTurn c = true) → g.mark = true →
          ∃ t, exec (.retryStart c) s = .next t ∧ (t.ch c).seg.retry = false ∧ (t.ch c).seg.att = g.att + 1 ∧
            t.cg c .SEG_RETX_COUNT = (s.cg c .SEG_RETX_COUNT + 1) % m32) ∧
        (g.retry = false → l.frame.complete = false → l.frame.cells ≠ 0 → l.freed < s.cellsSent l →
          bufferCells c ≤ (s.ch c).queue.egHeld → g.mark = true →
          ∃ t, exec (.rewindOvertake c) s = .next t ∧ (t.ch c).seg.mark = false ∧ t.cg c .SEG_EVT_REWIND_REL = 1 ∧
            t.cg c .SEG_RWDREL_COUNT = (s.cg c .SEG_RWDREL_COUNT + 1) % m32 ∧
            (t.ch c).queue.line =
              some { l with freed := l.freed + 1, frame := { l.frame with cells := l.frame.cells - 1 } })) ∧
    ((s.segUp c true false).ch c).seg.st = .up ∧ ((s.segUp c true false).ch c).sub = .up ∧
    (s.sendBeacon c).cg c .SEG_PLCASTAT_CUR_TO = 0

/-- TDR and ISR begin a run where R129 allows one and else set CMD_REJ; ABORT ends a run; TREND_CLR empties the log;
SQI_RST takes the current values as extremes. A write of DIAG_CTL takes its fields, and a changed TREND_INT empties
the log. Activity in the listen phase ends a run as PARTNER_ACTIVE; otherwise it goes on to acquire, and to process,
in both of which the hybrid is off. A processed profile, of the records of all 2^AVG bursts or of the capture's
taps, replaces the result, counts its sequence, and sets DONE; with fewer bursts the run goes on. The end of a trend
interval with the link up and an in-service run allowed keeps the interval and its time until that run is done;
without the link throughout its record is written at once. No record is written in a TREND_CLR's cycle, and the log
is empty after it. -/
def Obligations.DiagnosticRunsAndTrends : Prop :=
  ∀ (s : State) (c : Ch),
    let d := (s.ch c).diag
    (∀ src : Src, s.arrives src c .diag → (s.ch c).posted = [] →
      (s.tdrOk c = true → exec (.tdr src c) s = .next ((s.updDiag c fun d => { d with run := .listen }).reply 0)) ∧
      (s.tdrOk c = false → exec (.tdr src c) s = .next ((s.cs c .DIAG_EVT_CMD_REJ 1).reply 0)) ∧
      (s.isrOk c = true → exec (.isr src c) s = .next ((s.updDiag c fun d => { d with run := .isrWait }).reply 0)) ∧
      (s.isrOk c = false → exec (.isr src c) s = .next ((s.cs c .DIAG_EVT_CMD_REJ 1).reply 0)) ∧
      (d.run = .none → exec (.diagAbort src c) s = .next (s.reply 0)) ∧
      (d.run ≠ .none → ∃ t, exec (.diagAbort src c) s = .next t ∧ (t.ch c).diag.run = .none ∧
        t.cg c .DIAG_EVT_ABORTED = 1 ∧ t.cg c .DIAG_RES_HDR_STATUS = 1 ∧ t.cg c .DIAG_RES_HDR_NFEAT = 0) ∧
      (∃ t, exec (.trendClr src c) s = .next t ∧ (t.ch c).diag = { d with log := [], armed := List.replicate 9 true } ∧
        t.cg c .DIAG_TRSTAT_NEXT = 0 ∧ t.cg c .DIAG_TRSTAT_WRAPPED = 0 ∧ t.cg c .DIAG_TRSTAT_PRED_MIN = 0xFFFF) ∧
      (isSeg c = false → exec (.sqiRst src c) s = .next ((((s.cs c .DIAG_SQI_WORST (s.sqiNow c)).cs c .DIAG_SNRTRK_MIN
        (s.cg c .DSP_MSE_SNR)).cs c .DIAG_SNRTRK_MAX (s.cg c .DSP_MSE_SNR)).reply 0)) ∧
      ∀ v : Word, ∃ t, exec (.diagCtlWrite src c v) s = .next t ∧ t.cg c .DIAG_CTL_TREND_FIT = bits v.toNat 21 16 ∧
        t.cg c .DIAG_CTL_TREND_INT = bits v.toNat 11 8 ∧ t.cg c .DIAG_CTL_AUTO_TRACK = bits v.toNat 1 1 ∧
        t.cg c .DIAG_CTL_TREND_EN = bits v.toNat 0 0 ∧
        (t.ch c).diag.log = if bits v.toNat 11 8 = s.cg c .DIAG_CTL_TREND_INT then d.log else []) ∧
    (s.clocked c .diag = true →
      (d.run = .listen → exec (.tdrActivityDetect c) s = .next (s.diagStop c 2) ∧
        exec (.tdrListenEnd c) s = .next (s.updDiag c fun d => { d with run := .acquire })) ∧
      (d.run = .acquire ∨ d.run = .process → s.hybridOn c = false) ∧
      (d.run = .acquire →
        exec (.tdrAcquireEnd c) s = .next (s.updDiag c fun d => { d with run := .process })) ∧
      (∀ bursts clr, d.run = .process → bursts.length ≠ s.avgBursts c →
        exec (.diagRunComplete c bursts clr) s = .next s) ∧
      (∀ bursts, d.run = .process ∧ bursts.length = s.avgBursts c ∨ d.run = .isrCap ∧ d.closed = none →
        let n := s.avgBursts c * 1023
        let tdr := cleaned c false n (tdrProfile c bursts)
        ∃ t, exec (.diagRunComplete c bursts false) s = .next t ∧ (t.ch c).diag.run = .none ∧ t.cg c .DIAG_EVT_DONE = 1 ∧
          t.cg c .DIAG_RES_HDR_KIND = (if d.run = .process then 1 else 2) ∧ t.cg c .DIAG_RES_HDR_STATUS = 0 ∧
          t.cg c .DIAG_RES_HDR_SEQ = (s.cg c .DIAG_RES_HDR_SEQ + 1) % 2 ^ (CFld.info .DIAG_RES_HDR_SEQ).wid ∧
          (d.run = .process → t.cg c .DIAG_RES_HDR_BEYOND =
            b2n (s.beyond c n (s.magnitudes c 0 false tdr)) ∧ t.cg c .DIAG_RES_HDR_PARTIAL = 0) ∧
          (d.run = .isrCap → t.cg c .DIAG_RES_HDR_BEYOND =
              b2n (s.beyond c 1 (s.magnitudes c d.isrTyp true (cleaned c true 1 d.prof))) ∧
            t.cg c .DIAG_RES_HDR_PARTIAL = b2n (unmeasured c d.cover (denseLen c - 1)))) ∧
      (s.cb c .DIAG_CTL_TREND_EN = true → d.closed = none →
        (isSeg c = false → d.iv.up = true → s.isrOk c = true → ∃ t,
          exec (.trendIntervalEnd c false) s = .next t ∧ t.regs = s.regs ∧ (t.ch c).diag.run = .isrWait ∧
          (t.ch c).diag.closed.map Prod.fst = some d.iv ∧ (t.ch c).diag.log = d.log) ∧
        (d.iv.up = false → ∃ t, exec (.trendIntervalEnd c false) s = .next t ∧ (t.ch c).diag.run = d.run ∧
          (t.ch c).diag.log.length = min 64 (d.log.length + 1) ∧
          t.cg c .DIAG_TRSTAT_NEXT = (s.cg c .DIAG_TRSTAT_NEXT + 1) % 64) ∧
        (d.iv.up = false → ∃ t, exec (.trendIntervalEnd c true) s = .next t ∧ (t.ch c).diag.log = [] ∧
          t.cg c .DIAG_EVT_PRED_WARN = s.cg c .DIAG_EVT_PRED_WARN)))

/-- TX_REQ is taken in UP and refused elsewhere. With EEE on both sides transmit LPI begins at an empty queue on TX_REQ
and receive LPI on the partner's signal; the sub-state is LPI while either lasts. A transmit refresh is not quiet
and applies shadows, in XT50 at superframe counts of 0 to 15 modulo 2,048, and its end falls quiet; in XT50 the
second receive refresh in a row without a marker is a link loss. The idle time of an empty queue sets its event.
SLEEP begins a handshake in UP where the type can sleep, and else is rejected; a request is accepted, or refused
with its code; the answer, GO, a refusal, a cancel and a missing answer move the transaction on or end it with
SLEEP_FAIL; at its end the channel enters SLEEP, unless a wake came in that cycle, which leaves it UP or, of a TC10
type, starts training; a link loss of that cycle comes before both. WAKE starts the wake signal in SLEEP, cancels a
sleep before its commit point, and else is rejected. A wake of the line or the end of the wake signal starts
training again, of a forced type too; an enabled wake of the line in Standby, Dormant and Active is Taproot's.
PAD_RELEASE releases held pads, and is rejected in OFF, of released pads and in the cycle of the latch; that it does
so only where the mode does not hold the pads (State.padsHeld) is the model's reading (log entry 39). -/
def Obligations.LowPowerIdleSleepAndWake : Prop :=
  ∀ (s : State) (c : Ch),
    let l := (s.ch c).link
    let p := (s.ch c).lpi
    (∀ src : Src, s.arrives src c .lpi → (s.ch c).posted = [] → 
      (isSeg c = false →
        (∀ v, l.st = .up → v.toNat.testBit 0 = true → exec (.txReq src c v) s = .next ((s.cs c .LPI_CTL_TX_REQ 1).reply 0)) ∧
        (∀ v, l.st ≠ .up → exec (.txReq src c v) s = .next ((s.cs c .LPI_EVT_CMD_REJ 1).reply 0)) ∧
        ((s.ch c).sub = .up → l.st = .up → s.sleepAble c = true → p.sleep = none → ∃ t, exec (.sleep src c) s = .next t ∧
          t.cg c .LPI_STAT_SLP_PHASE = 1 ∧ ∃ n, (t.ch c).lpi.sleep = some ⟨true, n, none⟩) ∧
        ((s.ch c).sub ≠ .up ∨ l.st ≠ .up ∨ s.sleepAble c = false ∨ p.sleep.isSome = true →
          exec (.sleep src c) s = .next ((s.cs c .LPI_EVT_CMD_REJ 1).reply 0))) ∧
      (isSeg c = false →
        ((s.ch c).sub = .sleep → p.waking = false → ∃ t, exec (.wake src c) s = .next t ∧ (t.ch c).lpi.waking = true ∧
          (t.ch c).sub = .sleep ∧ t.regs = s.regs) ∧
        ((s.ch c).sub ≠ .sleep → s.sleepOpen c = true → ∃ t, exec (.wake src c) s = .next t ∧
          (t.ch c).lpi.sleep = none ∧ t.cg c .LPI_EVT_SLEEP_FAIL = 1 ∧ t.cg c .LPI_SLPCFG_REASON = 6) ∧
        ((s.ch c).sub ≠ .sleep → s.sleepOpen c = false →
          exec (.wake src c) s = .next ((s.cs c .LPI_EVT_CMD_REJ 1).reply 0))) ∧
      ((s.ch c).sub ≠ .off → (s.ch c).pad.held = true → s.padsHeld = false → exec (.padRelease src c false) s =
        .next ((s.updCh c fun x => { x with pad := { x.pad with held := false, term := false } }).reply 0)) ∧
      (∀ latch, latch = true ∨ (s.ch c).sub = .off ∨ (s.ch c).pad.held = false →
        exec (.padRelease src c latch) s = .next ((s.cs c .LPI_EVT_CMD_REJ 1).reply 0))) ∧
    (s.linkIn c .up = true → s.clocked c .lpi = true → s.lpiAble c = true →
      (s.cb c .LPI_CTL_TX_REQ = true → s.cb c .LPI_STAT_TX_LPI = false → s.egEmpty c = true → ∃ t,
        exec (.lpiTxEnter c) s = .next t ∧ t.cg c .LPI_STAT_TX_LPI = 1 ∧ t.cg c .LPI_EVT_TX_ENTER = 1 ∧
        (t.ch c).sub = .lpi ∧ t.cg c .LPI_TXCNT_COUNT = (s.cg c .LPI_TXCNT_COUNT + 1) % m32) ∧
      (s.cb c .LPI_STAT_RX_LPI = false → ∃ t, exec (.lpiRxEnter c) s = .next t ∧ t.cg c .LPI_STAT_RX_LPI = 1 ∧
        t.cg c .LPI_EVT_RX_ENTER = 1 ∧ (t.ch c).sub = .lpi ∧ (t.ch c).lpi.rxQuiet = true ∧
        t.cg c .DSP_FRZHW_LPI = 0x7F)) ∧
    (s.clocked c .lpi = true →
      (s.cb c .LPI_STAT_RX_LPI = true → ∃ t, exec (.lpiRxExit c) s = .next t ∧ t.cg c .LPI_STAT_RX_LPI = 0 ∧
        t.cg c .LPI_EVT_RX_EXIT = 1 ∧ (t.ch c).lpi.rxQuiet = false ∧
        (t.ch c).sub = if s.cb c .LPI_STAT_TX_LPI then .lpi else .up) ∧
      (s.cb c .LPI_STAT_TX_LPI = true →
        (s.quietOk c true = true → exec (.lpiRefresh c false true) s =
          .next (((s.updLpi c fun l => { l with txQuiet := false }).setLpiMask c).shApply c)) ∧
        (s.quietOk c false = true → exec (.lpiRefresh c false false) s =
          .next ((s.updLpi c fun l => { l with txQuiet := true, sleepFr := none }).setLpiMask c)) ∧
        (∀ b, s.quietOk c b = false → exec (.lpiRefresh c false b) s = .next s)) ∧
      (s.cg c .PCS_CTL_TYPE = 7 → s.quietOk c true = decide (s.txFr c % 2048 ≤ 15)) ∧
      (s.cb c .LPI_STAT_RX_LPI = true → s.cg c .PCS_CTL_TYPE = 7 → p.rxQuiet = false → p.refHit = false → 1 ≤ p.refMiss →
        exec (.lpiRefresh c true false) s = .next (((s.updLpi c fun l =>
          { l with rxQuiet := true, refMiss := p.refMiss + 1 }).setLpiMask c).critLoss c 0x20)) ∧
      (isSeg c = false → s.cg c .LPI_IDLECFG_IDLE_US ≠ 0 → s.egEmpty c = true → ∃ t, exec (.lpiIdleExpire c) s = .next t ∧
        t.cg c .LPI_EVT_IDLE = 1 ∧ s.cg c .LPI_IDLECFG_IDLE_US * 25 ≤ (t.ch c).lpi.idleT) ∧
      (s.lpiRuns c = true → s.sleepOpen c = true → ∃ t, exec (.sleepRspTimeout c) s = .next t ∧ (t.ch c).lpi.sleep = none ∧
        t.cg c .LPI_EVT_SLEEP_FAIL = 1 ∧ t.cg c .LPI_STAT_SLP_PHASE = 0) ∧
      (s.sleepDue c = true →
        (∃ t, exec (.sleepEnter c none none) s = .next t ∧ (t.ch c).sub = .sleep ∧ t.cg c .LPI_EVT_SLEEP_DONE = 1 ∧
          t.cg c .LPI_STAT_SLP_PHASE = 4 ∧ (isSeg c = false → (t.ch c).link.st = .stop)) ∧
        (∀ w, ∃ t, exec (.sleepEnter c (some w) none) s = .next t ∧ t.cg c .LPI_EVT_SLEEP_ABORTED_WAKE = 1 ∧
          (t.ch c).lpi.sleep = none ∧ t.cg c .LPI_STAT_SLP_PHASE = 0 ∧
          (w = .line → t.cg c .LPI_EVT_WAKE_LINE = 1 ∧ t.cg c .LPI_WAKECNT_COUNT = (s.cg c .LPI_WAKECNT_COUNT + 1) % m32) ∧
          (tc10Type (s.cg c .PCS_CTL_TYPE) = false → (t.ch c).sub = (s.ch c).sub) ∧
          ((t.ch c).sub = (s.ch c).sub ∨ (t.ch c).sub = .training)) ∧
        ∀ k, exec (.sleepEnter c none (some k)) s = .next (s.critLoss c k.val) ∧
          ∀ w, exec (.sleepEnter c (some w) (some k)) s = .next ((s.sleepAborted c w).critLoss c k.val)) ∧
      (s.lpiRuns c = true → (s.ch c).sub = .sleep → p.waking = true →
        exec (.wakeSignalEnd c) s = .next (s.wakeStart c)) ∧
      (isSeg c = false → ((s.wakeStart c).ch c).sub = .training ∧ ((s.wakeStart c).ch c).lpi.waking = false) ∧
      (s.lpiRuns c = true → (s.ch c).sub = .sleep → isSeg c = false → s.power.mode = .active →
        exec (.lineWakeQualify c) s = .next (s.lineWake c))) ∧
    ((s.dg .TAP_LWAKEEN_LINE).testBit c.val = true → s.power.mode = .standby ∨ s.power.mode = .dormant →
      exec (.lineWakeQualify c) s = .next (s.tapWake 3 c.val 0)) ∧
    ((s.dg .TAP_LWAKEEN_LINE).testBit c.val = true → s.power.mode = .active → (s.ch c).pst = .off →
      exec (.lineWakeQualify c) s = .next (((s.tapWake 3 c.val 0).voteBit c 5 true).voteChanged c)) ∧
    (∀ m : LinkMsg,
      (s.slpLive c = true → s.heard c 0x20 m = false → p.sleep = none → s.cb c .LPI_STAT_TX_LPI = false → l.st = .up →
        (s.lpiWaking c = true → ∃ t, exec (.slpReqReceive c m) s = .next t ∧ t.cg c .LPI_SLPCFG_REASON = 4 ∧
          (t.ch c).lpi.sleep = none ∧ ∃ r, (t.ch c).link.carry = l.carry ++ [r] ∧ r.is 0x22 = true ∧ r.tid = m.tid ∧
            r.reason = 4) ∧
        (s.lpiWaking c = false → s.cb c .LPI_SLPCFG_ACCEPT = false → ∃ t r, exec (.slpReqReceive c m) s = .next t ∧
          t.cg c .LPI_SLPCFG_REASON = 1 ∧ (t.ch c).lpi.sleep = none ∧ (t.ch c).link.carry = l.carry ++ [r] ∧
          r.is 0x22 = true ∧ r.tid = m.tid ∧ r.reason = 1) ∧
        (s.lpiWaking c = false → s.cb c .LPI_SLPCFG_ACCEPT = true → l.master = false → ∃ t r,
          exec (.slpReqReceive c m) s = .next t ∧ (t.ch c).lpi.sleep = some ⟨false, m.tid, none⟩ ∧
          t.cg c .LPI_STAT_SLP_PHASE = 2 ∧ (t.ch c).link.msg = some r ∧ r.is 0x21 = true ∧ r.tid = m.tid) ∧
        (s.lpiWaking c = false → s.cb c .LPI_SLPCFG_ACCEPT = true → l.master = true → ∃ t a r,
          exec (.slpReqReceive c m) s = .next t ∧ (t.ch c).lpi.sleep = some ⟨false, m.tid, some r.f⟩ ∧
          t.cg c .LPI_STAT_SLP_PHASE = 3 ∧ (t.ch c).link.carry = l.carry ++ [a, r] ∧ a.is 0x21 = true ∧ r.is 0x23 = true ∧
          (t.ch c).link.msg = some r)) ∧
      (s.slpOurs c 0x21 m = true → s.cg c .LPI_STAT_SLP_PHASE = 1 →
        (l.master = true → exec (.slpAckReceive c m) s =
          .next (((s.acted c 0x21 m).cs c .LPI_STAT_SLP_PHASE 2).sendGo c)) ∧
        (l.master = false → exec (.slpAckReceive c m) s = .next ((s.acted c 0x21 m).cs c .LPI_STAT_SLP_PHASE 2))) ∧
      (s.slpOurs c 0x22 m = true → s.cg c .LPI_STAT_SLP_PHASE = 1 → ∃ t, exec (.slpNakReceive c m) s = .next t ∧
        (t.ch c).lpi.sleep = none ∧ t.cg c .LPI_EVT_SLEEP_FAIL = 1) ∧
      (∀ x, p.sleep = some x → s.slpOurs c 0x23 m = true → x.go = none → l.master = false →
        ∃ t, exec (.slpGoReceive c m) s = .next t ∧ (t.ch c).lpi.sleep = some { x with go := some m.f } ∧
          t.cg c .LPI_STAT_SLP_PHASE = 3) ∧
      (∀ x, p.sleep = some x → s.slpOurs c 0x24 m = true → x.go = none → ∃ t, exec (.slpCancelReceive c m) s = .next t ∧
        (t.ch c).lpi.sleep = none ∧ t.cg c .LPI_EVT_SLEEP_FAIL = 1 ∧ (t.ch c).link.msg = none)) ∧
    (isSeg c = false → s.lpiRuns c = true → s.linkLive c = true → tc10Type (s.cg c .PCS_CTL_TYPE) = true →
      (s.cb c .LPI_STAT_TX_LPI = false → s.cb c .LPI_SLPCFG_ACCEPT = false →
        exec (.tc10MessageReceive c .sleepReq) s = .next (s.sendTc10 c .sleepRej)) ∧
      (p.sleep = none → s.cb c .LPI_STAT_TX_LPI = false → s.cb c .LPI_SLPCFG_ACCEPT = true →
        exec (.tc10MessageReceive c .sleepReq) s = .next ((s.sendTc10 c .sleepAck).sleepBegin c false 0 2)) ∧
      (p.sleep.isSome = true → s.cg c .LPI_STAT_SLP_PHASE = 1 →
        exec (.tc10MessageReceive c .sleepAck) s = .next (s.cs c .LPI_STAT_SLP_PHASE 2) ∧
        ∃ t, exec (.tc10MessageReceive c .sleepRej) s = .next t ∧ (t.ch c).lpi.sleep = none ∧
          t.cg c .LPI_EVT_SLEEP_FAIL = 1))

/-- A context command starts with the stage as it stands; one written while another runs is ignored and sets CMD_REJ.
INSERT of a key that a record has changes nothing and answers EXISTS with its index; with a free candidate the
record goes to one of them with full buckets, LAST at now and zero counters; with every context in use it answers
FULL and changes nothing. LOOKUP answers the index of the staged key or NOT_FOUND. UPDATE, DELETE and READ past the
last context answer BAD_INDEX; UPDATE and DELETE of an empty one NOT_FOUND; UPDATE writes the groups WMASK selects,
where bit 0 writes MARK_RED from the stage, of which R213 says only that it clears it (log entry 45, DEDUCED),
DELETE empties the context, READ copies its words into the stage, and answers ECC where one of them has an
uncorrectable error; that this word then reads 0 in the stage is the model's reading too (log entry 45, DEDUCED). A
write of FRAME_CTL takes its fields, but a changed KEYMASK only with no context in use. The meter follows R212, and
bringing it up to date in between changes no total. -/
def Obligations.FlowContextsAndMeters : Prop :=
  (∀ (s : State) (c : Ch),
    let f := (s.ch c).frame
    let km := s.cg c .FRAME_CTL_KEYMASK
    (∀ src : Src, s.arrives src c .frame → (s.ch c).posted = [] →
      (f.cmd = none → ∀ (i : Nat) (wm : BitVec 5),
        let go := fun op j m : Nat => (s.updF c fun f => { f with
          cmd := some ⟨op, j, m, (List.range 32).map fun w => s.cg c (.CTX_STAGE_WORD w)⟩ }).reply 0
        exec (.ctxInsert src c) s = .next (go 1 0 0) ∧ exec (.ctxUpdate src c i wm) s = .next (go 2 (i % 4096) wm.toNat) ∧
        exec (.ctxDelete src c i) s = .next (go 3 (i % 4096) 0) ∧ exec (.ctxLookup src c) s = .next (go 4 0 0) ∧
        exec (.ctxRead src c i) s = .next (go 5 (i % 4096) 0)) ∧
      (f.cmd.isSome = true → ∀ (i : Nat) (wm : BitVec 5),
        let no := (s.cs c .FRAME_EVT_CMD_REJ 1).reply 0
        exec (.ctxInsert src c) s = .next no ∧ exec (.ctxUpdate src c i wm) s = .next no ∧
        exec (.ctxDelete src c i) s = .next no ∧ exec (.ctxLookup src c) s = .next no ∧
        exec (.ctxRead src c i) s = .next no) ∧
      ∀ v : Word, ∃ t, exec (.frameCtlWrite src c v) s = .next t ∧ t.cg c .FRAME_CTL_MAX_LEN = bits v.toNat 29 16 ∧
        t.cg c .FRAME_CTL_PTP_AUTO = bits v.toNat 1 1 ∧ t.cg c .FRAME_CTL_MS_EN = bits v.toNat 0 0 ∧
        (f.ctxs = [] → t.cg c .FRAME_CTL_KEYMASK = bits v.toNat 15 12) ∧
        (f.ctxs ≠ [] → t.cg c .FRAME_CTL_KEYMASK = km ∧ (bits v.toNat 15 12 ≠ km → t.cg c .FRAME_EVT_CMD_REJ = 1))) ∧
    (∀ (k : CtxCmd) (ecc : Option (Fin 32)), s.clocked c .frame = true → f.cmd = some k →
      let key := (stageKey k.stage).bytes km
      (k.op = 1 →
        (∀ i x, f.find km key = some (i, x) →
          exec (.ctxCmdComplete c ecc) s = .next ((s.cs c .CTX_STAT_KICKS 0).ctxDone c 1 i)) ∧
        (f.find km key = none → (∃ i ∈ candidates c key, f.ctx i = none) →
          ∃ i ∈ candidates c key, f.ctx i = none ∧ ∃ t, exec (.ctxCmdComplete c ecc) s = .next t ∧
            (t.ch c).frame.ctx i = some (Ctx.ofStage k.stage false s.now) ∧
            (∀ j, j ≠ i → (t.ch c).frame.ctx j = f.ctx j) ∧ (t.ch c).frame.cmd = none ∧
            t.cg c .CTX_STAT_RESULT = 0 ∧ t.cg c .CTX_STAT_INDEX = i ∧ t.cg c .CTX_STAT_KICKS = 0) ∧
        (f.find km key = none → (∀ i < ctxCount c, (f.ctx i).isSome = true) →
          ∃ t, exec (.ctxCmdComplete c ecc) s = .next t ∧ (t.ch c).frame = { f with cmd := none } ∧
            t.cg c .CTX_STAT_RESULT = 2)) ∧
      (k.op = 4 →
        (∀ i x, f.find km key = some (i, x) → exec (.ctxCmdComplete c ecc) s = .next (s.ctxDone c 0 i)) ∧
        (f.find km key = none → ∃ t, exec (.ctxCmdComplete c ecc) s = .next t ∧
          (t.ch c).frame = { f with cmd := none } ∧ t.cg c .CTX_STAT_RESULT = 3)) ∧
      (k.op = 2 ∨ k.op = 3 ∨ k.op = 5 → ctxCount c ≤ k.index →
        exec (.ctxCmdComplete c ecc) s = .next (s.ctxDone c 4 k.index)) ∧
      (k.op = 2 ∨ k.op = 3 → k.index < ctxCount c → f.ctx k.index = none →
        exec (.ctxCmdComplete c ecc) s = .next (s.ctxDone c 3 k.index)) ∧
      (k.index < ctxCount c → ∀ x, f.ctx k.index = some x →
        (k.op = 2 → exec (.ctxCmdComplete c ecc) s =
          .next ((s.updF c fun f => f.setCtx k.index (x.update k.stage k.wmask s.now)).ctxDone c 0 k.index)) ∧
        (k.op = 3 → exec (.ctxCmdComplete c ecc) s = .next ((s.updF c fun f => f.delCtx k.index).ctxDone c 0 k.index))) ∧
      (k.op = 5 → k.index < ctxCount c → ecc = none → (∀ b ∈ f.bad, b.cam = true ∨ b.idx ≠ k.index) → ∃ t,
        exec (.ctxCmdComplete c ecc) s = .next t ∧ t.cg c .CTX_STAT_RESULT = 0 ∧ (t.ch c).frame = { f with cmd := none } ∧
        ∀ w < 32, t.cg c (.CTX_STAGE_WORD w) = (match f.ctx k.index with | some x => x.word w | none => 0) % 2 ^ 32) ∧
      (k.op = 5 → k.index < ctxCount c → ecc.isSome = true ∨ (∃ b ∈ f.bad, b.cam = false ∧ b.idx = k.index) → ∃ t,
        exec (.ctxCmdComplete c ecc) s = .next t ∧ t.cg c .CTX_STAT_RESULT = 5 ∧ (t.ch c).frame.ctxs = f.ctxs ∧
        (t.ch c).frame.cmd = none ∧ ∀ w : Fin 32, t.cg c (.CTX_STAGE_WORD w.val) =
          if ecc = some w ∨ f.badWord k.index w.val = true then 0
          else (match f.ctx k.index with | some x => x.word w.val | none => 0) % 2 ^ 32)) ∧
    (s.clocked c .frame = true → ∀ i : Nat, exec (.meterRefresh c i) s =
      .next (s.updF c fun f => f.updCtx i fun x => { x with meter := x.meter.refresh s.now }))) ∧
  (∀ (x : Ctx) (st : List Nat) (wm t : Nat), (x.update st wm t).key = x.key ∧ (x.update st wm t).cam = x.cam ∧
    (wm.testBit 4 = true → (x.update st wm t).handle = st.getD 3 0 % 65536) ∧
    (wm.testBit 4 = false → (x.update st wm t).handle = x.handle) ∧
    (wm.testBit 3 = true → (x.update st wm t).frames = 0 ∧ (x.update st wm t).drops = 0) ∧
    (wm.testBit 3 = false → (x.update st wm t).frames = x.frames ∧ (x.update st wm t).drops = x.drops) ∧
    (wm.testBit 0 = false → (x.update st wm t).action = x.action ∧ (x.update st wm t).meter.markRed = x.meter.markRed) ∧
    (wm.testBit 0 = true → (x.update st wm t).maxSdu = st.getD 4 0 % 65536 ∧
      (x.update st wm t).meter.markRed = (st.getD 7 0).testBit 28)) ∧
  (∀ (m : Meter) (t len : Nat) (yel : Bool),
    let n := m.refresh t
    let r := m.run t len yel
    n.ct = min (m.ct + m.cir * (t - m.last)) (m.cbs * 65536) ∧ n.last = t ∧
    (m.cf = false → n.et = min (m.et + m.eir * (t - m.last)) (m.ebs * 65536)) ∧
    (m.cf = true → n.et = min (m.et + m.eir * (t - m.last) + (m.ct + m.cir * (t - m.last) - m.cbs * 65536)) (m.ebs * 65536)) ∧
    (m.markRed = true → r = (.red, n)) ∧
    (m.markRed = false → (m.cm = true → yel = false) → len * 65536 ≤ n.ct →
      r = (.green, { n with ct := n.ct - len * 65536 })) ∧
    (m.markRed = false → (m.cm = true ∧ yel = true) ∨ n.ct < len * 65536 → len * 65536 ≤ n.et →
      r.2.ct = n.ct ∧ r.2.et = n.et - len * 65536 ∧
      (m.dropYellow = false → r.1 = .yellow ∧ r.2.markRed = false) ∧
      (m.dropYellow = true → r.1 = .red ∧ r.2.markRed = m.markRedEn)) ∧
    (m.markRed = false → (m.cm = true ∧ yel = true) ∨ n.ct < len * 65536 → n.et < len * 65536 →
      r = (.red, { n with markRed := m.markRedEn }))) ∧
  ∀ (m : Meter) (a b : Nat), m.last ≤ a → a ≤ b → (m.refresh a).refresh b = m.refresh b

/-- On a line that carries frames an ingress frame counts as accepted, and is discarded under LINE_ERR, where its FCS or
a codeword it lies in is bad, RUNT or OVERSIZE, or, unprotected, under the reason the flow engine finds, or under
QUEUE_FULL without room; otherwise it joins its class. At a frame boundary the oldest eligible frame of the highest
class starts, none where frames are held or fenced, and outside UP and LPI every queued one is discarded; a miss
passes to the line, one too long is discarded. Delivery counts, records the octets sent, those of an unprotected
frame being the padded ones with their FCS, and queues the stamp or counts it as lost; starvation, and in XT50 a
line clock more than 250 ppm from the channel root, discards under UNDERRUN. INSTALL, RETIRE, SWITCH and WRITE_SC
act on the selected association or set CMD_REJ. SET and ADJ step the clock. A snapshot copies the live counts, and
accepting, delivering and discarding keep accepted equal to delivered, resident and discarded together. -/
def Obligations.FramesMacsecAndTime : Prop :=
  (∀ (s : State) (c : Ch),
    let f := (s.ch c).frame
    let q := (s.ch c).queue
    let km := s.cg c .FRAME_CTL_KEYMASK
    (∀ fr : LineFrame, s.reaches c fr = true → s.takesIn c fr = true →
      let x := if isSeg c then s.segHeard c fr else s
      (fr.fcsOk = false ∨ s.lineBad c fr = true → ∃ t, exec (.ingressFrameReceive c fr) s = .next t ∧
        (t.ch c).frame = { f with inLive := f.inLive.accept.discard 1 } ∧ (t.ch c).queue = q) ∧
      (fr.fcsOk = true → s.lineBad c fr = false → fr.octets.length + 4 < 64 → exec (.ingressFrameReceive c fr) s =
        .next (x.updF c fun f => { f with inLive := f.inLive.accept.discard 2 })) ∧
      (fr.fcsOk = true → s.lineBad c fr = false → 64 ≤ fr.octets.length + 4 → s.cb c .FRAME_CTL_MS_EN = false →
        (s.maxLen c < fr.octets.length + 4 → exec (.ingressFrameReceive c fr) s =
          .next (x.updF c fun f => { f with inLive := f.inLive.accept.discard 3 })) ∧
        (fr.octets.length + 4 ≤ s.maxLen c → fr.ecc = none →
          let key := ((parse fr.octets).key false).bytes km
          f.badRead c key = none →
          (∀ i x, f.find km key = some (i, x) →
            (x.action ≠ 0 → ∃ t, exec (.ingressFrameReceive c fr) s = .next t ∧
              (t.ch c).frame.inLive = f.inLive.accept.discard 5 ∧ (t.ch c).queue = q) ∧
            (x.action = 0 → x.maxSdu ≠ 0 → x.maxSdu < fr.octets.length + 4 → ∃ t,
              exec (.ingressFrameReceive c fr) s = .next t ∧ (t.ch c).frame.inLive = f.inLive.accept.discard 6 ∧
              (t.ch c).queue = q) ∧
            (x.action = 0 → x.maxSdu = 0 ∨ fr.octets.length + 4 ≤ x.maxSdu → x.meter.en = true →
              (x.meter.run s.now (fr.octets.length + 4) ((parse fr.octets).tagged && (parse fr.octets).dei)).1 = .red →
              ∃ t, exec (.ingressFrameReceive c fr) s = .next t ∧
                (t.ch c).frame.inLive = f.inLive.accept.discard 7 ∧ (t.ch c).queue = q)) ∧
          (f.find km key = none →
            (s.cb c .FRAME_MISS_IN_DROP = true → ∃ t, exec (.ingressFrameReceive c fr) s = .next t ∧
              (t.ch c).frame.inLive = f.inLive.accept.discard 4 ∧ (t.ch c).queue = q) ∧
            (s.cb c .FRAME_MISS_IN_DROP = false → (parse fr.octets).etype ≠ 0x88F7 →
              let k := s.inClass c fr.octets
              let room := min (s.inFree c) (s.cg c (.Q_INCLS_CAP k.val) - q.inCells k)
              (room < cellsOf fr.octets.length → ∃ t, exec (.ingressFrameReceive c fr) s = .next t ∧
                (t.ch c).frame.inLive = f.inLive.accept.discard 11 ∧ (t.ch c).queue = q ∧ t.cg c .Q_EVT_QUEUE_FULL = 1) ∧
              (cellsOf fr.octets.length ≤ room → ∃ t, exec (.ingressFrameReceive c fr) s = .next t ∧
                (t.ch c).frame.inLive = f.inLive.accept ∧ (t.ch c).queue =
                  { q with ing := q.ing.set k.val (q.ing[k.val] ++ [⟨fr.octets, none, none, false, false, false, none, 0⟩]) })))))) ∧
    (∀ fr : LineFrame, s.reaches c fr = false → exec (.ingressFrameReceive c fr) s = .next s) ∧
    (s.clocked c .frame = true → s.clocked c .queue = true → q.line = none → ∀ ecc : Option EccAt,
      (s.egHolds c = true → exec (.egressFrameStart c ecc) s = .next s) ∧
      (s.egHolds c = false → s.egSends c = false → exec (.egressFrameStart c ecc) s = .next (s.egLinkDown c)) ∧
      (s.egHolds c = false → s.egSends c = true →
        (s.egFenced c = true → exec (.egressFrameStart c ecc) s = .next s) ∧
        (s.egFenced c = false → s.nextEgress c = none → exec (.egressFrameStart c ecc) s = .next s) ∧
        (s.egFenced c = false → ∀ k e, s.nextEgress c = some (k, e) →
          exec (.egressFrameStart c ecc) s = .next (s.egStart c k e ecc) ∧
          (e.complete = true → s.maxLen c < max 60 e.octets.length + 4 → ∃ t,
            exec (.egressFrameStart c ecc) s = .next t ∧ (t.ch c).queue.line = none ∧
            (t.ch c).frame.egLive = f.egLive.discard 3) ∧
          (e.complete = true → max 60 e.octets.length + 4 ≤ s.maxLen c → ecc = none →
            f.badRead c (((parse e.octets).key true).bytes km) = none →
            f.find km (((parse e.octets).key true).bytes km) = none → s.cb c .FRAME_MISS_EG_DROP = false →
            s.cb c .FRAME_CTL_MS_EN = false → (parse e.octets).etype ≠ 0x88F7 → ∃ t,
            exec (.egressFrameStart c ecc) s = .next t ∧ (t.ch c).queue.line = some ⟨k, e, none, none, none, none, none, s.now, 0⟩ ∧
            (t.ch c).queue.eg[k.val].frames = q.eg[k.val].frames.tail ∧ (t.ch c).frame = f)))) ∧
    (∀ l, q.line = some l → s.running c = true → (s.ch c).seg.retry = false →
      (l.frame.complete = true → isSeg c = false ∨ s.db .CLK_REFSTAT_REF_LOST = false → ∃ t,
        exec (.egressFrameDelivered c) s = .next t ∧ (t.ch c).queue.line = none ∧
        (t.ch c).frame.egLive = f.egLive.deliver ∧
        (t.ch c).frame.sent = f.sent ++ [l.wire] ∧
        (l.sec = none → l.wire = padded l.frame.octets ++ fcsOf (padded l.frame.octets)) ∧
        (l.stamp = none → (t.ch c).frame.stamps = f.stamps) ∧
        (∀ x, l.stamp = some x → f.stamps.length < 64 → (t.ch c).frame.stamps =
          f.stamps ++ [⟨l.cls, l.frame.seq, l.handle.getD 0, l.handle.isSome, x⟩]) ∧
        (l.stamp.isSome = true → 64 ≤ f.stamps.length → (t.ch c).frame.stamps = f.stamps ∧
          t.cg c .FRAME_EVT_TS_LOST = 1)) ∧
      (∀ eps, l.frame.complete = true → isSeg c = false → s.cg c .PCS_CTL_TYPE = 7 → 250 < eps.natAbs → ∃ t,
        exec (.egressUnderrun c eps) s = .next t ∧ (t.ch c).queue.line = none ∧
        (t.ch c).frame.egLive = f.egLive.discard 12) ∧
      (∀ eps, l.frame.complete = true → eps.natAbs ≤ 250 → exec (.egressUnderrun c eps) s = .next s) ∧
      (∀ eps, l.frame.complete = false → ∃ t, exec (.egressUnderrun c eps) s = .next t ∧ (t.ch c).queue.line = none ∧
        (t.ch c).frame.egLive = f.egLive.discard 12 ∧ t.cg c .Q_EVT_UNDERRUN = 1 ∧
        (t.ch c).queue.eg[l.cls.val].drop = some l.frame.seq)) ∧
    (∀ src : Src, s.arrives src c .frame → (s.ch c).posted = [] →
      let m := s.msSel c
      let x := f.sc m.1 m.2.1
      let rej := (s.cs c .FRAME_EVT_CMD_REJ 1).reply 0
      let pn := s.cg c .MS_PN_LO_VALUE + if x.xpn then s.cg c .MS_PN_HI_VALUE * m32 else 0
      (scCount c m.1 ≤ m.2.1 → exec (.msInstall src c) s = .next rej ∧ exec (.msRetire src c) s = .next rej ∧
        exec (.msSwitch src c) s = .next rej ∧ exec (.msWriteSc src c) s = .next rej) ∧
      ((x.sa m.2.2).isSome = true ∨ pn = 0 → exec (.msInstall src c) s = .next rej) ∧
      (m.2.1 < scCount c m.1 → m.2.2 < 4 → x.sa m.2.2 = none → pn ≠ 0 → ∃ t, exec (.msInstall src c) s = .next t ∧
        ((t.ch c).frame.sc m.1 m.2.1).sa m.2.2 = some ⟨s.staged c .MS_KEY_DATA (if x.is256 then 8 else 4),
          if x.xpn then s.staged c .MS_SALT_DATA 3 else 0, if x.xpn then s.cg c .MS_SSCI_VALUE else 0, pn, false⟩ ∧
        (∀ k < 8, t.cg c (.MS_KEY_DATA k) = 0) ∧ ∀ k < 3, t.cg c (.MS_SALT_DATA k) = 0) ∧
      (m.1 = true → x.encAn.val = m.2.2 → exec (.msRetire src c) s = .next rej) ∧
      (m.2.1 < scCount c m.1 → m.1 = false ∨ x.encAn.val ≠ m.2.2 → exec (.msRetire src c) s =
        .next ((s.updF c fun f => f.setSc m.1 m.2.1 (x.setSa m.2.2 none)).reply 0)) ∧
      (m.1 = false ∨ x.sa m.2.2 = none → exec (.msSwitch src c) s = .next rej) ∧
      (m.1 = true → m.2.1 < scCount c true → (x.sa m.2.2).isSome = true → exec (.msSwitch src c) s =
        .next (((s.updF c fun f => f.setSc true m.2.1 { x with encAn := Fin.ofNat 4 m.2.2 }).cs c
          .FRAME_EVT_SA_SWITCHED 1).reply 0)) ∧
      (m.2.1 < scCount c m.1 → exec (.msWriteSc src c) s = .next ((s.updF c fun f => f.setSc m.1 m.2.1 { x with
        sci := s.cg c .MS_SCI_LO_VALUE + s.cg c .MS_SCI_HI_VALUE * m32, cfg := s.scCfg c,
        win := s.cg c .MS_WIN_VALUE }).reply 0)) ∧
      (s.cg c (.TS_SET_VALUE 0) % 2 ^ 30 < 1000000000 → ∃ t, exec (.tsSet src c) s = .next t ∧
        (t.ch c).frame = { f with ts := ⟨s.cg c (.TS_SET_VALUE 1) + s.cg c (.TS_SET_VALUE 2) % 65536 * m32,
          s.cg c (.TS_SET_VALUE 0) % 2 ^ 30, s.cg c (.TS_SET_VALUE 2) / 65536, 0⟩ } ∧
        t.cg c .TS_STAT_STEPS = (s.cg c .TS_STAT_STEPS + 1) % 2 ^ (CFld.info .TS_STAT_STEPS).wid) ∧
      (∃ t, exec (.tsAdj src c) s = .next t ∧ ((t.ch c).frame.ts.total : Int) =
        (f.ts.total + sint 32 (s.cg c .TS_ADJ_VALUE) * 65536) % (2 ^ 48 * fracSec : Nat) ∧
        (t.ch c).frame.ts.carry = f.ts.carry ∧
        t.cg c .TS_STAT_STEPS = (s.cg c .TS_STAT_STEPS + 1) % 2 ^ (CFld.info .TS_STAT_STEPS).wid) ∧
      ∃ t, exec (.acctSnap src c) s = .next t ∧ (t.ch c).frame = { f with egSnap := f.egLive, inSnap := f.inLive } ∧
        t.cg c .ACCT_STAT_SNAP_DONE = 1 ∧
        t.cg c .ACCT_STAT_SEQ = (s.cg c .ACCT_STAT_SEQ + 1) % 2 ^ (CFld.info .ACCT_STAT_SEQ).wid)) ∧
  ∀ (a : Acct) (r n : Nat), a.balanced → a.accept.balanced ∧ a.deliver.balanced ∧ (r < 16 → (a.discard r n).balanced)

/-- In every channel and direction, in the live counts and in the snapshot, the frames accepted are those delivered,
those resident and those discarded under the sixteen reasons together, modulo 2^32, and the live residents are the
frames that the queues and the line hold: every step keeps this, and it holds after reset. -/
def Obligations.EveryStepKeepsFrameAccounting : Prop :=
  State.reset.acctOk ∧ ∀ s t : State, s.acctOk → step s = .next t → t.acctOk

/-- A lane failure is repaired onto a redundant lane while one remains, else degrades the width where allowed, else is a
LinkError. HPRESET and a link reset, which comes in L2 too, drop every frame the host has not got whole and every
open frame, keep stamps and posts, and end the stream; RETRAIN retrains an active link. The adapter's ACTIVE starts
the stream after a reset or Boot and resynchronises every pair, each RESYNC going out where the pair's queue is
empty. L1 is entered only with nothing waiting. A flush removes the named classes' frames but not an ingress frame
already begun, and its end is answered. A class's cap and reservation are taken, but for reservations beyond the
buffer. Unannounced tokens are announced at t_GRANT. Toward the host stamps and posts leave oldest first, a post not
before t_EVGAP after the last, and frame segments while neither is ready, from the highest ready class of a channel,
each spending its tokens; the messages fill whole granules, and the flits carry them in order. -/
def Obligations.HostPortLinkAndQueues : Prop :=
  ∀ s : State,
    ((∀ m : OutMsg, m.wire.length % 16 = 0) ∧ (∀ l ∈ s.flits, l.length = 64) ∧
      s.host.out.flatMap OutMsg.wire <+: s.flits.flatten) ∧
    (s.hostUp = true →
      (∀ l : LaneFail, s.host.ul = .active ∨ s.host.ul = .l1 ∨ s.host.ul = .training ∨ s.host.ul = .retrain →
        let addr := l.lane.val + b2n l.rx * 256
        (s.lanesUsed l.rx < 4 → exec (.laneFailure l) s = .next
          ((((({ s with otp := { s.otp with lanes := s.otp.lanes ++ [(l.rx, l.lane.val)] } }.ds .HOST_REPAIR_LAST_LANE
            l.lane.val).ds .HOST_REPAIR_LAST_DIR (b2n l.rx)).ds .HOST_EVT_REPAIR 1).assertSrc (.dev 9) 0 addr).retrain)) ∧
        (4 ≤ s.lanesUsed l.rx → s.db .HOST_CTL_DEGRADE_EN = true → l.halfWorks = true → s.host.width32 = false →
          exec (.laneFailure l) s = .next ((((s.ds .HOST_EVT_DEGRADE 1).updHost fun h =>
            { h with width32 := true }).assertSrc (.dev 9) 1 addr).retrain)) ∧
        (4 ≤ s.lanesUsed l.rx → s.db .HOST_CTL_DEGRADE_EN = false ∨ l.halfWorks = false ∨ s.host.width32 = true →
          exec (.laneFailure l) s = .next (s.linkError addr))) ∧
      (s.host.ul = .active → exec .adapterActive s = .next s.ngStart) ∧
      (s.host.ul = .l1 → exec .adapterActive s = .next s) ∧
      (s.host.ul = .training ∨ s.host.ul = .retrain ∨ s.host.ul = .reset ∨ s.host.ul = .linkError →
        (∃ t, exec .adapterActive s = .next t ∧ t.host.ul = .active ∧ t.dg .HOST_EVT_ACTIVE = 1 ∧
          min 2 (s.dg .HOST_CTL_RATE_MAX) ≤ t.dg .HOST_STAT_RATE ∧ t.dg .HOST_STAT_RATE ≤ 2) ∧
        (s.power.mode = .active → s.db .HOST_STAT_NG_UP = false → ∃ t, exec .adapterActive s = .next t ∧
          t.dg .HOST_STAT_NG_UP = 1 ∧ ∀ c k, (t.pair c k).synced = false ∧
            ((s.ch c).queue.egCells k = 0 → (t.pair c k).due = false ∧ (t.pair c k).owed = (s.pair c k).owed + 1) ∧
            ((s.ch c).queue.egCells k ≠ 0 → (t.pair c k).due = true ∧ (t.pair c k).owed = (s.pair c k).owed)))) ∧
    (s.servicesUp = true → exec (.ucieLinkReset false) s = .next (s.hostPortReset false) ∧
      ∃ a n, exec (.ucieLinkReset true) s = .next ({ s with free := n }.linkError a)) ∧
    (∀ e : Bool,
      let t := s.hostPortReset e
      t.host.ul = (if e then .linkError else .training) ∧ t.dg .HOST_STAT_NG_UP = 0 ∧ t.dg .HOST_EVT_HPRESET = 1 ∧
      t.host.tod = [] ∧
      ∀ c, (∀ l, (t.ch c).queue.line = some l → l.frame.complete = true) ∧
        (∀ k : Fin 8, (t.ch c).queue.eg[k.val] = ⟨[], none⟩ ∧ ∀ f ∈ (t.ch c).queue.ing[k.val], f.sent = none) ∧
        (s.session = false → (t.ch c).frame.stamps = (s.ch c).frame.stamps ∧ (t.ch c).seq.post = (s.ch c).seq.post)) ∧
    (s.retrain.host.ul = .retrain ∧ s.retrain.dg .HOST_EVT_RETRAIN = 1) ∧
    (∀ src : Src, s.arrivesDev src .host → exec (.hpreset src) s = .next ((s.hostPortReset false).reply 0) ∧
      (s.host.ul = .active ∨ s.host.ul = .l1 → exec (.hostRetrain src) s = .next (s.retrain.reply 0)) ∧
      (s.host.ul ≠ .active → s.host.ul ≠ .l1 → exec (.hostRetrain src) s = .next (s.reply 0))) ∧
    (s.host.ul = .active → s.hostWaiting = false →
      exec .hostL1Request s = .next { s with host := { s.host with ul := .l1 } } ∧
      (s.host.l1en = true → exec .l1IdleExpire s = .next { s with host := { s.host with ul := .l1 } }) ∧
      (s.host.l1en = false → exec .l1IdleExpire s = .next s)) ∧
    (s.hostWaiting = true → exec .hostL1Request s = .next s ∧ exec .l1IdleExpire s = .next s) ∧
    (∀ (src : Src) (c : Ch), s.arrives src c .queue → (s.ch c).posted = [] →
      (∀ v : Word, v.toNat % 65536 ≠ 0 → exec (.queueFlush src c v) s =
        .next ((s.flush c (v.toNat % 256) (bits v.toNat 15 8)).reply 0)) ∧
      (∀ v : Word, v.toNat % 65536 = 0 → exec (.queueFlush src c v) s = .next (s.reply 0)) ∧
      ∀ (k : Fin 8) (v : Word),
        let sum := (clsUp.map fun d => if d = k then bits v.toNat 28 16 else s.cg c (.Q_EGCLS_RSV d.val)).sum
        (sum ≤ bufferCells c → ∃ t, exec (.qEgclsWrite src c k v) s = .next t ∧
          t.cg c (.Q_EGCLS_RSV k.val) = bits v.toNat 28 16 ∧ t.cg c (.Q_EGCLS_CAP k.val) = bits v.toNat 12 0) ∧
        (bufferCells c < sum → ∃ t, exec (.qEgclsWrite src c k v) s = .next t ∧ t.cg c .Q_EVT_CAP_REJ = 1 ∧
          t.cg c (.Q_EGCLS_RSV k.val) = s.cg c (.Q_EGCLS_RSV k.val) ∧
          t.cg c (.Q_EGCLS_CAP k.val) = s.cg c (.Q_EGCLS_CAP k.val) ∧ t.host.pairs = s.host.pairs)) ∧
    (∀ (c : Ch) (eg ing : Nat) (k : Fin 8),
      let q := (s.ch c).queue
      let t := s.flush c eg ing
      (t.ch c).queue.flushBusy = true ∧
      (eg.testBit k.val = true → (t.ch c).queue.eg[k.val].frames = [] ∧ ∀ l, (t.ch c).queue.line = some l → l.cls ≠ k) ∧
      (eg.testBit k.val = false → (t.ch c).queue.eg[k.val] = q.eg[k.val]) ∧
      (ing.testBit k.val = true → (t.ch c).queue.ing[k.val] = q.ing[k.val].filter fun f => f.sent.isSome) ∧
      (ing.testBit k.val = false → (t.ch c).queue.ing[k.val] = q.ing[k.val])) ∧
    ∀ c : Ch,
      ((s.ch c).queue.flushBusy = true → ∃ t, exec (.flushComplete c) s = .next t ∧
        (t.ch c).queue.flushBusy = false ∧ (t.ch c).queue.flushTags = [] ∧ t.cg c .Q_EVT_FLUSH_DONE = 1 ∧
        t.host.out = s.host.out ++ (s.ch c).queue.flushTags.map fun g => OutMsg.control c 1 g 0 0) ∧
      (s.nguidUp = true →
        (∀ k : Fin 8, (s.pair c k).synced = true → (s.pair c k).eg.granted ≠ (s.pair c k).announced → ∃ t,
          exec (.creditGrantTimer c k) s = .next t ∧ (t.pair c k).announced = (s.pair c k).eg.granted ∧
          t.host.out = s.host.out ++ [.creditGrant c k (s.pair c k).eg.granted (s.pair c k).eg.returned]) ∧
        (∀ x r, (s.ch c).frame.stamps = x :: r → (s.pair c x.cls).synced = true → ∃ t,
          exec (.tstampMessageSend c) s = .next t ∧ (t.ch c).frame.stamps = r ∧
          t.host.out = s.host.out ++ [.tstamp c x]) ∧
        (∀ a v r, (s.ch c).seq.post = (a, v) :: r →
          ((s.pair c 0).synced = true → (∀ t0, (s.ch c).seq.evLast = some t0 → t0 + 100 ≤ s.now) → ∃ t,
            exec (.eventMessageSend c) s = .next t ∧ (t.ch c).seq.post = r ∧ (t.ch c).seq.evLast = some s.now ∧
            t.host.out = s.host.out ++ [.event c a v]) ∧
          (∀ t0, (s.ch c).seq.evLast = some t0 → s.now < t0 + 100 → exec (.eventMessageSend c) s = .next s)) ∧
        (s.stampReady = true ∨ s.eventReady c = true → exec .hostSegmentSend s = .next s) ∧
        (s.nextSegment = none → exec .hostSegmentSend s = .next s) ∧
        (s.stampReady = false → (∀ d, s.eventReady d = false) → ∀ k, s.nextSegment = some (c, k) →
          s.segReady c k = true ∧ (∀ j, k < j → s.segReady c j = false) ∧
          ∀ f r, (s.ch c).queue.ing[k.val] = f :: r →
            let off := f.sent.getD 0
            let last := decide (f.octets.length ≤ off + f.nextLen)
            let body := (f.octets.drop off).take f.nextLen
            ∃ t, exec .hostSegmentSend s = .next t ∧ t.host.turn = c.val ∧
              (t.pair c k).ing.spent = ((s.pair c k).ing.spent + cellsOf f.nextLen) % m32 ∧
              (last = true → (t.ch c).queue.ing[k.val] = r ∧
                (t.ch c).frame.inLive = (s.ch c).frame.inLive.deliver) ∧
              (last = false → (t.ch c).frame.inLive = (s.ch c).frame.inLive ∧ (t.ch c).queue.ing[k.val].tail = r) ∧
              (f.sent = none → t.host.out = s.host.out ++ [.frame c k 1 last f.flags (s.pair c k).inSeq
                (f.handle.getD 0) (f.stamp.getD 0) body] ∧ (t.pair c k).inSeq = ((s.pair c k).inSeq + 1) % 65536) ∧
              (f.sent.isSome = true → t.host.out = s.host.out ++ [.frame c k (if last then 3 else 2) false 0 f.seq 0 0
                body] ∧ (t.pair c k).inSeq = (s.pair c k).inSeq)))

/-- Taking a message counts the flits that failed their CRC or were replayed. A message of another version or of a type
the host may not send is error 1, and one of a wrong length error 2; an error is recorded in HOST_NGERR, counted,
and asserts device source 392. Where a message has several, the one recorded is the first of 1, 2, 6, 3, 4, 5, which
is the model's reading, since R238 gives no order (log entry 48, DEDUCED). A FRAME_START within its tokens, in
sequence and with no open frame joins its class and counts as accepted; a later segment joins the open frame, in the
queue or on the line; the segments of a discarded frame are dropped with their tokens returned; tokens are spent by
each. A bad frame message is discarded, and its tokens return. Cumulative credit counts replace the earlier ones; an
answered RESYNC starts a pair at zero, and one that answers nothing is error 6. PAD is no error. TOD_SET waits and
is loaded into every masked channel not in OFF. CONTROL acts and answers, with 1 where the channel is OFF or the
code unknown. -/
def Obligations.MessagesFromTheHost : Prop :=
  ∀ (s : State) (m : NgMsg), s.nguidUp = true →
    let w := s.ngIn m
    let c := m.chan
    let k := m.cls
    let p := s.pair c k
    let n := cellsOf m.length
    let bad := fun e typ : Nat =>
      let x := w.ngErr e typ m
      if n ≤ (x.pair c k).hostHolds then (x.spendEg c k n).freeCells c k n else x
    (m.ver ≠ 1 → exec (.nguidFrameStart m) s = .next (bad 1 1) ∧
      exec (.nguidFrameCont m) s = .next (bad 1 2) ∧ exec (.nguidFrameEnd m) s = .next (bad 1 3) ∧
      exec (.nguidCreditGrant m) s = .next (w.ngErr 1 5 m) ∧ exec (.nguidCreditReturn m) s = .next (w.ngErr 1 6 m) ∧
      exec (.nguidCreditResync m) s = .next (w.ngErr 1 7 m) ∧ exec (.todSet m) s = .next (w.ngErr 1 8 m) ∧
      exec (.controlFlush m) s = .next (w.ngErr 1 9 m) ∧ exec (.controlMbox m) s = .next (w.ngErr 1 9 m) ∧
      exec (.controlSnap m) s = .next (w.ngErr 1 9 m)) ∧
    (m.ver = 1 → m.length ≠ 0 → exec (.nguidCreditGrant m) s = .next (w.ngErr 2 5 m) ∧
      exec (.nguidCreditReturn m) s = .next (w.ngErr 2 6 m) ∧ exec (.nguidCreditResync m) s = .next (w.ngErr 2 7 m) ∧
      exec (.controlFlush m) s = .next (w.ngErr 2 9 m)) ∧
    (m.ver = 1 → m.length ≠ 16 → exec (.todSet m) s = .next (w.ngErr 2 8 m)) ∧
    (m.typ = 4 ∨ 10 ≤ m.typ → exec (.nguidTypeError m) s = .next (w.ngErr 1 m.typ m)) ∧
    (m.ver ≠ 1 →
      (1 ≤ m.typ → m.typ ≤ 3 → exec (.nguidTypeError m) s = .next (bad 1 m.typ)) ∧
      (5 ≤ m.typ → exec (.nguidTypeError m) s = .next (w.ngErr 1 m.typ m))) ∧
    (m.hdr.toNat % 256 = 0 → exec (.nguidTypeError m) s = .next s) ∧
    (w.dg .HOST_CRCERR_COUNT = (s.dg .HOST_CRCERR_COUNT + m.crc) % 2 ^ (DFld.info .HOST_CRCERR_COUNT).wid ∧
      w.dg .HOST_REPLAY_COUNT = (s.dg .HOST_REPLAY_COUNT + m.replay) % 2 ^ (DFld.info .HOST_REPLAY_COUNT).wid) ∧
    (∀ e typ : Nat, e < 16 → typ < 16 → ∃ x : State, s.ngErr e typ m = x.assertSrc (.dev 8) e (c.val + k.val * 256 + typ * 4096) ∧
      x.dg .HOST_NGERR_CODE = e ∧ x.dg .HOST_NGERR_TYPE = typ ∧ x.dg .HOST_NGERR_CLASS = k.val ∧
      x.dg .HOST_NGERR_CHANNEL = c.val ∧ x.dg .HOST_NGERRCNT_COUNT = (s.dg .HOST_NGERRCNT_COUNT + 1) % m32 ∧
      x.dg .HOST_EVT_NG_ERR = 1 ∧ x.chans = s.chans ∧ x.host = s.host) ∧
    (m.ver = 1 →
      (∀ typ : Nat, m.length = 0 ∨ 256 < m.length → s.frameErr typ m = 2) ∧ (m.length < 256 → s.frameErr 2 m = 2) ∧
      (1 ≤ m.length → m.length ≤ 256 →
        ((s.ch c).sub = .off ∨ p.synced = false → s.frameErr 3 m = 6) ∧
        ((s.ch c).sub ≠ .off → p.synced = true →
          (p.hostHolds < n → s.frameErr 3 m = 3) ∧
          (n ≤ p.hostHolds → (s.ch c).queue.openSeq k ≠ some m.seq → s.frameErr 3 m = 4))) ∧
      (s.frameErr 3 m ≠ 0 → exec (.nguidFrameEnd m) s = .next (bad (s.frameErr 3 m) 3)) ∧
      (1 ≤ m.length → m.length ≤ 256 → (s.ch c).sub ≠ .off → p.synced = true → n ≤ p.hostHolds →
        (m.eof = true ∨ m.length = 256 → (s.ch c).queue.drain = false → m.seq = p.egSeq →
          (s.ch c).queue.openSeq k = none → ∃ t, exec (.nguidFrameStart m) s = .next t ∧
            (t.ch c).queue.eg[k.val].frames = (s.ch c).queue.eg[k.val].frames ++ [⟨m.seq, ngOctets m, n, m.eof⟩] ∧
            (t.ch c).frame.egLive = (s.ch c).frame.egLive.accept ∧
            (t.pair c k).eg.spent = (p.eg.spent + n) % m32 ∧ (t.pair c k).egSeq = (p.egSeq + 1) % 65536) ∧
        ((s.ch c).queue.openSeq k = some m.seq → ∀ i : Instr, ∀ last : Bool,
          i = .nguidFrameCont m ∧ last = false ∧ m.length = 256 ∨ i = .nguidFrameEnd m ∧ last = true → ∃ t,
          exec i s = .next t ∧ (t.pair c k).eg.spent = (p.eg.spent + n) % m32 ∧ (t.pair c k).egSeq = p.egSeq ∧
          (∀ v, (s.ch c).queue.eg[k.val].drop = some v →
            (t.ch c).queue.eg[k.val] = ⟨(s.ch c).queue.eg[k.val].frames, if last then none else some v⟩ ∧
            (t.pair c k).eg.returned = (p.eg.returned + n) % m32) ∧
          ((s.ch c).queue.eg[k.val].drop = none → ∀ f, (s.ch c).queue.eg[k.val].frames.getLast? = some f →
            (t.ch c).queue.eg[k.val].frames = (s.ch c).queue.eg[k.val].frames.dropLast ++ [f.add m last]) ∧
          ((s.ch c).queue.eg[k.val].drop = none → (s.ch c).queue.eg[k.val].frames = [] →
            ∀ l, (s.ch c).queue.line = some l → (l.frame.add m last).octets.length + 4 ≤ s.maxLen c →
            (t.ch c).queue.line = some { l with frame := l.frame.add m last })))) ∧
    (m.ver = 1 → m.length = 0 →
      (p.synced = true →
        exec (.nguidCreditGrant m) s = .next (w.updPair c k fun p => { p with
          ing := { p.ing with granted := m.data % m32, returned := m.data / m32 } }) ∧
        exec (.nguidCreditReturn m) s = .next ((w.updPair c k fun p => { p with
          eg := { p.eg with givenBack := m.data % m32 } }).freeCells c k (sub32 (m.data % m32) p.eg.givenBack))) ∧
      (p.synced = false → exec (.nguidCreditGrant m) s = .next (w.ngErr 6 5 m) ∧
        exec (.nguidCreditReturn m) s = .next (w.ngErr 6 6 m)) ∧
      (p.owed = 0 → exec (.nguidCreditResync m) s = .next (w.ngErr 6 7 m)) ∧
      (1 < p.owed ∨ p.owed = 1 ∧ p.due = true → exec (.nguidCreditResync m) s =
        .next (w.updPair c k fun p => { p with owed := p.owed - 1 })) ∧
      (p.owed = 1 → p.due = false → ∃ t, exec (.nguidCreditResync m) s = .next t ∧ (t.pair c k).synced = true ∧
        (t.pair c k).owed = 0 ∧ (t.pair c k).ing = ⟨0, 0, 0, 0⟩ ∧ (t.pair c k).eg.spent = 0 ∧
        (t.pair c k).eg.givenBack = 0 ∧ (t.pair c k).eg.returned = 0 ∧ (t.pair c k).egSeq = 0 ∧
        (t.pair c k).inSeq = 0 ∧ (s.powered c = true → t.cg c .Q_EVT_RESYNC = 1)) ∧
      ((s.ch c).sub = .off → exec (.controlFlush m) s = .next (w.answer m 1 1 0) ∧
        exec (.controlMbox m) s = .next (w.answer m 2 1 0) ∧ exec (.controlSnap m) s = .next (w.answer m 3 1 0)) ∧
      ((s.ch c).sub ≠ .off →
        exec (.controlFlush m) s = .next ((w.flush c (m.data % m32 % 256) (bits (m.data % m32) 15 8)).updQ c
          fun q => { q with flushTags := q.flushTags ++ [m.aux / 256] }) ∧
        exec (.controlMbox m) s = .next (((w.cs c .SEQ_MBOX_IN_DATA (m.data % m32)).cs c .SEQ_HOSTEVT_MBOX
          1).answer m 2 0 0) ∧
        exec (.controlSnap m) s = .next ((w.acctSnap c).answer m 3 0 ((w.acctSnap c).cg c .ACCT_STAT_SEQ))) ∧
      (m.aux % 256 = 0 ∨ 3 < m.aux % 256 →
        exec (.controlUnknownCode m) s = .next (w.answer m (m.aux % 256) 1 0))) ∧
    (∀ code res q : Nat, (s.answer m code res q).host.out = s.host.out ++ [.control c code (m.aux / 256) res q]) ∧
    (m.ver = 1 → m.length = 16 → exec (.todSet m) s = .next (w.updHost fun h => { h with
      tod := h.tod ++ [(ngWord m 0, ngWord m 1, ngWord m 2, ngWord m 3)] })) ∧
    ∀ w0 w1 w2 mask r, s.host.tod = (w0, w1, w2, mask) :: r → ∃ t, exec .todLoad s = .next t ∧ t.host.tod = r ∧
      ∀ d : Ch,
        (mask.testBit d.val = true → (s.ch d).sub ≠ .off →
          t.cg d .TS_STAT_STEPS = (s.cg d .TS_STAT_STEPS + 1) % 2 ^ (CFld.info .TS_STAT_STEPS).wid ∧
          (w0 % 2 ^ 30 < 1000000000 →
            (t.ch d).frame.ts = ⟨w1 + w2 % 65536 * m32, w0 % 2 ^ 30, w2 / 65536, 0⟩)) ∧
        (mask.testBit d.val = false ∨ (s.ch d).sub = .off → t.ch d = s.ch d)

/-- A device or channel calibration whose preconditions hold runs; otherwise it ends with CAL_PRECOND and the first
condition that fails, and during a bank copy a command is ignored and sets CMD_REJ. A completed measurement writes
the offset to the inactive bank, or ends as RANGE and changes no trim; ABORT ends a running one as ABORTED, or as
SUPPLY_ABORT where a supply warning starts in its cycle. COMMIT flips the masked active banks at once, and the copy
then makes both banks of each equal. An image that is saved passes every check of a load and loads back the active
values; a bad image changes nothing but the result. BIST reports its outcome and starts a channel reset. Background
calibration replaces one slice's correction, on a segment only its offset, or raises the slice's fault. -/
def Obligations.CalibrationBanksAndImages : Prop :=
  ∀ s : State,
    (∀ src : Src, s.arrivesDev src .cal →
      (s.copying = true →
        (∀ m : CalMeas, exec (.calRref src m) s = .next ((s.ds .CAL_EVT_CMD_REJ 1).reply 0) ∧
          exec (.calVref src m) s = .next ((s.ds .CAL_EVT_CMD_REJ 1).reply 0)) ∧
        (∃ n, exec (.imgSave src) s = .next (({ s with free := n }.ds .CAL_EVT_CMD_REJ 1).reply 0)) ∧
        (∃ n, exec (.imgLoad src) s = .next (({ s with free := n }.ds .CAL_EVT_CMD_REJ 1).reply 0)) ∧
        ∀ d : Bool, ∃ n, exec (.calCommit src d) s = .next (({ s with free := n }.ds .CAL_EVT_CMD_REJ 1).reply 0)) ∧
      (s.copying = false →
        (∀ m : CalMeas,
          (s.devPrecond 1 m = 0 → exec (.calRref src m) s =
            .next (((s.ds .CAL_RES_TARGET 1).updCal fun k => { k with run := some 1 }).reply 0)) ∧
          (s.devPrecond 1 m ≠ 0 → exec (.calRref src m) s =
            .next (((s.ds .CAL_RES_TARGET 1).endCalDev 1 (s.devPrecond 1 m)).reply 0)) ∧
          (s.devPrecond 2 m = 0 → exec (.calVref src m) s =
            .next (((s.ds .CAL_RES_TARGET 2).updCal fun k => { k with run := some 2 }).reply 0)) ∧
          (s.devPrecond 2 m ≠ 0 → exec (.calVref src m) s =
            .next (((s.ds .CAL_RES_TARGET 2).endCalDev 1 (s.devPrecond 2 m)).reply 0)) ∧
          (s.power.mode ≠ .active → s.devPrecond 1 m = 1) ∧ (m.refOk 2 = false → s.devPrecond 2 m = 5) ∧
          (m.refOk 2 = true → s.cal.run.isSome = true → s.devPrecond 2 m = 6) ∧
          (m.refOk 2 = true → s.cal.run = none → s.db .ID_OTPSTAT_FT_VALID = false → s.devPrecond 2 m = 7) ∧
          (m.refOk 2 = true → s.cal.run = none → s.db .ID_OTPSTAT_FT_VALID = true →
            (s.power.warn ≠ [] → s.devPrecond 2 m = 8) ∧
            (s.power.warn = [] → s.devPrecond 2 m = 0 ∧
              (s.power.mode = .active → m.refOk 1 = true → s.devPrecond 1 m = 0)))) ∧
        (∃ n, exec (.imgSave src) s = .next ({ s with free := n }.imgSave.reply 0)) ∧
        (∃ n, exec (.imgLoad src) s = .next ({ s with free := n }.imgLoad.reply 0)) ∧
        (∀ d : Bool, ∃ t, exec (.calCommit src d) s = .next t ∧ t.cal.dev = s.cal.dev ∧ t.cal.chans = s.cal.chans ∧
          t.cal.copy = some (s.dg .CAL_MASK_CH, d) ∧ t.dg .CAL_EVT_COMMITTED = 1 ∧
          t.cal.actDev = (if d then 1 - s.cal.actDev else s.cal.actDev) ∧
          ∀ c : Ch, t.cal.act[c.val] =
            if (s.dg .CAL_MASK_CH).testBit c.val then 1 - s.cal.act[c.val] else s.cal.act[c.val])) ∧
      (s.cal.run = none ∨ s.copying = true → ∀ w : Bool, ∃ t,
        exec (.calAbort src w) s = .next t ∧ t.cal = s.cal ∧ t.dg .CAL_EVT_CMD_REJ = 1) ∧
      (s.cal.run.isSome = true → s.copying = false → ∀ w : Bool, ∃ t,
        exec (.calAbort src w) s = .next t ∧ t.cal = { s.cal with run := none } ∧
        t.dg .CAL_RES_STATUS = (if w then 2 else 3) ∧ t.dg .CAL_EVT_DONE = 1 ∧ t.dg .CAL_EVT_FAIL = 1)) ∧
    (∀ k d, s.cal.copy = some (k, d) → ∃ t, exec .bankCopyDone s = .next t ∧ t.cal.copy = none ∧
      t.cal.act = s.cal.act ∧ t.cal.actDev = s.cal.actDev ∧
      (t.cal.dev = if d then .replicate 2 s.cal.dev[s.cal.actDev.val] else s.cal.dev) ∧
      ∀ c : Ch, t.cal.chans[c.val] =
        if k.testBit c.val then .replicate 2 s.cal.chans[c.val][s.cal.act[c.val].val] else s.cal.chans[c.val]) ∧
    (∀ m : CalMeas, (m.refOk 1 = true ↔ 3900 ≤ m.calR ∧ m.calR ≤ 4140) ∧
      (m.refOk 2 = true ↔ 9500 ≤ m.calV ∧ m.calV ≤ 10500 ∧ m.calVpp < 1000) ∧
      (m.loadOk 1 = true ↔ 85 ≤ m.load ∧ m.load ≤ 115) ∧ (m.loadOk 2 = true ↔ 95 ≤ m.load ∧ m.load ≤ 105) ∧
      (m.loadOk 3 = true ↔ 1000 < m.load)) ∧
    (∀ r (meas target target2 : Int), s.cal.run = some r → s.svcEn 0 = true →
      let ft := if r = 1 then s.otp.ftDev.1 else s.otp.ftDev.2
      (∀ u, utFor 10 ft target = some u → ∃ t,
        exec (.calComplete none meas target target2) s = .next t ∧ t.cal.run = none ∧
        t.dg .CAL_RES_MEAS = rawOf 16 meas ∧ t.dg .CAL_RES_STATUS = 0 ∧ t.cal.actDev = s.cal.actDev ∧ t.cal.chans = s.cal.chans ∧
        t.devIdle = (if r = 1 then (u, s.devIdle.2) else (s.devIdle.1, u)) ∧
        t.cal.dev[s.cal.actDev.val] = s.cal.dev[s.cal.actDev.val]) ∧
      (utFor 10 ft target = none → ∃ t, exec (.calComplete none meas target target2) s = .next t ∧
        t.cal = { s.cal with run := none } ∧ t.dg .CAL_RES_STATUS = 4)) ∧
    (s.imgCheck ≠ 0 → s.imgLoad.cal = s.cal ∧ s.imgLoad.dg .CAL_RES_STATUS = 5 ∧
      s.imgLoad.dg .CAL_RES_PRECOND = s.imgCheck ∧ s.imgLoad.dg .CAL_GEN_GEN = s.dg .CAL_GEN_GEN) ∧
    (Memory.wf s.cal.buf = true → (s.cal.dev[s.cal.actDev.val]).1 < 1024 → (s.cal.dev[s.cal.actDev.val]).2 < 1024 →
      (∀ c : Ch, (s.utActive c).hyb < 65536 ∧ (s.utActive c).amp < 4096 ∧ (s.utActive c).rxg < 4096) →
      s.imgSave.cal.chans = s.cal.chans ∧ s.imgSave.imgCheck = 0 ∧
        s.imgSave.imgLoad.devIdle = s.cal.dev[s.cal.actDev.val] ∧
        ∀ c : Ch, (s.dg .CAL_MASK_CH).testBit c.val = true → s.imgSave.imgLoad.utIdle c = s.utActive c) ∧
    ∀ c : Ch,
      let g := (s.ch c).graft
      (∀ src : Src, s.arrives src c .calg → (s.ch c).posted = [] →
        (s.copyingCh c = true → (∀ m : CalMeas,
          exec (.calgHyb src c m) s = .next ((s.cs c .GRAFT_EVT_CMD_REJ 1).reply 0) ∧
          exec (.calgAmp src c m) s = .next ((s.cs c .GRAFT_EVT_CMD_REJ 1).reply 0) ∧
          exec (.calgRxg src c m) s = .next ((s.cs c .GRAFT_EVT_CMD_REJ 1).reply 0)) ∧
          ∃ n, exec (.calgBist src c) s = .next (({ s with free := n }.cs c .GRAFT_EVT_CMD_REJ 1).reply 0)) ∧
        (s.copyingCh c = false → ∀ m : CalMeas,
          (∀ i k, (i, k) ∈ [(Instr.calgHyb src c m, 1), (.calgAmp src c m, 2), (.calgRxg src c m, 3)] →
            (s.chPrecond c k m = 0 → ∃ t, exec i s = .next t ∧ t.cg c .CALG_RES_TARGET = k ∧
              (t.ch c).graft = { g with run := some k, bistEnd := 0 }) ∧
            (s.chPrecond c k m ≠ 0 → ∃ t, exec i s = .next t ∧ (t.ch c).graft = g ∧ t.cal = s.cal ∧
              t.cg c .CALG_RES_STATUS = 1 ∧ t.cg c .CALG_RES_PRECOND = s.chPrecond c k m ∧
              t.cg c .GRAFT_EVT_CAL_FAIL = 1)) ∧
          (s.chPrecond c 8 m = 0 → ∃ t, exec (.calgBist src c) s = .next t ∧
            (t.ch c).graft = { g with run := some 8, bistEnd := 0 }) ∧
          (s.chPrecond c 8 m ≠ 0 → ∃ t, exec (.calgBist src c) s = .next t ∧ (t.ch c).graft = g ∧
            t.cg c .CALG_RES_STATUS = 1 ∧ t.cg c .CALG_RES_PRECOND = s.chPrecond c 8 m)) ∧
        (g.run = none ∨ s.copyingCh c = true → ∀ w : Bool, ∃ t, exec (.calgAbort src c w) s = .next t ∧ (t.ch c).graft = g ∧ t.cg c .GRAFT_EVT_CMD_REJ = 1) ∧
        (g.run = some 8 → s.copyingCh c = false → ∀ w : Bool, ∃ t, exec (.calgAbort src c w) s = .next t ∧
          (t.ch c).graft = { g with bistEnd := if g.bistEnd ≠ 0 then g.bistEnd else if w then 2 else 3 }) ∧
        (∀ k, g.run = some k → k ≠ 8 → s.copyingCh c = false → g.swap = none → s.nextTrig c = none →
          ∀ w : Bool, ∃ t, exec (.calgAbort src c w) s = .next t ∧ (t.ch c).graft.run = none ∧
          t.cal = s.cal ∧ t.cg c .CALG_RES_STATUS = if w then 2 else 3)) ∧
      (∀ (k : Nat) (m : CalMeas), ((s.ch c).sub ≠ .maint → s.chPrecond c k m = 1) ∧
        ((s.ch c).sub = .maint → k ≠ 8 →
          ((s.ch c).pad.held = true → s.chPrecond c k m = 2) ∧
          ((s.ch c).pad.held = false → m.quiet = false → s.chPrecond c k m = 3) ∧
          ((s.ch c).pad.held = false → m.quiet = true → m.loadOk k = false → s.chPrecond c k m = 4))) ∧
      (∀ (k : Nat) (meas target target2 : Int), g.run = some k → s.clocked c .calg = true → g.swap = none → s.nextTrig c = none →
        (k = 2 → ∀ u, utFor 12 (s.otp.ft[c.val]).amp target = some u → ∃ t,
          exec (.calComplete (some c) meas target target2) s = .next t ∧ t.utIdle c = { s.utIdle c with amp := u } ∧
          t.utActive c = s.utActive c ∧ t.cg c .CALG_RES_STATUS = 0 ∧ (t.ch c).graft.run = none) ∧
        (k = 3 → ∀ u, utFor 12 (s.otp.ft[c.val]).rxg target = some u → ∃ t,
          exec (.calComplete (some c) meas target target2) s = .next t ∧ t.utIdle c = { s.utIdle c with rxg := u } ∧
          t.utActive c = s.utActive c ∧ t.cg c .CALG_RES_STATUS = 0 ∧ (t.ch c).graft.run = none) ∧
        (k = 2 → utFor 12 (s.otp.ft[c.val]).amp target = none → ∃ t,
          exec (.calComplete (some c) meas target target2) s = .next t ∧ t.cal = s.cal ∧ t.cg c .CALG_RES_STATUS = 4 ∧
          (t.ch c).graft.run = none)) ∧
      (∀ r : BistResult, g.run = some 8 → s.policy c = 0 → g.rep = none → s.session = false → ∃ t,
        exec (.bistComplete c r) s = .next t ∧ t.otp = s.otp ∧ (t.ch c).sub = .off ∧ (t.ch c).closing = true ∧
        (t.ch c).graft.bistReset = true ∧ t.cg c .GRAFT_EVT_BIST_DONE = 1 ∧ t.cg c .CALG_BIST_REPAIRED = 0 ∧
        t.cg c .CALG_BIST_PASS = b2n (r.ctxRows.isEmpty && r.seqRows.isEmpty && decide (r.failMem.toNat &&& 0x15 = 0)) ∧
        t.cg c .CALG_RES_STATUS = g.bistEnd % 8) ∧
      ∀ (i : Nat) (off gain skew : Int) (fault : Option (Fin 2)),
        (s.clocked c .afe = true → s.cb c .AFE_CTL_ADC_EN = true → s.working c 0 i = true →
          exec (.sliceCalUpdate c i off gain skew none) s = .next (s.updGraft c fun g => { g with
            slices := (i, if isSeg c then (off, 0, 0) else (off, gain, skew)) :: g.slices.filter fun x => x.1 ≠ i }) ∧
          ∀ k, exec (.sliceCalUpdate c i off gain skew (some k)) s = .next (s.raiseLevel (.ch c 1) k.val i)) ∧
        (s.clocked c .afe = false ∨ s.cb c .AFE_CTL_ADC_EN = false ∨ s.working c 0 i = false →
          exec (.sliceCalUpdate c i off gain skew fault) s = .next s)

/-- An element that reaches the trigger sets REQ and becomes the pending request, which under policy 1 starts at once;
one below it only has its index recorded. APPROVE under policy 2 starts the pending swap, DENY clears it and marks
the element denied; SWAP replaces the element named; each is ignored with CMD_REJ where R319 and R322 say so, and
SWAP also of an element whose retirement is recorded (log entry 35, DEDUCED). A swap that may not start yet sets
DEFER. Wear indices follow the measurements; an oscillator that has not slowed shows no wear (log entry 35,
DEDUCED). A failed write of a record asserts source 396, and the record stays due (log entry 35, DEDUCED); a row
repaired by BIST is in service with its record. The record is the commit point: it names the lowest unused spare, is
added to the channel's records, and USED increases by one. The switch brings the spare into service, logs it and
sets DONE. The life estimate is the least over the pools with spares built, and a fall below the horizon sets
LIFE_WARN. -/
def Obligations.GraftReplacesElements : Prop :=
  ∀ (s : State) (c : Ch),
    let g := (s.ch c).graft
    (s.powered c = true →
      exec (.wearUpdate c []) s = .next (s.triggers c) ∧
      ∀ m : WearMeas,
        let i := (s.wearOf c m).1.1
        let y := (s.wearOf c m).1.2
        (3 ≤ m.pool.val → m.uncorr = true → i = 1023 ∧ y = 4) ∧
        (3 ≤ m.pool.val → m.uncorr = false → y = 3 ∧
          let n := max 1 (s.cg c .GRAFT_CTL_ECC_N)
          (i = 1023 ∨ i * n < 1000 * m.corr + n) ∧ min 1023 (1000 * m.corr / n) ≤ i) ∧
        (m.pool.val = 0 → m.fFac ≤ m.fNow → y = 1 ∧ (i = 1023 ∨ i * 6144 < 1000 * s.drift c m.elem + 6144) ∧
          min 1023 (1000 * s.drift c m.elem / 6144) ≤ i) ∧
        (m.pool.val = 1 ∨ m.pool.val = 2 → y = 2 ∧
          let n := 3 * max 1 m.fFac
          (i = 1023 ∨ i * n < 100000 * (m.fFac - m.fNow) + n) ∧ min 1023 (100000 * (m.fFac - m.fNow) / n) ≤ i) ∧
        (g.wear = [] → 0 < i → g.run = none → g.swap = none → s.retired c m.pool.val m.elem = false →
        s.working c m.pool.val m.elem = true → (m.pool.val, m.elem) ∉ g.denied → (m.pool.val, m.elem) ∉ g.exhausted →
        (i < s.trig c → ∃ t, exec (.wearUpdate c [m]) s = .next t ∧ (t.ch c).graft =
          { g with wear := [⟨m.pool.val, m.elem, i, y⟩] }) ∧
        (s.trig c ≤ i → s.policy c ≠ 1 → ∃ t, exec (.wearUpdate c [m]) s = .next t ∧
          t.cg c .GRAFT_EVT_REQ = 1 ∧ (t.ch c).graft.swap = some ⟨m.pool.val, m.elem, y, false, false, false, false⟩) ∧
        (s.trig c ≤ i → s.policy c = 1 → s.poolLeft c m.pool.val ≠ 0 → ∃ t,
          exec (.wearUpdate c [m]) s = .next t ∧ t.cg c .GRAFT_EVT_REQ = 1 ∧
          (swapSub (s.ch c).sub = true → s.power.warn = [] → (t.ch c).graft.swap =
            some ⟨m.pool.val, m.elem, y, true, true, false, false⟩) ∧
          (swapSub (s.ch c).sub = false ∨ s.power.warn ≠ [] → t.cg c .GRAFT_EVT_DEFER = 1 ∧ (t.ch c).graft.swap =
            some ⟨m.pool.val, m.elem, y, true, false, false, false⟩)))) ∧
    (∀ src : Src, s.arrives src c .calg → (s.ch c).posted = [] →
      let rej := (s.cs c .GRAFT_EVT_CMD_REJ 1).reply 0
      (s.policy c ≠ 2 ∨ g.swap = none ∨ (∃ w, g.swap = some w ∧ w.running = true) →
        exec (.approve src c) s = .next rej ∧ exec (.deny src c) s = .next rej) ∧
      (∀ w, s.policy c = 2 → g.swap = some w → w.running = false →
        (s.poolLeft c w.pool ≠ 0 → swapSub (s.ch c).sub = true → s.swapFree c = true → exec (.approve src c) s =
          .next ((s.updGraft c fun g => { g with swap := some ⟨w.pool, w.elem, w.reason, true, true, false, false⟩ }).reply 0)) ∧
        (s.poolLeft c w.pool ≠ 0 → swapSub (s.ch c).sub = false ∨ s.swapFree c = false → exec (.approve src c) s =
          .next (((s.updGraft c fun g => { g with swap := some ⟨w.pool, w.elem, w.reason, true, false, false, false⟩ }).cs c
            .GRAFT_EVT_DEFER 1).reply 0)) ∧
        (s.poolLeft c w.pool = 0 → (w.pool, w.elem) ∈ g.exhausted → ∃ t, exec (.approve src c) s = .next t ∧
          t.cg c .GRAFT_EVT_EXHAUST = 1 ∧ t.otp = s.otp) ∧
        ∃ t, exec (.deny src c) s = .next t ∧ t.cg c .GRAFT_EVT_DENIED = 1 ∧ t.otp = s.otp ∧
          (t.ch c).graft.denied = (w.pool, w.elem) :: g.denied ∧
          ∀ v, (t.ch c).graft.swap = some v → (v.pool, v.elem) ≠ (w.pool, w.elem)) ∧
      ∀ v : Word,
        let pool := bits v.toNat 11 8
        let elem := bits v.toNat 27 12
        (s.working c pool elem = false ∨ s.retired c pool elem = true ∨ s.swapRuns c = true →
          exec (.swap src c v) s = .next rej) ∧
        (s.working c pool elem = true → s.retired c pool elem = false → s.swapRuns c = false → s.poolLeft c pool ≠ 0 →
          (swapSub (s.ch c).sub = true → s.swapFree c = true → exec (.swap src c v) s =
            .next ((s.updGraft c fun g => { g with swap := some ⟨pool, elem, 5, true, true, false, false⟩ }).reply 0)) ∧
          (swapSub (s.ch c).sub = false ∨ s.swapFree c = false → exec (.swap src c v) s =
            .next (((s.updGraft c fun g => { g with swap := some ⟨pool, elem, 5, true, false, false, false⟩ }).cs c
              .GRAFT_EVT_DEFER 1).reply 0)))) ∧
    (∀ w, g.request = some w →
      (w.recording = false → ∀ bad, exec (.graftRecordDone c bad) s = .next s) ∧
      (w.recording = true → ∀ a : Word, exec (.graftRecordDone c (some a)) s = .next (s.assertSrc (.dev 12) 2 a.toNat)) ∧
      (w.recording = true → g.rep = none → ∃ t, exec (.graftRecordDone c none) s = .next t ∧
        t.otp.subst[c.val] = s.otp.subst[c.val] ++ [⟨w.pool, poolBase c w.pool + s.poolUsed c w.pool, w.elem⟩] ∧
        (∀ d, d ≠ c → t.otp.subst[d.val] = s.otp.subst[d.val]) ∧
        t.poolUsed c w.pool = s.poolUsed c w.pool + 1 ∧ (∀ p, p ≠ w.pool → t.poolUsed c p = s.poolUsed c p) ∧
        (t.ch c).graft = { g with swap := some { w with recording := false, committed := true } } ∧ t.regs = s.regs) ∧
      (w.recording = true → g.rep.isSome = true → g.bistRows ≠ [] → s.policy c ≠ 0 → g.bistEnd = 0 →
        (∀ x ∈ g.bistRows, s.poolLeft c x.1 ≠ 0 ∧ x.1 ≠ w.pool) → ∃ t, exec (.graftRecordDone c none) s = .next t ∧
        t.otp.subst[c.val] = s.otp.subst[c.val] ++ [⟨w.pool, poolBase c w.pool + s.poolUsed c w.pool, w.elem⟩] ∧
        t.cg c .CALG_BIST_REPAIRED = (s.cg c .CALG_BIST_REPAIRED + 1) % 256 ∧
        (t.ch c).graft.subst = t.otp.subst[c.val] ∧ (t.ch c).graft.bistRows = g.bistRows.tail ∧
        (t.ch c).graft.swap = g.swap ∧
        ∀ x ∈ g.bistRows.head?, (t.ch c).graft.rep = some ⟨x.1, x.2, 6, true, true, false, false⟩)) ∧
    (∀ w, g.swap = some w →
      (w.committed = false → exec (.graftSwitch c) s = .next s) ∧
      ∀ r, w.committed = true → s.powered c = true →
        (s.otp.subst[c.val].find? fun r => r.pool = w.pool && r.old = w.elem) = some r →
        let wear := g.wear.filter fun x => !(x.pool = w.pool && x.elem = w.elem)
        let x := s.updGraft c fun g => { g with swap := none, subst := g.subst ++ [r], wear := wear }
        exec (.graftSwitch c) s = .next (((((x.cs c .GRAFT_LOG_POOL r.pool).cs c .GRAFT_LOG_NEW r.spare).cs c
          .GRAFT_LOG_OLD r.old).cs c .GRAFT_EVT_DONE 1).triggers c)) ∧
    (s.powered c = true → ∃ t, exec (.lifeEstimate c) s = .next t ∧
      (∀ p : Fin 5, (t.ch c).graft.hist[p.val] = (s.poolWear c p.val :: g.hist[p.val]).take 16) ∧
      poolBuilt c (t.cg c .GRAFT_LIFE_POOL) ≠ 0 ∧
      t.cg c .GRAFT_LIFE_HOURS = t.lifeOf c (t.cg c .GRAFT_LIFE_POOL) ∧
      (∀ p < 5, poolBuilt c p ≠ 0 → t.cg c .GRAFT_LIFE_HOURS ≤ t.lifeOf c p) ∧
      (∀ p < t.cg c .GRAFT_LIFE_POOL, poolBuilt c p ≠ 0 → t.cg c .GRAFT_LIFE_HOURS < t.lifeOf c p) ∧
      (s.cg c .GRAFT_LIFEWARN_HRS ≤ s.cg c .GRAFT_LIFE_HOURS → t.cg c .GRAFT_LIFE_HOURS < s.cg c .GRAFT_LIFEWARN_HRS →
        t.cg c .GRAFT_EVT_LIFE_WARN = 1)) ∧
    ∀ p : Nat, (g.hist.toList.getD p []).length < 8 → s.lifeOf c p = 0xFFFF

/-- A level that falls clears its live bit, and marks TRANSIENT the first record of its source and its status where
neither has been read; a level whose condition still holds does not fall. ACK clears a first record to VALID = 0,
and with none has no effect; where a channel reset is the reaction, bit 7 of the channel's vote goes with it.
SAFE_EXIT through the open gate enters Active and releases each channel that no open C2 or C3 window holds, or is
rejected where the device is not in Safe, CANOPY's record is not acknowledged or a C2 or C3 device source is live;
through the closed gate it is a lock violation. SMBIST starts in Service only, and its end reports the failing
groups and asserts source 401 for each. Heartwood's glitch detector, a key-store failure and memory errors assert
their sources, those of PD34 only while it is powered, and a class C3 assertion that is not merged locks the device
out: INH is asserted, and each channel domain goes off; that one with posted writes stays powering down until they
have landed is the model's choice for Locked-out, after R402 (log entry 13, DESIGN CHOICE). -/
def Obligations.CommandsOfFaultCollection : Prop :=
  ∀ s : State,
    (∀ x : FSrc, s.servicesUp = true →
      (s.levelHolds x = true → exec (.faultLevelFall x) s = .next s) ∧
      (s.levelHolds x = false → ∃ t, exec (.faultLevelFall x) s = .next t ∧ t.live (srcIdOf x) = false ∧
        t.chans = s.chans ∧ t.power = s.power)) ∧
    (∀ (c : Ch) (k : Fin 12), s.servicesUp = true → s.levelHolds (.chan c k) = false → s.live (.ch c k) = true →
      ∃ t, exec (.faultLevelFall (.chan c k)) s = .next t ∧
        (s.recValid (.ch c) = true → s.recSrc (.ch c) = (SrcId.ch c k).num → (s.ch c).firstRead = false →
          (t.cg c (.FLT_FIRST_REC 0)).testBit 19 = true) ∧
        ((s.recValid (.ch c) = false ∨ s.recSrc (.ch c) ≠ (SrcId.ch c k).num ∨ (s.ch c).firstRead = true) →
          t.cg c (.FLT_FIRST_REC 0) = s.cg c (.FLT_FIRST_REC 0)) ∧
        (k.val ∉ (s.ch c).statRead → t.cg c (.FLT_SRC_TRANSIENT k.val) = 1)) ∧
    (∀ (src : Src) (c : Ch) (v : Word), s.arrives src c .fault → (s.ch c).posted = [] →
      let x := s.clearRec (.ch c)
      (s.recValid (.ch c) = false ∨ v.getLsbD 0 = false → exec (.fltAck src c v) s = .next (s.reply 0)) ∧
      (s.recValid (.ch c) = true → v.getLsbD 0 = true →
        ((s.cg c .CHPWR_VOTE_CLIENTS).testBit 3 = false ∨ s.cb c .FLT_CFG_C2ACT = false →
          exec (.fltAck src c v) s = .next (x.reply 0)) ∧
        ((s.cg c .CHPWR_VOTE_CLIENTS).testBit 3 = true → s.cb c .FLT_CFG_C2ACT = true →
          exec (.fltAck src c v) s = .next (((x.voteBit c 7 false).voteChanged c).reply 0)))) ∧
    (∀ h : Home, (s.clearRec h).recValid h = false ∧ (∀ w < 4, (s.clearRec h).recWord h w = 0) ∧
      (s.clearRec h).winOpen h = false) ∧
    (∀ (src : Src) (v : Word), s.arrivesDev src .canopy →
      (s.recValid .dev = false ∨ v.getLsbD 0 = false → exec (.fcAck src v) s = .next (s.reply 0)) ∧
      (s.recValid .dev = true → v.getLsbD 0 = true → exec (.fcAck src v) s = .next ((s.clearRec .dev).reply 0)) ∧
      (s.gateOpen = false → exec (.safeExit src v) s = .next ((s.lockViol 0x30028).reply 0) ∧
        exec (.smbist src v) s = .next ((s.lockViol 0x30028).reply 0)) ∧
      (s.gateOpen = true →
        (v.getLsbD 1 = false →
          (s.power.mode ≠ .safe ∨ s.recValid .dev = true ∨
              (∃ i < 18, s.live (.dev i) = true ∧ 2 ≤ s.classOfSrc (.dev i)) →
            exec (.safeExit src v) s = .next ((s.shutGate.ds .FC_STAT_CMD_REJ 1).reply 0)) ∧
          (s.power.mode = .safe → s.recValid .dev = false →
              (∀ i < 18, s.live (.dev i) = true → s.classOfSrc (.dev i) < 2) →
            ∃ t, exec (.safeExit src v) s = .next t ∧ t.power.mode = .active ∧ t.dg .KEYGATE_OPEN = 0 ∧
              ∀ c, (s.ch c).sub = .quarantine → (s.ch c).pst = .on →
                (s.heldBy (.ch c) = false → (t.ch c).sub = .idle) ∧
                (s.heldBy (.ch c) = true → (t.ch c).sub = .quarantine))) ∧
        (v.getLsbD 0 = false →
          (s.power.mode ≠ .service →
            exec (.smbist src v) s = .next ((s.shutGate.ds .FC_STAT_CMD_REJ 1).reply 0)) ∧
          (s.power.mode = .service → ∃ t, exec (.smbist src v) s = .next t ∧ t.dg .FC_CMD_SMBIST = 1 ∧
            t.dg .FC_SMBIST_DONE = 0 ∧ t.dg .KEYGATE_OPEN = 0 ∧ t.heart.report = [] ∧
            (∀ c k, t.pair c k = Pair.init) ∧ t.chans = s.chans ∧ t.otp = s.otp)))) ∧
    (∀ (fail : BitVec 3) (rows : Nat),
      let x := ((s.ds .FC_CMD_SMBIST 0).ds .FC_SMBIST_FAIL fail.toNat).ds .FC_SMBIST_DONE 1
      (s.db .FC_CMD_SMBIST = false → exec (.smbistDone fail rows) s = .next s) ∧
      (s.db .FC_CMD_SMBIST = true →
        (fail = 0#3 → exec (.smbistDone fail rows) s = .next x) ∧
        (fail = 1#3 → exec (.smbistDone fail rows) s = .next (x.assertSrc (.dev 17) 0 (rows % m32))) ∧
        (fail = 2#3 → exec (.smbistDone fail rows) s = .next (x.assertSrc (.dev 17) 1 (rows % m32))) ∧
        (fail = 4#3 → exec (.smbistDone fail rows) s = .next (x.assertSrc (.dev 17) 2 (rows % m32))))) ∧
    (s.heartOn = true → exec .glitchDetect s = .next (s.assertSrc (.dev 15) 1 0)) ∧
    (s.heartOn = false → exec .glitchDetect s = .next s) ∧
    (s.servicesUp = true → exec .keyStoreIntegrityFail s = .next (s.assertSrc (.dev 15) 2 0) ∧
      ∀ r : Nat, exec (.canopyRamEccError r) s = .next (s.assertSrc (.dev 16) 0 (r % m32)) ∧
        ∀ p : Fin 4, (p ≠ 1 ∨ s.pd34 = true →
            exec (.svcMemEccError p r) s = .next (s.assertSrc (.dev 13) p.val (r % m32))) ∧
          (p = 1 → s.pd34 = false → exec (.svcMemEccError p r) s = .next s)) ∧
    ∀ x kind addr, s.classOfSrc x = 3 → s.mergeHome x 3 = none → s.power.mode ≠ .off → s.power.mode ≠ .lockedOut →
      let t := s.assertSrc x kind addr
      t.power.mode = .lockedOut ∧ t.power.inh = true ∧ ∀ c,
        ((s.ch c).pst ≠ .poweringDown → (s.ch c).posted = [] → (t.ch c).pst = .off) ∧
        ((s.ch c).pst = .on → (s.ch c).posted ≠ [] → (t.ch c).pst = .poweringDown ∧ (t.ch c).closing = true ∧
          (t.ch c).posted = (s.ch c).posted)

/-- With the port off no frame does anything. A frame is counted, with its port and MMD noted. An address frame fixes
the address of its MMD and prefetches a standard register, or notes an undefined one, or a native read that is not
answered; a read returns the prefetched value, all ones where it comes too early, 0 for an undefined register; the
incrementing read then fixes the next address, and an undefined one is not noted before a frame meets it. In Locked-
out a write frame is ignored, and in Standby a standard register answers none and sets BUSERR. A write sets the
native window's registers, and a standard register's write posts the bits it changes. A native read runs until it is
done and leaves its value or all ones; a native write writes the staged word; both are refused where MDLOCK says so.
An instruction is loaded wherever the TAP answers, after the capture of its scan; IDCODE gives the identity, the pin
instructions act in Service only, and INSTR sets the segment bits that the session grants. TRST_N low selects IDCODE
and holds the controller there; under EXTEST and CLAMP the cells of a pin drive it, under HIGHZ none does, and INH
leaves the part's own drive only with VSUP in range. -/
def Obligations.ManagementFramesAndBoundaryScan : Prop :=
  (∀ (s : State) (c : Ch) (d : Fin 32),
    let p := s.mgmt.ports[c.val]
    let a := p.addrs.toList.getD d.val 0
    let seen := fun (t : State) (e : Nat) => t.dg .MGMT_MDSTAT_LAST_DEVAD = d.val ∧ t.dg .MGMT_MDSTAT_LAST_PRTAD = c.val ∧
      t.dg .MGMT_MDFRAMES_COUNT = (s.dg .MGMT_MDFRAMES_COUNT + 1) % m32 ∧
      t.dg .MGMT_MDERR_COUNT = (s.dg .MGMT_MDERR_COUNT + e) % m32
    (s.mdOn = false → ∀ (r v : BitVec 16) (late : Bool), exec (.mdioAddress c d r) s = .next s ∧
      exec (.mdioWrite c d v) s = .next s ∧ exec (.mdioRead c d late) s = .next s ∧
      exec (.mdioReadInc c d late) s = .next s ∧ exec (.mdioNativeRd c) s = .next s ∧
      exec (.mdioNativeWrite c v) s = .next s) ∧
    (s.mdOn = true → s.dg .MGMT_MDERR_COUNT < m32 →
      (∀ r : BitVec 16,
        (mdReg c d.val r.toNat = none → ∃ t, exec (.mdioAddress c d r) s = .next t ∧ seen t 0 ∧
          t.dg .MGMT_MDSTAT_DEVAD_UNK = 1 ∧ (t.mgmt.ports[c.val]).addrs.toList.getD d.val 0 = r.toNat ∧
          (t.mgmt.ports[c.val]).pre.toList.getD d.val 0 = 0) ∧
        (∀ g, mdReg c d.val r.toNat = some g → g.isWin = true → ∃ t, exec (.mdioAddress c d r) s = .next t ∧ seen t 0 ∧
          (t.mgmt.ports[c.val]).addrs.toList.getD d.val 0 = r.toNat ∧ (t.mgmt.ports[c.val]).pre = p.pre) ∧
        (∀ g, mdReg c d.val r.toNat = some g → g.isWin = false → (s.ch c).posted = [] →
          (s.mdOk c g = true → ∃ t, exec (.mdioAddress c d r) s = .next t ∧ seen t 0 ∧
            (t.mgmt.ports[c.val]).addrs.toList.getD d.val 0 = r.toNat ∧
            (t.mgmt.ports[c.val]).pre.toList.getD d.val 0 = (s.mdVal c g).1) ∧
          (s.mdOk c g = false → ∃ t, exec (.mdioAddress c d r) s = .next t ∧ seen t 1 ∧
            t.dg .MGMT_MDSTAT_BUSERR = 1 ∧ (t.mgmt.ports[c.val]).pre.toList.getD d.val 0 = 0xFFFF))) ∧
      (mdReg c d.val a = none → ∀ (late : Bool) (v : BitVec 16),
        (∃ t, exec (.mdioRead c d late) s = .next t ∧ seen t 0 ∧ t.bus = ⟨0, false⟩ ∧ t.dg .MGMT_MDSTAT_DEVAD_UNK = 1) ∧
        (s.power.mode ≠ .lockedOut → ∃ t, exec (.mdioWrite c d v) s = .next t ∧ seen t 0 ∧ t.dg .MGMT_MDSTAT_DEVAD_UNK = 1 ∧ t.chans = s.chans)) ∧
      (∀ g, mdReg c d.val a = some g → g.isWin = false →
        (∃ t, exec (.mdioRead c d true) s = .next t ∧ seen t 1 ∧ t.bus = ⟨0xFFFF, false⟩ ∧ t.dg .MGMT_MDSTAT_LATE = 1 ∧
          t.mgmt = s.mgmt) ∧
        (∃ t, exec (.mdioRead c d false) s = .next t ∧ seen t 0 ∧ t.bus = ⟨p.pre.toList.getD d.val 0, false⟩ ∧
          (t.mgmt.ports[c.val]).pre = p.pre) ∧
        (mdReg c d.val ((a + 1) % 65536) = none → ∃ t, exec (.mdioReadInc c d false) s = .next t ∧
          t.dg .MGMT_MDSTAT_DEVAD_UNK = s.dg .MGMT_MDSTAT_DEVAD_UNK) ∧
        (∃ t, exec (.mdioReadInc c d false) s = .next t ∧ t.bus = ⟨p.pre.toList.getD d.val 0, false⟩ ∧
          (t.mgmt.ports[c.val]).addrs.toList.getD d.val 0 = (a + 1) % 65536)) ∧
      (s.power.mode = .lockedOut → ∀ v : BitVec 16, exec (.mdioWrite c d v) s = .next s ∧
        exec (.mdioNativeRd c) s = .next s ∧ exec (.mdioNativeWrite c v) s = .next s) ∧
      (∀ (v : BitVec 16) (g : MdReg), mdReg c d.val a = some g → g.isWin = false → s.power.mode = .standby → ∃ t,
        exec (.mdioWrite c d v) s = .next t ∧ seen t 1 ∧ t.dg .MGMT_MDSTAT_BUSERR = 1 ∧ t.chans = s.chans) ∧
      (∀ v : BitVec 16, mdReg c d.val a = some .pcs1 → s.retained = false → v.getLsbD 15 = false → s.busUp true = true →
        s.chanOk c .pcs = true → (s.ch c).closing = false → (s.ch c).posted = [] → ∃ t,
        exec (.mdioWrite c d v) s = .next t ∧ seen t 0 ∧ (t.ch c).posted =
          [⟨.mdio, 0x30000, BitVec.ofNat 32 (b2n (v.getLsbD 14) * 0x400), some 0x400⟩]) ∧
      (s.power.mode ≠ .lockedOut → ∀ v : BitVec 16,
        (mdReg c d.val a = some (.win 0) → ∃ t, exec (.mdioWrite c d v) s = .next t ∧ seen t 0 ∧
          t.mgmt.ports[c.val] = { p with lo := v.toNat / 4 * 4 }) ∧
        (mdReg c d.val a = some (.win 1) → ∃ t, exec (.mdioWrite c d v) s = .next t ∧ seen t 0 ∧
          t.mgmt.ports[c.val] = { p with hi := v.toNat }) ∧
        (mdReg c d.val a = some (.win 3) → ∃ t, exec (.mdioWrite c d v) s = .next t ∧ seen t 0 ∧
          t.mgmt.ports[c.val] = { p with stage := v.toNat })) ∧
      (mdReg c d.val a = some (.win 2) → p.busy = false → ∃ t, exec (.mdioRead c d false) s = .next t ∧ seen t 0 ∧
        t.bus = ⟨p.latch % 65536, false⟩) ∧
      (p.busy = false → s.power.mode ≠ .lockedOut →
        (s.natRefused p.addr = true → ∀ v : BitVec 16,
          (∃ t, exec (.mdioNativeRd c) s = .next t ∧ t.dg .MGMT_MDSTAT_BUSERR = 1 ∧
            t.mgmt.ports[c.val] = { p with latch := 0xFFFFFFFF } ∧ t.chans = s.chans) ∧
          ∃ t, exec (.mdioNativeWrite c v) s = .next t ∧ t.dg .MGMT_MDSTAT_BUSERR = 1 ∧ t.chans = s.chans) ∧
        (s.natRefused p.addr = false →
          (∃ t, exec (.mdioNativeRd c) s = .next t ∧ t.mgmt.ports[c.val] = { p with busy := true, reading := p.addr } ∧
            t.chans = s.chans) ∧
          ∀ v : BitVec 16, ∃ t, exec (.mdioNativeWrite c v) s = .next t ∧
            t.chans = (s.busWrite .mdio p.addr (BitVec.ofNat 32 (p.stage * 65536 + v.toNat))).chans))) ∧
    (s.servicesUp = true → p.busy = false → exec (.mdioNativeReadDone c) s = .next s) ∧
    (s.servicesUp = true → p.busy = true → ∃ t, exec (.mdioNativeReadDone c) s = .next t ∧
      ((s.busRead .mdio p.reading).bus.err = false →
        (t.mgmt.ports[c.val]).latch = (s.busRead .mdio p.reading).bus.value ∧ (t.mgmt.ports[c.val]).busy = false) ∧
      ((s.busRead .mdio p.reading).bus.err = true → (t.mgmt.ports[c.val]).latch = 0xFFFFFFFF ∧
        (t.mgmt.ports[c.val]).busy = false ∧ t.dg .MGMT_MDSTAT_BUSERR = 1))) ∧
  (∀ p : MdPort, p.inc.stage = p.stage ∧ (p.autoinc = false → p.inc = p) ∧
    (p.autoinc = true → p.addr + 4 < 2 ^ 32 → p.inc.addr = p.addr + 4)) ∧
  ∀ s : State,
    (∀ p : Pin, s.pinDrive p = match p.ctl with
      | none => none
      | some k =>
        if (p = .inh ∧ s.power.warn.contains 0 = true) ∨ s.tapSel ∉ [0, 3, 4] then s.pinOwn p
        else if s.tapSel = 4 ∨ s.jtag.bnd.getLsbD k.val ≠ Config.bndDrives then none
        else some (s.jtag.bnd.getLsbD p.data.val)) ∧
    (s.tapSel = 0 ∨ s.tapSel = 2 ∨ s.tapSel = 3 ∨ s.tapSel = 4 → s.power.mode = .service) ∧
    (∀ low : Bool, exec (.trst low) s =
      .next { s with jtag := { s.jtag with trst := low, ir := if low then 1 else s.jtag.ir } }) ∧
    (s.tapUp = false ∨ s.jtag.trst = true → ∀ (b q : BitVec 34) (v : BitVec 33), exec .bypass s = .next s ∧ exec .idcode s = .next s ∧
      exec (.samplePreload b q) s = .next s ∧ exec (.extest b) s = .next s ∧ exec .clamp s = .next s ∧
      exec .highz s = .next s ∧ exec (.instrAccess v) s = .next s) ∧
    let k := if s.power.mode = .service then 5 else 1
    (s.tapUp = true → s.jtag.trst = false →
      exec .bypass s = .next ({ s with jtag := { s.jtag with ir := 0xFF, cap := k } }.reply 0) ∧
      exec .clamp s = .next ({ s with jtag := { s.jtag with ir := 3, cap := k } }.reply 0) ∧
      exec .highz s = .next ({ s with jtag := { s.jtag with ir := 4, cap := k } }.reply 0) ∧
      exec .idcode s = .next ({ s with jtag := { s.jtag with ir := 1, cap := k } }.reply
        (s.dval .ID_REV_STEP % 16 * 2 ^ 28 + 0x6432 * 2 ^ 12 + 0x4A3 * 2 + 1)) ∧
      (∀ b q : BitVec 34,
        (s.power.mode = .service →
          (∃ t, exec (.samplePreload b q) s = .next t ∧ t.jtag.ir = 2 ∧ t.jtag.cap = k ∧ t.jtag.bnd = b ∧
            t.bus = ⟨t.jtag.smp.toNat, false⟩ ∧ t.chans = s.chans ∧
            (s.power.wakePin.2 ≠ s.now → t.power.wakePin = (q.getLsbD (Pin.wake).data.val, s.now) ∧
              t.jtag.smp.getLsbD (Pin.wake).data.val = q.getLsbD (Pin.wake).data.val)) ∧
          exec (.extest b) s = .next ({ s with jtag := { s.jtag with ir := 0, cap := k, bnd := b } }.reply 0)) ∧
        (s.power.mode ≠ .service →
          exec (.samplePreload b q) s = .next ({ s with jtag := { s.jtag with ir := 2, cap := k } }.reply 0) ∧
          exec (.extest b) s = .next ({ s with jtag := { s.jtag with ir := 0, cap := k } }.reply 0))) ∧
      ∀ v : BitVec 33,
        (s.pd37 = true → s.power.mode ≠ .lockedOut → ∃ t, exec (.instrAccess v) s = .next t ∧ t.jtag.ir = 0x20 ∧ t.jtag.cap = k ∧ t.jtag.bnd = s.jtag.bnd ∧
          t.bus = ⟨s.jtag.sib.toNat, false⟩ ∧ t.chans = s.chans ∧
          ∀ i < 33, t.jtag.sib.getLsbD i = (v.getLsbD i && s.sibRight i)) ∧
        (s.pd37 = false ∨ s.power.mode = .lockedOut → exec (.instrAccess v) s = .next ({ s with jtag := { s.jtag with ir := 0x20, cap := k } }.reply 0)))
end

