-- ==== Sys2Proof/Laws/State.lean ====
section
/-! SUPPORT. What each update of the state leaves alone, field by field, and what the register store reads after a write. -/

namespace Sys2Proof.Machine

/-! ### The register store -/

theorem lookup_filter_ne {α : Type} (f g : Fld) (h : g ≠ f) (l : List (Fld × α)) :
    (l.filter fun p => p.1 ≠ f).lookup g = l.lookup g := by
  induction l with
  | nil => rfl
  | cons x t ih =>
    obtain ⟨a, b⟩ := x
    by_cases hx : a = f
    · subst hx
      have hg : (g == a) = false := by simpa using h
      simp [List.lookup, hg] at ih ⊢
      exact ih
    · have hg : (decide (a ≠ f)) = true := by simpa using hx
      rw [List.filter_cons_of_pos (by simpa using hx)]
      simp only [List.lookup]
      split
      · rfl
      · exact ih

theorem lookup_filter_eq {α : Type} (f : Fld) (l : List (Fld × α)) :
    (l.filter fun p => p.1 ≠ f).lookup f = none := by
  induction l with
  | nil => rfl
  | cons x t ih =>
    obtain ⟨a, b⟩ := x
    by_cases hx : a = f
    · rw [List.filter_cons_of_neg (by simpa using hx)]
      exact ih
    · have hg : (f == a) = false := by simpa using fun e : f = a => hx e.symm
      rw [List.filter_cons_of_pos (by simpa using hx)]
      simp only [List.lookup, hg]
      exact ih

/-- What a field reads after a write of a field. -/
theorem State.rd_wr (s : State) (f g : Fld) (v : Nat) :
    (s.wr f v).rd g = if g = f then v % 2 ^ f.info.wid else s.rd g := by
  unfold State.wr State.rd
  by_cases hg : g = f
  · subst hg
    simp only [if_true]
    by_cases hv : v % 2 ^ g.info.wid = g.reset
    · simp only [hv, if_true, lookup_filter_eq]
    · simp only [hv, if_false, List.lookup, beq_self_eq_true]
  · simp only [hg, if_false]
    by_cases hv : v % 2 ^ f.info.wid = f.reset
    · simp only [hv, if_true, lookup_filter_ne f g hg]
    · have hb : (g == f) = false := by simpa using hg
      simp only [hv, if_false, List.lookup, hb, lookup_filter_ne f g hg]

@[simp] theorem State.cg_cs (s : State) (c d : Ch) (f g : CFld) (v : Nat) :
    (s.cs c f v).cg d g = if d = c ∧ g = f then v % 2 ^ f.info.wid else s.cg d g := by
  simp only [State.cs, State.cg, State.rd_wr, Fld.ch.injEq, Fld.info]

@[simp] theorem State.dg_ds (s : State) (f g : DFld) (v : Nat) :
    (s.ds f v).dg g = if g = f then v % 2 ^ f.info.wid else s.dg g := by
  simp only [State.ds, State.dg, State.rd_wr, Fld.dev.injEq, Fld.info]

@[simp] theorem State.dg_cs (s : State) (c : Ch) (f : CFld) (g : DFld) (v : Nat) : (s.cs c f v).dg g = s.dg g := by
  simp [State.cs, State.dg, State.rd_wr]

@[simp] theorem State.cg_ds (s : State) (c : Ch) (f : DFld) (g : CFld) (v : Nat) : (s.ds f v).cg c g = s.cg c g := by
  simp [State.ds, State.cg, State.rd_wr]

@[simp] theorem State.cb_cg (s : State) (c : Ch) (f : CFld) : s.cb c f = decide (s.cg c f ≠ 0) := rfl

@[simp] theorem State.db_dg (s : State) (f : DFld) : s.db f = decide (s.dg f ≠ 0) := rfl

/-- A change that leaves the store alone leaves every field alone. -/
theorem State.cg_of_regs {s t : State} (h : t.regs = s.regs) (c : Ch) (f : CFld) : t.cg c f = s.cg c f := by
  simp only [State.cg, State.rd, h]

@[inherit_doc State.cg_of_regs]
theorem State.dg_of_regs {s t : State} (h : t.regs = s.regs) (f : DFld) : t.dg f = s.dg f := by
  simp only [State.dg, State.rd, h]

theorem testBit_setBitTo (v i j : Nat) (b : Bool) : (setBitTo v i b).testBit j = if j = i then b else v.testBit j := by
  have hp : (2 ^ i).testBit j = decide (i = j) := Nat.testBit_two_pow
  by_cases hj : j = i
  · subst hj
    cases b <;> cases hv : v.testBit j <;> simp [setBitTo, hv]
  · have h2 : ¬i = j := fun e => hj e.symm
    cases b <;> simp [setBitTo, hp, hj, h2]

/-! ### Channels -/

@[simp] theorem State.ch_updCh (s : State) (c d : Ch) (g : Chan → Chan) :
    (s.updCh c g).ch d = if d = c then g (s.ch c) else s.ch d := by
  unfold State.updCh State.ch
  by_cases h : d = c
  · subst h; simp
  · have : (c : Nat) ≠ d := fun e => h (Fin.ext e.symm)
    simp [h, this]

/-! ### What each update leaves alone -/

variable (s : State)

/-! `State.wr` -/

@[simp] theorem State.pending_wr (f : Fld) (v : Nat) : (s.wr f v).pending = s.pending := rfl
@[simp] theorem State.chans_wr (f : Fld) (v : Nat) : (s.wr f v).chans = s.chans := rfl
@[simp] theorem State.power_wr (f : Fld) (v : Nat) : (s.wr f v).power = s.power := rfl
@[simp] theorem State.clock_wr (f : Fld) (v : Nat) : (s.wr f v).clock = s.clock := rfl
@[simp] theorem State.canopy_wr (f : Fld) (v : Nat) : (s.wr f v).canopy = s.canopy := rfl
@[simp] theorem State.host_wr (f : Fld) (v : Nat) : (s.wr f v).host = s.host := rfl
@[simp] theorem State.cal_wr (f : Fld) (v : Nat) : (s.wr f v).cal = s.cal := rfl
@[simp] theorem State.heart_wr (f : Fld) (v : Nat) : (s.wr f v).heart = s.heart := rfl
@[simp] theorem State.dbgr_wr (f : Fld) (v : Nat) : (s.wr f v).dbgr = s.dbgr := rfl
@[simp] theorem State.integ_wr (f : Fld) (v : Nat) : (s.wr f v).integ = s.integ := rfl
@[simp] theorem State.otp_wr (f : Fld) (v : Nat) : (s.wr f v).otp = s.otp := rfl
@[simp] theorem State.mgmt_wr (f : Fld) (v : Nat) : (s.wr f v).mgmt = s.mgmt := rfl
@[simp] theorem State.jtag_wr (f : Fld) (v : Nat) : (s.wr f v).jtag = s.jtag := rfl
@[simp] theorem State.bus_wr (f : Fld) (v : Nat) : (s.wr f v).bus = s.bus := rfl
@[simp] theorem State.cyc_wr (f : Fld) (v : Nat) : (s.wr f v).cyc = s.cyc := rfl
@[simp] theorem State.now_wr (f : Fld) (v : Nat) : (s.wr f v).now = s.now := rfl
@[simp] theorem State.free_wr (f : Fld) (v : Nat) : (s.wr f v).free = s.free := rfl
@[simp] theorem State.ch_wr (f : Fld) (v : Nat) (d : Ch) : (s.wr f v).ch d = s.ch d := rfl

/-! `State.cs` -/

@[simp] theorem State.pending_cs (c : Ch) (f : CFld) (v : Nat) : (s.cs c f v).pending = s.pending := rfl
@[simp] theorem State.chans_cs (c : Ch) (f : CFld) (v : Nat) : (s.cs c f v).chans = s.chans := rfl
@[simp] theorem State.power_cs (c : Ch) (f : CFld) (v : Nat) : (s.cs c f v).power = s.power := rfl
@[simp] theorem State.clock_cs (c : Ch) (f : CFld) (v : Nat) : (s.cs c f v).clock = s.clock := rfl
@[simp] theorem State.canopy_cs (c : Ch) (f : CFld) (v : Nat) : (s.cs c f v).canopy = s.canopy := rfl
@[simp] theorem State.host_cs (c : Ch) (f : CFld) (v : Nat) : (s.cs c f v).host = s.host := rfl
@[simp] theorem State.cal_cs (c : Ch) (f : CFld) (v : Nat) : (s.cs c f v).cal = s.cal := rfl
@[simp] theorem State.heart_cs (c : Ch) (f : CFld) (v : Nat) : (s.cs c f v).heart = s.heart := rfl
@[simp] theorem State.dbgr_cs (c : Ch) (f : CFld) (v : Nat) : (s.cs c f v).dbgr = s.dbgr := rfl
@[simp] theorem State.integ_cs (c : Ch) (f : CFld) (v : Nat) : (s.cs c f v).integ = s.integ := rfl
@[simp] theorem State.otp_cs (c : Ch) (f : CFld) (v : Nat) : (s.cs c f v).otp = s.otp := rfl
@[simp] theorem State.mgmt_cs (c : Ch) (f : CFld) (v : Nat) : (s.cs c f v).mgmt = s.mgmt := rfl
@[simp] theorem State.jtag_cs (c : Ch) (f : CFld) (v : Nat) : (s.cs c f v).jtag = s.jtag := rfl
@[simp] theorem State.bus_cs (c : Ch) (f : CFld) (v : Nat) : (s.cs c f v).bus = s.bus := rfl
@[simp] theorem State.cyc_cs (c : Ch) (f : CFld) (v : Nat) : (s.cs c f v).cyc = s.cyc := rfl
@[simp] theorem State.now_cs (c : Ch) (f : CFld) (v : Nat) : (s.cs c f v).now = s.now := rfl
@[simp] theorem State.free_cs (c : Ch) (f : CFld) (v : Nat) : (s.cs c f v).free = s.free := rfl
@[simp] theorem State.ch_cs (c : Ch) (f : CFld) (v : Nat) (d : Ch) : (s.cs c f v).ch d = s.ch d := rfl

/-! `State.ds` -/

@[simp] theorem State.pending_ds (f : DFld) (v : Nat) : (s.ds f v).pending = s.pending := rfl
@[simp] theorem State.chans_ds (f : DFld) (v : Nat) : (s.ds f v).chans = s.chans := rfl
@[simp] theorem State.power_ds (f : DFld) (v : Nat) : (s.ds f v).power = s.power := rfl
@[simp] theorem State.clock_ds (f : DFld) (v : Nat) : (s.ds f v).clock = s.clock := rfl
@[simp] theorem State.canopy_ds (f : DFld) (v : Nat) : (s.ds f v).canopy = s.canopy := rfl
@[simp] theorem State.host_ds (f : DFld) (v : Nat) : (s.ds f v).host = s.host := rfl
@[simp] theorem State.cal_ds (f : DFld) (v : Nat) : (s.ds f v).cal = s.cal := rfl
@[simp] theorem State.heart_ds (f : DFld) (v : Nat) : (s.ds f v).heart = s.heart := rfl
@[simp] theorem State.dbgr_ds (f : DFld) (v : Nat) : (s.ds f v).dbgr = s.dbgr := rfl
@[simp] theorem State.integ_ds (f : DFld) (v : Nat) : (s.ds f v).integ = s.integ := rfl
@[simp] theorem State.otp_ds (f : DFld) (v : Nat) : (s.ds f v).otp = s.otp := rfl
@[simp] theorem State.mgmt_ds (f : DFld) (v : Nat) : (s.ds f v).mgmt = s.mgmt := rfl
@[simp] theorem State.jtag_ds (f : DFld) (v : Nat) : (s.ds f v).jtag = s.jtag := rfl
@[simp] theorem State.bus_ds (f : DFld) (v : Nat) : (s.ds f v).bus = s.bus := rfl
@[simp] theorem State.cyc_ds (f : DFld) (v : Nat) : (s.ds f v).cyc = s.cyc := rfl
@[simp] theorem State.now_ds (f : DFld) (v : Nat) : (s.ds f v).now = s.now := rfl
@[simp] theorem State.free_ds (f : DFld) (v : Nat) : (s.ds f v).free = s.free := rfl
@[simp] theorem State.ch_ds (f : DFld) (v : Nat) (d : Ch) : (s.ds f v).ch d = s.ch d := rfl

/-! `State.cinc` -/

@[simp] theorem State.pending_cinc (c : Ch) (f : CFld) (n : Nat) : (s.cinc c f n).pending = s.pending := rfl
@[simp] theorem State.chans_cinc (c : Ch) (f : CFld) (n : Nat) : (s.cinc c f n).chans = s.chans := rfl
@[simp] theorem State.power_cinc (c : Ch) (f : CFld) (n : Nat) : (s.cinc c f n).power = s.power := rfl
@[simp] theorem State.clock_cinc (c : Ch) (f : CFld) (n : Nat) : (s.cinc c f n).clock = s.clock := rfl
@[simp] theorem State.canopy_cinc (c : Ch) (f : CFld) (n : Nat) : (s.cinc c f n).canopy = s.canopy := rfl
@[simp] theorem State.host_cinc (c : Ch) (f : CFld) (n : Nat) : (s.cinc c f n).host = s.host := rfl
@[simp] theorem State.cal_cinc (c : Ch) (f : CFld) (n : Nat) : (s.cinc c f n).cal = s.cal := rfl
@[simp] theorem State.heart_cinc (c : Ch) (f : CFld) (n : Nat) : (s.cinc c f n).heart = s.heart := rfl
@[simp] theorem State.dbgr_cinc (c : Ch) (f : CFld) (n : Nat) : (s.cinc c f n).dbgr = s.dbgr := rfl
@[simp] theorem State.integ_cinc (c : Ch) (f : CFld) (n : Nat) : (s.cinc c f n).integ = s.integ := rfl
@[simp] theorem State.otp_cinc (c : Ch) (f : CFld) (n : Nat) : (s.cinc c f n).otp = s.otp := rfl
@[simp] theorem State.mgmt_cinc (c : Ch) (f : CFld) (n : Nat) : (s.cinc c f n).mgmt = s.mgmt := rfl
@[simp] theorem State.jtag_cinc (c : Ch) (f : CFld) (n : Nat) : (s.cinc c f n).jtag = s.jtag := rfl
@[simp] theorem State.bus_cinc (c : Ch) (f : CFld) (n : Nat) : (s.cinc c f n).bus = s.bus := rfl
@[simp] theorem State.cyc_cinc (c : Ch) (f : CFld) (n : Nat) : (s.cinc c f n).cyc = s.cyc := rfl
@[simp] theorem State.now_cinc (c : Ch) (f : CFld) (n : Nat) : (s.cinc c f n).now = s.now := rfl
@[simp] theorem State.free_cinc (c : Ch) (f : CFld) (n : Nat) : (s.cinc c f n).free = s.free := rfl
@[simp] theorem State.ch_cinc (c : Ch) (f : CFld) (n : Nat) (d : Ch) : (s.cinc c f n).ch d = s.ch d := rfl

/-! `State.dinc` -/

@[simp] theorem State.pending_dinc (f : DFld) (n : Nat) : (s.dinc f n).pending = s.pending := rfl
@[simp] theorem State.chans_dinc (f : DFld) (n : Nat) : (s.dinc f n).chans = s.chans := rfl
@[simp] theorem State.power_dinc (f : DFld) (n : Nat) : (s.dinc f n).power = s.power := rfl
@[simp] theorem State.clock_dinc (f : DFld) (n : Nat) : (s.dinc f n).clock = s.clock := rfl
@[simp] theorem State.canopy_dinc (f : DFld) (n : Nat) : (s.dinc f n).canopy = s.canopy := rfl
@[simp] theorem State.host_dinc (f : DFld) (n : Nat) : (s.dinc f n).host = s.host := rfl
@[simp] theorem State.cal_dinc (f : DFld) (n : Nat) : (s.dinc f n).cal = s.cal := rfl
@[simp] theorem State.heart_dinc (f : DFld) (n : Nat) : (s.dinc f n).heart = s.heart := rfl
@[simp] theorem State.dbgr_dinc (f : DFld) (n : Nat) : (s.dinc f n).dbgr = s.dbgr := rfl
@[simp] theorem State.integ_dinc (f : DFld) (n : Nat) : (s.dinc f n).integ = s.integ := rfl
@[simp] theorem State.otp_dinc (f : DFld) (n : Nat) : (s.dinc f n).otp = s.otp := rfl
@[simp] theorem State.mgmt_dinc (f : DFld) (n : Nat) : (s.dinc f n).mgmt = s.mgmt := rfl
@[simp] theorem State.jtag_dinc (f : DFld) (n : Nat) : (s.dinc f n).jtag = s.jtag := rfl
@[simp] theorem State.bus_dinc (f : DFld) (n : Nat) : (s.dinc f n).bus = s.bus := rfl
@[simp] theorem State.cyc_dinc (f : DFld) (n : Nat) : (s.dinc f n).cyc = s.cyc := rfl
@[simp] theorem State.now_dinc (f : DFld) (n : Nat) : (s.dinc f n).now = s.now := rfl
@[simp] theorem State.free_dinc (f : DFld) (n : Nat) : (s.dinc f n).free = s.free := rfl
@[simp] theorem State.ch_dinc (f : DFld) (n : Nat) (d : Ch) : (s.dinc f n).ch d = s.ch d := rfl

/-! `State.cor` -/

@[simp] theorem State.pending_cor (c : Ch) (f : CFld) (m : Nat) : (s.cor c f m).pending = s.pending := rfl
@[simp] theorem State.chans_cor (c : Ch) (f : CFld) (m : Nat) : (s.cor c f m).chans = s.chans := rfl
@[simp] theorem State.power_cor (c : Ch) (f : CFld) (m : Nat) : (s.cor c f m).power = s.power := rfl
@[simp] theorem State.clock_cor (c : Ch) (f : CFld) (m : Nat) : (s.cor c f m).clock = s.clock := rfl
@[simp] theorem State.canopy_cor (c : Ch) (f : CFld) (m : Nat) : (s.cor c f m).canopy = s.canopy := rfl
@[simp] theorem State.host_cor (c : Ch) (f : CFld) (m : Nat) : (s.cor c f m).host = s.host := rfl
@[simp] theorem State.cal_cor (c : Ch) (f : CFld) (m : Nat) : (s.cor c f m).cal = s.cal := rfl
@[simp] theorem State.heart_cor (c : Ch) (f : CFld) (m : Nat) : (s.cor c f m).heart = s.heart := rfl
@[simp] theorem State.dbgr_cor (c : Ch) (f : CFld) (m : Nat) : (s.cor c f m).dbgr = s.dbgr := rfl
@[simp] theorem State.integ_cor (c : Ch) (f : CFld) (m : Nat) : (s.cor c f m).integ = s.integ := rfl
@[simp] theorem State.otp_cor (c : Ch) (f : CFld) (m : Nat) : (s.cor c f m).otp = s.otp := rfl
@[simp] theorem State.mgmt_cor (c : Ch) (f : CFld) (m : Nat) : (s.cor c f m).mgmt = s.mgmt := rfl
@[simp] theorem State.jtag_cor (c : Ch) (f : CFld) (m : Nat) : (s.cor c f m).jtag = s.jtag := rfl
@[simp] theorem State.bus_cor (c : Ch) (f : CFld) (m : Nat) : (s.cor c f m).bus = s.bus := rfl
@[simp] theorem State.cyc_cor (c : Ch) (f : CFld) (m : Nat) : (s.cor c f m).cyc = s.cyc := rfl
@[simp] theorem State.now_cor (c : Ch) (f : CFld) (m : Nat) : (s.cor c f m).now = s.now := rfl
@[simp] theorem State.free_cor (c : Ch) (f : CFld) (m : Nat) : (s.cor c f m).free = s.free := rfl
@[simp] theorem State.ch_cor (c : Ch) (f : CFld) (m : Nat) (d : Ch) : (s.cor c f m).ch d = s.ch d := rfl

/-! `State.candn` -/

@[simp] theorem State.pending_candn (c : Ch) (f : CFld) (m : Nat) : (s.candn c f m).pending = s.pending := rfl
@[simp] theorem State.chans_candn (c : Ch) (f : CFld) (m : Nat) : (s.candn c f m).chans = s.chans := rfl
@[simp] theorem State.power_candn (c : Ch) (f : CFld) (m : Nat) : (s.candn c f m).power = s.power := rfl
@[simp] theorem State.clock_candn (c : Ch) (f : CFld) (m : Nat) : (s.candn c f m).clock = s.clock := rfl
@[simp] theorem State.canopy_candn (c : Ch) (f : CFld) (m : Nat) : (s.candn c f m).canopy = s.canopy := rfl
@[simp] theorem State.host_candn (c : Ch) (f : CFld) (m : Nat) : (s.candn c f m).host = s.host := rfl
@[simp] theorem State.cal_candn (c : Ch) (f : CFld) (m : Nat) : (s.candn c f m).cal = s.cal := rfl
@[simp] theorem State.heart_candn (c : Ch) (f : CFld) (m : Nat) : (s.candn c f m).heart = s.heart := rfl
@[simp] theorem State.dbgr_candn (c : Ch) (f : CFld) (m : Nat) : (s.candn c f m).dbgr = s.dbgr := rfl
@[simp] theorem State.integ_candn (c : Ch) (f : CFld) (m : Nat) : (s.candn c f m).integ = s.integ := rfl
@[simp] theorem State.otp_candn (c : Ch) (f : CFld) (m : Nat) : (s.candn c f m).otp = s.otp := rfl
@[simp] theorem State.mgmt_candn (c : Ch) (f : CFld) (m : Nat) : (s.candn c f m).mgmt = s.mgmt := rfl
@[simp] theorem State.jtag_candn (c : Ch) (f : CFld) (m : Nat) : (s.candn c f m).jtag = s.jtag := rfl
@[simp] theorem State.bus_candn (c : Ch) (f : CFld) (m : Nat) : (s.candn c f m).bus = s.bus := rfl
@[simp] theorem State.cyc_candn (c : Ch) (f : CFld) (m : Nat) : (s.candn c f m).cyc = s.cyc := rfl
@[simp] theorem State.now_candn (c : Ch) (f : CFld) (m : Nat) : (s.candn c f m).now = s.now := rfl
@[simp] theorem State.free_candn (c : Ch) (f : CFld) (m : Nat) : (s.candn c f m).free = s.free := rfl
@[simp] theorem State.ch_candn (c : Ch) (f : CFld) (m : Nat) (d : Ch) : (s.candn c f m).ch d = s.ch d := rfl

/-! `State.voteBit` -/

@[simp] theorem State.pending_voteBit (c : Ch) (i : Nat) (b : Bool) : (s.voteBit c i b).pending = s.pending := rfl
@[simp] theorem State.chans_voteBit (c : Ch) (i : Nat) (b : Bool) : (s.voteBit c i b).chans = s.chans := rfl
@[simp] theorem State.power_voteBit (c : Ch) (i : Nat) (b : Bool) : (s.voteBit c i b).power = s.power := rfl
@[simp] theorem State.clock_voteBit (c : Ch) (i : Nat) (b : Bool) : (s.voteBit c i b).clock = s.clock := rfl
@[simp] theorem State.canopy_voteBit (c : Ch) (i : Nat) (b : Bool) : (s.voteBit c i b).canopy = s.canopy := rfl
@[simp] theorem State.host_voteBit (c : Ch) (i : Nat) (b : Bool) : (s.voteBit c i b).host = s.host := rfl
@[simp] theorem State.cal_voteBit (c : Ch) (i : Nat) (b : Bool) : (s.voteBit c i b).cal = s.cal := rfl
@[simp] theorem State.heart_voteBit (c : Ch) (i : Nat) (b : Bool) : (s.voteBit c i b).heart = s.heart := rfl
@[simp] theorem State.dbgr_voteBit (c : Ch) (i : Nat) (b : Bool) : (s.voteBit c i b).dbgr = s.dbgr := rfl
@[simp] theorem State.integ_voteBit (c : Ch) (i : Nat) (b : Bool) : (s.voteBit c i b).integ = s.integ := rfl
@[simp] theorem State.otp_voteBit (c : Ch) (i : Nat) (b : Bool) : (s.voteBit c i b).otp = s.otp := rfl
@[simp] theorem State.mgmt_voteBit (c : Ch) (i : Nat) (b : Bool) : (s.voteBit c i b).mgmt = s.mgmt := rfl
@[simp] theorem State.jtag_voteBit (c : Ch) (i : Nat) (b : Bool) : (s.voteBit c i b).jtag = s.jtag := rfl
@[simp] theorem State.bus_voteBit (c : Ch) (i : Nat) (b : Bool) : (s.voteBit c i b).bus = s.bus := rfl
@[simp] theorem State.cyc_voteBit (c : Ch) (i : Nat) (b : Bool) : (s.voteBit c i b).cyc = s.cyc := rfl
@[simp] theorem State.now_voteBit (c : Ch) (i : Nat) (b : Bool) : (s.voteBit c i b).now = s.now := rfl
@[simp] theorem State.free_voteBit (c : Ch) (i : Nat) (b : Bool) : (s.voteBit c i b).free = s.free := rfl
@[simp] theorem State.ch_voteBit (c : Ch) (i : Nat) (b : Bool) (d : Ch) : (s.voteBit c i b).ch d = s.ch d := rfl

/-! `State.clearFields` -/

@[simp] theorem State.pending_clearFields (p : Fld → Bool) : (s.clearFields p).pending = s.pending := rfl
@[simp] theorem State.chans_clearFields (p : Fld → Bool) : (s.clearFields p).chans = s.chans := rfl
@[simp] theorem State.power_clearFields (p : Fld → Bool) : (s.clearFields p).power = s.power := rfl
@[simp] theorem State.clock_clearFields (p : Fld → Bool) : (s.clearFields p).clock = s.clock := rfl
@[simp] theorem State.canopy_clearFields (p : Fld → Bool) : (s.clearFields p).canopy = s.canopy := rfl
@[simp] theorem State.host_clearFields (p : Fld → Bool) : (s.clearFields p).host = s.host := rfl
@[simp] theorem State.cal_clearFields (p : Fld → Bool) : (s.clearFields p).cal = s.cal := rfl
@[simp] theorem State.heart_clearFields (p : Fld → Bool) : (s.clearFields p).heart = s.heart := rfl
@[simp] theorem State.dbgr_clearFields (p : Fld → Bool) : (s.clearFields p).dbgr = s.dbgr := rfl
@[simp] theorem State.integ_clearFields (p : Fld → Bool) : (s.clearFields p).integ = s.integ := rfl
@[simp] theorem State.otp_clearFields (p : Fld → Bool) : (s.clearFields p).otp = s.otp := rfl
@[simp] theorem State.mgmt_clearFields (p : Fld → Bool) : (s.clearFields p).mgmt = s.mgmt := rfl
@[simp] theorem State.jtag_clearFields (p : Fld → Bool) : (s.clearFields p).jtag = s.jtag := rfl
@[simp] theorem State.bus_clearFields (p : Fld → Bool) : (s.clearFields p).bus = s.bus := rfl
@[simp] theorem State.cyc_clearFields (p : Fld → Bool) : (s.clearFields p).cyc = s.cyc := rfl
@[simp] theorem State.now_clearFields (p : Fld → Bool) : (s.clearFields p).now = s.now := rfl
@[simp] theorem State.free_clearFields (p : Fld → Bool) : (s.clearFields p).free = s.free := rfl
@[simp] theorem State.ch_clearFields (p : Fld → Bool) (d : Ch) : (s.clearFields p).ch d = s.ch d := rfl

/-! `State.reply` -/

@[simp] theorem State.pending_reply (v : Nat) : (s.reply v).pending = s.pending := rfl
@[simp] theorem State.regs_reply (v : Nat) : (s.reply v).regs = s.regs := rfl
@[simp] theorem State.chans_reply (v : Nat) : (s.reply v).chans = s.chans := rfl
@[simp] theorem State.power_reply (v : Nat) : (s.reply v).power = s.power := rfl
@[simp] theorem State.clock_reply (v : Nat) : (s.reply v).clock = s.clock := rfl
@[simp] theorem State.canopy_reply (v : Nat) : (s.reply v).canopy = s.canopy := rfl
@[simp] theorem State.host_reply (v : Nat) : (s.reply v).host = s.host := rfl
@[simp] theorem State.cal_reply (v : Nat) : (s.reply v).cal = s.cal := rfl
@[simp] theorem State.heart_reply (v : Nat) : (s.reply v).heart = s.heart := rfl
@[simp] theorem State.dbgr_reply (v : Nat) : (s.reply v).dbgr = s.dbgr := rfl
@[simp] theorem State.integ_reply (v : Nat) : (s.reply v).integ = s.integ := rfl
@[simp] theorem State.otp_reply (v : Nat) : (s.reply v).otp = s.otp := rfl
@[simp] theorem State.mgmt_reply (v : Nat) : (s.reply v).mgmt = s.mgmt := rfl
@[simp] theorem State.jtag_reply (v : Nat) : (s.reply v).jtag = s.jtag := rfl
@[simp] theorem State.now_reply (v : Nat) : (s.reply v).now = s.now := rfl
@[simp] theorem State.free_reply (v : Nat) : (s.reply v).free = s.free := rfl
@[simp] theorem State.ch_reply (v : Nat) (d : Ch) : (s.reply v).ch d = s.ch d := rfl
@[simp] theorem State.cg_reply (v : Nat) (d : Ch) (x : CFld) : (s.reply v).cg d x = s.cg d x := rfl
@[simp] theorem State.dg_reply (v : Nat) (x : DFld) : (s.reply v).dg x = s.dg x := rfl

/-! `State.busError` -/

@[simp] theorem State.pending_busError : (s.busError).pending = s.pending := rfl
@[simp] theorem State.regs_busError : (s.busError).regs = s.regs := rfl
@[simp] theorem State.chans_busError : (s.busError).chans = s.chans := rfl
@[simp] theorem State.power_busError : (s.busError).power = s.power := rfl
@[simp] theorem State.clock_busError : (s.busError).clock = s.clock := rfl
@[simp] theorem State.canopy_busError : (s.busError).canopy = s.canopy := rfl
@[simp] theorem State.host_busError : (s.busError).host = s.host := rfl
@[simp] theorem State.cal_busError : (s.busError).cal = s.cal := rfl
@[simp] theorem State.heart_busError : (s.busError).heart = s.heart := rfl
@[simp] theorem State.dbgr_busError : (s.busError).dbgr = s.dbgr := rfl
@[simp] theorem State.integ_busError : (s.busError).integ = s.integ := rfl
@[simp] theorem State.otp_busError : (s.busError).otp = s.otp := rfl
@[simp] theorem State.mgmt_busError : (s.busError).mgmt = s.mgmt := rfl
@[simp] theorem State.jtag_busError : (s.busError).jtag = s.jtag := rfl
@[simp] theorem State.now_busError : (s.busError).now = s.now := rfl
@[simp] theorem State.free_busError : (s.busError).free = s.free := rfl
@[simp] theorem State.ch_busError (d : Ch) : (s.busError).ch d = s.ch d := rfl
@[simp] theorem State.cg_busError (d : Ch) (x : CFld) : (s.busError).cg d x = s.cg d x := rfl
@[simp] theorem State.dg_busError (x : DFld) : (s.busError).dg x = s.dg x := rfl

/-! `State.updCh` -/

@[simp] theorem State.pending_updCh (c : Ch) (g : Chan → Chan) : (s.updCh c g).pending = s.pending := rfl
@[simp] theorem State.regs_updCh (c : Ch) (g : Chan → Chan) : (s.updCh c g).regs = s.regs := rfl
@[simp] theorem State.power_updCh (c : Ch) (g : Chan → Chan) : (s.updCh c g).power = s.power := rfl
@[simp] theorem State.clock_updCh (c : Ch) (g : Chan → Chan) : (s.updCh c g).clock = s.clock := rfl
@[simp] theorem State.canopy_updCh (c : Ch) (g : Chan → Chan) : (s.updCh c g).canopy = s.canopy := rfl
@[simp] theorem State.host_updCh (c : Ch) (g : Chan → Chan) : (s.updCh c g).host = s.host := rfl
@[simp] theorem State.cal_updCh (c : Ch) (g : Chan → Chan) : (s.updCh c g).cal = s.cal := rfl
@[simp] theorem State.heart_updCh (c : Ch) (g : Chan → Chan) : (s.updCh c g).heart = s.heart := rfl
@[simp] theorem State.dbgr_updCh (c : Ch) (g : Chan → Chan) : (s.updCh c g).dbgr = s.dbgr := rfl
@[simp] theorem State.integ_updCh (c : Ch) (g : Chan → Chan) : (s.updCh c g).integ = s.integ := rfl
@[simp] theorem State.otp_updCh (c : Ch) (g : Chan → Chan) : (s.updCh c g).otp = s.otp := rfl
@[simp] theorem State.mgmt_updCh (c : Ch) (g : Chan → Chan) : (s.updCh c g).mgmt = s.mgmt := rfl
@[simp] theorem State.jtag_updCh (c : Ch) (g : Chan → Chan) : (s.updCh c g).jtag = s.jtag := rfl
@[simp] theorem State.bus_updCh (c : Ch) (g : Chan → Chan) : (s.updCh c g).bus = s.bus := rfl
@[simp] theorem State.cyc_updCh (c : Ch) (g : Chan → Chan) : (s.updCh c g).cyc = s.cyc := rfl
@[simp] theorem State.now_updCh (c : Ch) (g : Chan → Chan) : (s.updCh c g).now = s.now := rfl
@[simp] theorem State.free_updCh (c : Ch) (g : Chan → Chan) : (s.updCh c g).free = s.free := rfl
@[simp] theorem State.cg_updCh (c : Ch) (g : Chan → Chan) (d : Ch) (x : CFld) : (s.updCh c g).cg d x = s.cg d x := rfl
@[simp] theorem State.dg_updCh (c : Ch) (g : Chan → Chan) (x : DFld) : (s.updCh c g).dg x = s.dg x := rfl

/-! `State.updSeq` -/

@[simp] theorem State.pending_updSeq (c : Ch) (g : SeqSt → SeqSt) : (s.updSeq c g).pending = s.pending := rfl
@[simp] theorem State.regs_updSeq (c : Ch) (g : SeqSt → SeqSt) : (s.updSeq c g).regs = s.regs := rfl
@[simp] theorem State.power_updSeq (c : Ch) (g : SeqSt → SeqSt) : (s.updSeq c g).power = s.power := rfl
@[simp] theorem State.clock_updSeq (c : Ch) (g : SeqSt → SeqSt) : (s.updSeq c g).clock = s.clock := rfl
@[simp] theorem State.canopy_updSeq (c : Ch) (g : SeqSt → SeqSt) : (s.updSeq c g).canopy = s.canopy := rfl
@[simp] theorem State.host_updSeq (c : Ch) (g : SeqSt → SeqSt) : (s.updSeq c g).host = s.host := rfl
@[simp] theorem State.cal_updSeq (c : Ch) (g : SeqSt → SeqSt) : (s.updSeq c g).cal = s.cal := rfl
@[simp] theorem State.heart_updSeq (c : Ch) (g : SeqSt → SeqSt) : (s.updSeq c g).heart = s.heart := rfl
@[simp] theorem State.dbgr_updSeq (c : Ch) (g : SeqSt → SeqSt) : (s.updSeq c g).dbgr = s.dbgr := rfl
@[simp] theorem State.integ_updSeq (c : Ch) (g : SeqSt → SeqSt) : (s.updSeq c g).integ = s.integ := rfl
@[simp] theorem State.otp_updSeq (c : Ch) (g : SeqSt → SeqSt) : (s.updSeq c g).otp = s.otp := rfl
@[simp] theorem State.mgmt_updSeq (c : Ch) (g : SeqSt → SeqSt) : (s.updSeq c g).mgmt = s.mgmt := rfl
@[simp] theorem State.jtag_updSeq (c : Ch) (g : SeqSt → SeqSt) : (s.updSeq c g).jtag = s.jtag := rfl
@[simp] theorem State.bus_updSeq (c : Ch) (g : SeqSt → SeqSt) : (s.updSeq c g).bus = s.bus := rfl
@[simp] theorem State.cyc_updSeq (c : Ch) (g : SeqSt → SeqSt) : (s.updSeq c g).cyc = s.cyc := rfl
@[simp] theorem State.now_updSeq (c : Ch) (g : SeqSt → SeqSt) : (s.updSeq c g).now = s.now := rfl
@[simp] theorem State.free_updSeq (c : Ch) (g : SeqSt → SeqSt) : (s.updSeq c g).free = s.free := rfl
@[simp] theorem State.cg_updSeq (c : Ch) (g : SeqSt → SeqSt) (d : Ch) (x : CFld) : (s.updSeq c g).cg d x = s.cg d x := rfl
@[simp] theorem State.dg_updSeq (c : Ch) (g : SeqSt → SeqSt) (x : DFld) : (s.updSeq c g).dg x = s.dg x := rfl

/-! `State.updLink` -/

@[simp] theorem State.pending_updLink (c : Ch) (g : LinkSt → LinkSt) : (s.updLink c g).pending = s.pending := rfl
@[simp] theorem State.regs_updLink (c : Ch) (g : LinkSt → LinkSt) : (s.updLink c g).regs = s.regs := rfl
@[simp] theorem State.power_updLink (c : Ch) (g : LinkSt → LinkSt) : (s.updLink c g).power = s.power := rfl
@[simp] theorem State.clock_updLink (c : Ch) (g : LinkSt → LinkSt) : (s.updLink c g).clock = s.clock := rfl
@[simp] theorem State.canopy_updLink (c : Ch) (g : LinkSt → LinkSt) : (s.updLink c g).canopy = s.canopy := rfl
@[simp] theorem State.host_updLink (c : Ch) (g : LinkSt → LinkSt) : (s.updLink c g).host = s.host := rfl
@[simp] theorem State.cal_updLink (c : Ch) (g : LinkSt → LinkSt) : (s.updLink c g).cal = s.cal := rfl
@[simp] theorem State.heart_updLink (c : Ch) (g : LinkSt → LinkSt) : (s.updLink c g).heart = s.heart := rfl
@[simp] theorem State.dbgr_updLink (c : Ch) (g : LinkSt → LinkSt) : (s.updLink c g).dbgr = s.dbgr := rfl
@[simp] theorem State.integ_updLink (c : Ch) (g : LinkSt → LinkSt) : (s.updLink c g).integ = s.integ := rfl
@[simp] theorem State.otp_updLink (c : Ch) (g : LinkSt → LinkSt) : (s.updLink c g).otp = s.otp := rfl
@[simp] theorem State.mgmt_updLink (c : Ch) (g : LinkSt → LinkSt) : (s.updLink c g).mgmt = s.mgmt := rfl
@[simp] theorem State.jtag_updLink (c : Ch) (g : LinkSt → LinkSt) : (s.updLink c g).jtag = s.jtag := rfl
@[simp] theorem State.bus_updLink (c : Ch) (g : LinkSt → LinkSt) : (s.updLink c g).bus = s.bus := rfl
@[simp] theorem State.cyc_updLink (c : Ch) (g : LinkSt → LinkSt) : (s.updLink c g).cyc = s.cyc := rfl
@[simp] theorem State.now_updLink (c : Ch) (g : LinkSt → LinkSt) : (s.updLink c g).now = s.now := rfl
@[simp] theorem State.free_updLink (c : Ch) (g : LinkSt → LinkSt) : (s.updLink c g).free = s.free := rfl
@[simp] theorem State.cg_updLink (c : Ch) (g : LinkSt → LinkSt) (d : Ch) (x : CFld) : (s.updLink c g).cg d x = s.cg d x := rfl
@[simp] theorem State.dg_updLink (c : Ch) (g : LinkSt → LinkSt) (x : DFld) : (s.updLink c g).dg x = s.dg x := rfl

/-! `State.updSeg` -/

@[simp] theorem State.pending_updSeg (c : Ch) (g : SegSt → SegSt) : (s.updSeg c g).pending = s.pending := rfl
@[simp] theorem State.regs_updSeg (c : Ch) (g : SegSt → SegSt) : (s.updSeg c g).regs = s.regs := rfl
@[simp] theorem State.power_updSeg (c : Ch) (g : SegSt → SegSt) : (s.updSeg c g).power = s.power := rfl
@[simp] theorem State.clock_updSeg (c : Ch) (g : SegSt → SegSt) : (s.updSeg c g).clock = s.clock := rfl
@[simp] theorem State.canopy_updSeg (c : Ch) (g : SegSt → SegSt) : (s.updSeg c g).canopy = s.canopy := rfl
@[simp] theorem State.host_updSeg (c : Ch) (g : SegSt → SegSt) : (s.updSeg c g).host = s.host := rfl
@[simp] theorem State.cal_updSeg (c : Ch) (g : SegSt → SegSt) : (s.updSeg c g).cal = s.cal := rfl
@[simp] theorem State.heart_updSeg (c : Ch) (g : SegSt → SegSt) : (s.updSeg c g).heart = s.heart := rfl
@[simp] theorem State.dbgr_updSeg (c : Ch) (g : SegSt → SegSt) : (s.updSeg c g).dbgr = s.dbgr := rfl
@[simp] theorem State.integ_updSeg (c : Ch) (g : SegSt → SegSt) : (s.updSeg c g).integ = s.integ := rfl
@[simp] theorem State.otp_updSeg (c : Ch) (g : SegSt → SegSt) : (s.updSeg c g).otp = s.otp := rfl
@[simp] theorem State.mgmt_updSeg (c : Ch) (g : SegSt → SegSt) : (s.updSeg c g).mgmt = s.mgmt := rfl
@[simp] theorem State.jtag_updSeg (c : Ch) (g : SegSt → SegSt) : (s.updSeg c g).jtag = s.jtag := rfl
@[simp] theorem State.bus_updSeg (c : Ch) (g : SegSt → SegSt) : (s.updSeg c g).bus = s.bus := rfl
@[simp] theorem State.cyc_updSeg (c : Ch) (g : SegSt → SegSt) : (s.updSeg c g).cyc = s.cyc := rfl
@[simp] theorem State.now_updSeg (c : Ch) (g : SegSt → SegSt) : (s.updSeg c g).now = s.now := rfl
@[simp] theorem State.free_updSeg (c : Ch) (g : SegSt → SegSt) : (s.updSeg c g).free = s.free := rfl
@[simp] theorem State.cg_updSeg (c : Ch) (g : SegSt → SegSt) (d : Ch) (x : CFld) : (s.updSeg c g).cg d x = s.cg d x := rfl
@[simp] theorem State.dg_updSeg (c : Ch) (g : SegSt → SegSt) (x : DFld) : (s.updSeg c g).dg x = s.dg x := rfl

/-! `State.updDsp` -/

@[simp] theorem State.pending_updDsp (c : Ch) (g : DspSt → DspSt) : (s.updDsp c g).pending = s.pending := rfl
@[simp] theorem State.regs_updDsp (c : Ch) (g : DspSt → DspSt) : (s.updDsp c g).regs = s.regs := rfl
@[simp] theorem State.power_updDsp (c : Ch) (g : DspSt → DspSt) : (s.updDsp c g).power = s.power := rfl
@[simp] theorem State.clock_updDsp (c : Ch) (g : DspSt → DspSt) : (s.updDsp c g).clock = s.clock := rfl
@[simp] theorem State.canopy_updDsp (c : Ch) (g : DspSt → DspSt) : (s.updDsp c g).canopy = s.canopy := rfl
@[simp] theorem State.host_updDsp (c : Ch) (g : DspSt → DspSt) : (s.updDsp c g).host = s.host := rfl
@[simp] theorem State.cal_updDsp (c : Ch) (g : DspSt → DspSt) : (s.updDsp c g).cal = s.cal := rfl
@[simp] theorem State.heart_updDsp (c : Ch) (g : DspSt → DspSt) : (s.updDsp c g).heart = s.heart := rfl
@[simp] theorem State.dbgr_updDsp (c : Ch) (g : DspSt → DspSt) : (s.updDsp c g).dbgr = s.dbgr := rfl
@[simp] theorem State.integ_updDsp (c : Ch) (g : DspSt → DspSt) : (s.updDsp c g).integ = s.integ := rfl
@[simp] theorem State.otp_updDsp (c : Ch) (g : DspSt → DspSt) : (s.updDsp c g).otp = s.otp := rfl
@[simp] theorem State.mgmt_updDsp (c : Ch) (g : DspSt → DspSt) : (s.updDsp c g).mgmt = s.mgmt := rfl
@[simp] theorem State.jtag_updDsp (c : Ch) (g : DspSt → DspSt) : (s.updDsp c g).jtag = s.jtag := rfl
@[simp] theorem State.bus_updDsp (c : Ch) (g : DspSt → DspSt) : (s.updDsp c g).bus = s.bus := rfl
@[simp] theorem State.cyc_updDsp (c : Ch) (g : DspSt → DspSt) : (s.updDsp c g).cyc = s.cyc := rfl
@[simp] theorem State.now_updDsp (c : Ch) (g : DspSt → DspSt) : (s.updDsp c g).now = s.now := rfl
@[simp] theorem State.free_updDsp (c : Ch) (g : DspSt → DspSt) : (s.updDsp c g).free = s.free := rfl
@[simp] theorem State.cg_updDsp (c : Ch) (g : DspSt → DspSt) (d : Ch) (x : CFld) : (s.updDsp c g).cg d x = s.cg d x := rfl
@[simp] theorem State.dg_updDsp (c : Ch) (g : DspSt → DspSt) (x : DFld) : (s.updDsp c g).dg x = s.dg x := rfl

/-! `State.updRx` -/

@[simp] theorem State.pending_updRx (c : Ch) (g : DspRun → DspRun) : (s.updRx c g).pending = s.pending := rfl
@[simp] theorem State.regs_updRx (c : Ch) (g : DspRun → DspRun) : (s.updRx c g).regs = s.regs := rfl
@[simp] theorem State.power_updRx (c : Ch) (g : DspRun → DspRun) : (s.updRx c g).power = s.power := rfl
@[simp] theorem State.clock_updRx (c : Ch) (g : DspRun → DspRun) : (s.updRx c g).clock = s.clock := rfl
@[simp] theorem State.canopy_updRx (c : Ch) (g : DspRun → DspRun) : (s.updRx c g).canopy = s.canopy := rfl
@[simp] theorem State.host_updRx (c : Ch) (g : DspRun → DspRun) : (s.updRx c g).host = s.host := rfl
@[simp] theorem State.cal_updRx (c : Ch) (g : DspRun → DspRun) : (s.updRx c g).cal = s.cal := rfl
@[simp] theorem State.heart_updRx (c : Ch) (g : DspRun → DspRun) : (s.updRx c g).heart = s.heart := rfl
@[simp] theorem State.dbgr_updRx (c : Ch) (g : DspRun → DspRun) : (s.updRx c g).dbgr = s.dbgr := rfl
@[simp] theorem State.integ_updRx (c : Ch) (g : DspRun → DspRun) : (s.updRx c g).integ = s.integ := rfl
@[simp] theorem State.otp_updRx (c : Ch) (g : DspRun → DspRun) : (s.updRx c g).otp = s.otp := rfl
@[simp] theorem State.mgmt_updRx (c : Ch) (g : DspRun → DspRun) : (s.updRx c g).mgmt = s.mgmt := rfl
@[simp] theorem State.jtag_updRx (c : Ch) (g : DspRun → DspRun) : (s.updRx c g).jtag = s.jtag := rfl
@[simp] theorem State.bus_updRx (c : Ch) (g : DspRun → DspRun) : (s.updRx c g).bus = s.bus := rfl
@[simp] theorem State.cyc_updRx (c : Ch) (g : DspRun → DspRun) : (s.updRx c g).cyc = s.cyc := rfl
@[simp] theorem State.now_updRx (c : Ch) (g : DspRun → DspRun) : (s.updRx c g).now = s.now := rfl
@[simp] theorem State.free_updRx (c : Ch) (g : DspRun → DspRun) : (s.updRx c g).free = s.free := rfl
@[simp] theorem State.cg_updRx (c : Ch) (g : DspRun → DspRun) (d : Ch) (x : CFld) : (s.updRx c g).cg d x = s.cg d x := rfl
@[simp] theorem State.dg_updRx (c : Ch) (g : DspRun → DspRun) (x : DFld) : (s.updRx c g).dg x = s.dg x := rfl

/-! `State.updLpi` -/

@[simp] theorem State.pending_updLpi (c : Ch) (g : LpiSt → LpiSt) : (s.updLpi c g).pending = s.pending := rfl
@[simp] theorem State.regs_updLpi (c : Ch) (g : LpiSt → LpiSt) : (s.updLpi c g).regs = s.regs := rfl
@[simp] theorem State.power_updLpi (c : Ch) (g : LpiSt → LpiSt) : (s.updLpi c g).power = s.power := rfl
@[simp] theorem State.clock_updLpi (c : Ch) (g : LpiSt → LpiSt) : (s.updLpi c g).clock = s.clock := rfl
@[simp] theorem State.canopy_updLpi (c : Ch) (g : LpiSt → LpiSt) : (s.updLpi c g).canopy = s.canopy := rfl
@[simp] theorem State.host_updLpi (c : Ch) (g : LpiSt → LpiSt) : (s.updLpi c g).host = s.host := rfl
@[simp] theorem State.cal_updLpi (c : Ch) (g : LpiSt → LpiSt) : (s.updLpi c g).cal = s.cal := rfl
@[simp] theorem State.heart_updLpi (c : Ch) (g : LpiSt → LpiSt) : (s.updLpi c g).heart = s.heart := rfl
@[simp] theorem State.dbgr_updLpi (c : Ch) (g : LpiSt → LpiSt) : (s.updLpi c g).dbgr = s.dbgr := rfl
@[simp] theorem State.integ_updLpi (c : Ch) (g : LpiSt → LpiSt) : (s.updLpi c g).integ = s.integ := rfl
@[simp] theorem State.otp_updLpi (c : Ch) (g : LpiSt → LpiSt) : (s.updLpi c g).otp = s.otp := rfl
@[simp] theorem State.mgmt_updLpi (c : Ch) (g : LpiSt → LpiSt) : (s.updLpi c g).mgmt = s.mgmt := rfl
@[simp] theorem State.jtag_updLpi (c : Ch) (g : LpiSt → LpiSt) : (s.updLpi c g).jtag = s.jtag := rfl
@[simp] theorem State.bus_updLpi (c : Ch) (g : LpiSt → LpiSt) : (s.updLpi c g).bus = s.bus := rfl
@[simp] theorem State.cyc_updLpi (c : Ch) (g : LpiSt → LpiSt) : (s.updLpi c g).cyc = s.cyc := rfl
@[simp] theorem State.now_updLpi (c : Ch) (g : LpiSt → LpiSt) : (s.updLpi c g).now = s.now := rfl
@[simp] theorem State.free_updLpi (c : Ch) (g : LpiSt → LpiSt) : (s.updLpi c g).free = s.free := rfl
@[simp] theorem State.cg_updLpi (c : Ch) (g : LpiSt → LpiSt) (d : Ch) (x : CFld) : (s.updLpi c g).cg d x = s.cg d x := rfl
@[simp] theorem State.dg_updLpi (c : Ch) (g : LpiSt → LpiSt) (x : DFld) : (s.updLpi c g).dg x = s.dg x := rfl

/-! `State.updLine` -/

@[simp] theorem State.pending_updLine (c : Ch) (g : LineSt → LineSt) : (s.updLine c g).pending = s.pending := rfl
@[simp] theorem State.regs_updLine (c : Ch) (g : LineSt → LineSt) : (s.updLine c g).regs = s.regs := rfl
@[simp] theorem State.power_updLine (c : Ch) (g : LineSt → LineSt) : (s.updLine c g).power = s.power := rfl
@[simp] theorem State.clock_updLine (c : Ch) (g : LineSt → LineSt) : (s.updLine c g).clock = s.clock := rfl
@[simp] theorem State.canopy_updLine (c : Ch) (g : LineSt → LineSt) : (s.updLine c g).canopy = s.canopy := rfl
@[simp] theorem State.host_updLine (c : Ch) (g : LineSt → LineSt) : (s.updLine c g).host = s.host := rfl
@[simp] theorem State.cal_updLine (c : Ch) (g : LineSt → LineSt) : (s.updLine c g).cal = s.cal := rfl
@[simp] theorem State.heart_updLine (c : Ch) (g : LineSt → LineSt) : (s.updLine c g).heart = s.heart := rfl
@[simp] theorem State.dbgr_updLine (c : Ch) (g : LineSt → LineSt) : (s.updLine c g).dbgr = s.dbgr := rfl
@[simp] theorem State.integ_updLine (c : Ch) (g : LineSt → LineSt) : (s.updLine c g).integ = s.integ := rfl
@[simp] theorem State.otp_updLine (c : Ch) (g : LineSt → LineSt) : (s.updLine c g).otp = s.otp := rfl
@[simp] theorem State.mgmt_updLine (c : Ch) (g : LineSt → LineSt) : (s.updLine c g).mgmt = s.mgmt := rfl
@[simp] theorem State.jtag_updLine (c : Ch) (g : LineSt → LineSt) : (s.updLine c g).jtag = s.jtag := rfl
@[simp] theorem State.bus_updLine (c : Ch) (g : LineSt → LineSt) : (s.updLine c g).bus = s.bus := rfl
@[simp] theorem State.cyc_updLine (c : Ch) (g : LineSt → LineSt) : (s.updLine c g).cyc = s.cyc := rfl
@[simp] theorem State.now_updLine (c : Ch) (g : LineSt → LineSt) : (s.updLine c g).now = s.now := rfl
@[simp] theorem State.free_updLine (c : Ch) (g : LineSt → LineSt) : (s.updLine c g).free = s.free := rfl
@[simp] theorem State.cg_updLine (c : Ch) (g : LineSt → LineSt) (d : Ch) (x : CFld) : (s.updLine c g).cg d x = s.cg d x := rfl
@[simp] theorem State.dg_updLine (c : Ch) (g : LineSt → LineSt) (x : DFld) : (s.updLine c g).dg x = s.dg x := rfl

/-! `State.updDiag` -/

@[simp] theorem State.pending_updDiag (c : Ch) (g : DiagSt → DiagSt) : (s.updDiag c g).pending = s.pending := rfl
@[simp] theorem State.regs_updDiag (c : Ch) (g : DiagSt → DiagSt) : (s.updDiag c g).regs = s.regs := rfl
@[simp] theorem State.power_updDiag (c : Ch) (g : DiagSt → DiagSt) : (s.updDiag c g).power = s.power := rfl
@[simp] theorem State.clock_updDiag (c : Ch) (g : DiagSt → DiagSt) : (s.updDiag c g).clock = s.clock := rfl
@[simp] theorem State.canopy_updDiag (c : Ch) (g : DiagSt → DiagSt) : (s.updDiag c g).canopy = s.canopy := rfl
@[simp] theorem State.host_updDiag (c : Ch) (g : DiagSt → DiagSt) : (s.updDiag c g).host = s.host := rfl
@[simp] theorem State.cal_updDiag (c : Ch) (g : DiagSt → DiagSt) : (s.updDiag c g).cal = s.cal := rfl
@[simp] theorem State.heart_updDiag (c : Ch) (g : DiagSt → DiagSt) : (s.updDiag c g).heart = s.heart := rfl
@[simp] theorem State.dbgr_updDiag (c : Ch) (g : DiagSt → DiagSt) : (s.updDiag c g).dbgr = s.dbgr := rfl
@[simp] theorem State.integ_updDiag (c : Ch) (g : DiagSt → DiagSt) : (s.updDiag c g).integ = s.integ := rfl
@[simp] theorem State.otp_updDiag (c : Ch) (g : DiagSt → DiagSt) : (s.updDiag c g).otp = s.otp := rfl
@[simp] theorem State.mgmt_updDiag (c : Ch) (g : DiagSt → DiagSt) : (s.updDiag c g).mgmt = s.mgmt := rfl
@[simp] theorem State.jtag_updDiag (c : Ch) (g : DiagSt → DiagSt) : (s.updDiag c g).jtag = s.jtag := rfl
@[simp] theorem State.bus_updDiag (c : Ch) (g : DiagSt → DiagSt) : (s.updDiag c g).bus = s.bus := rfl
@[simp] theorem State.cyc_updDiag (c : Ch) (g : DiagSt → DiagSt) : (s.updDiag c g).cyc = s.cyc := rfl
@[simp] theorem State.now_updDiag (c : Ch) (g : DiagSt → DiagSt) : (s.updDiag c g).now = s.now := rfl
@[simp] theorem State.free_updDiag (c : Ch) (g : DiagSt → DiagSt) : (s.updDiag c g).free = s.free := rfl
@[simp] theorem State.cg_updDiag (c : Ch) (g : DiagSt → DiagSt) (d : Ch) (x : CFld) : (s.updDiag c g).cg d x = s.cg d x := rfl
@[simp] theorem State.dg_updDiag (c : Ch) (g : DiagSt → DiagSt) (x : DFld) : (s.updDiag c g).dg x = s.dg x := rfl

/-! `State.updGraft` -/

@[simp] theorem State.pending_updGraft (c : Ch) (g : GraftSt → GraftSt) : (s.updGraft c g).pending = s.pending := rfl
@[simp] theorem State.regs_updGraft (c : Ch) (g : GraftSt → GraftSt) : (s.updGraft c g).regs = s.regs := rfl
@[simp] theorem State.power_updGraft (c : Ch) (g : GraftSt → GraftSt) : (s.updGraft c g).power = s.power := rfl
@[simp] theorem State.clock_updGraft (c : Ch) (g : GraftSt → GraftSt) : (s.updGraft c g).clock = s.clock := rfl
@[simp] theorem State.canopy_updGraft (c : Ch) (g : GraftSt → GraftSt) : (s.updGraft c g).canopy = s.canopy := rfl
@[simp] theorem State.host_updGraft (c : Ch) (g : GraftSt → GraftSt) : (s.updGraft c g).host = s.host := rfl
@[simp] theorem State.cal_updGraft (c : Ch) (g : GraftSt → GraftSt) : (s.updGraft c g).cal = s.cal := rfl
@[simp] theorem State.heart_updGraft (c : Ch) (g : GraftSt → GraftSt) : (s.updGraft c g).heart = s.heart := rfl
@[simp] theorem State.dbgr_updGraft (c : Ch) (g : GraftSt → GraftSt) : (s.updGraft c g).dbgr = s.dbgr := rfl
@[simp] theorem State.integ_updGraft (c : Ch) (g : GraftSt → GraftSt) : (s.updGraft c g).integ = s.integ := rfl
@[simp] theorem State.otp_updGraft (c : Ch) (g : GraftSt → GraftSt) : (s.updGraft c g).otp = s.otp := rfl
@[simp] theorem State.mgmt_updGraft (c : Ch) (g : GraftSt → GraftSt) : (s.updGraft c g).mgmt = s.mgmt := rfl
@[simp] theorem State.jtag_updGraft (c : Ch) (g : GraftSt → GraftSt) : (s.updGraft c g).jtag = s.jtag := rfl
@[simp] theorem State.bus_updGraft (c : Ch) (g : GraftSt → GraftSt) : (s.updGraft c g).bus = s.bus := rfl
@[simp] theorem State.cyc_updGraft (c : Ch) (g : GraftSt → GraftSt) : (s.updGraft c g).cyc = s.cyc := rfl
@[simp] theorem State.now_updGraft (c : Ch) (g : GraftSt → GraftSt) : (s.updGraft c g).now = s.now := rfl
@[simp] theorem State.free_updGraft (c : Ch) (g : GraftSt → GraftSt) : (s.updGraft c g).free = s.free := rfl
@[simp] theorem State.cg_updGraft (c : Ch) (g : GraftSt → GraftSt) (d : Ch) (x : CFld) : (s.updGraft c g).cg d x = s.cg d x := rfl
@[simp] theorem State.dg_updGraft (c : Ch) (g : GraftSt → GraftSt) (x : DFld) : (s.updGraft c g).dg x = s.dg x := rfl

/-! `State.updQ` -/

@[simp] theorem State.pending_updQ (c : Ch) (g : QueueSt → QueueSt) : (s.updQ c g).pending = s.pending := rfl
@[simp] theorem State.regs_updQ (c : Ch) (g : QueueSt → QueueSt) : (s.updQ c g).regs = s.regs := rfl
@[simp] theorem State.power_updQ (c : Ch) (g : QueueSt → QueueSt) : (s.updQ c g).power = s.power := rfl
@[simp] theorem State.clock_updQ (c : Ch) (g : QueueSt → QueueSt) : (s.updQ c g).clock = s.clock := rfl
@[simp] theorem State.canopy_updQ (c : Ch) (g : QueueSt → QueueSt) : (s.updQ c g).canopy = s.canopy := rfl
@[simp] theorem State.host_updQ (c : Ch) (g : QueueSt → QueueSt) : (s.updQ c g).host = s.host := rfl
@[simp] theorem State.cal_updQ (c : Ch) (g : QueueSt → QueueSt) : (s.updQ c g).cal = s.cal := rfl
@[simp] theorem State.heart_updQ (c : Ch) (g : QueueSt → QueueSt) : (s.updQ c g).heart = s.heart := rfl
@[simp] theorem State.dbgr_updQ (c : Ch) (g : QueueSt → QueueSt) : (s.updQ c g).dbgr = s.dbgr := rfl
@[simp] theorem State.integ_updQ (c : Ch) (g : QueueSt → QueueSt) : (s.updQ c g).integ = s.integ := rfl
@[simp] theorem State.otp_updQ (c : Ch) (g : QueueSt → QueueSt) : (s.updQ c g).otp = s.otp := rfl
@[simp] theorem State.mgmt_updQ (c : Ch) (g : QueueSt → QueueSt) : (s.updQ c g).mgmt = s.mgmt := rfl
@[simp] theorem State.jtag_updQ (c : Ch) (g : QueueSt → QueueSt) : (s.updQ c g).jtag = s.jtag := rfl
@[simp] theorem State.bus_updQ (c : Ch) (g : QueueSt → QueueSt) : (s.updQ c g).bus = s.bus := rfl
@[simp] theorem State.cyc_updQ (c : Ch) (g : QueueSt → QueueSt) : (s.updQ c g).cyc = s.cyc := rfl
@[simp] theorem State.now_updQ (c : Ch) (g : QueueSt → QueueSt) : (s.updQ c g).now = s.now := rfl
@[simp] theorem State.free_updQ (c : Ch) (g : QueueSt → QueueSt) : (s.updQ c g).free = s.free := rfl
@[simp] theorem State.cg_updQ (c : Ch) (g : QueueSt → QueueSt) (d : Ch) (x : CFld) : (s.updQ c g).cg d x = s.cg d x := rfl
@[simp] theorem State.dg_updQ (c : Ch) (g : QueueSt → QueueSt) (x : DFld) : (s.updQ c g).dg x = s.dg x := rfl

/-! `State.updF` -/

@[simp] theorem State.pending_updF (c : Ch) (g : FrameSt → FrameSt) : (s.updF c g).pending = s.pending := rfl
@[simp] theorem State.regs_updF (c : Ch) (g : FrameSt → FrameSt) : (s.updF c g).regs = s.regs := rfl
@[simp] theorem State.power_updF (c : Ch) (g : FrameSt → FrameSt) : (s.updF c g).power = s.power := rfl
@[simp] theorem State.clock_updF (c : Ch) (g : FrameSt → FrameSt) : (s.updF c g).clock = s.clock := rfl
@[simp] theorem State.canopy_updF (c : Ch) (g : FrameSt → FrameSt) : (s.updF c g).canopy = s.canopy := rfl
@[simp] theorem State.host_updF (c : Ch) (g : FrameSt → FrameSt) : (s.updF c g).host = s.host := rfl
@[simp] theorem State.cal_updF (c : Ch) (g : FrameSt → FrameSt) : (s.updF c g).cal = s.cal := rfl
@[simp] theorem State.heart_updF (c : Ch) (g : FrameSt → FrameSt) : (s.updF c g).heart = s.heart := rfl
@[simp] theorem State.dbgr_updF (c : Ch) (g : FrameSt → FrameSt) : (s.updF c g).dbgr = s.dbgr := rfl
@[simp] theorem State.integ_updF (c : Ch) (g : FrameSt → FrameSt) : (s.updF c g).integ = s.integ := rfl
@[simp] theorem State.otp_updF (c : Ch) (g : FrameSt → FrameSt) : (s.updF c g).otp = s.otp := rfl
@[simp] theorem State.mgmt_updF (c : Ch) (g : FrameSt → FrameSt) : (s.updF c g).mgmt = s.mgmt := rfl
@[simp] theorem State.jtag_updF (c : Ch) (g : FrameSt → FrameSt) : (s.updF c g).jtag = s.jtag := rfl
@[simp] theorem State.bus_updF (c : Ch) (g : FrameSt → FrameSt) : (s.updF c g).bus = s.bus := rfl
@[simp] theorem State.cyc_updF (c : Ch) (g : FrameSt → FrameSt) : (s.updF c g).cyc = s.cyc := rfl
@[simp] theorem State.now_updF (c : Ch) (g : FrameSt → FrameSt) : (s.updF c g).now = s.now := rfl
@[simp] theorem State.free_updF (c : Ch) (g : FrameSt → FrameSt) : (s.updF c g).free = s.free := rfl
@[simp] theorem State.cg_updF (c : Ch) (g : FrameSt → FrameSt) (d : Ch) (x : CFld) : (s.updF c g).cg d x = s.cg d x := rfl
@[simp] theorem State.dg_updF (c : Ch) (g : FrameSt → FrameSt) (x : DFld) : (s.updF c g).dg x = s.dg x := rfl

/-! `State.updHost` -/

@[simp] theorem State.pending_updHost (g : HostSt → HostSt) : (s.updHost g).pending = s.pending := rfl
@[simp] theorem State.regs_updHost (g : HostSt → HostSt) : (s.updHost g).regs = s.regs := rfl
@[simp] theorem State.chans_updHost (g : HostSt → HostSt) : (s.updHost g).chans = s.chans := rfl
@[simp] theorem State.power_updHost (g : HostSt → HostSt) : (s.updHost g).power = s.power := rfl
@[simp] theorem State.clock_updHost (g : HostSt → HostSt) : (s.updHost g).clock = s.clock := rfl
@[simp] theorem State.canopy_updHost (g : HostSt → HostSt) : (s.updHost g).canopy = s.canopy := rfl
@[simp] theorem State.cal_updHost (g : HostSt → HostSt) : (s.updHost g).cal = s.cal := rfl
@[simp] theorem State.heart_updHost (g : HostSt → HostSt) : (s.updHost g).heart = s.heart := rfl
@[simp] theorem State.dbgr_updHost (g : HostSt → HostSt) : (s.updHost g).dbgr = s.dbgr := rfl
@[simp] theorem State.integ_updHost (g : HostSt → HostSt) : (s.updHost g).integ = s.integ := rfl
@[simp] theorem State.otp_updHost (g : HostSt → HostSt) : (s.updHost g).otp = s.otp := rfl
@[simp] theorem State.mgmt_updHost (g : HostSt → HostSt) : (s.updHost g).mgmt = s.mgmt := rfl
@[simp] theorem State.jtag_updHost (g : HostSt → HostSt) : (s.updHost g).jtag = s.jtag := rfl
@[simp] theorem State.bus_updHost (g : HostSt → HostSt) : (s.updHost g).bus = s.bus := rfl
@[simp] theorem State.cyc_updHost (g : HostSt → HostSt) : (s.updHost g).cyc = s.cyc := rfl
@[simp] theorem State.now_updHost (g : HostSt → HostSt) : (s.updHost g).now = s.now := rfl
@[simp] theorem State.free_updHost (g : HostSt → HostSt) : (s.updHost g).free = s.free := rfl
@[simp] theorem State.ch_updHost (g : HostSt → HostSt) (d : Ch) : (s.updHost g).ch d = s.ch d := rfl
@[simp] theorem State.cg_updHost (g : HostSt → HostSt) (d : Ch) (x : CFld) : (s.updHost g).cg d x = s.cg d x := rfl
@[simp] theorem State.dg_updHost (g : HostSt → HostSt) (x : DFld) : (s.updHost g).dg x = s.dg x := rfl

/-! `State.updHeart` -/

@[simp] theorem State.pending_updHeart (g : HeartSt → HeartSt) : (s.updHeart g).pending = s.pending := rfl
@[simp] theorem State.regs_updHeart (g : HeartSt → HeartSt) : (s.updHeart g).regs = s.regs := rfl
@[simp] theorem State.chans_updHeart (g : HeartSt → HeartSt) : (s.updHeart g).chans = s.chans := rfl
@[simp] theorem State.power_updHeart (g : HeartSt → HeartSt) : (s.updHeart g).power = s.power := rfl
@[simp] theorem State.clock_updHeart (g : HeartSt → HeartSt) : (s.updHeart g).clock = s.clock := rfl
@[simp] theorem State.canopy_updHeart (g : HeartSt → HeartSt) : (s.updHeart g).canopy = s.canopy := rfl
@[simp] theorem State.host_updHeart (g : HeartSt → HeartSt) : (s.updHeart g).host = s.host := rfl
@[simp] theorem State.cal_updHeart (g : HeartSt → HeartSt) : (s.updHeart g).cal = s.cal := rfl
@[simp] theorem State.dbgr_updHeart (g : HeartSt → HeartSt) : (s.updHeart g).dbgr = s.dbgr := rfl
@[simp] theorem State.integ_updHeart (g : HeartSt → HeartSt) : (s.updHeart g).integ = s.integ := rfl
@[simp] theorem State.otp_updHeart (g : HeartSt → HeartSt) : (s.updHeart g).otp = s.otp := rfl
@[simp] theorem State.mgmt_updHeart (g : HeartSt → HeartSt) : (s.updHeart g).mgmt = s.mgmt := rfl
@[simp] theorem State.jtag_updHeart (g : HeartSt → HeartSt) : (s.updHeart g).jtag = s.jtag := rfl
@[simp] theorem State.bus_updHeart (g : HeartSt → HeartSt) : (s.updHeart g).bus = s.bus := rfl
@[simp] theorem State.cyc_updHeart (g : HeartSt → HeartSt) : (s.updHeart g).cyc = s.cyc := rfl
@[simp] theorem State.now_updHeart (g : HeartSt → HeartSt) : (s.updHeart g).now = s.now := rfl
@[simp] theorem State.free_updHeart (g : HeartSt → HeartSt) : (s.updHeart g).free = s.free := rfl
@[simp] theorem State.ch_updHeart (g : HeartSt → HeartSt) (d : Ch) : (s.updHeart g).ch d = s.ch d := rfl
@[simp] theorem State.cg_updHeart (g : HeartSt → HeartSt) (d : Ch) (x : CFld) : (s.updHeart g).cg d x = s.cg d x := rfl
@[simp] theorem State.dg_updHeart (g : HeartSt → HeartSt) (x : DFld) : (s.updHeart g).dg x = s.dg x := rfl

/-! `State.updOtp` -/

@[simp] theorem State.pending_updOtp (g : Otp → Otp) : (s.updOtp g).pending = s.pending := rfl
@[simp] theorem State.regs_updOtp (g : Otp → Otp) : (s.updOtp g).regs = s.regs := rfl
@[simp] theorem State.chans_updOtp (g : Otp → Otp) : (s.updOtp g).chans = s.chans := rfl
@[simp] theorem State.power_updOtp (g : Otp → Otp) : (s.updOtp g).power = s.power := rfl
@[simp] theorem State.clock_updOtp (g : Otp → Otp) : (s.updOtp g).clock = s.clock := rfl
@[simp] theorem State.canopy_updOtp (g : Otp → Otp) : (s.updOtp g).canopy = s.canopy := rfl
@[simp] theorem State.host_updOtp (g : Otp → Otp) : (s.updOtp g).host = s.host := rfl
@[simp] theorem State.cal_updOtp (g : Otp → Otp) : (s.updOtp g).cal = s.cal := rfl
@[simp] theorem State.heart_updOtp (g : Otp → Otp) : (s.updOtp g).heart = s.heart := rfl
@[simp] theorem State.dbgr_updOtp (g : Otp → Otp) : (s.updOtp g).dbgr = s.dbgr := rfl
@[simp] theorem State.integ_updOtp (g : Otp → Otp) : (s.updOtp g).integ = s.integ := rfl
@[simp] theorem State.mgmt_updOtp (g : Otp → Otp) : (s.updOtp g).mgmt = s.mgmt := rfl
@[simp] theorem State.jtag_updOtp (g : Otp → Otp) : (s.updOtp g).jtag = s.jtag := rfl
@[simp] theorem State.bus_updOtp (g : Otp → Otp) : (s.updOtp g).bus = s.bus := rfl
@[simp] theorem State.cyc_updOtp (g : Otp → Otp) : (s.updOtp g).cyc = s.cyc := rfl
@[simp] theorem State.now_updOtp (g : Otp → Otp) : (s.updOtp g).now = s.now := rfl
@[simp] theorem State.free_updOtp (g : Otp → Otp) : (s.updOtp g).free = s.free := rfl
@[simp] theorem State.ch_updOtp (g : Otp → Otp) (d : Ch) : (s.updOtp g).ch d = s.ch d := rfl
@[simp] theorem State.cg_updOtp (g : Otp → Otp) (d : Ch) (x : CFld) : (s.updOtp g).cg d x = s.cg d x := rfl
@[simp] theorem State.dg_updOtp (g : Otp → Otp) (x : DFld) : (s.updOtp g).dg x = s.dg x := rfl

/-! `State.updCal` -/

@[simp] theorem State.pending_updCal (g : CalSt → CalSt) : (s.updCal g).pending = s.pending := rfl
@[simp] theorem State.regs_updCal (g : CalSt → CalSt) : (s.updCal g).regs = s.regs := rfl
@[simp] theorem State.chans_updCal (g : CalSt → CalSt) : (s.updCal g).chans = s.chans := rfl
@[simp] theorem State.power_updCal (g : CalSt → CalSt) : (s.updCal g).power = s.power := rfl
@[simp] theorem State.clock_updCal (g : CalSt → CalSt) : (s.updCal g).clock = s.clock := rfl
@[simp] theorem State.canopy_updCal (g : CalSt → CalSt) : (s.updCal g).canopy = s.canopy := rfl
@[simp] theorem State.host_updCal (g : CalSt → CalSt) : (s.updCal g).host = s.host := rfl
@[simp] theorem State.heart_updCal (g : CalSt → CalSt) : (s.updCal g).heart = s.heart := rfl
@[simp] theorem State.dbgr_updCal (g : CalSt → CalSt) : (s.updCal g).dbgr = s.dbgr := rfl
@[simp] theorem State.integ_updCal (g : CalSt → CalSt) : (s.updCal g).integ = s.integ := rfl
@[simp] theorem State.otp_updCal (g : CalSt → CalSt) : (s.updCal g).otp = s.otp := rfl
@[simp] theorem State.mgmt_updCal (g : CalSt → CalSt) : (s.updCal g).mgmt = s.mgmt := rfl
@[simp] theorem State.jtag_updCal (g : CalSt → CalSt) : (s.updCal g).jtag = s.jtag := rfl
@[simp] theorem State.bus_updCal (g : CalSt → CalSt) : (s.updCal g).bus = s.bus := rfl
@[simp] theorem State.cyc_updCal (g : CalSt → CalSt) : (s.updCal g).cyc = s.cyc := rfl
@[simp] theorem State.now_updCal (g : CalSt → CalSt) : (s.updCal g).now = s.now := rfl
@[simp] theorem State.free_updCal (g : CalSt → CalSt) : (s.updCal g).free = s.free := rfl
@[simp] theorem State.ch_updCal (g : CalSt → CalSt) (d : Ch) : (s.updCal g).ch d = s.ch d := rfl
@[simp] theorem State.cg_updCal (g : CalSt → CalSt) (d : Ch) (x : CFld) : (s.updCal g).cg d x = s.cg d x := rfl
@[simp] theorem State.dg_updCal (g : CalSt → CalSt) (x : DFld) : (s.updCal g).dg x = s.dg x := rfl

/-! `State.updPower` -/

@[simp] theorem State.pending_updPower (g : PowerSt → PowerSt) : (s.updPower g).pending = s.pending := rfl
@[simp] theorem State.regs_updPower (g : PowerSt → PowerSt) : (s.updPower g).regs = s.regs := rfl
@[simp] theorem State.chans_updPower (g : PowerSt → PowerSt) : (s.updPower g).chans = s.chans := rfl
@[simp] theorem State.clock_updPower (g : PowerSt → PowerSt) : (s.updPower g).clock = s.clock := rfl
@[simp] theorem State.canopy_updPower (g : PowerSt → PowerSt) : (s.updPower g).canopy = s.canopy := rfl
@[simp] theorem State.host_updPower (g : PowerSt → PowerSt) : (s.updPower g).host = s.host := rfl
@[simp] theorem State.cal_updPower (g : PowerSt → PowerSt) : (s.updPower g).cal = s.cal := rfl
@[simp] theorem State.heart_updPower (g : PowerSt → PowerSt) : (s.updPower g).heart = s.heart := rfl
@[simp] theorem State.dbgr_updPower (g : PowerSt → PowerSt) : (s.updPower g).dbgr = s.dbgr := rfl
@[simp] theorem State.integ_updPower (g : PowerSt → PowerSt) : (s.updPower g).integ = s.integ := rfl
@[simp] theorem State.otp_updPower (g : PowerSt → PowerSt) : (s.updPower g).otp = s.otp := rfl
@[simp] theorem State.mgmt_updPower (g : PowerSt → PowerSt) : (s.updPower g).mgmt = s.mgmt := rfl
@[simp] theorem State.jtag_updPower (g : PowerSt → PowerSt) : (s.updPower g).jtag = s.jtag := rfl
@[simp] theorem State.bus_updPower (g : PowerSt → PowerSt) : (s.updPower g).bus = s.bus := rfl
@[simp] theorem State.cyc_updPower (g : PowerSt → PowerSt) : (s.updPower g).cyc = s.cyc := rfl
@[simp] theorem State.now_updPower (g : PowerSt → PowerSt) : (s.updPower g).now = s.now := rfl
@[simp] theorem State.free_updPower (g : PowerSt → PowerSt) : (s.updPower g).free = s.free := rfl
@[simp] theorem State.ch_updPower (g : PowerSt → PowerSt) (d : Ch) : (s.updPower g).ch d = s.ch d := rfl
@[simp] theorem State.cg_updPower (g : PowerSt → PowerSt) (d : Ch) (x : CFld) : (s.updPower g).cg d x = s.cg d x := rfl
@[simp] theorem State.dg_updPower (g : PowerSt → PowerSt) (x : DFld) : (s.updPower g).dg x = s.dg x := rfl

/-! `State.updClock` -/

@[simp] theorem State.pending_updClock (g : ClockSt → ClockSt) : (s.updClock g).pending = s.pending := rfl
@[simp] theorem State.regs_updClock (g : ClockSt → ClockSt) : (s.updClock g).regs = s.regs := rfl
@[simp] theorem State.chans_updClock (g : ClockSt → ClockSt) : (s.updClock g).chans = s.chans := rfl
@[simp] theorem State.power_updClock (g : ClockSt → ClockSt) : (s.updClock g).power = s.power := rfl
@[simp] theorem State.canopy_updClock (g : ClockSt → ClockSt) : (s.updClock g).canopy = s.canopy := rfl
@[simp] theorem State.host_updClock (g : ClockSt → ClockSt) : (s.updClock g).host = s.host := rfl
@[simp] theorem State.cal_updClock (g : ClockSt → ClockSt) : (s.updClock g).cal = s.cal := rfl
@[simp] theorem State.heart_updClock (g : ClockSt → ClockSt) : (s.updClock g).heart = s.heart := rfl
@[simp] theorem State.dbgr_updClock (g : ClockSt → ClockSt) : (s.updClock g).dbgr = s.dbgr := rfl
@[simp] theorem State.integ_updClock (g : ClockSt → ClockSt) : (s.updClock g).integ = s.integ := rfl
@[simp] theorem State.otp_updClock (g : ClockSt → ClockSt) : (s.updClock g).otp = s.otp := rfl
@[simp] theorem State.mgmt_updClock (g : ClockSt → ClockSt) : (s.updClock g).mgmt = s.mgmt := rfl
@[simp] theorem State.jtag_updClock (g : ClockSt → ClockSt) : (s.updClock g).jtag = s.jtag := rfl
@[simp] theorem State.bus_updClock (g : ClockSt → ClockSt) : (s.updClock g).bus = s.bus := rfl
@[simp] theorem State.cyc_updClock (g : ClockSt → ClockSt) : (s.updClock g).cyc = s.cyc := rfl
@[simp] theorem State.now_updClock (g : ClockSt → ClockSt) : (s.updClock g).now = s.now := rfl
@[simp] theorem State.free_updClock (g : ClockSt → ClockSt) : (s.updClock g).free = s.free := rfl
@[simp] theorem State.ch_updClock (g : ClockSt → ClockSt) (d : Ch) : (s.updClock g).ch d = s.ch d := rfl
@[simp] theorem State.cg_updClock (g : ClockSt → ClockSt) (d : Ch) (x : CFld) : (s.updClock g).cg d x = s.cg d x := rfl
@[simp] theorem State.dg_updClock (g : ClockSt → ClockSt) (x : DFld) : (s.updClock g).dg x = s.dg x := rfl

/-! `State.updPort` -/

@[simp] theorem State.pending_updPort (c : Ch) (g : MdPort → MdPort) : (s.updPort c g).pending = s.pending := rfl
@[simp] theorem State.regs_updPort (c : Ch) (g : MdPort → MdPort) : (s.updPort c g).regs = s.regs := rfl
@[simp] theorem State.chans_updPort (c : Ch) (g : MdPort → MdPort) : (s.updPort c g).chans = s.chans := rfl
@[simp] theorem State.power_updPort (c : Ch) (g : MdPort → MdPort) : (s.updPort c g).power = s.power := rfl
@[simp] theorem State.clock_updPort (c : Ch) (g : MdPort → MdPort) : (s.updPort c g).clock = s.clock := rfl
@[simp] theorem State.canopy_updPort (c : Ch) (g : MdPort → MdPort) : (s.updPort c g).canopy = s.canopy := rfl
@[simp] theorem State.host_updPort (c : Ch) (g : MdPort → MdPort) : (s.updPort c g).host = s.host := rfl
@[simp] theorem State.cal_updPort (c : Ch) (g : MdPort → MdPort) : (s.updPort c g).cal = s.cal := rfl
@[simp] theorem State.heart_updPort (c : Ch) (g : MdPort → MdPort) : (s.updPort c g).heart = s.heart := rfl
@[simp] theorem State.dbgr_updPort (c : Ch) (g : MdPort → MdPort) : (s.updPort c g).dbgr = s.dbgr := rfl
@[simp] theorem State.integ_updPort (c : Ch) (g : MdPort → MdPort) : (s.updPort c g).integ = s.integ := rfl
@[simp] theorem State.otp_updPort (c : Ch) (g : MdPort → MdPort) : (s.updPort c g).otp = s.otp := rfl
@[simp] theorem State.jtag_updPort (c : Ch) (g : MdPort → MdPort) : (s.updPort c g).jtag = s.jtag := rfl
@[simp] theorem State.bus_updPort (c : Ch) (g : MdPort → MdPort) : (s.updPort c g).bus = s.bus := rfl
@[simp] theorem State.cyc_updPort (c : Ch) (g : MdPort → MdPort) : (s.updPort c g).cyc = s.cyc := rfl
@[simp] theorem State.now_updPort (c : Ch) (g : MdPort → MdPort) : (s.updPort c g).now = s.now := rfl
@[simp] theorem State.free_updPort (c : Ch) (g : MdPort → MdPort) : (s.updPort c g).free = s.free := rfl
@[simp] theorem State.ch_updPort (c : Ch) (g : MdPort → MdPort) (d : Ch) : (s.updPort c g).ch d = s.ch d := rfl
@[simp] theorem State.cg_updPort (c : Ch) (g : MdPort → MdPort) (d : Ch) (x : CFld) : (s.updPort c g).cg d x = s.cg d x := rfl
@[simp] theorem State.dg_updPort (c : Ch) (g : MdPort → MdPort) (x : DFld) : (s.updPort c g).dg x = s.dg x := rfl

/-! `State.updPair` -/

@[simp] theorem State.pending_updPair (c : Ch) (k : Fin 8) (g : Pair → Pair) : (s.updPair c k g).pending = s.pending := rfl
@[simp] theorem State.regs_updPair (c : Ch) (k : Fin 8) (g : Pair → Pair) : (s.updPair c k g).regs = s.regs := rfl
@[simp] theorem State.chans_updPair (c : Ch) (k : Fin 8) (g : Pair → Pair) : (s.updPair c k g).chans = s.chans := rfl
@[simp] theorem State.power_updPair (c : Ch) (k : Fin 8) (g : Pair → Pair) : (s.updPair c k g).power = s.power := rfl
@[simp] theorem State.clock_updPair (c : Ch) (k : Fin 8) (g : Pair → Pair) : (s.updPair c k g).clock = s.clock := rfl
@[simp] theorem State.canopy_updPair (c : Ch) (k : Fin 8) (g : Pair → Pair) : (s.updPair c k g).canopy = s.canopy := rfl
@[simp] theorem State.cal_updPair (c : Ch) (k : Fin 8) (g : Pair → Pair) : (s.updPair c k g).cal = s.cal := rfl
@[simp] theorem State.heart_updPair (c : Ch) (k : Fin 8) (g : Pair → Pair) : (s.updPair c k g).heart = s.heart := rfl
@[simp] theorem State.dbgr_updPair (c : Ch) (k : Fin 8) (g : Pair → Pair) : (s.updPair c k g).dbgr = s.dbgr := rfl
@[simp] theorem State.integ_updPair (c : Ch) (k : Fin 8) (g : Pair → Pair) : (s.updPair c k g).integ = s.integ := rfl
@[simp] theorem State.otp_updPair (c : Ch) (k : Fin 8) (g : Pair → Pair) : (s.updPair c k g).otp = s.otp := rfl
@[simp] theorem State.mgmt_updPair (c : Ch) (k : Fin 8) (g : Pair → Pair) : (s.updPair c k g).mgmt = s.mgmt := rfl
@[simp] theorem State.jtag_updPair (c : Ch) (k : Fin 8) (g : Pair → Pair) : (s.updPair c k g).jtag = s.jtag := rfl
@[simp] theorem State.bus_updPair (c : Ch) (k : Fin 8) (g : Pair → Pair) : (s.updPair c k g).bus = s.bus := rfl
@[simp] theorem State.cyc_updPair (c : Ch) (k : Fin 8) (g : Pair → Pair) : (s.updPair c k g).cyc = s.cyc := rfl
@[simp] theorem State.now_updPair (c : Ch) (k : Fin 8) (g : Pair → Pair) : (s.updPair c k g).now = s.now := rfl
@[simp] theorem State.free_updPair (c : Ch) (k : Fin 8) (g : Pair → Pair) : (s.updPair c k g).free = s.free := rfl
@[simp] theorem State.ch_updPair (c : Ch) (k : Fin 8) (g : Pair → Pair) (d : Ch) : (s.updPair c k g).ch d = s.ch d := rfl
@[simp] theorem State.cg_updPair (c : Ch) (k : Fin 8) (g : Pair → Pair) (d : Ch) (x : CFld) : (s.updPair c k g).cg d x = s.cg d x := rfl
@[simp] theorem State.dg_updPair (c : Ch) (k : Fin 8) (g : Pair → Pair) (x : DFld) : (s.updPair c k g).dg x = s.dg x := rfl

/-! ### A channel after a change of one of its parts -/

@[simp] theorem State.ch_updSeq (c d : Ch) (g : SeqSt → SeqSt) :
    (s.updSeq c g).ch d = if d = c then { s.ch c with seq := g (s.ch c).seq } else s.ch d := by
  simp [State.updSeq]

@[simp] theorem State.ch_updLink (c d : Ch) (g : LinkSt → LinkSt) :
    (s.updLink c g).ch d = if d = c then { s.ch c with link := (g (s.ch c).link).drop } else s.ch d := by
  simp [State.updLink]

@[simp] theorem State.ch_updSeg (c d : Ch) (g : SegSt → SegSt) :
    (s.updSeg c g).ch d = if d = c then { s.ch c with seg := (g (s.ch c).seg).drop } else s.ch d := by
  simp [State.updSeg]

@[simp] theorem State.ch_updDsp (c d : Ch) (g : DspSt → DspSt) :
    (s.updDsp c g).ch d = if d = c then { s.ch c with dsp := g (s.ch c).dsp } else s.ch d := by
  simp [State.updDsp]

@[simp] theorem State.ch_updRx (c d : Ch) (g : DspRun → DspRun) :
    (s.updRx c g).ch d = if d = c then { s.ch c with rx := g (s.ch c).rx } else s.ch d := by
  simp [State.updRx]

@[simp] theorem State.ch_updLpi (c d : Ch) (g : LpiSt → LpiSt) :
    (s.updLpi c g).ch d = if d = c then { s.ch c with lpi := g (s.ch c).lpi } else s.ch d := by
  simp [State.updLpi]

@[simp] theorem State.ch_updLine (c d : Ch) (g : LineSt → LineSt) :
    (s.updLine c g).ch d = if d = c then { s.ch c with line := g (s.ch c).line } else s.ch d := by
  simp [State.updLine]

@[simp] theorem State.ch_updDiag (c d : Ch) (g : DiagSt → DiagSt) :
    (s.updDiag c g).ch d = if d = c then { s.ch c with diag := g (s.ch c).diag } else s.ch d := by
  simp [State.updDiag]

@[simp] theorem State.ch_updGraft (c d : Ch) (g : GraftSt → GraftSt) :
    (s.updGraft c g).ch d = if d = c then { s.ch c with graft := g (s.ch c).graft } else s.ch d := by
  simp [State.updGraft]

@[simp] theorem State.ch_updQ (c d : Ch) (g : QueueSt → QueueSt) :
    (s.updQ c g).ch d = if d = c then { s.ch c with queue := g (s.ch c).queue } else s.ch d := by
  simp [State.updQ]

@[simp] theorem State.ch_updF (c d : Ch) (g : FrameSt → FrameSt) :
    (s.updF c g).ch d = if d = c then { s.ch c with frame := g (s.ch c).frame } else s.ch d := by
  simp [State.updF]

theorem State.updCh_same (c : Ch) (g : Chan → Chan) : (s.updCh c g).ch c = g (s.ch c) := by simp

end Sys2Proof.Machine
end

