-- ==== Sys2Proof/Laws/Access.lean ====
section
/-! SUPPORT. What a register access does, once for every command that is one: how a plain write reaches the effect of its
register, and what a write from outside and one of the link program lead to. -/

namespace Sys2Proof.Machine

/-! ### A plain write lands -/

theorem State.cfgWord_none (s : State) (c : Ch) (b : CBlk) (o : Nat) (h : ∀ f ∈ CFld.at b o, f.info.crc = false) :
    s.cfgWord c b o = 0 := by
  unfold State.cfgWord
  rw [List.filter_eq_nil_iff.mpr fun f hf => by simp [h f hf]]
  rfl

theorem State.cfgWordD_none (s : State) (b : DBlk) (o : Nat) (h : ∀ f ∈ DFld.at b o, f.info.crc = false) :
    s.cfgWordD b o = 0 := by
  unfold State.cfgWordD
  rw [List.filter_eq_nil_iff.mpr fun f hf => by simp [h f hf]]
  rfl

/-- A plain write of a channel register that is neither behind the gate nor configuration is the register's own effect. -/
theorem State.landC_plain (s : State) (c : Ch) (b : CBlk) (o v : Nat) (p : Bool) (a : Nat)
    (h : ∀ f ∈ CFld.at b o, f.info.acc ≠ .rwk ∧ f.info.crc = false) :
    s.landC c b .plain o v p a = s.writeReg c b o v p := by
  have hk : ((CFld.at b o).any fun f => implFld c f && decide (f.info.acc = .rwk)) = false :=
    List.any_eq_false.mpr fun f hf => by simp [(h f hf).1]
  have hc := fun s : State => s.cfgWord_none c b o fun f hf => (h f hf).2
  simp [State.landC, State.cfgPut, State.aliasWord, hk, hc]

/-- As `State.landC_plain`, for a device register. -/
theorem State.landD_plain (s : State) (b : DBlk) (o v a : Nat)
    (h : ∀ f ∈ DFld.at b o, f.info.acc ≠ .rwk ∧ f.info.crc = false) (hi : imgArea b o = false) :
    s.landD b .plain o v a = s.writeRegD b o v := by
  have hk : ((DFld.at b o).any fun f => decide (f.info.acc = .rwk)) = false :=
    List.any_eq_false.mpr fun f hf => by simp [(h f hf).1]
  have hc := fun s : State => s.cfgWordD_none b o fun f hf => (h f hf).2
  simp [State.landD, State.aliasWordD, hk, hc, hi]

/-- A plain write of a device register behind the gate that is not configuration. -/
theorem State.landD_gated (s : State) (b : DBlk) (o v a : Nat)
    (hk : ((DFld.at b o).any fun f => decide (f.info.acc = .rwk)) = true) (hi : imgArea b o = false)
    (h : ∀ f ∈ DFld.at b o, f.info.crc = false) :
    s.landD b .plain o v a = s.guard a fun s => s.writeRegD b o v := by
  have hc := fun s : State => s.cfgWordD_none b o h
  simp only [State.landD, hi, State.aliasWordD, hk, hc]
  simp

/-- Through the open gate, which closes. -/
theorem State.guard_open (s : State) (a : Nat) (g : State → State) (h : s.gateOpen = true) :
    s.guard a g = g s.shutGate := by
  rw [State.guard, if_pos h]

/-- The closed gate turns the write away (R266). -/
theorem State.guard_closed (s : State) (a : Nat) (g : State → State) (h : s.gateOpen = false) :
    s.guard a g = s.lockViol a := by
  rw [State.guard, if_neg (by rw [h]; decide)]

/-! ### Accesses from outside and of the link program -/

/-- A register command from outside that is taken: every earlier write of the channel lands, then the effect (R258). -/
theorem State.rowDo_outside (s : State) (src : Src) (c : Ch) (b : CBlk) (o v : Nat) (g : State → Bool → State)
    (h : s.arrives src c b) : s.rowDo src c b o v g = .next ((g (s.landAll c) false).reply 0) := by
  obtain ⟨h1, h2, h3, h4⟩ := h
  have h3 : s.srcOk src (.chan c b .plain o) = true := h3
  cases src <;> simp_all [State.rowDo, ok]

/-- As `State.rowDo_outside`, for a device register. -/
theorem State.devDo_outside (s : State) (src : Src) (b : DBlk) (g : State → State) (h : s.arrivesDev src b) :
    s.devDo src b g = .next ((g s).reply 0) := by
  obtain ⟨h1, h2, h3⟩ := h
  cases src <;> simp_all [State.devDo, ok]

/-- A plain register write from outside, to a register that is neither behind the gate nor configuration. -/
theorem State.rowW_outside (s : State) (src : Src) (c : Ch) (b : CBlk) (o v : Nat)
    (h : ∀ f ∈ CFld.at b o, f.info.acc ≠ .rwk ∧ f.info.crc = false) (hb : ¬(b = .seq ∧ o = 0)) (ha : s.arrives src c b) :
    s.rowW src c b o v = .next (((s.landAll c).writeReg c b o v false).reply 0) := by
  rw [State.rowW, State.rowDo_outside s src c b o v _ ha]
  simp [State.landReg, hb, State.landC_plain _ c b o v false _ h]

@[inherit_doc State.rowW_outside]
theorem State.devW_outside (s : State) (src : Src) (b : DBlk) (o v : Nat)
    (h : ∀ f ∈ DFld.at b o, f.info.acc ≠ .rwk ∧ f.info.crc = false) (hi : imgArea b o = false) (ha : s.arrivesDev src b) :
    s.devW src b o v = .next ((s.writeRegD b o v).reply 0) := by
  rw [State.devW, State.devDo_outside s src b _ ha, State.landD_plain s b o v _ h hi]

/-- A plain write from outside of a device register behind the gate that is not configuration. -/
theorem State.devW_gated (s : State) (src : Src) (b : DBlk) (o v : Nat)
    (hk : ((DFld.at b o).any fun f => decide (f.info.acc = .rwk)) = true) (hi : imgArea b o = false)
    (h : ∀ f ∈ DFld.at b o, f.info.crc = false) (ha : s.arrivesDev src b) (hg : s.gateOpen = true) :
    s.devW src b o v = .next ((s.shutGate.writeRegD b o v).reply 0) := by
  rw [State.devW, State.devDo_outside s src b _ ha, State.landD_gated s b o v _ hk hi h, State.guard_open _ _ _ hg]

/-- With nothing in the buffer, nothing lands before a write. -/
theorem State.landAll_nil (s : State) (c : Ch) (h : (s.ch c).posted = []) : s.landAll c = s := by
  simp [State.landAll, h, State.landN]

end Sys2Proof.Machine
end

