-- ==== Sys2Proof/Laws/Coding.lean ====
section
/-! SUPPORT. The XT50 line coding against the figures that the spec states of it. -/

namespace Sys2Proof.Machine

/-- The descrambler, from the same state, gives back what was scrambled (R40). -/
theorem descrBits_scrBits (l : List Bool) (q : BitVec 58) : descrBits q (scrBits q l) = l := by
  induction l generalizing q with
  | nil => rfl
  | cons b t ih =>
    have h1 : (descrBit q (scrBit q b).2).1 = (scrBit q b).1 := rfl
    have h2 : (descrBit q (scrBit q b).2).2 = b := by
      simp only [scrBit, descrBit]
      cases b <;> cases q.getLsbD 38 <;> cases q.getLsbD 57 <;> rfl
    simp only [scrBits, descrBits, h1, h2, ih]

/-- A superframe has 170 slots of data (R39). -/
theorem xt_data_slots :
    (((List.range 9).map fun w => ((List.range 20).filter fun k => xtSlot w k = .data).length).sum) = 170 := by decide

/-- The marker has 257 bits and differs from itself in none (R43). -/
theorem marker_matches : marker.length = 257 ∧ markerDiff marker = 0 := by decide +kernel

/-- The generator polynomial is monic of degree 30 (R41). -/
theorem rs_generator : rsGen.length = 31 ∧ rsGen.getLast? = some 1#10 := by decide +kernel

/-- Every generator root is a root: the polynomial's value at alpha^i is 0 (R41). -/
theorem rs_generator_roots : ∀ i < 30, rsGen.foldr (fun c v => c ^^^ gfMul (gfPow i) v) 0#10 = 0#10 := by decide +kernel

/-- The Gray levels of the four values, and ten bits as five symbols (R42). -/
theorem pam_levels : (List.range 4).map (fun v => pamLevel (Fin.ofNat 4 v)) = [-3, -1, 3, 1] ∧
    pamVals 0b1110010011#10 = [3, 0, 1, 2, 3] := by decide

/-- An infofield fills the last 256 symbols of a training frame (R45). -/
theorem info_symbols_length : (infoSymbols 0).length = 256 := by decide +kernel

end Sys2Proof.Machine
end

