-- ==== Sys2Proof/Laws/Memory.lean ====
section
/-! SUPPORT. The byte memories: what a read gives after a write, and that every operation keeps the canonical form. -/

namespace Sys2Proof.Machine

/-! ### Reads after writes -/

theorem Mem.readByte_low (m : Mem) (lo a : Nat) (h : Mem.wfFrom lo m = true) (ha : a < lo) : m.readByte a = 0 := by
  induction m generalizing lo with
  | nil => rfl
  | cons x t ih =>
    obtain ⟨b, v⟩ := x
    simp only [Mem.wfFrom, Bool.and_eq_true, decide_eq_true_eq] at h
    have hb : a ≠ b := by omega
    simp only [Mem.readByte, hb, if_false]
    exact ih (b + 1) h.2 (by omega)

/-- Another byte reads as before. -/
theorem Mem.readByte_writeByte_ne (m : Mem) (a b : Nat) (v : Byte) (h : b ≠ a) :
    (m.writeByte a v).readByte b = m.readByte b := by
  induction m with
  | nil =>
    simp only [Mem.writeByte]
    split <;> simp [Mem.readByte, h]
  | cons x t ih =>
    obtain ⟨c, w⟩ := x
    simp only [Mem.writeByte]
    split
    · split
      · rfl
      · simp [Mem.readByte, h]
    · split
      · rename_i hc
        subst hc
        split <;> simp [Mem.readByte, h]
      · simp [Mem.readByte, ih]

/-- A canonical memory reads back the byte just written. -/
theorem Mem.readByte_writeByte (m : Mem) (lo a : Nat) (v : Byte) (h : Mem.wfFrom lo m = true) :
    (m.writeByte a v).readByte a = v := by
  induction m generalizing lo with
  | nil =>
    simp only [Mem.writeByte]
    split
    · rename_i hv; simp [Mem.readByte, hv]
    · simp [Mem.readByte]
  | cons x t ih =>
    obtain ⟨b, w⟩ := x
    simp only [Mem.wfFrom, Bool.and_eq_true, decide_eq_true_eq] at h
    simp only [Mem.writeByte]
    split
    · rename_i hab
      split
      · rename_i hv
        have hb : a ≠ b := by omega
        simp only [Mem.readByte, hb, if_false, hv]
        exact Mem.readByte_low t (b + 1) a h.2 (by omega)
      · simp [Mem.readByte]
    · split
      · rename_i hab
        subst hab
        split
        · rename_i hv
          rw [hv]
          exact Mem.readByte_low t (a + 1) a h.2 (by omega)
        · simp [Mem.readByte]
      · rename_i hab
        simp only [Mem.readByte, hab, if_false]
        exact ih (b + 1) h.2

/-! ### The canonical form -/

theorem Mem.wfFrom_mono (m : Mem) (lo hi : Nat) (hle : lo ≤ hi) (h : Mem.wfFrom hi m = true) : Mem.wfFrom lo m = true := by
  cases m with
  | nil => rfl
  | cons x t =>
    simp only [Mem.wfFrom, Bool.and_eq_true, decide_eq_true_eq] at h ⊢
    exact ⟨⟨by omega, h.1.2⟩, h.2⟩

theorem Mem.wfFrom_writeByte (m : Mem) (lo a : Nat) (v : Byte) (hlo : lo ≤ a) (h : Mem.wfFrom lo m = true) :
    Mem.wfFrom lo (m.writeByte a v) = true := by
  induction m generalizing lo with
  | nil =>
    simp only [Mem.writeByte]
    split
    · rfl
    · rename_i hv
      simp only [Mem.wfFrom, Bool.and_eq_true, decide_eq_true_eq]
      exact ⟨⟨hlo, hv⟩, trivial⟩
  | cons x t ih =>
    obtain ⟨b, w⟩ := x
    simp only [Mem.wfFrom, Bool.and_eq_true, decide_eq_true_eq] at h
    simp only [Mem.writeByte]
    split
    · split
      · simp only [Mem.wfFrom, Bool.and_eq_true, decide_eq_true_eq]
        exact h
      · rename_i hab hv
        simp only [Mem.wfFrom, Bool.and_eq_true, decide_eq_true_eq]
        exact ⟨⟨hlo, hv⟩, ⟨by omega, h.1.2⟩, h.2⟩
    · split
      · rename_i hab
        subst hab
        split
        · exact Mem.wfFrom_mono t lo (a + 1) (by omega) h.2
        · rename_i hv
          simp only [Mem.wfFrom, Bool.and_eq_true, decide_eq_true_eq]
          exact ⟨⟨hlo, hv⟩, h.2⟩
      · rename_i h1 h2
        simp only [Mem.wfFrom, Bool.and_eq_true, decide_eq_true_eq]
        exact ⟨h.1, ih (b + 1) (by omega) h.2⟩

/-- Writing a byte keeps the canonical form. -/
theorem Mem.wf_writeByte (m : Mem) (a : Nat) (v : Byte) (h : Memory.wf m = true) : Memory.wf (m.writeByte a v) = true :=
  Mem.wfFrom_writeByte m 0 a v (Nat.zero_le a) h

/-- Writing a word keeps the canonical form. -/
theorem Mem.wf_writeWord (m : Mem) (a : Nat) (v : Word) (h : Memory.wf m = true) : Memory.wf (m.writeWord a v) = true :=
  Mem.wf_writeByte _ _ _ (Mem.wf_writeByte _ _ _ (Mem.wf_writeByte _ _ _ (Mem.wf_writeByte _ _ _ h)))

/-- Writing words keeps the canonical form. -/
theorem Mem.wf_writeWords (m : Mem) (a : Nat) (l : List Word) (h : Memory.wf m = true) :
    Memory.wf (m.writeWords a l) = true := by
  induction l generalizing m a with
  | nil => exact h
  | cons v t ih => exact ih _ _ (Mem.wf_writeWord m a v h)

/-- Writing bytes keeps the canonical form. -/
theorem Mem.wf_writeBytes (m : Mem) (a : Nat) (l : List Byte) (h : Memory.wf m = true) :
    Memory.wf (m.writeBytes a l) = true := by
  induction l generalizing m a with
  | nil => exact h
  | cons v t ih => exact ih _ _ (Mem.wf_writeByte m a v h)

theorem Mem.wfFrom_keep (m : Mem) (lo : Nat) (p : Nat → Bool) (h : Mem.wfFrom lo m = true) :
    Mem.wfFrom lo (m.keep p) = true := by
  induction m generalizing lo with
  | nil => rfl
  | cons x t ih =>
    obtain ⟨b, w⟩ := x
    simp only [Mem.wfFrom, Bool.and_eq_true, decide_eq_true_eq] at h
    unfold Mem.keep
    by_cases hp : p b = true
    · rw [List.filter_cons_of_pos (by simpa using hp)]
      simp only [Mem.wfFrom, Bool.and_eq_true, decide_eq_true_eq]
      exact ⟨h.1, ih (b + 1) h.2⟩
    · rw [List.filter_cons_of_neg (by simpa using hp)]
      exact Mem.wfFrom_mono _ lo (b + 1) (by omega) (ih (b + 1) h.2)

/-- Keeping some cells keeps the canonical form. -/
theorem Mem.wf_keep (m : Mem) (p : Nat → Bool) (h : Memory.wf m = true) : Memory.wf (m.keep p) = true :=
  Mem.wfFrom_keep m 0 p h

/-! ### Reset -/

theorem Chan.init_memOk : Chan.init.memOk :=
  ⟨rfl, rfl, rfl, fun _ h => nomatch h⟩

/-- Every memory of the reset state is in the canonical form. -/
theorem State.reset_memOk : State.reset.memOk := by
  refine ⟨fun c => ?_, rfl, rfl, rfl, rfl, fun _ h => nomatch h⟩
  have hc : State.reset.ch c = Chan.init := by simp [State.ch, State.reset]
  rw [hc]
  exact Chan.init_memOk

end Sys2Proof.Machine
end

