-- ==== Sys2Proof/Laws/Seq.lean ====
section
/-! SUPPORT. What an instruction of the link program does, once for all of them: how a command reaches its effect, and what
completing in place leaves. -/

namespace Sys2Proof.Machine

theorem State.issues.running {s : State} {c : Ch} {m : Mn} {w : Word} (h : s.issues c m w) :
    (s.ch c).seq.st = .running := by
  have := h.1
  simp only [State.seqRuns, Bool.and_eq_true, decide_eq_true_eq] at this
  exact this.1

/-- A command whose instruction issues is its effect, closed by `finish`. -/
theorem State.issueMn_issues {s : State} {c : Ch} {m : Mn} {w : Word} (h : s.issues c m w) (g) :
    s.issueMn c m g = .next (s.finish c w false (g s w)) := by
  obtain ⟨h1, h2, h3, h4⟩ := h
  simp [State.issueMn, h1, h2, h3, h4, ok]

/-- A register's new value and the flags are one update of the sequencer. -/
theorem State.setSReg_setFlags (s : State) (c : Ch) (d : Fin 16) (v : Word) (f : Flags) :
    (s.setSReg c d v).setFlags c f = s.updSeq c fun q => (q.put d v).withFlags f.z f.n f.c f.v := by
  unfold State.setSReg State.setFlags SeqSt.put SeqSt.withFlags
  split
  · rfl
  · simp only [State.updSeq, State.updCh]
    congr 1
    ext i hi
    simp

/-- The counts of cycles are no part of a channel. -/
@[simp] theorem State.seqCycles_ch (s : State) (c : Ch) (n : Nat) (d : Ch) : (s.seqCycles c n).ch d = s.ch d := by
  show (s.cinc c .SEQ_CYCLES_COUNT n).ch d = s.ch d
  simp [State.cinc]

/-- Of the registers, the passing of cycles changes `SEQ_CYCLES` alone. -/
@[simp] theorem State.seqCycles_rd (s : State) (c : Ch) (n : Nat) (f : Fld) :
    (s.seqCycles c n).rd f = (s.cinc c .SEQ_CYCLES_COUNT n).rd f := rfl

/-- An instruction that completes in place, and whose effect is on the sequencer alone, leaves what `seqDone` says. -/
theorem State.seqDone_of (s : State) (c : Ch) (n : Nat) (q : SeqSt) (g : SeqSt → SeqSt) (hq : q = g (s.ch c).seq)
    (hr : q.st = .running) (hpc : q.pc = (s.ch c).seq.pc) (w : Word) :
    s.seqDone (s.finish c w false (.next (s.updSeq c g) n)) c n q := by
  have hl : (((s.updSeq c g).seqCycles c n).ch c).seq = q := by simp [hq]
  have h2 : s.finish c w false (.next (s.updSeq c g) n) =
      ((s.updSeq c g).seqCycles c n).updSeq c fun x =>
        { x with pc := (loopBack (s.ch c).seq.pc x.loops).1, loops := (loopBack (s.ch c).seq.pc x.loops).2 } := by
    simp only [State.finish, State.advance, hl, hr]
    simp [QState.live]
  rw [h2]
  refine ⟨rfl, ?_, ?_, ?_, ?_⟩
  · intro d hd
    simp [hd]
  · simp [← hq, hpc]
  · show ((s.updSeq c g).cinc c .SEQ_CYCLES_COUNT n).cg c .SEQ_CYCLES_COUNT = _
    simp [State.cinc, State.updSeq]
    rfl
  · intro f hf
    show ((s.updSeq c g).cinc c .SEQ_CYCLES_COUNT n).rd f = _
    simp [State.cinc, State.cs]
    show ((s.updSeq c g).wr _ _).rd f = _
    rw [State.rd_wr, if_neg hf]
    rfl

/-- What every channel's turn keeps, all of them together keep. -/
theorem State.forCh_inv (P : State → Prop) (s : State) (g : State → Ch → State) (h0 : P s)
    (h : ∀ x c, P x → P (g x c)) : P (s.forCh g) := by
  unfold State.forCh
  generalize allCh = l
  induction l generalizing s with
  | nil => exact h0
  | cons a t ih => exact ih _ (h _ _ h0)

end Sys2Proof.Machine
end

