-- ==== Sys2Proof/Tests/Slice0.lean ====
section
/-! SUPPORT. Tests: well-formedness refuses each ill-formed term, worked examples of the spec, and for every obligation
with hypotheses a state and operands that meet them. -/



namespace Sys2Proof.Tests

set_option maxRecDepth 20000
set_option Elab.async false

open Sys2Proof Sys2Proof.Machine

/-! ### States the tests start from -/

/-- A channel that is on, released and idle. -/
def idle : Chan := { Chan.init with pst := .on, sub := .idle, pad := ⟨false, false, false, none⟩ }

/-- The part in Active with every channel on and clocked and the host link up. -/
def act : State :=
  { State.reset with
    regs := (List.finRange 32).flatMap (fun k : Ch =>
        [(.dev (.CLK_CHEN_EN k.val), 0x3FF), (.dev (.CLK_CHEN_CALG k.val), 1), (.dev (.CLK_CHEN_SEG k.val), 1)]) ++
      [(.dev .CLK_SVCEN_CAL, 1), (.dev .CLK_SVCEN_INTEG, 1), (.dev .CLK_SVCEN_ID, 1), (.dev .CLK_SVCEN_DEBUG, 1),
        (.dev .CLK_SVCEN_MGMT, 1), (.dev .HOST_STAT_NG_UP, 1)]
    power := { State.reset.power with mode := .active, wake := none, pgood := true }
    chans := .replicate 32 idle
    host := { State.reset.host with ul := .active, pairs := .replicate 32 (.replicate 8 { Pair.init with synced := true }) } }

/-- `act` in another device mode, with another change under way and another pending wake. -/
def inMode (m : DevMode) (g : ModeChg) (w : Option Wake) : State :=
  { act with power := { act.power with mode := m, chg := g, wake := w } }

/-- `act` with channel `c` changed. -/
def withCh (c : Ch) (f : Chan → Chan) : State := act.updCh c f

/-- `s` with Heartwood running `op`. -/
def withOp (s : State) (op : HeartOp) : State := { s with heart := { s.heart with op := some op } }

/-- `act` with the sequencer of channel `c` running the one-word program `w`, and changed by `f`. -/
def prog (c : Ch) (w : Word) (f : SeqSt → SeqSt := id) : State :=
  (act.updCh c fun x => { x with seq := f { x.seq with st := .running, pram := x.seq.pram.writeWord 0 w } }).cs c
    .SEQ_LOAD_END 1

/-! ### Instruction words laid out field by field (R184) -/

/-- Format A. -/
def aw (op : BitVec 6) (d a b : BitVec 4) (sub : BitVec 6) : Word := op ++ d ++ a ++ b ++ sub ++ 0#8

/-- Formats I and B. -/
def iw (op : BitVec 6) (d a : BitVec 4) (imm : BitVec 18) : Word := op ++ d ++ a ++ imm

/-- Format P. -/
def pw (op : BitVec 6) (d : BitVec 4) (port : BitVec 6) (index : BitVec 16) : Word := op ++ d ++ port ++ index

/-- Format W. -/
def ww (op : BitVec 6) (mask : BitVec 8) (timeout : BitVec 18) : Word := op ++ mask ++ timeout

/-- `act` with channel `c` in link state `st`, sub-state `sub` and active type `typ`, its link changed by `f`. -/
def lnk (c : Ch) (st : LState) (sub : SubState) (typ : Nat) (f : LinkSt → LinkSt := id) : State :=
  (act.updCh c fun x => { x with sub := sub, link := f { x.link with st := st } }).cs c .PCS_CTL_TYPE typ

/-- A shift under way whose REQ this end sent. -/
def shifting : ShiftSt := ⟨true, 3, false, false, false, false, false, false⟩

/-! ### The hypotheses of the obligations can be met -/

/-- `StepRunsFrontCommand` and `CommandsLeaveTheQueueAlone` have none; `IdleStepIsOneReferenceTick`. -/
theorem wit_IdleStepIsOneReferenceTick :
    (act.pending = [] ∧ act.power.mode ≠ .off ∧ act.power.mode ≠ .dormant ∧ act.power.clockWait = false) ∧
    (State.reset.pending = [] ∧ State.reset.power.mode = .dormant) := by decide +kernel

/-- `EveryStepKeepsRegisterStoreCanonical` and `OneTimeMemoryIsNeverUndone`. -/
theorem wit_EveryStep : (∃ t, step act = .next t) ∧ act.regsOk :=
  ⟨⟨_, rfl⟩, by delta State.regsOk; decide +kernel⟩

theorem wit_ReferenceMonitorsAndLossOfReference :
    let a := { act with clock := { act.clock with rcRdy := true, armedA := true, armedB := true } }
    act.power.mode ≠ .off ∧
    ({ act with clock := { act.clock with rcRdy := true } }.clock.rcRdy = true ∧ act.clock.armedA = false) ∧
    (a.clock.armedA = true ∧ a.clock.armedB = true ∧ a.power.clockWait = false ∧ a.db .CLK_REFSTAT_REF_LOST = false) ∧
    (act.dg .CLK_REFSTAT_ACTIVE ≠ 1 ∧ act.dg .CLK_REFSTAT_ACTIVE ≠ 2) ∧
    (act.servicesUp = true ∧ act.db .CLK_REFSTAT_REF_LOST = false ∧ (act.ds .CLK_REFSTAT_ACTIVE 1).servicesUp = true ∧
      (act.ds .CLK_REFSTAT_ACTIVE 1).dg .CLK_REFSTAT_ACTIVE = 1 ∧
      (act.ds .CLK_REFSTAT_ACTIVE 2).dg .CLK_REFSTAT_ACTIVE = 2) := by decide +kernel

theorem wit_ServiceClockAndLockOfPlls :
    let a := { act with clock := { act.clock with coasting := true } }
    let k := act.ds .CLK_PLLSTAT_LOCK 0x80000001
    let l := act.ds .CLK_LPLLSTAT_LOCK 0x81
    let v := (act.ds .CLK_REFSTAT_SPLL_LOCK 1).ds .CLK_REFSTAT_SVC_SRC 1
    (v.servicesUp = true ∧ v.clock.coasting = false ∧ v.db .CLK_REFSTAT_SPLL_LOCK = true ∧
      v.db .CLK_REFSTAT_SVC_SRC = true ∧ v.db .CLK_REFSTAT_REF_LOST = false) ∧
    (a.servicesUp = true ∧ a.clock.coasting = true ∧ a.db .CLK_REFSTAT_SVC_SRC = false) ∧
    (act.servicesUp = true ∧ act.clock.coasting = false ∧ act.powered 0 = true ∧ act.powered 31 = true) ∧
    ((k.dg .CLK_PLLSTAT_LOCK).testBit 31 = true ∧ k.db .CLK_REFSTAT_REF_LOST = false) ∧
    ((l.dg .CLK_LPLLSTAT_LOCK).testBit 7 = true ∧ l.db .CLK_REFSTAT_REF_LOST = false) ∧
    ((act.dg .CLK_PLLSTAT_LOCK).testBit 23 = false ∧ isSeg 23 = false) ∧
    ((act.dg .CLK_LPLLSTAT_LOCK).testBit 7 = false ∧ (act.cs 7 .PCS_CTL_TYPE 7).clockTyp 7 = 7 ∧ act.clockTyp 31 ≠ 7) := by
  decide +kernel

theorem wit_ClockGatesCloseAfterWaitingWrites :
    act.arrivesDev .sideband .clk ∧ act.arrivesDev .mdio .clk ∧
    (let a := { act with clock := { act.clock with gates := [.chan 31 .seg, .svc 4] } };
      a.clock.gates.contains (Gate.chan 31 .seg) = true ∧ a.postedFor 31 .seg = false) := by
  delta State.arrivesDev; decide +kernel

theorem wit_ModeRequestsMoveThePart :
    act.arrivesDev .sideband .pwr ∧ (act.power.mode = .active ∧ act.power.chg = .none ∧ act.power.wakeNow = false) ∧
    (∀ c, (act.ch c).posted = [] ∧ (act.ch c).pst ≠ .poweringDown) ∧
    ((inMode .standby .none none).arrivesDev .sideband .pwr ∧ (inMode .standby .none none).power.mode = .standby) ∧
    (inMode .active .stbyPrep none).arrivesDev .sideband .pwr ∧
    (let w := { act with power := { act.power with wakeNow := true } };
      w.arrivesDev .sideband .pwr ∧ w.power.chg = .none ∧ w.power.wakeNow = true) := by
  delta State.arrivesDev; decide +kernel

theorem wit_StandbyAndServiceAreEntered :
    (inMode .active .stbyPrep none).power.chg = .stbyPrep ∧ (inMode .active .stbyReady none).power.chg = .stbyReady ∧
    ((inMode .standby .none none).power.mode = .standby ∧ (inMode .standby .none none).clock.coasting = false) ∧
    (let a := { inMode .active .service none with chans := .replicate 32 Chan.init };
      a.power.chg = .service ∧ ∀ c, (a.ch c).pst = .off) := by decide +kernel

theorem wit_WakesAreKeptAndServed :
    ((act.ds .TAP_WAKEEN_PIN 1).db .TAP_WAKEEN_PIN = true ∧ act.power.mode = .active) ∧
    (let s := inMode .standby .none none;
      (s.ds .TAP_WAKEEN_PIN 1).db .TAP_WAKEEN_PIN = true ∧ s.power.mode = .standby ∧ s.power.chg = .none ∧
        s.power.wake = none) ∧
    (let n := (inMode .dormant .none none).ds .TAP_WAKEEN_PIN 1;
      let f := (inMode .dormant .none (some ⟨5, 0, 0, act.now⟩)).ds .TAP_WAKEEN_MDIO 1;
      n.power.mode = .dormant ∧ n.power.wake = none ∧ n.db .TAP_WAKEEN_PIN = true ∧
        f.power.wake = some ⟨5, 0, 0, f.now⟩ ∧ 2 < 5 ∧ f.db .TAP_WAKEEN_MDIO = true ∧ f.power.mode = .dormant) ∧
    (let d := State.reset.ds .TAP_WAKEEN_PIN 1;
      let e := d.ds .TAP_WAKEEN_MDIO 1;
      e.db .TAP_WAKEEN_MDIO = true ∧ d.db .TAP_WAKEEN_PIN = true ∧ d.power.mode = .dormant ∧ d.power.chg = .none ∧
        d.power.wake.isSome = true) ∧
    (let x := inMode .dormant .dormantExit (some ⟨1, 0, 0, 0⟩);
      x.power.chg = .dormantExit ∧ x.power.wake = some ⟨1, 0, 0, 0⟩) ∧
    (let x := inMode .dormant .dormantExit (some ⟨4, 0, 0, 0⟩);
      let y := { x with clock := { x.clock with armedA := true, okA := true } };
      x.power.wake = some ⟨4, 0, 0, 0⟩ ∧ x.refChoice = none ∧ y.refChoice.isSome = true) ∧
    ((inMode .dormant .dormantEntry none).power.chg = .dormantEntry ∧
      (inMode .dormant .dormantEntry none).power.wake = none ∧
      (inMode .dormant .dormantEntry (some ⟨4, 0, 0, 0⟩)).power.wake.isSome = true ∧
      ∀ c, ((inMode .dormant .dormantEntry none).ch c).posted = []) := by decide +kernel

theorem wit_ResetsOfThePart :
    { State.reset with power := { State.reset.power with mode := .off } }.power.mode = .off ∧
    (act.power.mode ≠ .off ∧ act.power.mode ≠ .dormant ∧ act.power.mode ≠ .lockedOut ∧ act.power.held = [] ∧
      act.power.dip = none ∧ act.heart.op = none ∧ 2349 < 2350 ∧ act.heartOn = true ∧ act.power.mode ≠ .safe ∧
      (5 : Fin 6).val ≠ 0 ∧ 100 * 10 < act.resetLevel 5 ∧ act.clock.okA = false ∧
      { act with clock := { act.clock with okA := true, okB := true } }.clock.okA = true) ∧
    ((act.ds .KEYGATE_OPEN 1).arrivesDev .sideband .pwr ∧ (1#32).toNat.testBit 0 = true ∧
      (act.ds .KEYGATE_OPEN 1).db .KEYGATE_OPEN = true) ∧
    (act.power.mode = .active ∨ act.power.mode = .safe) ∧
    { act with power := { act.power with held := [.resetN] } }.power.held = [.resetN] ∧
    { act with power := { act.power with held := [.supply] } }.power.held = [.supply] ∧
    { act with power := { act.power with held := [.resetN, .supply] } }.power.held = [.resetN, .supply] := by
  delta State.arrivesDev; decide +kernel

theorem wit_SupplyWarningsAreRecordedAndReported :
    (State.reset.monitored 0 = true ∧ State.reset.power.warn.contains (0 : Fin 6).val = false ∧
      State.reset.power.dip = none ∧ State.reset.servicesUp = false ∧ 2000 * 10 < State.reset.warnLevel 0 ∧
      100 * 10 < act.warnLevel 5) ∧
    (act.monitored 5 = true ∧ act.power.warn.contains (5 : Fin 6).val = false ∧ act.servicesUp = true ∧
      act.power.dip = none) ∧
    (let a := { act with power := { act.power with warn := [5], dip := some ⟨5, 900, 0, false⟩ } };
      a.power.warn = [(5 : Fin 6).val] ∧ a.power.dip = some ⟨5, 900, 0, false⟩) ∧
    (let a := { act with power := { act.power with dip := some ⟨5, 900, 0, true⟩ } };
      a.power.dip = some ⟨5, 900, 0, true⟩ ∧ a.powered 31 = true) := by decide +kernel

theorem wit_OperatingPointChanges :
    let up := (act.ds .PWR_OP_STAT_OP 0).ds .PWR_OP_CTL_FLOOR 2
    let ch := fun o : OpChange => { act with power := { act.power with opChg := some o } }
    (act.servicesUp = true ∧ act.power.opChg = none) ∧
    (up.servicesUp = true ∧ up.power.opChg = none ∧ up.dg .PWR_OP_STAT_OP < up.opTarget) ∧
    ((act.ds .PWR_OP_STAT_OP 3).opTarget < (act.ds .PWR_OP_STAT_OP 3).dg .PWR_OP_STAT_OP) ∧
    ((ch ⟨2, true, true⟩).power.opChg = some ⟨2, true, true⟩ ∧
      ((ch ⟨2, true, true⟩).ds .PWR_OP_CTL_PGOOD_EN 1).db .PWR_OP_CTL_PGOOD_EN = true ∧
      ((ch ⟨2, false, false⟩).ds .PWR_OP_CTL_PGOOD_EN 0).db .PWR_OP_CTL_PGOOD_EN = false) := by decide +kernel

theorem wit_TemperatureMeasurements :
    let h := { act with power := { act.power with hot := true } }
    (act.servicesUp = true ∧ act.power.hot = false ∧
      (((500 : Int) :: act.power.temps).take 10).sum ≤ 500 * (((500 : Int) :: act.power.temps).take 10).length) ∧
    h.power.hot = true := by decide +kernel

theorem wit_VotesPowerAChannelUpAndDrainIt :
    let o := (withCh 31 fun x => { x with pst := .off, sub := .off }).cs 31 .CHPWR_VOTE_HOST 0
    let v := act.cs 0 .CHPWR_VOTE_HOST 15
    (o.arrives .mdio 31 .chpwr ∧ (o.ch 31).posted = [] ∧ o.power.mode = .active ∧ o.power.chg = .none ∧
      o.cg 31 .CHPWR_VOTE_HOST = 0 ∧ (8#32).toNat % 16 ≠ 0 ∧ (o.ch 31).pst = .off) ∧
    (v.arrives .sideband 0 .chpwr ∧ (v.ch 0).posted = [] ∧ v.power.mode = .active ∧ v.power.chg = .none ∧
      v.cg 0 .CHPWR_VOTE_HOST ≠ 0 ∧ (0xFFFFFFF0#32).toNat % 16 = 0 ∧ v.cg 0 .CHPWR_VOTE_CLIENTS = 0 ∧
      (v.ch 0).pst = .on) := by delta State.arrives; decide +kernel

theorem wit_DomainPowerUpAndPowerOff :
    let u := (withCh 31 fun x => { x with pst := .poweringUp }).cs 31 .CHPWR_VOTE_HOST 1
    let d := withCh 31 fun x => { x with pst := .draining }
    ((u.ch 31).pst = .poweringUp ∧ u.voted 31 = true ∧ u.retained = false ∧ d.retained = false) ∧
    ((d.ch 31).pst = .draining ∧ (d.ch 31).offDue = false ∧ (d.ch 31).posted = [] ∧ d.drained 31 = true) ∧
    (act.ch 0).seq.ld ≠ .image := by decide +kernel

theorem wit_ChannelResetIsTakenAndEnds :
    let o := withCh 5 fun x => { x with sub := .off }
    let r := (withCh 5 fun x => { x with closing := true }).cs 5 .CHPWR_VOTE_HOST 1
    (o.arrives .sideband 5 .chpwr ∧ (o.ch 5).posted = [] ∧ (o.ch 5).sub = .off) ∧
    (act.arrives .sideband 5 .chpwr ∧ (act.ch 5).posted = [] ∧ (act.ch 5).sub ≠ .off ∧ act.session = false ∧
      (act.ch 5).seq.ld ≠ .image) ∧
    ((r.ch 5).closing = true ∧ (r.ch 5).offDue = false ∧ (r.ch 5).posted = [] ∧ r.domOk 5 = true ∧ r.voted 5 = true) := by
  delta State.arrives; decide +kernel

theorem wit_BootRunsThroughItsWindow :
    let b := inMode .boot .none none
    let w := { b with heart := { b.heart with boot := 3 } }
    let e := { b with heart := { b.heart with boot := 5 } }
    (b.power.mode = .boot ∧ b.servicesUp = true ∧ b.db .ID_OTPSTAT_OTP_LOADED = false ∧ b.otp.unfinished = false) ∧
    (w.arrivesDev .sideband .heart ∧ w.heart.op = none ∧ w.power.mode = .boot ∧ w.heart.boot = 3) ∧
    (e.power.mode = .boot ∧ e.servicesUp = true ∧ e.heart.boot = 5 ∧ e.heart.op = none) := by
  delta State.arrivesDev; decide +kernel

/-- A public key whose point is the neutral one: under it `1, 0` is a good signature of every message. -/
def pub1 : List Byte := 1#8 :: List.replicate 31 0

/-- `act` with a good image of type `typ` staged, its payload the first `len` bytes of `pay`, and its verdict due. -/
def staged (typ mask len : Nat) (pay : Mem) : State :=
  let h := sha512 (pay.readBytes 0 len)
  let s := (List.range 16).foldl (fun s k => s.ds (.HEART_HDR_DATA (8 + k)) (ofLe ((h.drop (4 * k)).take 4))) act
  let s := [(0, 0x4D494A46), (1, 0x01000001 + typ * 0x10000), (2, mask), (4, len), (24, 1), (48, 1)].foldl
    (fun (s : State) x => s.ds (.HEART_HDR_DATA x.1) x.2) (s.ds .HEART_DCOUNT_VALUE len)
  withOp { s with
    otp := { s.otp with lc := 1, slots := #v[1, ofLe ((sha512 pub1).take 32), 0, 0, 0] }
    heart := { s.heart with data := pay } } .submit

theorem wit_ImagesAreStagedJudgedAndLoaded_good :
    let l := staged 1 0x80000001 4 []
    let k := staged 2 0 48 (Mem.writeBytes [] 0 ([1, 2] : List Byte))
    (l.heart.op = some .submit ∧ l.heart.img = none ∧ l.imageReason = 0 ∧ bits (l.hw 1) 23 16 ≠ 2) ∧
    (k.heart.op = some .submit ∧ k.heart.img = none ∧ k.imageReason = 0 ∧ bits (k.hw 1) 23 16 = 2) := by decide +kernel

theorem wit_ImagesAreStagedJudgedAndLoaded :
    let f := act.ds .HEART_DCOUNT_VALUE 32764
    let g := act.ds .HEART_DCOUNT_VALUE 32768
    let s := withOp act .submit
    let l := withCh 31 fun x => { x with seq := { x.seq with st := .loading, ld := .image } }
    let li := { l with heart := { l.heart with op := some .submit, img := some ⟨0, 4, 0, 0, [], 7⟩, todo := [31] } }
    let r := withCh 31 fun x => { x with seq := { x.seq with st := .loading, ld := .rom 1 } }
    (f.arrivesDev .mdio .heart ∧ f.heart.submitting = false ∧ f.dg .HEART_DCOUNT_VALUE + 4 ≤ 32768 ∧
      32768 < g.dg .HEART_DCOUNT_VALUE + 4) ∧
    (act.heart.op = none ∧ act.power.mode = .active) ∧
    (s.heart.op = some .submit ∧ s.heart.img = none ∧ s.imageReason ≠ 0) ∧
    ((li.ch 31).seq.st = .loading ∧ li.loadable 31 = true ∧ (li.ch 31).seq.ld = .image ∧
      li.heart.img = some ⟨0, 4, 0, 0, [], 7⟩) ∧
    ((r.ch 31).seq.st = .loading ∧ r.loadable 31 = true ∧ (r.ch 31).seq.ld = .rom 1) := by
  delta State.arrivesDev; decide +kernel

/-- A part whose lifecycle is `l`, with KEYGATE open. -/
def lcPart (l : Nat) : State := { act with otp := { act.otp with lc := l } }.ds .KEYGATE_OPEN 1

theorem wit_LifecycleCommandsAndTheirEnds :
    let c := { lcPart 1 with otp := { (lcPart 1).otp with slots := #v[1, 7, 0, 0, 0] } }
    ((lcPart 1).arrivesDev .sideband .heart ∧ (lcPart 1).gateOpen = true ∧ (lcPart 1).heart.op = none ∧
      (lcPart 1).otp.lc = 1 ∧ 1 ≤ bits (0x43#32).toNat 6 4 ∧ bits (0x43#32).toNat 6 4 ≤ 4 ∧
      (lcPart 1).otp.populated (bits (0x43#32).toNat 6 4) = false ∧
      (lcPart 1).otp.rev.testBit (bits (0x43#32).toNat 6 4) = false) ∧
    (c.arrivesDev .sideband .heart ∧ c.otp.lc = 1 ∧ ∃ k ∈ custSlots, c.otp.usable k = true) ∧
    ((lcPart 2).arrivesDev .sideband .heart ∧ (lcPart 2).otp.lc = 2 ∧ (lcPart 2).gateOpen = true) ∧
    ((lcPart 3).arrivesDev .sideband .heart ∧ (lcPart 3).otp.lc = 3) ∧
    (lcPart 1).rbAllowed (bits (0x10006#32).toNat 8 8) (bits (0x10006#32).toNat 22 16) = true ∧
    (withOp act (.keyProg 1 5)).heart.op = some (.keyProg 1 5) ∧
    ((withOp act .deploy).heart.op = some .deploy ∧ (withOp act .deploy).session = false) ∧
    (withOp act (.rbSet 1 64)).heart.op = some (.rbSet 1 64) ∧ (withOp act (.ret 0 0 9)).heart.op = some (.ret 0 0 9) ∧
    (withOp act .scrap).heart.op = some .scrap ∧ HeartOp.scrap.writes = true ∧ (withOp act (.attest 0 0)).heart.op = some (.attest 0 0) ∧
    (act.arrivesDev .sideband .heart ∧ act.heart.op = none ∧ act.otp.lc ≠ 0 ∧ act.otp.lc ≠ 4) := by
  delta State.arrivesDev; decide +kernel

/-- The debug controller reachable (a debug vote stands), and with a session. -/
def dbg : State := act.ds .PWR_DBGVOTE_HOST 1

theorem wit_DebugSessionsOpenAndEnd :
    let n := dbg.ds .DBG_STAT_NONCE_VALID 1
    let o := withOp dbg .openTok
    let w := [(0, 0x4B544A46), (1, 0x01010001), (10, 1), (16, 1), (32, 1)].foldl
      (fun (s : State) x => s.ds (.DBG_TOKEN_DATA x.1) x.2) (o.ds .DBG_STAT_NONCE_VALID 1)
    let g := { w with otp := { w.otp with did := 0, lc := 1, slots := #v[1, ofLe ((sha512 pub1).take 32), 0, 0, 0] } }
    let e := { dbg.openSession with dbgr := { dbg.openSession.dbgr with left := some 1 } }
    (g.heart.op = some .openTok ∧ g.tokenReason false = 0) ∧
    (dbg.arrivesDev .debug .debug ∧ dbg.heartOn = true ∧ dbg.heart.op = none ∧ dbg.session = false) ∧
    n.db .DBG_STAT_NONCE_VALID = true ∧
    (o.heart.op = some .openTok ∧ o.tokenReason false ≠ 0 ∧ o.pd37 = true) ∧
    (e.arrivesDev .debug .debug ∧ e.session = true ∧ e.dbgr.left.isSome = true ∧ e.power.mode ≠ .standby) := by
  delta State.arrivesDev; decide +kernel

theorem wit_KeygateOpensAndCloses :
    let f := act.ds .KEYGATE_FAILS 2
    let o := act.ds .KEYGATE_OPEN 1
    (act.arrivesDev .sideband .tap ∧ (0#32 : Word) ≠ 0xA5C30F96#32 ∧ act.dg .KEYGATE_FAILS + 1 ≠ 3) ∧
    (f.arrivesDev .sideband .tap ∧ f.dg .KEYGATE_FAILS + 1 = 3) ∧
    (o.arrivesDev .sideband .canopy ∧ o.gateOpen = true ∧ (7 : Fin 8) ≠ 0) ∧
    (act.arrivesDev .sideband .canopy ∧ act.gateOpen = false) := by
  delta State.arrivesDev; decide +kernel

theorem wit_ShadowsApplyTogether :
    let p := act.updCh 31 fun x => { x with shadow := [(.AFE_TXAMP_AMP, 1)] }
    act.shBoundary 31 = true ∧ ((p.ch 31).shadow.map Prod.fst).Nodup ∧ p.shBoundary 31 = true ∧
    (withCh 31 fun x => { x with sub := .sleep }).shBoundary 31 = false ∧
    (act.arrivesDev .sideband .integ ∧ (∀ d : Ch, (0x80000000#32).toNat.testBit d.val = decide (d = 31)) ∧
      act.powered 31 = true) ∧ Src.mdio ≠ .prog := by delta State.arrivesDev; decide +kernel

theorem wit_SweepFoldsTheConfiguration :
    (act.servicesUp = true ∧ act.svcEn 1 = true) ∧
    ((act.ds .CLK_SVCEN_INTEG 0).servicesUp = true ∧ (act.ds .CLK_SVCEN_INTEG 0).svcEn 1 = false) ∧
    State.reset.servicesUp = false ∧ (Src.sideband ≠ .prog ∧ act.busUp false = true ∧ act.svcEn 1 = true) := by
  decide +kernel

theorem wit_SequencerWordsReadBack :
    Mn.mov.code = (Mn.mov.code.1, some 12) ∧ (Mn.addi.code.2 = none ∧ (-131072 : Int) ≤ -131072 ∧ (-131072 : Int) < 131072) ∧
    (Mn.pwr.code.2 = none ∧ 63 < 64 ∧ 65535 < 65536) ∧ (Mn.wait.code.2 = none ∧ 255 < 256 ∧ 262143 < 262144) := by decide

theorem wit_SequencerRegisterArithmetic :
    ∀ p ∈ [(Mn.add, aw 0 15 15 15 0), (.sub, aw 0 0 1 2 1), (.and, aw 0 3 1 2 2), (.or, aw 0 3 1 2 3), (.xor, aw 0 3 1 2 4),
        (.shl, aw 0 3 1 2 5), (.shr, aw 0 3 1 2 6), (.sar, aw 0 3 1 2 7), (.min, aw 0 3 1 2 8), (.max, aw 0 3 1 2 9),
        (.abs, aw 0 3 1 0 10), (.cmp, aw 0 0 1 2 11), (.mov, aw 0 15 0 0 12)],
      (prog 0 p.2).issues 0 p.1 p.2 ∧ (prog 31 p.2).issues 31 p.1 p.2 := by delta State.issues; decide +kernel

theorem wit_SequencerImmediateArithmetic :
    (prog 0 (iw 4 15 15 0x20000)).issues 0 .addi (iw 4 15 15 0x20000) ∧
    (prog 0 (iw 5 0 15 0x1FFFF)).issues 0 .andi (iw 5 0 15 0x1FFFF) ∧
    (prog 0 (iw 6 1 1 0)).issues 0 .ori (iw 6 1 1 0) ∧ (prog 0 (iw 7 0 1 0x3FFFF)).issues 0 .cmpi (iw 7 0 1 0x3FFFF) ∧
    (prog 0 (iw 8 1 0 0x3FFFF)).issues 0 .movi (iw 8 1 0 0x3FFFF) ∧
    (prog 31 (iw 9 1 0 0xFFFF)).issues 31 .movh (iw 9 1 0 0xFFFF) := by delta State.issues; decide +kernel

theorem wit_SequencerMultiplyAccumulate :
    ((fD (aw 1 3 1 2 0)).val = (3 : Fin 4).val ∧ (prog 0 (aw 1 3 1 2 0)).issues 0 .mac (aw 1 3 1 2 0) ∧
      (prog 0 (aw 1 3 1 2 1)).issues 0 .msu (aw 1 3 1 2 1) ∧ (prog 0 (aw 1 3 0 0 2)).issues 0 .clra (aw 1 3 0 0 2)) ∧
    ((fA (aw 1 15 0 15 3)).val = (0 : Fin 4).val ∧ (prog 0 (aw 1 15 0 15 3)).issues 0 .rda (aw 1 15 0 15 3)) ∧
    [aw 1 4 0 0 0, aw 1 15 0 0 1, aw 1 4 0 0 2, aw 1 0 4 0 3, aw 1 0 1 0 2, aw 1 0 0 1 2, aw 1 0 0 0 4, aw 1 0 0 0 63].all
      (fun w => (prog 0 w).seqRuns 0 && (prog 0 w).insn 0 = some w) = true ∧
    (mnOf (aw 1 4 0 0 0) = some .mac ∧ 3 < (fD (aw 1 4 0 0 0)).val) ∧
    (mnOf (aw 1 15 0 0 1) = some .msu ∧ 3 < (fD (aw 1 15 0 0 1)).val) ∧
    (mnOf (aw 1 4 0 0 2) = some .clra ∧ 3 < (fD (aw 1 4 0 0 2)).val) ∧
    (mnOf (aw 1 0 4 0 3) = some .rda ∧ 3 < (fA (aw 1 0 4 0 3)).val) ∧
    (mnOf (aw 1 0 0 1 2) = some .clra ∧ (fA (aw 1 0 0 1 2) ≠ 0 ∨ fB (aw 1 0 0 1 2) ≠ 0)) ∧
    (fOp (aw 1 0 0 0 4) = 1 ∧ 4 ≤ fSub (aw 1 0 0 0 4)) := by delta State.issues; decide +kernel

theorem wit_BranchConditions :
    ∀ p ∈ [(Mn.br, iw 0x10 15 0 0), (Mn.call, iw 0x11 15 0 0), (Mn.ret, iw 0x12 15 0 0)],
      (prog 0 p.2).seqRuns 0 = true ∧ (prog 0 p.2).insn 0 = some p.2 ∧ mnOf p.2 = some p.1 ∧
        (p.1 = .br ∨ p.1 = .call ∨ p.1 = .ret) ∧ fCond p.2 = 15 := by decide +kernel

theorem wit_BranchesCallsAndReturns :
    let zf := fun q : SeqSt => { q with z := true }
    let full := fun q : SeqSt => { q with stack := [1, 2, 3, 4, 5, 6, 7, 8] }
    let seven := fun q : SeqSt => { q with stack := [1, 2, 3, 4, 5, 6, 7] }
    (condHolds (fCond (iw 0x10 1 0 5)) true false false false = false ∧ ((prog 0 (iw 0x10 1 0 5) zf).ch 0).seq.z = true ∧
      (prog 0 (iw 0x10 1 0 5) zf).issues 0 .br (iw 0x10 1 0 5) ∧ (prog 0 (iw 0x11 1 0 5) zf).issues 0 .call (iw 0x11 1 0 5) ∧
      (prog 0 (iw 0x12 1 0 0) zf).issues 0 .ret (iw 0x12 1 0 0)) ∧
    condHolds (fCond (iw 0x10 14 3 0x20000)) false false false false = true ∧
    (prog 0 (iw 0x10 14 3 0x20000)).issues 0 .br (iw 0x10 14 3 0x20000) ∧
    ((prog 0 (iw 0x11 14 0 1) seven).issues 0 .call (iw 0x11 14 0 1) ∧
      ((prog 0 (iw 0x11 14 0 1) seven).ch 0).seq.stack.length < 8) ∧
    ((prog 0 (iw 0x11 14 0 1) full).issues 0 .call (iw 0x11 14 0 1) ∧
      8 ≤ ((prog 0 (iw 0x11 14 0 1) full).ch 0).seq.stack.length) ∧
    ((prog 0 (iw 0x12 14 0 0) seven).issues 0 .ret (iw 0x12 14 0 0) ∧
      ((prog 0 (iw 0x12 14 0 0) seven).ch 0).seq.stack = [1, 2, 3, 4, 5, 6, 7]) ∧
    ((prog 0 (iw 0x12 14 0 0)).issues 0 .ret (iw 0x12 14 0 0) ∧ ((prog 0 (iw 0x12 14 0 0)).ch 0).seq.stack = []) ∧
    (fOp (iw 0x10 0 0 0) = 0x10 ∧ fOp (iw 0x11 0 0 0) = 0x11 ∧ fOp (iw 0x12 0 0 0) = 0x12) ∧
    ((prog 0 (iw 0x12 14 1 0)).seqRuns 0 = true ∧ (prog 0 (iw 0x12 14 1 0)).insn 0 = some (iw 0x12 14 1 0) ∧
      fOp (iw 0x12 14 1 0) = 0x12 ∧ fA (iw 0x12 14 1 0) ≠ 0 ∧ (iw 0x12 14 0 1).toNat % 262144 ≠ 0) := by
  delta State.issues; decide +kernel

theorem wit_DataMemoryAndLoops :
    let ea := fun (s : State) (w : Word) => (s.sReg 0 (fA w) + BitVec.ofInt 32 (fImm w)).toNat
    let ld := prog 0 (iw 0xA 1 0 (BitVec.ofNat 18 (dramBytes 0 - 4)))
    let no := prog 0 (iw 0xA 1 0 (BitVec.ofNat 18 (dramBytes 0)))
    let two := fun q : SeqSt => { q with s := q.s.set 1 7, loops := [⟨1, 0, 0⟩, ⟨1, 0, 0⟩] }
    let one := fun q : SeqSt => { q with s := q.s.set 1 7, loops := [⟨1, 0, 0⟩] }
    (ea ld (iw 0xA 1 0 (BitVec.ofNat 18 (dramBytes 0 - 4))) % 4 = 0 ∧
      ea ld (iw 0xA 1 0 (BitVec.ofNat 18 (dramBytes 0 - 4))) < dramBytes 0 ∧
      ld.issues 0 .ld (iw 0xA 1 0 (BitVec.ofNat 18 (dramBytes 0 - 4))) ∧ Memory.wf (ld.ch 0).seq.dram = true) ∧
    (ea act (iw 0xB 1 0 4) % 4 = 0 ∧ ea act (iw 0xB 1 0 4) < dramBytes 0 ∧
      (prog 0 (iw 0xB 1 0 4)).issues 0 .st (iw 0xB 1 0 4)) ∧
    (dramBytes 0 ≤ ea no (iw 0xA 1 0 (BitVec.ofNat 18 (dramBytes 0))) ∧
      no.issues 0 .ld (iw 0xA 1 0 (BitVec.ofNat 18 (dramBytes 0)))) ∧
    (ea act (iw 0xB 1 0 6) % 4 ≠ 0 ∧ (prog 0 (iw 0xB 1 0 6)).issues 0 .st (iw 0xB 1 0 6)) ∧
    ((prog 0 (iw 0xC 0 1 1) one).issues 0 .loop (iw 0xC 0 1 1) ∧ ((prog 0 (iw 0xC 0 1 1) one).sReg 0 1).toNat ≠ 0 ∧
      ((prog 0 (iw 0xC 0 1 1) one).ch 0).seq.loops.length < 2) ∧
    ((prog 0 (iw 0xC 0 1 1) two).issues 0 .loop (iw 0xC 0 1 1) ∧
      2 ≤ ((prog 0 (iw 0xC 0 1 1) two).ch 0).seq.loops.length) ∧
    ((prog 0 (iw 0xC 0 1 1)).issues 0 .loop (iw 0xC 0 1 1) ∧ ((prog 0 (iw 0xC 0 1 1)).sReg 0 1).toNat = 0) := by
  delta State.issues; decide +kernel

/-- `prog`, with every capability bit set. -/
def capProg (c : Ch) (w : Word) (f : SeqSt → SeqSt := id) : State :=
  ((prog c w f).cs c .SEQ_CAP0_CAP 0xFFFFFFFF).cs c .SEQ_CAP1_CAP 0x1FFFFF

theorem wit_GatedBlockAccessesOfAProgram :
    let g := fun w => (capProg 0 w).ds (.CLK_CHEN_EN 0) (0x3FF - 2)
    (portBlk 0 (fPort (pw 0x18 1 2 16383)) = some .afe ∧ (g (pw 0x18 1 2 16383)).blkEn 0 .afe = false ∧
      (g (pw 0x18 1 2 16383)).issues 0 .prd (pw 0x18 1 2 16383) ∧ fIndex (pw 0x18 1 2 16383) < 16384) ∧
    (portBlk 0 (fPort (pw 0x19 1 2 0)) = some .afe ∧ (g (pw 0x19 1 2 0)).blkEn 0 .afe = false ∧
      (g (pw 0x19 1 2 0)).issues 0 .pwr (pw 0x19 1 2 0) ∧
      (g (pw 0x19 1 2 0)).pwrCause 0 (fPort (pw 0x19 1 2 0)) (fIndex (pw 0x19 1 2 0)) = 0 ∧
      (g (pw 0x19 1 2 0)).dbgr.tracing = false) := by delta State.issues; decide +kernel

theorem wit_PortAccessesOfAProgram :
    ((prog 0 (pw 0x18 1 21 0)).issues 0 .prd (pw 0x18 1 21 0) ∧ 21 ≤ fPort (pw 0x18 1 21 0)) ∧
    ((prog 0 (pw 0x18 1 20 2)).issues 0 .prd (pw 0x18 1 20 2) ∧ fPort (pw 0x18 1 20 2) = 20 ∧ fD (pw 0x18 1 20 2) ≠ 0) ∧
    ((prog 0 (pw 0x18 1 18 0)).issues 0 .prd (pw 0x18 1 18 0) ∧ fPort (pw 0x18 1 18 0) = 18) ∧
    ((prog 0 (pw 0x19 1 40 0)).issues 0 .pwr (pw 0x19 1 40 0) ∧
      (prog 0 (pw 0x19 1 40 0)).pwrCause 0 (fPort (pw 0x19 1 40 0)) (fIndex (pw 0x19 1 40 0)) ≠ 0) ∧
    ((capProg 0 (pw 0x19 1 2 0)).issues 0 .pwr (pw 0x19 1 2 0) ∧
      (capProg 0 (pw 0x19 1 2 0)).pwrCause 0 (fPort (pw 0x19 1 2 0)) (fIndex (pw 0x19 1 2 0)) = 0 ∧
      portBlk 0 (fPort (pw 0x19 1 2 0)) = some .afe ∧ (capProg 0 (pw 0x19 1 2 0)).dbgr.tracing = false) ∧
    (fPort (pw 0x19 1 20 0) ≠ 0 ∧ fPort (pw 0x19 1 20 0) < 21 ∧ (prog 0 (pw 0x19 1 20 0)).cap 0 20 = false) ∧
    ((fPort (pw 0x19 1 16 0) = 14 ∨ 16 ≤ fPort (pw 0x19 1 16 0)) ∧ (capProg 0 (pw 0x19 1 16 0)).cap 0 16 = true ∧
      (capProg 0 (pw 0x19 1 14 0)).cap 0 14 = true) := by delta State.issues; decide +kernel

theorem wit_WaitsTimersAndFreezes :
    let p := fun w => ((prog 0 w).cs 0 .SEQ_TMRSTAT_EXP 0x80).cs 0 (.SEQ_EVEN_EN 0) 0x80
    let h := fun w => (prog 0 w).cs 0 .SEQ_TMRSTAT_RUN 0x80
    let w8 := fun m : Nat => prog 0 0 fun q => { q with st := .waiting, wait := some (m, 1) }
    ((prog 0 (ww 0x1C 0 0)).issues 0 .wait (ww 0x1C 0 0) ∧ fMask (ww 0x1C 0 0) = 0 ∧ fTime (ww 0x1C 0 0) = 0) ∧
    ((p (ww 0x1C 255 0)).issues 0 .wait (ww 0x1C 255 0) ∧ (p (ww 0x1C 255 0)).evPend 0 &&& fMask (ww 0x1C 255 0) ≠ 0) ∧
    ((prog 0 (ww 0x1C 0 1)).issues 0 .wait (ww 0x1C 0 1) ∧ (prog 0 (ww 0x1C 0 1)).evPend 0 &&& fMask (ww 0x1C 0 1) = 0 ∧
      ¬(fMask (ww 0x1C 0 1) = 0 ∧ fTime (ww 0x1C 0 1) = 0)) ∧
    (((w8 255).ch 0).seq.st = .waiting ∧ ((w8 255).ch 0).seq.wait = some (255, 1) ∧ (w8 255).clocked 0 .seq = true ∧
      (w8 255).evPend 0 &&& 255 = 0 ∧ (((w8 255).cs 0 .SEQ_TMRSTAT_EXP 0x80).cs 0 (.SEQ_EVEN_EN 0) 0x80).evPend 0 &&& 255 ≠ 0) ∧
    ((prog 0 (aw 2 8 1 0 0)).issues 0 .tset (aw 2 8 1 0 0) ∧ 8 ≤ (fD (aw 2 8 1 0 0)).val) ∧
    ((prog 0 (aw 2 7 1 0 0)).issues 0 .tset (aw 2 7 1 0 0) ∧ (fD (aw 2 7 1 0 0)).val = (7 : Fin 8).val) ∧
    ((h 0).clocked 0 .seq = true ∧ ((h 0).cg 0 .SEQ_TMRSTAT_RUN).testBit 7 = true ∧
      (h 0).cg 0 (.SEQ_TMR_COUNT 7) ≤ 1 ∧
      ((h 0).cg 0 .SEQ_TMRSTAT_PERIODIC).testBit 7 = false ∧
      (((h 0).cs 0 .SEQ_TMRSTAT_PERIODIC 0x80).cg 0 .SEQ_TMRSTAT_PERIODIC).testBit 7 = true) ∧
    (prog 0 (ww 0x1D 255 0)).issues 0 .frz (ww 0x1D 255 0) ∧ (prog 0 (ww 0x1E 255 0)).issues 0 .thw (ww 0x1E 255 0) := by
  delta State.issues; decide +kernel

theorem wit_SystemGroupAndVotes :
    let four := fun q : SeqSt => { q with post := [(0, 0), (1, 0), (2, 0), (3, 0)] }
    ((capProg 0 (aw 3 0 1 0 0)).issues 0 .raise (aw 3 0 1 0 0) ∧ (capProg 0 (aw 3 0 1 0 0)).cap 0 16 = true ∧
      (prog 0 (aw 3 0 1 0 0)).issues 0 .raise (aw 3 0 1 0 0) ∧ (prog 0 (aw 3 0 1 0 0)).cap 0 16 = false) ∧
    ((prog 0 (aw 3 0 1 2 1)).issues 0 .post (aw 3 0 1 2 1) ∧ (prog 0 (aw 3 0 1 2 1)).cap 0 18 = false ∧
      (capProg 0 (aw 3 0 1 2 1)).issues 0 .post (aw 3 0 1 2 1) ∧ (capProg 0 (aw 3 0 1 2 1)).cap 0 18 = true ∧
      ((capProg 0 (aw 3 0 1 2 1)).ch 0).seq.post.length < 4 ∧
      (capProg 0 (aw 3 0 1 2 1) four).issues 0 .post (aw 3 0 1 2 1) ∧
      4 ≤ ((capProg 0 (aw 3 0 1 2 1) four).ch 0).seq.post.length) ∧
    (prog 0 (aw 3 0 0 0 2)).issues 0 .commit (aw 3 0 0 0 2) ∧ (prog 0 (aw 3 0 0 0 3)).issues 0 .halt (aw 3 0 0 0 3) ∧
    ((prog 0 (iw 0xD 0 0 1)).issues 0 .vote (iw 0xD 0 0 1) ∧ (prog 0 (iw 0xE 0 0 2)).issues 0 .unvote (iw 0xE 0 0 2) ∧
      (prog 0 (iw 0xD 0 0 1)).cap 0 17 = false ∧ (iw 0xD 0 0 1).toNat % 262144 = 1 ∧ (iw 0xE 0 0 2).toNat % 262144 = 2 ∧
      (capProg 0 (iw 0xD 0 0 3)).issues 0 .vote (iw 0xD 0 0 3) ∧ (capProg 0 (iw 0xD 0 0 3)).cap 0 17 = true ∧
      2 < (iw 0xD 0 0 3).toNat % 262144) := by delta State.issues; decide +kernel

theorem wit_SystemGroupAndVotes_link :
    (capProg 0 (iw 0xD 0 0 0)).issues 0 .vote (iw 0xD 0 0 0) ∧ (capProg 31 (iw 0xE 0 0 0)).issues 31 .unvote (iw 0xE 0 0 0) ∧
    (capProg 31 (iw 0xE 0 0 0)).cap 31 17 = true ∧ (iw 0xE 0 0 0).toNat % 262144 = 0 := by
  delta State.issues; decide +kernel

theorem wit_TrapsOfTheSequencer :
    let v := (act.cs 0 .SEQ_TRAPVEC_EN 1)
    [aw 0 0 0 0 13, iw 0xF 0 0 0, 0xFFFFFFFF#32].all
      (fun w => (prog 0 w).seqRuns 0 && decide ((prog 0 w).insn 0 = some w ∧ mnOf w = none)) = true ∧
    ((prog 0 (aw 0 1 1 1 0 ||| 1#32)).insn 0 = some (aw 0 1 1 1 0 ||| 1#32) ∧ mnOf (aw 0 1 1 1 0 ||| 1#32) = some .add ∧
      legal .add (aw 0 1 1 1 0 ||| 1#32) = false) ∧
    ((prog 0 0 fun q => { q with pc := 1 }).seqRuns 0 = true ∧ (prog 0 0 fun q => { q with pc := 1 }).insn 0 = none) ∧
    (let d := prog 0 0 fun q => { q with wdog := 1023 };
      (d.ch 0).seq.st = .running ∧ d.clocked 0 .seq = true ∧ d.insn 0 = some 0 ∧
        max 1024 ((d.cs 0 .SEQ_WDOG_PERIOD 5).cg 0 .SEQ_WDOG_PERIOD) ≤ ((d.cs 0 .SEQ_WDOG_PERIOD 5).ch 0).seq.wdog + 1) ∧
    (15 < 16 ∧ act.classOfSrc (.ch 0 5) ≤ 1) ∧ (v.cb 0 .SEQ_TRAPVEC_EN = true ∧ v.cb 0 .SEQ_STAT_INTRAP = false ∧
      v.classOfSrc (.ch 0 5) ≤ 1) ∧ act.cb 0 .SEQ_TRAPVEC_EN = false := by decide +kernel

/-- `act` with the sequencer of channel 3 in state `q`. -/
def seqIn (q : QState) : State := withCh 3 fun x => { x with seq := { x.seq with st := q } }

/-- A state in which a session grants every right on every channel. -/
def righted (s : State) : State :=
  (((s.ds .PWR_DBGVOTE_HOST 1).ds .DBG_STAT_OPEN 1).ds .DBG_STAT_RIGHTS 7).ds .DBG_CHMASK_CH 0xFFFFFFFF

theorem wit_HostControlOfTheSequencer :
    (∀ q ∈ [QState.stopped, .running, .waiting, .halted, .trapped],
      (seqIn q).arrives .sideband 3 .seq ∧ ((seqIn q).ch 3).posted = [] ∧ ((seqIn q).ch 3).seq.st = q) ∧
    ((prog 3 0).arrives .sideband 3 .seq ∧ (prog 3 0).seqRuns 3 = true) ∧
    ((seqIn .halted).cb 3 .SEQ_STAT_QHALT = false ∧ ((seqIn .halted).ch 3).seq.haltedWait = false ∧
      ((seqIn .halted).cs 3 .SEQ_STAT_QHALT 1).cb 3 .SEQ_STAT_QHALT = true) ∧
    ((righted (seqIn .halted)).arrives .sideband 3 .seq ∧ (righted (seqIn .halted)).right 0 3 = true ∧
      (seqIn .halted).right 0 3 = false) ∧ (1#32 : Word).toNat.testBit 0 = true ∧
    ((BitVec.ofNat 16 (pramBytes 3 - 4)).toNat % 4 = 0 ∧ (BitVec.ofNat 16 (pramBytes 3 - 4)).toNat < pramBytes 3) ∧
    ((seqIn .stopped).loadable 3 = true ∧ (seqIn .stopped).chEn 3 .seq = true ∧ (seqIn .stopped).power.mode = .active ∧
      (seqIn .stopped).heart.img = none ∧ (seqIn .stopped).cg 3 .SEQ_IMG_SRC = 0 ∧
      ((seqIn .stopped).cs 3 .SEQ_IMG_SRC 2).cg 3 .SEQ_IMG_SRC ≠ 0) := by
  delta State.arrives; decide +kernel

theorem wit_AccessesByAddress :
    let full := withCh 31 fun x => { x with posted := List.replicate 4 ⟨.mdio, 0, 0, none⟩ }
    let shut := withCh 31 fun x => { x with closing := true }
    let one := withCh 31 fun x => { x with posted := [⟨.mdio, 0, 0, none⟩] }
    (Src.mdio ≠ .prog ∧ act.cyc = CycSt.none ∧ 3 ≠ 4 ∧ State.reset.busUp true = false ∧ (0xFFFFFFFF#32).toNat % 4 ≠ 0 ∧
      (act.ds .CLK_SVCEN_CAL 0).tgtOk (tgtAt (devAddr .cal 0)) = false) ∧
    (act.busUp true = true ∧ (0x10010#32).toNat % 4 = 0 ∧ act.tgtOk (tgtAt (0x10010#32).toNat) = true ∧
      (tgtAt (0x10010#32).toNat).win = none) ∧
    ((tgtAt (winAddr 31 0x30008)).win = some 31 ∧ (winAddr 31 0x30008) % 4 = 0 ∧ act.tgtOk (tgtAt (winAddr 31 0x30008)) = true ∧ (act.ch 31).closing = false ∧
      (act.ch 31).posted.length < 4 ∧ 4 ≤ (full.ch 31).posted.length ∧ full.tgtOk (tgtAt (winAddr 31 0x30008)) = true ∧
      (shut.ch 31).closing = true ∧ shut.tgtOk (tgtAt (winAddr 31 0x30008)) = true) ∧
    (one.servicesUp = true ∧ (one.ch 31).posted = ⟨.mdio, 0, 0, none⟩ :: [] ∧ one.domOk 31 = true ∧
      (one.ch 31).offDue = false ∧
      ((({ one with cyc := { CycSt.none with gate := some (one.db .KEYGATE_OPEN) } }.updCh 31 fun x => { x with posted := [] }).landAt
        (winTgt 31 0) 0 (winAddr 31 0)).ch 31).offDue = false) ∧
    (0xFFFFFFFF#32).toNat ≠ devAddr .integ 0x1C ∧
    (aliasAddr .set (winAddr 31 0x30008) % 4 = 0 ∧ act.tgtOk (tgtAt (aliasAddr .set (winAddr 31 0x30008))) = true ∧
      (tgtAt (aliasAddr .set (winAddr 31 0x30008))).win = some 31 ∧ (tgtAt (aliasAddr .tgl 0x10010)).win = none) := by decide +kernel

theorem wit_AliasesCountersForcesAndRecords :
    (act.arrivesDev .sideband .canopy ∧ tgtAt (devAddr .canopy 0x20) = .dev .canopy .plain 0x20 ∧
      (devAddr .canopy 0x20) % 4 = 0 ∧ WrOp.tgl ≠ .plain) ∧
    (act.servicesUp = true ∧ tgtAt (devAddr .integ 0x2C) = .dev .integ .plain 0x2C ∧ act.svcEn 1 = true ∧
      act.dg .INTEG_LOCKVCNT_COUNT < m32) ∧
    (tgtAt (winAddr 31 0x30008) = .chan 31 .pcs .plain 8 ∧ act.chanOk 31 .pcs = true ∧ (act.ch 31).posted = [] ∧
      act.cg 31 .PCS_FEC_CW_COUNT < m32) ∧
    ((act.ds .KEYGATE_OPEN 1).arrives .sideband 31 .fault ∧ (act.ch 31).posted = [] ∧
      tgtAt (winAddr 31 0xE002C) = .chan 31 .fault .plain 0x2C ∧ act.gateOpen = false ∧
      (act.ds .KEYGATE_OPEN 1).gateOpen = true ∧ 1 ≠ 4 ∧
      ((DFld.at .canopy 0x20).find? fun f => f.info.lsb = 0) = some .FC_INTEN_CLS ∧ DFld.FC_INTEN_CLS.info.acc = .rw ∧
      (tgtAt (devAddr .clk 8) = .dev .clk .plain 8 ∧ ((DFld.at .clk 8).find? fun f => f.info.lsb = 0).map (·.info.acc) = some .w1c) ∧
      act.arrives .sideband 31 .fault) := by delta State.arrives State.arrivesDev; decide +kernel

theorem wit_LoopbacksTestModesAndSaturation :
    let m := withCh 0 fun x => { x with sub := .maint }
    let a := (m.cs 0 .AFE_CTL_ADC_EN 1).cs 0 .AFE_SATCFG_SAT_FAULT 2
    let b := a.updLine 0 fun l => { l with satN := 4, satWin := some (0, 1, false) }
    (act.arrives .sideband 0 .afe ∧ (act.ch 0).posted = [] ∧ (act.ch 0).sub ≠ .maint ∧ m.arrives .sideband 0 .afe ∧
      (m.ch 0).sub = .maint ∧ m.cb 0 .PCS_CTL_PCS_LOOP = false ∧ m.cg 0 .AFE_CTL_LOOP = 0) ∧
    (m.arrives .mdio 0 .pcs ∧ testModeOf (m.cg 0 .PCS_CTL_TYPE) ((9#32).toNat % 16) = false ∧
      testModeOf ((m.cs 0 .PCS_CTL_TYPE 6).cg 0 .PCS_CTL_TYPE) ((1#32).toNat % 16) = true ∧ (1#32).toNat % 16 ≠ 0) ∧
    (a.clocked 0 .afe = true ∧ a.cb 0 .AFE_CTL_ADC_EN = true ∧ 1 < (b.ch 0).line.satN) ∧
    (b.clocked 0 .afe = true ∧ b.cb 0 .AFE_CTL_ADC_EN = true ∧ (b.ch 0).line.satN ≠ 0 ∧ (b.ch 0).line.satN ≤ 1024 ∧
      (b.ch 0).line.satWin = some (0, 1, false) ∧ b.now < 0 + 25000 ∧ b.cg 0 .AFE_SATCFG_SAT_FAULT ≠ 0 ∧
      b.cg 0 .AFE_SATCFG_SAT_FAULT ≤ 1 + 1 ∧ (b.cs 0 .AFE_SATCFG_SAT_FAULT 0).cg 0 .AFE_SATCFG_SAT_FAULT = 0) := by
  delta State.arrives; decide +kernel

theorem wit_CodewordsAlignmentAndOam :
    let f := (lnk 0 .up .up 7).updLine 0 fun l => { l with cw := 3, burstWin := 4, burstN := 2, unc := 1 }
    let g := f.updLine 0 fun l => { l with unc := 0 }
    let e := f.updLine 0 fun l => { l with cw := 4 }
    let h := (lnk 0 .up .up 7).updLine 0 fun l => { l with hit := true }
    let a := (lnk 0 .up .up 7).cs 0 .PCS_STAT_ALIGNED 1
    let a2 := a.updLine 0 fun l => { l with miss := 2 }
    let o : List Byte := List.replicate 124 0 ++ leBytes (crc32c (List.replicate 124 0))
    (f.fecRuns 0 = true ∧ (f.ch 0).link.shift = none ∧ (f.ch 0).line.cw ≠ 0 ∧ (f.ch 0).line.cw < (f.ch 0).line.burstWin ∧
      (f.ch 0).line.burstN ≠ 0 ∧ (f.ch 0).line.unc < (f.ch 0).line.burstN ∧
      (f.ch 0).line.burstN ≤ (f.ch 0).line.unc + 1 ∧ (f.ch 0).line.burstDone = false) ∧
    (g.fecRuns 0 = true ∧ (g.ch 0).line.unc + 1 < (g.ch 0).line.burstN ∧ fecLimit (f.rxType 0) < 22) ∧
    (e.clocked 0 .pcs = true ∧ (e.ch 0).line.burstWin ≤ (e.ch 0).line.cw) ∧
    (h.xtRx 0 = true ∧ (h.ch 0).link.shift = none ∧ h.cb 0 .LPI_STAT_RX_LPI = false ∧ h.cb 0 .PCS_STAT_ALIGNED = false ∧
      20 ≤ 20 ∧ (h.ch 0).line.hit = true) ∧
    (a.xtRx 0 = true ∧ a.cb 0 .PCS_STAT_ALIGNED = true ∧ 20 < 21 ∧ (a.ch 0).line.miss < 2 ∧ 2 ≤ (a2.ch 0).line.miss) ∧
    (oamOk o = true ∧ oamOk (List.replicate 128 0) = false ∧ ((a.updLine 0 fun l => { l with sinceUnc := 0 }).ch 0).line.sinceUnc = 0 ∧
      ((a.updLine 0 fun l => { l with sinceUnc := 1 }).ch 0).line.sinceUnc ≠ 0 ∧
      (a.updLine 0 fun l => { l with sinceUnc := 1 }).cb 0 .PCS_STAT_ALIGNED = true) ∧
    (isSeg 23 = false ∧ act.clocked 23 .pcs = true ∧ (act.ch 23).link.shift = none ∧ act.rxType 23 < 2 ∧
      2 ≤ (lnk 0 .up .up 6).rxType 0 ∧ (lnk 0 .up .up 6).rxType 0 ≤ 6) := by decide +kernel

theorem wit_CommandsOfTheReceiveDsp_windows :
    let w := (act.cs 0 .DSP_TAPSEL_AREA 4).updRx 0 fun r => { r with eff := 0x7F }
    w.arrives .sideband 0 .dsp ∧ w.cg 0 .DSP_TAPSEL_AREA = 4 ∧ w.cb 0 .DSP_TAPSEL_BANK = false ∧ (w.ch 0).rx.placeTap = [] ∧
      (act.ch 0).rx.eff.testBit 1 = false ∧ w.cg 0 .DSP_TAPSEL_INDEX < winCount 0 ∧ (w.ch 0).rx.eff.testBit 1 = true ∧
      Bank.valid 0 ((w.ch 0).dsp.banks[(w.ch 0).dsp.active.val].place 0 true 300) = true ∧
      Bank.valid 0 ((w.ch 0).dsp.banks[(w.ch 0).dsp.active.val].place 0 true 0) = false := by
  delta State.arrives; decide +kernel

theorem wit_CommandsOfTheReceiveDsp :
    let u := lnk 0 .up .up 2
    let k := act.updRx 0 fun r => { r with copy := some ([], 5) }
    let t := ((act.cs 0 .DSP_BANK_STBY_TYPE 7).cs 0 .DSP_TAPSEL_AREA 3).cs 0 .DSP_TAPSEL_INDEX 0
    let z := t.updRx 0 fun r => { r with eff := 0x7F }
    let b := act.updRx 0 fun r => { r with rebasing := true }
    (isSeg 0 = false ∧ act.arrives .sideband 0 .dsp ∧ (act.ch 0).posted = [] ∧ (act.ch 0).rx.copy = none ∧
      (act.ch 0).sub ≠ .up) ∧
    (k.arrives .sideband 0 .dsp ∧ (k.ch 0).rx.copy.isSome = true ∧ u.arrives .sideband 0 .dsp ∧ (u.ch 0).sub = .up) ∧
    (isTrunk 0 = true ∧ 2 ≤ t.cg 0 .DSP_BANK_STBY_TYPE ∧ t.cg 0 .DSP_BANK_STBY_TYPE ≤ 7 ∧
      t.cg 0 .DSP_BANK_STBY_TYPE ≠ (t.ch 0).dsp.actType ∧ isTrunk 23 = false) ∧
    ((7 : Fin 8).val < winCount 0 ∧ (act.cs 0 .DSP_WINCTL_AUTO 1).cb 0 .DSP_WINCTL_AUTO = true ∧
      (act.cs 0 .DSP_WINCTL_AUTO 0).cb 0 .DSP_WINCTL_AUTO = false) ∧
    (t.arrives .mdio 0 .dsp ∧ t.cg 0 .DSP_TAPSEL_AREA < 4 ∧
      hasTap 0 (t.cg 0 .DSP_TAPSEL_AREA) (t.cg 0 .DSP_TAPSEL_INDEX) = true ∧ t.cb 0 .DSP_TAPSEL_BANK = false ∧
      (t.ch 0).rx.eff.testBit (engineOf 3 0).2 = false ∧ (z.ch 0).rx.eff.testBit (engineOf 3 0).2 = true ∧
      (t.cs 0 .DSP_TAPSEL_BANK 1).cb 0 .DSP_TAPSEL_BANK = true) ∧
    (k.clocked 0 .dsp = true ∧ (k.ch 0).rx.copy = some ([], 5)) ∧ ((b.ch 0).rx.rebasing = true ∧ (b.ch 0).link.shift = none) ∧
    ((u.cs 0 .DSP_MSE_SNR 4095).cg 0 .DSP_DIVCFG_SNAP_MIN ≤ (u.cs 0 .DSP_MSE_SNR 4095).cg 0 .DSP_MSE_SNR ∧
      u.cb 0 .DSP_STAT_DIVERGED = false ∧ u.clocked 0 .dsp = true) := by delta State.arrives; decide +kernel

theorem wit_ConvergenceOfTheReceiveDsp :
    let d := (lnk 0 .up .up 2).cs 0 .AFE_CTL_ADC_EN 1
    let fz := (d.cs 0 .DSP_FRZ_HOST 0x7F).updRx 0 fun r => { r with captReq := true, snapReq := true }
    let sw := d.updRx 0 fun r => { r with swapReq := true }
    let tr := d.updRx 0 fun r => { r with phases := .replicate 11 ⟨false, 2 ^ 31⟩ }
    let m := (lnk 0 .stop .maint 0).cs 0 .AFE_CTL_ADC_EN 1
    let lo := (d.cs 0 .LINK_LOSSCFG_SNR_MIN 100).cs 0 .LINK_LOSSCFG_LOSS_N 1
    let st := (d.cs 0 .DSP_DIVCFG_SAT_DIV 1).updRx 0 fun r => { r with satRun := [(2048, 4096)] }
    (fz.dspRuns 0 = true ∧ (fz.ch 0).diag.run = .none ∧ (fz.ch 0).rx.swapReq = false ∧ (fz.ch 0).rx.restoreReq = false ∧
      (fz.ch 0).rx.clrReq = false ∧ (fz.ch 0).rx.winDue = false ∧ (fz.ch 0).rx.placeTap = [] ∧
      (fz.ch 0).rx.placeAuto = none ∧ fz.frzEff 0 = 0x7F ∧ (fz.ch 0).rx.captReq = true) ∧
    (sw.dspRuns 0 = true ∧ (sw.ch 0).diag.run = .none ∧ (sw.ch 0).rx.swapReq = true) ∧
    (tr.dspRuns 0 = true ∧ ((tr.ch 0).rx.phases.toList.getD (engineIx .dfe) ⟨false, 0⟩).track = false ∧
      2 ^ tr.acqLen 0 .dfe ≤ ((tr.ch 0).rx.phases.toList.getD (engineIx .dfe) ⟨false, 0⟩).count) ∧
    (m.dspRuns 0 = true ∧ (m.ch 0).sub = .maint ∧ (m.ch 0).link.st = .stop ∧ m.cb 0 .DSP_MSE_VALID = false ∧
      (m.ch 0).link.shift = none ∧ (m.ch 0).link.x = .none ∧ (m.ch 0).rx.winN < 2 ^ m.cg 0 .DSP_CTL_MSE_WIN ∧
      (let n := (m.updRx 0 fun r => { r with winN := 2 ^ m.cg 0 .DSP_CTL_MSE_WIN, winPd := 2 ^ 30 }).cs 0 .DSP_TRSTAT_LOCK 1;
        2 ^ n.cg 0 .DSP_CTL_MSE_WIN ≤ (n.ch 0).rx.winN ∧ n.cb 0 .DSP_TRSTAT_LOCK = true ∧
          16 * (n.ch 0).rx.winN ≤ (n.ch 0).rx.winPd)) ∧
    (0 < 1 ∧ 9 * 1 ≤ 5 * 1 * 2 ^ 24) ∧
    (lo.dspRuns 0 = true ∧ lo.linkLive 0 = true ∧ 99 < lo.cg 0 .LINK_LOSSCFG_SNR_MIN ∧
      max 1 (lo.cg 0 .LINK_LOSSCFG_LOSS_N) ≤ (lo.ch 0).rx.lossRun + 1) ∧
    (st.dspRuns 0 = true ∧ (st.ch 0).sub = .up ∧ st.cb 0 .DSP_DIVCFG_SAT_DIV = true ∧ (∃ p ∈ (st.ch 0).rx.satRun, 4096 ≤ p.2) ∧
      (st.cs 0 .DSP_STAT_DIVERGED 1).cb 0 .DSP_STAT_DIVERGED = true ∧ st.cb 0 .DSP_STAT_DIVERGED = false ∧ (st.ch 0).dsp.snap = none) := by decide +kernel

theorem wit_ConvergenceOfTheReceiveDsp_probe :
    let p := ((lnk 0 .up .up 2).cs 0 .AFE_CTL_ADC_EN 1).cs 0 .DSP_PROBE_EN 1
    let ps := (p.ch 0).dsp.act.positions 0
    p.dspRuns 0 = true ∧ p.cb 0 .DSP_PROBE_EN = true ∧ (p.ch 0).rx.eff.testBit 6 = false ∧ (p.probePos 0).isSome = true ∧
      (ps.find? fun q => (p.probePos 0).getD 0 < q).isSome = true ∧
      ((p.updRx 0 fun r => { r with pos := ps.getLastD 0 }).probePos 0) = some (ps.getLastD 0) ∧
      ps.find? (fun q => ps.getLastD 0 < q) = none := by
  decide +kernel

theorem wit_CommandsOfLinkControl :
    let an := act.cs 0 .LINK_CTL_AN_EN 1
    let fo := (act.cs 0 .LINK_CTL_AN_EN 0).cs 0 .LINK_CTL_FTYPE 2
    let no := (act.cs 0 .LINK_CTL_AN_EN 0).cs 0 .LINK_CTL_FTYPE 7
    let ho := lnk 0 .holdoff .training 0
    let hr := lnk 0 .holdoff .training 0 fun l => { l with restart := true }
    let sh := lnk 0 .shift .up 2 fun l => { l with shift := some shifting }
    let sc := lnk 0 .shift .up 2 fun l => { l with shift := some { shifting with committed := true } }
    (isSeg 0 = false ∧ act.arrives .sideband 0 .link ∧ (act.ch 0).posted = [] ∧ (act.ch 0).link.st = .stop ∧
      (act.ch 0).sub = .idle) ∧
    (an.arrives .sideband 0 .link ∧ an.cb 0 .LINK_CTL_AN_EN = true ∧ fo.cb 0 .LINK_CTL_AN_EN = false ∧
      fo.forcedOk 0 = true ∧ no.forcedOk 0 = false ∧ no.cb 0 .LINK_CTL_AN_EN = false) ∧
    (ho.arrives .sideband 0 .link ∧ (ho.ch 0).link.st = .holdoff ∧ (lnk 0 .an .training 0).arrives .sideband 0 .link ∧
      (lnk 0 .up .up 2).arrives .sideband 0 .link ∧ sh.arrives .sideband 0 .link) ∧
    ((sh.ch 0).link.shift = some shifting ∧ (sc.ch 0).link.shift = some { shifting with committed := true } ∧
      shifting.committed = false ∧ sc.arrives .sideband 0 .link) ∧
    (ho.linkIn 0 .holdoff = true ∧ (ho.ch 0).link.restart = false ∧ hr.linkIn 0 .holdoff = true ∧
      (hr.ch 0).link.restart = true ∧ (hr.cs 0 .LINK_CTL_AN_EN 1).cb 0 .LINK_CTL_AN_EN = true ∧
      ((hr.cs 0 .LINK_CTL_AN_EN 0).cs 0 .LINK_CTL_FTYPE 2).forcedOk 0 = true) := by delta State.arrives; decide +kernel

/-- A trunk channel up in type 4 whose partner and vendor pages allow a shift to type 3. -/
def shiftable : State :=
  (((lnk 0 .up .up 4 fun l => { l with vnp := true, adv := 0x7F }).cs 0 .LINK_LPCAP_CAP 3).cs 0 .LINK_ANLP_TYPES 0x7F).ds
    .PWR_OP_STAT_OP 2

theorem wit_CommandsOfLinkControl_shift :
    let s := shiftable.cs 0 .LINK_SHIFTCFG_TGT 3
    let q := withCh 0 fun x => { x with sub := .quarantine }
    let m := act.cs 0 .CHCTL_CTL_MAINT_REQ 1
    (s.arrives .sideband 0 .link ∧ (s.ch 0).link.st = .up ∧ s.shiftBlock 0 (s.cg 0 .LINK_SHIFTCFG_TGT) false
      (decide ((s.ch 0).link.st = .shift) || decide ((s.ch 0).sub ≠ .up) || (s.ch 0).lpi.sleep.isSome) = 0) ∧
    (act.arrives .sideband 31 .chctl ∧ (act.ch 31).posted = [] ∧ (act.cg 31 .CHPWR_VOTE_CLIENTS).testBit 1 = false) ∧
    (q.arrives .sideband 0 .chctl ∧ (q.ch 0).sub = .quarantine ∧ q.heldBy (.ch 0) = false ∧ q.liveHigh 0 = false ∧
      q.power.mode ≠ .safe ∧ (act.ch 0).sub ≠ .quarantine ∧ act.arrives .sideband 0 .chctl) ∧
    (m.cb 0 .CHCTL_CTL_MAINT_REQ = true ∧ m.running 0 = true ∧ (m.ch 0).sub = .idle) := by
  delta State.arrives; decide +kernel

theorem wit_NegotiationAndTraining :
    let an := lnk 0 .an .training 0 fun l => { l with lpOui := true, lpBase := some (0, 7) }
    let r1 := (lnk 0 .an .training 0 fun l => { l with lpBase := some (0, 7), role := 1, adv := 0x7F }).cs 0 .LINK_ANLP_TYPES 0x7F
    let r3 := lnk 0 .an .training 0 fun l => { l with lpBase := some (3, 7), role := 3 }
    let bad := lnk 0 .an .training 0 fun l => { l with lpBase := some (3, 7) }
    let all := BitVec.ofNat 192 0
    let good := crc16 ((List.range 192).map fun i => all.getLsbD i)
    let x := fun st => lnk 0 .train .training 0 fun l => { l with typ := 7, x := st, master := true, swCnt := 3 }
    let tr := lnk 0 .train .training 0 fun l => { l with typ := 2 }
    (an.linkIn 0 .an = true ∧ (an.ch 0).link.lpOui = true ∧ (bad.ch 0).link.lpOui = false ∧ bad.linkIn 0 .an = true) ∧
    ((r3.ch 0).link.lpBase = some (3, 7) ∧ (r3.resolveRole (r3.ch 0).link.role 3 (r3.ch 0).link.seed 7).1 = none ∧
      r3.linkIn 0 .an = true) ∧
    (r1.linkIn 0 .an = true ∧ (r1.ch 0).link.lpBase = some (0, 7) ∧ r1.power.hot = false ∧
      (r1.resolveRole (r1.ch 0).link.role 0 (r1.ch 0).link.seed 7).1 = some true ∧
      bestType ((r1.ch 0).link.adv &&& r1.cg 0 .LINK_ANLP_TYPES) ≠ 0 ∧
      bestType ((r1.ch 0).link.adv &&& (r1.cs 0 .LINK_ANLP_TYPES 0).cg 0 .LINK_ANLP_TYPES) = 0) ∧
    (xiCrcOk all good = true ∧ xiCrcOk all (good + 1) = false ∧ bits (xiConfirm 0 0 0) 2 0 = 0) ∧
    ((x .silent).linkIn 0 .train = true ∧ ((x .silent).ch 0).link.x = .silent ∧ ((x .listen).ch 0).link.x.hears = true ∧
      ((x .send).ch 0).link.x.sends = true ∧ ((x .send).ch 0).link.x ≠ .count) ∧
    (((x .count).ch 0).link.x = .count ∧ ((x .count).ch 0).link.master = true ∧ bits ((x .count).xiSend 0) 30 26 ≠ 0 ∧
      (let z := (x .count).updLink 0 fun l => { l with swCnt := 0 };
        z.linkIn 0 .train = true ∧ (z.ch 0).link.x = .count ∧ bits (z.xiSend 0) 30 26 = 0 ∧ (z.ch 0).shadow = [])) ∧
    (let k := ((x .check).updLine 0 fun l => { l with oam := (List.replicate 128 0).set 2 3#8, sinceUnc := 144 }).cs 0
        .PCS_STAT_ALIGNED 1;
      k.linkIn 0 .train = true ∧ (k.ch 0).link.opWait = false ∧ (k.ch 0).link.typ = 7 ∧ k.checkOk 0 = true) ∧
    (tr.linkIn 0 .train = true ∧ (tr.ch 0).link.opWait = false ∧ (tr.ch 0).link.typ ≠ 7 ∧ (tr.ch 0).shadow = [] ∧
      (tr.ch 0).link.typ < 16 ∧ ((x .check).ch 0).link.typ = 7 ∧ (x .check).checkOk 0 = false) ∧
    (isSeg 23 = false ∧ (lnk 23 .up .up 1).cg 23 .PCS_CTL_TYPE ≠ 7) := by decide +kernel

/-- A message of transaction 5. -/
def msgOf (id : Nat) : LinkMsg := LinkMsg.build id 5 3 4 0 100

/-- A REQ of transaction 5. -/
def msg5 : LinkMsg := msgOf 0x10

theorem wit_HitlessShift :
    let id := fun l : LinkSt => { l with vnp := true, adv := 0x7F }
    let sh := fun h m => (lnk 0 .shift .up 4 fun l => { id l with shift := some h, master := m }).cs 0 .LINK_SHIFTSTAT_TID 5
    let req := (sh shifting true).cs 0 .LINK_SHIFTSTAT_PHASE 1
    let slv := (sh shifting false).cs 0 .LINK_SHIFTSTAT_PHASE 1
    let com := { shifting with committed := true }
    let don := { com with switched := true, sentDone := true }
    let st := (shiftable.updDsp 0 fun d => { d with stbyValid := true }).cs 0 .DSP_BANK_STBY_TYPE 3
    (shiftable.oamLive 0 = true ∧ shiftable.heard 0 0x10 (msgOf 0x10) = false ∧ (shiftable.ch 0).link.shift = none ∧
      shiftable.shiftBlock 0 msg5.target false false = 0 ∧ (shiftable.ch 0).dsp.stbyValid = false ∧
      shiftable.shiftBlock 0 msg5.target true false ≠ 0) ∧
    (st.oamLive 0 = true ∧ (st.ch 0).dsp.stbyValid = true ∧ st.cg 0 .DSP_BANK_STBY_TYPE = msg5.target ∧
      st.shiftBlock 0 msg5.target false false = 0) ∧
    (req.oamLive 0 = true ∧ req.heard 0 0x10 (msgOf 0x10) = false ∧ (req.ch 0).link.shift = some shifting ∧ shifting.init = true ∧
      req.cg 0 .LINK_SHIFTSTAT_PHASE = 1 ∧ (req.ch 0).link.master = true ∧ req.ourTid 0 msg5 = true ∧
      req.heard 0 0x11 (msgOf 0x11) = false ∧ req.heard 0 0x12 (msgOf 0x12) = false) ∧
    (slv.ourTid 0 msg5 = true ∧ slv.cg 0 .LINK_SHIFTSTAT_PHASE = 1 ∧ (slv.ch 0).link.master = false ∧
      slv.heard 0 0x13 (msgOf 0x13) = false ∧ slv.heard 0 0x16 (msgOf 0x16) = false ∧ shifting.committed = false ∧
      shifting.ackDue = false) ∧
    (((sh com true).ch 0).link.shift = some com ∧ com.committed = true ∧ com.switched = false ∧ com.sentDone = false ∧
      (sh com true).ourTid 0 msg5 = true ∧ (sh com true).heard 0 0x14 (msgOf 0x14) = false ∧
      (sh com true).heard 0 0x15 (msgOf 0x15) = false ∧ ((sh com false).ch 0).link.master = false ∧
      ((sh com true).ch 0).shadow = [] ∧ com.target < 16) ∧
    (((sh don true).ch 0).link.shift = some don ∧ don.sentDone = true ∧ don.switched = true) := by decide +kernel

/-- A segment channel in state `st` and sub-state `sub`, its segment state changed by `f`. -/
def sgm (st : SState) (sub : SubState) (f : SegSt → SegSt := id) : State :=
  act.updCh 31 fun x => { x with sub := sub, seg := f { x.seg with st := st } }

theorem wit_SegmentsJoinShareAndRetry :
    let cs := act.cs 31 .SEG_CTL_MODE 1
    let jm := sgm .join .training fun g => { g with mode := 1 }
    let j0 := sgm .join .training fun g => { g with nid := 0 }
    let j1 := sgm .join .training fun g => { g with nid := 1 }
    let u0 := sgm .up .up fun g => { g with nid := 0, plcaOk := true, coord := true, ncnt := 1 }
    let u1 := sgm .up .up fun g => { g with nid := 1, plcaOk := true, ncnt := 255 }
    let uf := sgm .up .up fun g => { g with nid := 1, csma := true }
    (isSeg 31 = true ∧ cs.arrives .sideband 31 .seg ∧ (cs.ch 31).posted = [] ∧ (cs.ch 31).seg.st = .stop ∧
      (cs.ch 31).sub = .idle ∧ cs.cg 31 .SEG_CTL_MODE ≠ 0) ∧
    (((act.cs 31 .SEG_CTL_MODE 0).cs 31 .SEG_PLCA_NODE_ID 255).cg 31 .SEG_CTL_MODE = 0 ∧
      ((act.cs 31 .SEG_CTL_MODE 0).cs 31 .SEG_PLCA_NODE_ID 255).cg 31 .SEG_PLCA_NODE_ID = 255) ∧
    (j0.arrives .sideband 31 .seg ∧ (j0.ch 31).seg.st = .join ∧ u0.arrives .sideband 31 .seg ∧ (u0.ch 31).seg.st = .up ∧
      (7#32).toNat % 4 = 3 ∧ (6#32).toNat % 4 ≠ 3) ∧
    (jm.segIn 31 .join = true ∧ (jm.ch 31).seg.mode ≠ 0 ∧ j0.segIn 31 .join = true ∧ (j0.ch 31).seg.mode = 0 ∧
      (j0.ch 31).seg.nid = 0 ∧ j1.segIn 31 .join = true ∧ (j1.ch 31).seg.mode = 0 ∧ (j1.ch 31).seg.nid ≠ 0 ∧
      j1.db .CLK_REFSTAT_REF_LOST = false ∧ (j1.ds .CLK_REFSTAT_REF_LOST 1).db .CLK_REFSTAT_REF_LOST = true ∧
      (j1.ds .CLK_REFSTAT_REF_LOST 1).segIn 31 .join = true ∧ j1.segHears 31 4000 = true ∧ u0.segHears 31 4000 = true ∧
      uf.segHears 31 4000 = true ∧ (j1.ds .CLK_REFSTAT_REF_LOST 1).segHears 31 4000 = false) ∧
    ((j1.cs 31 .SEG_CTL_FALLBACK 1).cb 31 .SEG_CTL_FALLBACK = true ∧
      (j1.cs 31 .SEG_CTL_FALLBACK 0).cb 31 .SEG_CTL_FALLBACK = false) ∧
    (u0.segIn 31 .up = true ∧ (u0.ch 31).seg.mode = 0 ∧ (u0.ch 31).seg.nid = 0 ∧ (u0.ch 31).seg.plcaOk = true ∧
      (u0.ch 31).seg.coord = true ∧ (u0.ch 31).seg.ncnt ≤ u0.cg 31 .SEG_PLCASTAT_CUR_TO + 1) ∧
    (u1.segIn 31 .up = true ∧ (u1.ch 31).seg.nid ≠ 0 ∧ (u1.ch 31).seg.csma = false ∧ (u1.ch 31).seg.coord = false ∧
      (u1.ch 31).seg.plcaOk = true ∧ (u1.ch 31).seg.mode = 0 ∧ (u1.ch 31).queue.line = none) ∧
    (uf.segIn 31 .up = true ∧ (uf.ch 31).seg.csma = true ∧ (uf.ch 31).queue.line = none) := by
  delta State.arrives; decide +kernel

theorem wit_SegmentsJoinShareAndRetry_line :
    let l : LineEg := ⟨0, ⟨0, [], 2, false⟩, none, none, none, none, none, 0, 0⟩
    let s := fun f => (sgm .up .up f).updQ 31 fun q => { q with line := some l }
    let a := s fun g => { g with att := 1 }
    let q := s fun g => { g with att := 1, csma := true }
    let z := s fun g => { g with att := 16 }
    let b := s fun g => { g with retry := true, back := some 1023 }
    let r := s fun g => { g with retry := true, mark := true, nid := 1, ncnt := 8 }
    let n := s fun g => { g with retry := true, nid := 1, ncnt := 8 }
    let m := s fun g => { g with mark := true }
    let w := { m with now := 5000 }.updQ 31 fun q => { q with eg := q.eg.set 7 ⟨[⟨0, [], bufferCells 31, true⟩], none⟩ }
    ((a.cs 31 .SEG_CTL_ATTEMPTS 16).segIn 31 .up = true ∧ (a.ch 31).queue.line = some l ∧ (a.ch 31).seg.retry = false ∧
      (a.ch 31).seg.att < (a.cs 31 .SEG_CTL_ATTEMPTS 16).maxAtt 31 ∧ 512 < 513 ∧ a.plcaRuns 31 = true ∧
      q.plcaRuns 31 = false ∧ q.segIn 31 .up = true ∧ (q.ch 31).queue.line = some l ∧ (q.ch 31).seg.retry = false) ∧
    (z.segIn 31 .up = true ∧ (z.ch 31).seg.retry = false ∧ z.maxAtt 31 ≤ (z.ch 31).seg.att) ∧
    (b.segIn 31 .up = true ∧ (b.ch 31).seg.back.isSome = true) ∧
    (r.segIn 31 .up = true ∧ (r.ch 31).seg.retry = true ∧ (r.ch 31).seg.back = none ∧ (r.ch 31).seg.mark = true ∧
      r.db .CLK_REFSTAT_REF_LOST = false ∧ (r.cs 31 .SEG_PLCASTAT_CUR_TO 1).plcaTurn 31 = true ∧
      (n.cs 31 .SEG_PLCASTAT_CUR_TO 1).plcaTurn 31 = true ∧ (n.ch 31).seg.mark = false ∧ n.segIn 31 .up = true) ∧
    (w.segIn 31 .up = true ∧ (w.ch 31).seg.retry = false ∧ l.frame.complete = false ∧ l.frame.cells ≠ 0 ∧
      l.freed < w.cellsSent l ∧ bufferCells 31 ≤ (w.ch 31).queue.egHeld ∧ (w.ch 31).seg.mark = true ∧
      (w.ch 31).queue.line = some l) := by decide +kernel

theorem wit_DiagnosticRunsAndTrends :
    let d := fun (s : State) f => s.updDiag 0 f
    let up := lnk 0 .up .up 2
    let tr := act.cs 0 .DIAG_CTL_TREND_EN 1
    (act.arrives .sideband 0 .diag ∧ (act.ch 0).posted = [] ∧ act.tdrOk 0 = true ∧ act.isrOk 0 = false ∧
      (act.ch 0).diag.run = .none) ∧
    (up.arrives .mdio 0 .diag ∧ up.tdrOk 0 = false ∧ up.isrOk 0 = true ∧ isSeg 0 = false) ∧
    ((d act fun d => { d with run := .listen }).arrives .sideband 0 .diag ∧
      ((d act fun d => { d with run := .listen }).ch 0).diag.run = .listen) ∧ act.running 0 = true ∧
    (((d act fun d => { d with run := .acquire }).ch 0).diag.run = .acquire ∧
      ((d act fun d => { d with run := .process }).ch 0).diag.run = .process ∧
      ((d act fun d => { d with run := .isrCap }).ch 0).diag.run = .isrCap ∧ (act.ch 0).diag.closed = none) ∧
    (tr.cb 0 .DIAG_CTL_TREND_EN = true ∧ (tr.ch 0).diag.closed = none ∧ (tr.ch 0).diag.iv.up = false ∧
      ((d (up.cs 0 .DIAG_CTL_TREND_EN 1) fun d => { d with iv := { d.iv with up := true } }).ch 0).diag.iv.up = true) := by
  delta State.arrives; decide +kernel

theorem wit_LowPowerIdleSleepAndWake :
    let up := (lnk 0 .up .up 4).cs 0 .LINK_LPCAP_CAP 4
    let eee := (up.cs 0 .LINK_ANADV_EEE 1).cs 0 .LINK_ANLP_EEE 1
    let tx := eee.cs 0 .LPI_CTL_TX_REQ 1
    let inTx := eee.cs 0 .LPI_STAT_TX_LPI 1
    let inRx := (lnk 0 .up .lpi 7).cs 0 .LPI_STAT_RX_LPI 1
    let hd := act.updCh 0 fun x => { x with pad := { x.pad with held := true } }
    let slp := fun g => (up.updLpi 0 fun l => { l with sleep := some ⟨true, 5, g⟩ }).cs 0 .LPI_STAT_SLP_PHASE 1
    let tc := ((lnk 0 .up .up 1).updLpi 0 fun l => { l with sleep := some ⟨true, 5, none⟩ }).cs 0 .LPI_STAT_SLP_PHASE 2
    let az := act.updCh 0 fun x => { x with sub := .sleep, lpi := { x.lpi with waking := true } }
    (isSeg 0 = false ∧ up.arrives .sideband 0 .lpi ∧ (up.ch 0).posted = [] ∧ (up.ch 0).link.st = .up ∧
      (up.ch 0).sub = .up ∧ up.sleepAble 0 = true ∧ (up.ch 0).lpi.sleep = none ∧ (1#32).toNat.testBit 0 = true) ∧
    (act.arrives .sideband 0 .lpi ∧ (act.ch 0).link.st ≠ .up ∧ (act.ch 0).pad.held = false ∧ hd.arrives .mdio 0 .lpi ∧
      (hd.ch 0).sub ≠ .off ∧ (hd.ch 0).pad.held = true ∧ hd.padsHeld = false) ∧
    (tx.linkIn 0 .up = true ∧ tx.lpiAble 0 = true ∧ tx.cb 0 .LPI_CTL_TX_REQ = true ∧ tx.cb 0 .LPI_STAT_TX_LPI = false ∧
      tx.egEmpty 0 = true ∧ tx.cb 0 .LPI_STAT_RX_LPI = false) ∧
    (inTx.running 0 = true ∧ inTx.cb 0 .LPI_STAT_TX_LPI = true ∧ inRx.running 0 = true ∧
      inRx.cb 0 .LPI_STAT_RX_LPI = true ∧ inRx.cg 0 .PCS_CTL_TYPE = 7 ∧ inTx.quietOk 0 true = true ∧
      inTx.quietOk 0 false = true ∧ inRx.quietOk 0 false = false) ∧
    (let x := (inRx.updLpi 0 fun l => { l with refMiss := 1 });
      (x.ch 0).lpi.rxQuiet = false ∧ (x.ch 0).lpi.refHit = false ∧ 1 ≤ (x.ch 0).lpi.refMiss) ∧
    ((act.cs 0 .LPI_IDLECFG_IDLE_US 1).cg 0 .LPI_IDLECFG_IDLE_US ≠ 0 ∧ act.egEmpty 0 = true) ∧
    ((slp none).sleepOpen 0 = true ∧ (slp none).running 0 = true ∧ tc.sleepDue 0 = true ∧ tc.running 0 = true) ∧
    ((az.ch 0).sub = .sleep ∧ (az.ch 0).lpi.waking = true ∧ az.power.mode = .active) := by
  delta State.arrives; decide +kernel

theorem wit_LowPowerIdleSleepAndWake_messages :
    let up := (lnk 0 .up .up 4).cs 0 .LINK_LPCAP_CAP 4
    let no := up.cs 0 .LPI_SLPCFG_ACCEPT 0
    let yes := up.cs 0 .LPI_SLPCFG_ACCEPT 1
    let slp := fun m g => ((lnk 0 .up .up 4 fun l => { l with master := m }).updLpi 0 fun l =>
      { l with sleep := some ⟨true, 5, g⟩ }).cs 0 .LPI_STAT_SLP_PHASE 1
    let tc := (lnk 0 .up .up 1).cs 0 .LPI_SLPCFG_ACCEPT 1
    let tcs := (tc.updLpi 0 fun l => { l with sleep := some ⟨true, 5, none⟩ }).cs 0 .LPI_STAT_SLP_PHASE 1
    let lw := (act.ds .TAP_LWAKEEN_LINE 0x80000000).updCh 31 fun x => { x with pst := .off }
    ((lw.dg .TAP_LWAKEEN_LINE).testBit (31 : Ch).val = true ∧ lw.power.mode = .active ∧ (lw.ch 31).pst = .off) ∧
    (let d := (inMode .standby .none none).ds .TAP_LWAKEEN_LINE 1;
      (d.dg .TAP_LWAKEEN_LINE).testBit (0 : Ch).val = true ∧ d.power.mode = .standby) ∧
    (let k := yes.updLpi 0 fun l => { l with exitAt := some (act.now, 0) };
      k.lpiWaking 0 = true ∧ k.slpLive 0 = true ∧ no.lpiWaking 0 = false ∧ yes.lpiWaking 0 = false ∧
        (yes.updLink 0 fun l => { l with master := true }).slpLive 0 = true ∧
        ((yes.updLink 0 fun l => { l with master := true }).ch 0).link.master = true) ∧
    (no.slpLive 0 = true ∧ no.heard 0 0x20 (msgOf 0x20) = false ∧ (no.ch 0).lpi.sleep = none ∧ no.cb 0 .LPI_STAT_TX_LPI = false ∧
      (no.ch 0).link.st = .up ∧ no.cb 0 .LPI_SLPCFG_ACCEPT = false) ∧
    (yes.slpLive 0 = true ∧ yes.cb 0 .LPI_SLPCFG_ACCEPT = true ∧ (yes.ch 0).link.master = false) ∧
    ((slp true none).slpOurs 0 0x21 (msgOf 0x21) = true ∧ (slp true none).cg 0 .LPI_STAT_SLP_PHASE = 1 ∧
      ((slp true none).ch 0).link.master = true ∧ (slp false none).slpOurs 0 0x22 (msgOf 0x22) = true ∧
      (slp false none).slpOurs 0 0x23 (msgOf 0x23) = true ∧ (slp false none).slpOurs 0 0x24 (msgOf 0x24) = true ∧
      ((slp false none).ch 0).link.master = false ∧ ((slp false none).ch 0).lpi.sleep = some ⟨true, 5, none⟩) ∧
    (tc.running 0 = true ∧ tc.linkLive 0 = true ∧ tc10Type (tc.cg 0 .PCS_CTL_TYPE) = true ∧ (tc.ch 0).lpi.sleep = none ∧
      (tc.ch 0).link.st = .up ∧ tc.cb 0 .LPI_STAT_TX_LPI = false ∧ tc.cb 0 .LPI_SLPCFG_ACCEPT = true ∧
      (tc.cs 0 .LPI_SLPCFG_ACCEPT 0).cb 0 .LPI_SLPCFG_ACCEPT = false) ∧
    ((tcs.ch 0).lpi.sleep.isSome = true ∧ tcs.cg 0 .LPI_STAT_SLP_PHASE = 1) := by decide +kernel

/-- The record and key of an all-zero stage. -/
def ctx0 : Ctx := Ctx.ofStage (List.replicate 32 0) false 0

/-- A record of another key. -/
def ctxAt : Ctx := { ctx0 with key := { ctx0.key with da := 1 } }

/-- Channel 0 with a context command staged all zero. -/
def ctxCmd (op i : Nat) (f : FrameSt → FrameSt := id) : State :=
  act.updF 0 fun x => f { x with cmd := some ⟨op, i, 31, List.replicate 32 0⟩ }

theorem wit_FlowContextsAndMeters :
    let km := act.cg 0 .FRAME_CTL_KEYMASK
    let key := (stageKey (List.replicate 32 0)).bytes km
    let has := fun f : FrameSt => { f with ctxs := [(candidates 0 key).headD 0].map fun i => (i, ctx0) }
    (act.arrives .sideband 0 .frame ∧ (act.ch 0).posted = [] ∧ (act.ch 0).frame.cmd = none ∧ (act.ch 0).frame.ctxs = []) ∧
    ((ctxCmd 1 0).arrives .sideband 0 .frame ∧ ((ctxCmd 1 0).ch 0).frame.cmd.isSome = true ∧
      (ctxCmd 1 0).clocked 0 .frame = true ∧ ((ctxCmd 1 0 has).ch 0).frame.ctxs ≠ []) ∧
    ((((ctxCmd 1 0 has).ch 0).frame.find km key).isSome = true ∧ ((ctxCmd 4 0).ch 0).frame.find km key = none ∧
      ((ctxCmd 1 0).ch 0).frame.ctx ((candidates 0 key).headD 0) = none ∧ (candidates 0 key).length = 4) ∧
    (ctxCount 0 ≤ 4095 ∧ 4095 < 4096 ∧ ctxCount 0 - 1 < ctxCount 0 ∧
      ((ctxCmd 3 (ctxCount 0 - 1)).ch 0).frame.ctx (ctxCount 0 - 1) = none) ∧
    ((((ctxCmd 2 5 fun f => { f with ctxs := [(5, ctx0)] })).ch 0).frame.ctx 5 = some ctx0 ∧
      ((ctxCmd 5 5).ch 0).frame.bad = [] ∧
      ⟨5, false, 31⟩ ∈ ((ctxCmd 5 5 fun f => { f with bad := [⟨5, false, 31⟩] }).ch 0).frame.bad) := by
  delta State.arrives; decide +kernel

/-- Channel 31 with every context in use and an INSERT of another key staged. -/
def full31 : State := act.updF 31 fun f => { f with
  cmd := some ⟨1, 0, 0, List.replicate 32 0⟩, ctxs := (List.range (ctxCount 31)).map fun i => (i, ctxAt) }

theorem lookup_pairs {α : Type} (x : α) (l : List Nat) (i : Nat) (h : i ∈ l) :
    ((l.map fun j => (j, x)).lookup i).isSome = true := by
  simpa using h

theorem wit_FlowContextsAndMeters_full :
    full31.clocked 31 .frame = true ∧
    (full31.ch 31).frame.find (full31.cg 31 .FRAME_CTL_KEYMASK) ((stageKey (List.replicate 32 0)).bytes
      (full31.cg 31 .FRAME_CTL_KEYMASK)) = none ∧
    ∀ i < ctxCount 31, ((full31.ch 31).frame.ctx i).isSome = true :=
  ⟨by decide +kernel, by decide +kernel, fun i h => lookup_pairs ctxAt _ i (List.mem_range.mpr h)⟩

theorem wit_FlowContextsAndMeters_meter :
    let m : Meter := { ctx0.meter with cir := 100, eir := 50, cbs := 2, ebs := 2, last := 0 }
    ((31).testBit 4 = true ∧ (15).testBit 4 = false ∧ (8).testBit 3 = true ∧ (7).testBit 3 = false ∧
      (1).testBit 0 = true ∧ (30).testBit 0 = false) ∧
    (m.cf = false ∧ { m with cf := true }.cf = true ∧ { m with markRed := true }.markRed = true ∧ m.markRed = false ∧
      m.cm = false ∧ 2 * 65536 ≤ (m.refresh 10000).ct ∧ (m.refresh 10).ct < 2 * 65536 ∧ 0 * 65536 ≤ (m.refresh 10).et ∧
      { m with cm := true }.cm = true ∧ (m.refresh 10).et < 1 * 65536 ∧ m.last ≤ 0 ∧ 0 ≤ 10) := by decide +kernel

/-- An untagged frame of `n` octets. -/
def fr (n : Nat) : LineFrame := ⟨List.replicate n 0, true, false, true, none, 0, false, 0, 0, false⟩

theorem wit_FramesMacsecAndTime_ingress :
    let up := ((lnk 0 .up .up 4).cs 0 .FRAME_CTL_MS_EN 0).cs 0 .FRAME_MISS_IN_DROP 0
    let km := up.cg 0 .FRAME_CTL_KEYMASK
    let key := ((parse (fr 60).octets).key false).bytes km
    let one := fun x : Ctx => up.updF 0 fun f => { f with ctxs := [(0, x)] }
    let full := up.cs 0 (.Q_INCLS_CAP (up.inClass 0 (fr 60).octets).val) 0
    (up.reaches 0 (fr 60) = true ∧ up.takesIn 0 (fr 60) = true ∧ up.lineBad 0 { fr 60 with lineErr := true } = true ∧
      up.lineBad 0 (fr 60) = false ∧ act.reaches 0 (fr 60) = false ∧ up.reaches 0 (fr (up.maxLen 0 - 3)) = true ∧
      up.takesIn 0 (fr (up.maxLen 0 - 3)) = true ∧ (fr 60).fcsOk = true ∧
      (fr 59).octets.length + 4 < 64 ∧ 64 ≤ (fr 60).octets.length + 4 ∧ up.cb 0 .FRAME_CTL_MS_EN = false ∧
      (fr 60).octets.length + 4 ≤ up.maxLen 0 ∧ (fr 60).ecc = none) ∧
    up.maxLen 0 < (fr (up.maxLen 0 - 3)).octets.length + 4 ∧
    ((up.ch 0).frame.badRead 0 key = none ∧ (up.ch 0).frame.find km key = none ∧
      up.cb 0 .FRAME_MISS_IN_DROP = false ∧ (up.cs 0 .FRAME_MISS_IN_DROP 1).cb 0 .FRAME_MISS_IN_DROP = true ∧
      (parse (fr 60).octets).etype ≠ 0x88F7) ∧
    (((one ctx0).ch 0).frame.find km key = some (0, ctx0) ∧ ctx0.action = 0 ∧ { ctx0 with action := 1 }.action ≠ 0 ∧
      { ctx0 with maxSdu := 63 }.maxSdu ≠ 0 ∧ { ctx0 with maxSdu := 63 }.maxSdu < (fr 60).octets.length + 4 ∧
      ctx0.maxSdu = 0 ∧ { ctx0.meter with en := true }.en = true ∧
      ({ ctx0.meter with en := true }.run 0 64 false).1 = .red) ∧
    (min (full.inFree 0) (full.cg 0 (.Q_INCLS_CAP (up.inClass 0 (fr 60).octets).val) -
        (full.ch 0).queue.inCells (up.inClass 0 (fr 60).octets)) < cellsOf (fr 60).octets.length ∧
      cellsOf (fr 60).octets.length ≤ min (up.inFree 0) (up.cg 0 (.Q_INCLS_CAP (up.inClass 0 (fr 60).octets).val) -
        (up.ch 0).queue.inCells (up.inClass 0 (fr 60).octets))) := by decide +kernel

theorem wit_FramesMacsecAndTime_egress :
    let eg := fun (s : State) (e : EgFrame) => s.updQ 0 fun q => { q with eg := q.eg.set 7 ⟨[e], none⟩ }
    let up := ((lnk 0 .up .up 4).cs 0 .FRAME_CTL_MS_EN 0).cs 0 .FRAME_MISS_EG_DROP 0
    let e : EgFrame := ⟨0, List.replicate 60 0, 1, true⟩
    let big : EgFrame := ⟨0, List.replicate (up.maxLen 0 - 3) 0, 30, true⟩
    let hold := act.updCh 0 fun x => { x with sub := .sleep }
    let fence := up.cs 0 .LPI_STAT_TX_LPI 1
    let l : LineEg := ⟨7, e, some 5, some 3, none, none, none, 0, 0⟩
    let line := fun (x : LineEg) => up.updQ 0 fun q => { q with line := some x }
    (up.clocked 0 .frame = true ∧ up.clocked 0 .queue = true ∧ (up.ch 0).queue.line = none ∧ up.egHolds 0 = false ∧
      up.egSends 0 = true ∧ up.egFenced 0 = false ∧ up.nextEgress 0 = none ∧ hold.egHolds 0 = true ∧
      act.egHolds 0 = false ∧ act.egSends 0 = false ∧ fence.egFenced 0 = true) ∧
    ((eg up e).nextEgress 0 = some (7, e) ∧ e.complete = true ∧ max 60 e.octets.length + 4 ≤ up.maxLen 0 ∧
      (eg up big).nextEgress 0 = some (7, big) ∧ up.maxLen 0 < max 60 big.octets.length + 4) ∧
    ((up.ch 0).frame.badRead 0 (((parse e.octets).key true).bytes (up.cg 0 .FRAME_CTL_KEYMASK)) = none ∧
      up.cb 0 .FRAME_MISS_EG_DROP = false ∧ up.cb 0 .FRAME_CTL_MS_EN = false ∧ (parse e.octets).etype ≠ 0x88F7 ∧
      (up.ch 0).frame.find (up.cg 0 .FRAME_CTL_KEYMASK) (((parse e.octets).key true).bytes (up.cg 0 .FRAME_CTL_KEYMASK)) = none) ∧
    (((line l).ch 0).queue.line = some l ∧ (line l).running 0 = true ∧ ((line l).ch 0).seg.retry = false ∧
      l.frame.complete = true ∧ isSeg 0 = false ∧ ((line l).cs 0 .PCS_CTL_TYPE 7).cg 0 .PCS_CTL_TYPE = 7 ∧
      250 < (-251 : Int).natAbs ∧ (250 : Int).natAbs ≤ 250 ∧ l.sec = none ∧ l.stamp = some 5 ∧ { l with stamp := none }.stamp = none ∧
      ((line l).ch 0).frame.stamps.length < 64 ∧ { e with complete := false }.complete = false ∧
      64 ≤ (List.replicate 64 (⟨0, 0, 0, false, 0⟩ : Stamp)).length) := by decide +kernel

theorem wit_FramesMacsecAndTime_commands :
    let sel := fun (d sc an : Nat) => ((act.cs 0 .MS_SEL_DIR d).cs 0 .MS_SEL_SC sc).cs 0 .MS_SEL_AN an
    let t := (sel 1 15 3).cs 0 .MS_PN_LO_VALUE 1
    let put := fun s : State => s.updF 0 fun f => f.setSc true 15 ((f.sc true 15).setSa 3 (some ⟨1, 0, 0, 1, false⟩))
    (act.arrives .sideband 0 .frame ∧ (act.ch 0).posted = [] ∧ scCount 0 ((sel 1 16 0).msSel 0).1 ≤
      ((sel 1 16 0).msSel 0).2.1 ∧ (sel 1 16 0).arrives .sideband 0 .frame) ∧
    (t.arrives .sideband 0 .frame ∧ (t.msSel 0).2.1 < scCount 0 (t.msSel 0).1 ∧ (t.msSel 0).2.2 < 4 ∧
      ((t.ch 0).frame.sc (t.msSel 0).1 (t.msSel 0).2.1).sa (t.msSel 0).2.2 = none ∧ t.cg 0 .MS_PN_LO_VALUE ≠ 0 ∧
      (t.msSel 0).1 = true) ∧
    ((put t).arrives .sideband 0 .frame ∧
      ((((put t).ch 0).frame.sc ((put t).msSel 0).1 ((put t).msSel 0).2.1).sa ((put t).msSel 0).2.2).isSome = true) ∧
    ((((sel 1 0 0).ch 0).frame.sc true 0).encAn.val = ((sel 1 0 0).msSel 0).2.2 ∧ ((sel 0 47 0).msSel 0).1 = false ∧
      ((sel 0 47 0).msSel 0).2.1 < scCount 0 false) ∧
    act.cg 0 (.TS_SET_VALUE 0) % 2 ^ 30 < 1000000000 := by delta State.arrives; decide +kernel

theorem wit_FramesMacsecAndTime_accounts : Acct.init.balanced ∧ 15 < 16 ∧ act.acctOk ∧ (∃ t, step act = .next t) :=
  ⟨by delta Acct.balanced; decide +kernel, by decide,
    by delta State.acctOk Chan.acctOk Acct.balanced; decide +kernel, ⟨_, rfl⟩⟩

/-- `act` with the host link in `u`. -/
def link (u : ULState) : State := { act with host := { act.host with ul := u } }

theorem wit_HostPortLinkAndQueues :
    let f : LaneFail := ⟨true, 63, true⟩
    let four := { act with otp := { act.otp with lanes := List.replicate 4 (true, 0) } }
    let deg := four.ds .HOST_CTL_DEGRADE_EN 1
    let st := act.updF 31 fun x => { x with stamps := [⟨7, 0, 0, false, 0⟩] }
    (act.hostUp = true ∧ (link .l1).hostUp = true ∧ (link .training).hostUp = true ∧ act.lanesUsed f.rx < 4 ∧
      4 ≤ deg.lanesUsed f.rx ∧ deg.db .HOST_CTL_DEGRADE_EN = true ∧ f.halfWorks = true ∧ deg.host.width32 = false ∧
      (four.ds .HOST_CTL_DEGRADE_EN 0).db .HOST_CTL_DEGRADE_EN = false) ∧
    (((link .training).ds .HOST_STAT_NG_UP 0).db .HOST_STAT_NG_UP = false ∧ (link .training).power.mode = .active ∧
      ((link .training).ch 0).queue.egCells 0 = 0) ∧
    (act.arrivesDev .sideband .host ∧ act.host.ul = .active ∧ (link .training).arrivesDev .mdio .host ∧
      (link .training).host.ul ≠ .active ∧ (link .training).host.ul ≠ .l1) ∧
    (act.hostWaiting = false ∧ { act with host := { act.host with l1en := true } }.host.l1en = true ∧
      act.host.l1en = false ∧ st.hostWaiting = true) ∧
    (act.arrives .sideband 31 .queue ∧ (act.ch 31).posted = [] ∧ (0xFFFF0000#32).toNat % 65536 = 0 ∧
      (1#32).toNat % 65536 ≠ 0) := by delta State.arrives State.arrivesDev; decide +kernel

theorem wit_HostPortLinkAndQueues_messages :
    let fl := act.updQ 31 fun q => { q with flushBusy := true }
    let st := act.updF 31 fun x => { x with stamps := [⟨7, 0, 0, false, 0⟩] }
    let po := act.updCh 31 fun x => { x with seq := { x.seq with post := [(1, 2)] } }
    let gr := act.updPair 31 7 fun p => { p with eg := { p.eg with granted := 3 } }
    let i : InFrame := ⟨List.replicate 64 0, none, none, false, false, false, none, 0⟩
    let sg := (act.updQ 31 fun q => { q with ing := q.ing.set 7 [i] }).updPair 31 7 fun p => { p with
      ing := { p.ing with granted := 1 } }
    (bits (0x1FFF0000#32).toNat 28 16 = 8191 ∧ bufferCells 31 < 8191 ∧
      (clsUp.map fun d => if d = 7 then 0 else act.cg 31 (.Q_EGCLS_RSV d.val)).sum ≤ bufferCells 31) ∧
    ((255).testBit (7 : Fin 8).val = true ∧ (127).testBit (7 : Fin 8).val = false) ∧
    (fl.ch 31).queue.flushBusy = true ∧
    (gr.nguidUp = true ∧ (gr.pair 31 7).synced = true ∧ (gr.pair 31 7).eg.granted ≠ (gr.pair 31 7).announced) ∧
    (st.nguidUp = true ∧ (st.ch 31).frame.stamps = ⟨7, 0, 0, false, 0⟩ :: [] ∧ (st.pair 31 7).synced = true ∧
      st.stampReady = true) ∧
    (po.nguidUp = true ∧ (po.ch 31).seq.post = (1, 2) :: [] ∧ (po.pair 31 0).synced = true ∧ (po.ch 31).seq.evLast = none ∧
      po.eventReady 31 = true ∧
      ({ po with now := 101 }.updSeq 31 fun q => { q with evLast := some 2 }).eventReady 31 = false) ∧
    (act.stampReady = false ∧ act.nextSegment = none) ∧
    (sg.nguidUp = true ∧ sg.stampReady = false ∧ (∀ d, sg.eventReady d = false) ∧ sg.nextSegment = some (31, 7) ∧
      (sg.ch 31).queue.ing[(7 : Fin 8).val] = i :: []) := by decide +kernel

/-- A host message to class 7 of channel 31, header laid out as R234 has it. -/
def ngT (typ ver len : Nat) (seq : BitVec 16 := 0) (eof : Bool := true) (aux : Nat := 0) : NgMsg :=
  ⟨BitVec.ofNat 128 (typ + 16 * ver + 256 * (31 + 32 * 7) + 2 ^ 16 * (len + 512 * b2n eof) + 2 ^ 32 * seq.toNat + 2 ^ 48 * aux),
    List.replicate len 0, 0, 0⟩

/-- A FRAME_END to class 7 of channel 31. -/
def ng (ver len : Nat) (seq : BitVec 16 := 0) (eof : Bool := true) : NgMsg := ngT 3 ver len seq eof

theorem wit_MessagesFromTheHost_types :
    (ngT 4 1 0).typ = 4 ∧ 10 ≤ (ngT 15 1 0).typ ∧ (ngT 3 2 0).typ = 3 ∧ (ngT 3 2 0).ver ≠ 1 ∧ 5 ≤ (ngT 9 0 0).typ ∧
    (ngT 9 0 0).ver ≠ 1 ∧ (ngT 0 0 0).hdr.toNat % 256 = 0 ∧ (ngT 3 1 256).chan = 31 ∧ (ngT 3 1 256).cls = 7 ∧
    3 < (ngT 9 1 0 0 true 4).aux % 256 := by decide

theorem wit_MessagesFromTheHost :
    let s := act.updPair 31 7 fun p => { p with announced := 4, eg := { p.eg with granted := 4 } }
    let off := s.updCh 31 fun x => { x with sub := .off }
    let opn := s.updQ 31 fun q => { q with eg := q.eg.set 7 ⟨[⟨5, [], 1, false⟩], none⟩ }
    let drp := s.updQ 31 fun q => { q with eg := q.eg.set 7 ⟨[], some 5⟩ }
    let lin := s.updQ 31 fun q => { q with line := some ⟨7, ⟨5, [], 1, false⟩, none, none, none, none, none, 0, 0⟩ }
    let uns := fun n d => act.updPair 31 7 fun p => { p with synced := false, owed := n, due := d }
    let tod := { act with host := { act.host with tod := [(5, 0, 0, 1)] } }
    (s.nguidUp = true ∧ (ng 2 0).ver ≠ 1 ∧ (ng 1 1).ver = 1 ∧ (ng 1 1).length ≠ 0 ∧ (ng 1 15).length ≠ 16) ∧
    ((ng 1 257).ver = 1 ∧ 256 < (ng 1 257).length ∧ (ng 1 255).length < 256 ∧ 1 ≤ (ng 1 256).length ∧
      (ng 1 256).length ≤ 256 ∧ (off.ch 31).sub = .off ∧ (s.ch 31).sub ≠ .off ∧ (s.pair 31 7).synced = true ∧
      (act.pair 31 7).hostHolds < cellsOf 256 ∧ cellsOf 256 ≤ (s.pair 31 7).hostHolds ∧
      (s.ch 31).queue.openSeq 7 ≠ some (ng 1 256).seq ∧ s.frameErr 3 (ng 1 256) ≠ 0) ∧
    ((ng 1 256).eof = true ∧ (s.ch 31).queue.drain = false ∧ (ng 1 256).seq = (s.pair 31 7).egSeq ∧
      (s.ch 31).queue.openSeq 7 = none) ∧
    ((opn.ch 31).queue.openSeq 7 = some (ng 1 256 5).seq ∧ (drp.ch 31).queue.openSeq 7 = some 5 ∧
      (drp.ch 31).queue.eg[7].drop = some 5 ∧ (opn.ch 31).queue.eg[7].drop = none ∧
      (opn.ch 31).queue.eg[7].frames.getLast? = some ⟨5, [], 1, false⟩ ∧ (lin.ch 31).queue.openSeq 7 = some 5 ∧
      (lin.ch 31).queue.eg[7].frames = []) ∧
    ((uns 0 false).nguidUp = true ∧ ((uns 0 false).pair 31 7).owed = 0 ∧ ((uns 0 false).pair 31 7).synced = false ∧
      1 < ((uns 2 false).pair 31 7).owed ∧ ((uns 1 true).pair 31 7).owed = 1 ∧ ((uns 1 true).pair 31 7).due = true ∧
      ((uns 1 false).pair 31 7).owed = 1 ∧ ((uns 1 false).pair 31 7).due = false ∧ act.powered 31 = true) ∧
    ((ng 1 0).aux % 256 = 0 ∧ (ng 1 16).length = 16 ∧ 15 < 16) ∧
    (tod.nguidUp = true ∧ tod.host.tod = (5, 0, 0, 1) :: [] ∧ (1).testBit (0 : Ch).val = true ∧
      (tod.ch 0).sub ≠ .off ∧ 5 % 2 ^ 30 < 1000000000 ∧ (1).testBit (31 : Ch).val = false) := by decide +kernel

/-- A quiet line with a load of `t` ohms, and reference sources inside their windows. -/
def meas (t : Nat) : CalMeas := ⟨true, t, 4000, 10000, 0⟩

theorem wit_CalibrationBanksAndImages :
    let ok := act.ds .ID_OTPSTAT_FT_VALID 1
    let cp := { ok with cal := { ok.cal with copy := some (0x80000001, true) } }
    let run := fun k => { ok with cal := { ok.cal with run := some k } }
    let wn := { ok with power := { ok.power with warn := [2] } }
    (cp.arrivesDev .sideband .cal ∧ cp.copying = true ∧ cp.cal.copy = some (0x80000001, true)) ∧
    (ok.arrivesDev .sideband .cal ∧ ok.copying = false ∧ ok.devPrecond 1 (meas 0) = 0 ∧ ok.devPrecond 2 (meas 0) = 0 ∧
      act.devPrecond 2 (meas 0) ≠ 0 ∧ act.devPrecond 1 (meas 0) ≠ 0 ∧ (inMode .service .none none).power.mode ≠ .active ∧
      { meas 0 with calV := 0 }.refOk 2 = false ∧ (meas 0).refOk 1 = true ∧ (meas 0).refOk 2 = true ∧ (run 1).cal.run.isSome = true ∧
      act.db .ID_OTPSTAT_FT_VALID = false ∧ wn.power.warn ≠ [] ∧ ok.cal.run = none) ∧
    ((run 1).arrivesDev .sideband .cal ∧ (run 2).cal.run = some 2 ∧ (utFor 10 ok.otp.ftDev.2 511).isSome = true ∧
      utFor 10 ok.otp.ftDev.2 512 = none) ∧
    ok.imgCheck ≠ 0 ∧
    (Memory.wf ok.cal.buf = true ∧ (ok.cal.dev[ok.cal.actDev.val]).1 < 1024 ∧ (ok.cal.dev[ok.cal.actDev.val]).2 < 1024 ∧
      (∀ c : Ch, (ok.utActive c).hyb < 65536 ∧ (ok.utActive c).amp < 4096 ∧ (ok.utActive c).rxg < 4096)) := by
  delta State.arrivesDev; decide +kernel

theorem wit_CalibrationBanksAndImages_channel :
    let ok := (withCh 31 fun x => { x with sub := .maint }).ds .ID_OTPSTAT_FT_VALID 1
    let cp := { ok with cal := { ok.cal with copy := some (0x80000000, false) } }
    let run := fun k => ok.updCh 31 fun x => { x with graft := { x.graft with run := some k } }
    let hd := ok.updCh 31 fun x => { x with pad := { x.pad with held := true } }
    (cp.arrives .sideband 31 .calg ∧ (cp.ch 31).posted = [] ∧ cp.copyingCh 31 = true ∧ ok.arrives .sideband 31 .calg ∧
      ok.copyingCh 31 = false ∧ ok.chPrecond 31 1 (meas 100) = 0 ∧ ok.chPrecond 31 2 (meas 100) = 0 ∧ ok.chPrecond 31 3 (meas 1001) = 0 ∧
      ok.chPrecond 31 8 (meas 0) = 0 ∧
      act.chPrecond 31 1 (meas 100) ≠ 0 ∧ act.chPrecond 31 8 (meas 0) ≠ 0 ∧ act.arrives .mdio 31 .calg ∧ act.copyingCh 31 = false) ∧
    ((ok.ch 31).graft.run = none ∧ ((run 8).ch 31).graft.run = some 8 ∧ (run 8).arrives .sideband 31 .calg ∧
      ((run 3).ch 31).graft.run = some 3 ∧ ((run 3).ch 31).graft.swap = none ∧
      (run 3).nextTrig 31 = none ∧ (run 3).clocked 31 .calg = true ∧ (run 3).copyingCh 31 = false) ∧
    ((act.ch 31).sub ≠ .maint ∧ (hd.ch 31).sub = .maint ∧ (hd.ch 31).pad.held = true ∧ (ok.ch 31).pad.held = false ∧
      { meas 0 with quiet := false }.quiet = false ∧ (meas 84).loadOk 1 = false) ∧
    ((utFor 12 (ok.otp.ft[31]).amp 2047).isSome = true ∧ utFor 12 (ok.otp.ft[31]).amp 2048 = none ∧
      (utFor 12 (ok.otp.ft[31]).rxg (-2048)).isSome = true) ∧
    ((run 8).cs 31 .GRAFT_CTL_POLICY 0).policy 31 = 0 ∧ (run 8).session = false ∧ ((run 8).ch 31).graft.swap = none ∧
    (act.powered 31 = true ∧ (act.cs 31 .AFE_CTL_ADC_EN 1).cb 31 .AFE_CTL_ADC_EN = true ∧ act.clocked 31 .afe = true ∧
      act.working 31 0 0 = true ∧ act.working 31 0 95 = false) := by
  delta State.arrives; decide +kernel

theorem wit_GraftReplacesElements_wear :
    let w := fun (k : Nat) (x : Swap) => (act.cs 0 .GRAFT_CTL_POLICY k).updGraft 0 fun g => { g with swap := some x }
    (let unc : WearMeas := ⟨3, 5, 1, 1, 0, true⟩;
      let cor : WearMeas := ⟨3, 5, 1, 1, 1, false⟩;
      (act.wearOf 0 unc).1 = (1023, 4) ∧ 3 ≤ unc.pool.val ∧ unc.corr = 0 ∧ cor.uncorr = false ∧ act.retired 0 3 5 = false ∧
        (3, 5) ∉ (act.ch 0).graft.exhausted ∧ act.trig 0 ≤ (act.wearOf 0 unc).1.1 ∧
        ((act.cs 0 .GRAFT_CTL_ECC_N 125).wearOf 0 cor).1.1 = 8 ∧ 8 < (act.cs 0 .GRAFT_CTL_ECC_N 125).trig 0 ∧
        (WearMeas.mk 0 5 1 1 0 false).fFac ≤ 1) ∧
    (let b := ((w 1 ⟨3, 5, 6, true, true, false, false⟩).updGraft 0 fun g => { g with run := some 8, bistRows := [(4, 9)] });
      (b.ch 0).graft.run = some 8 ∧ (b.ch 0).graft.bistRows ≠ [] ∧ b.policy 0 ≠ 0 ∧ (b.ch 0).graft.bistEnd = 0 ∧
        ∀ x ∈ (b.ch 0).graft.bistRows, b.poolLeft 0 x.1 ≠ 0 ∧ x.1 ≠ 3) := by
  decide +kernel

theorem wit_GraftReplacesElements :
    let p := fun k => act.cs 0 .GRAFT_CTL_POLICY k
    let w := fun (k : Nat) (x : Swap) => (p k).updGraft 0 fun g => { g with swap := some x }
    let rq : Swap := ⟨3, 5, 1, false, false, false, false⟩
    let rec' : Swap := ⟨3, 5, 1, true, true, false, false⟩
    let com : Swap := ⟨3, 5, 1, true, false, true, false⟩
    let ex := (w 2 ⟨0, 5, 1, false, false, false, false⟩).updGraft 0 fun g => { g with exhausted := [(0, 5)] }
    let exo := { ex with otp := { ex.otp with subst := ex.otp.subst.set 0 (List.replicate 4 ⟨0, 0, 0⟩) } }
    let rc := w 1 com
    let rco := { rc with otp := { rc.otp with subst := rc.otp.subst.set 0 [⟨3, poolBase 0 3, 5⟩] } }
    (act.powered 0 = true ∧ (act.ch 0).graft.wear = [] ∧ (act.ch 0).graft.run = none ∧ (act.ch 0).graft.swap = none ∧
      act.working 0 3 5 = true ∧ (3, 5) ∉ (act.ch 0).graft.denied ∧ (p 2).policy 0 ≠ 1 ∧ (p 1).policy 0 = 1 ∧ (p 1).poolLeft 0 3 ≠ 0 ∧
      swapSub (act.ch 0).sub = true ∧ act.power.warn = []) ∧
    (act.arrives .sideband 0 .calg ∧ (act.ch 0).posted = [] ∧ act.policy 0 ≠ 2) ∧
    ((w 2 rq).arrives .sideband 0 .calg ∧ (w 2 rq).policy 0 = 2 ∧ ((w 2 rq).ch 0).graft.swap = some rq ∧
      rq.running = false ∧ (w 2 rq).poolLeft 0 3 ≠ 0 ∧ (w 2 rq).swapFree 0 = true ∧
      swapSub (withCh 0 fun x => { x with sub := .training }).chans[0].sub = false) ∧
    (exo.policy 0 = 2 ∧ exo.poolLeft 0 0 = 0 ∧ (0, 5) ∈ (exo.ch 0).graft.exhausted ∧ exo.arrives .sideband 0 .calg) ∧
    (act.working 0 (bits (0x5300#32).toNat 11 8) (bits (0x5300#32).toNat 27 12) = true ∧ act.retired 0 3 5 = false ∧
      act.working 0 (bits (0xFFFFF00#32).toNat 11 8) (bits (0xFFFFF00#32).toNat 27 12) = false) ∧
    (((w 1 rec').ch 0).graft.swap = some rec' ∧ rec'.recording = true ∧ com.recording = false ∧ rec'.committed = false ∧
      com.committed = true ∧ rco.powered 0 = true ∧
      (rco.otp.subst[0].find? fun r => r.pool = com.pool && r.old = com.elem) = some ⟨3, poolBase 0 3, 5⟩) ∧
    (act.cg 0 .GRAFT_LIFEWARN_HRS ≤ (act.cs 0 .GRAFT_LIFE_HOURS 0xFFFF).cg 0 .GRAFT_LIFE_HOURS ∧
      ((act.ch 0).graft.hist.toList.getD 4 []).length < 8) := by delta State.arrives; decide +kernel

/-- `act` in Safe, the gate open. -/
def safe : State := (inMode .safe .none none).ds .KEYGATE_OPEN 1

theorem wit_CommandsOfFaultCollection :
    let src := act.cs 31 .FLT_LIVE_LIVE 0xFFF
    let recd := src.cs 31 (.FLT_FIRST_REC 0) (2 ^ 31 + (SrcId.ch 31 11).num)
    let hold := src.updCh 31 fun x => { x with stuckOff := true }
    let dr := act.ds (.FC_FIRST_REC 0) (2 ^ 31)
    let sv := (inMode .service .none none).ds .KEYGATE_OPEN 1
    let qu := safe.updCh 3 fun x => { x with sub := .quarantine }
    (src.servicesUp = true ∧ src.levelHolds (.chan 31 11) = false ∧ src.live (.ch 31 11) = true ∧
      hold.levelHolds (.chan 31 9) = true ∧ act.levelHolds (.dev 17) = false) ∧
    (recd.recValid (.ch 31) = true ∧ recd.recSrc (.ch 31) = (SrcId.ch 31 11).num ∧ (recd.ch 31).firstRead = false ∧
      recd.levelHolds (.chan 31 11) = false ∧ recd.live (.ch 31 11) = true ∧
      (recd.cs 31 (.FLT_SRC_STICKY 11) 1).cb 31 (.FLT_SRC_STICKY (11 : Fin 12).val) = true ∧
      (11 : Fin 12).val ∉ (recd.ch 31).statRead) ∧
    (recd.arrives .sideband 31 .fault ∧ (recd.ch 31).posted = [] ∧ (1#32).getLsbD 0 = true ∧
      act.recValid (.ch 31) = false ∧ (recd.cg 31 .CHPWR_VOTE_CLIENTS).testBit 3 = false ∧
      ((recd.cs 31 .CHPWR_VOTE_CLIENTS 8).cg 31 .CHPWR_VOTE_CLIENTS).testBit 3 = true ∧ (recd.ch 31).sub ≠ .quarantine) ∧
    (act.arrivesDev .sideband .canopy ∧ act.recValid .dev = false ∧ dr.recValid .dev = true ∧
      act.gateOpen = false) ∧
    (safe.arrivesDev .sideband .canopy ∧ safe.gateOpen = true ∧ (1#32).getLsbD 1 = false ∧
      safe.power.mode = .safe ∧ safe.recValid .dev = false ∧
      ((List.range 18).all fun i => !safe.live (.dev i)) = true ∧ (qu.ch 3).sub = .quarantine ∧ (qu.ch 3).pst = .on ∧
      qu.heldBy (.ch 3) = false ∧ (qu.cs 3 (.FLT_FIRST_REC 0) (2 ^ 31 + 2 ^ 22)).recValid (.ch 3) = true) ∧
    (sv.arrivesDev .sideband .canopy ∧ sv.power.mode = .service ∧ sv.gateOpen = true ∧ (2#32).getLsbD 0 = false) := by
  delta State.arrives State.arrivesDev; decide +kernel

theorem wit_CommandsOfFaultCollection_events :
    let run := act.ds .FC_CMD_SMBIST 1
    let off := inMode .standby .none none
    (act.cyc = CycSt.none ∧ act.db .FC_CMD_SMBIST = false ∧ run.db .FC_CMD_SMBIST = true) ∧
    (act.heartOn = true ∧ off.heartOn = false ∧ act.servicesUp = true ∧ off.servicesUp = true ∧ act.pd34 = true ∧ off.pd34 = false) ∧
    (let c3 := act.ds (.FC_CLASS_CLASS 0) 0xFFFFFFFF;
      c3.classOfSrc (.dev 15) = 3 ∧ c3.mergeHome (.dev 15) 3 = none ∧ c3.power.mode ≠ .off ∧
        c3.power.mode ≠ .lockedOut ∧ (c3.ch 31).pst = .on ∧ (c3.ch 31).posted = [] ∧
        ((c3.updCh 31 fun x => { x with posted := [⟨.mdio, 0, 0, none⟩] }).ch 31).posted ≠ []) := by decide +kernel

theorem wit_ManagementFramesAndBoundaryScan :
    let on := act.ds .MGMT_MDCTL_EN 1
    let port := fun f : MdPort → MdPort => { on with mgmt := ⟨on.mgmt.ports.set 31 (f on.mgmt.ports[31])⟩ }
    let at' := fun (d : Fin 32) (r : Nat) => port fun p => { p with addrs := p.addrs.set d.val r }
    let busy := port fun p => { p with busy := true, hi := 1 }
    let gone := on.ds .CLK_SVCEN_ID 0
    ((act.ds .MGMT_MDCTL_EN 0).mdOn = false ∧ on.mdOn = true ∧ on.dg .MGMT_MDERR_COUNT < m32) ∧
    (mdReg 31 7 0x200 = none ∧ mdReg 31 31 4 = some (.win 4) ∧ mdReg 31 31 0xCA05 = some (.plca 5) ∧
      (on.ch 31).posted = [] ∧ on.mdOk 31 (.plca 5) = true ∧ gone.mdOk 31 .id1 = false ∧ mdReg 31 1 2 = some .id1) ∧
    (mdReg 31 3 ((at' 3 0).mgmt.ports[31].addrs.toList.getD 3 0) = some .pcs1 ∧ (0x4000#16).getLsbD 15 = false ∧
      (at' 3 0).busUp true = true ∧ (at' 3 0).chanOk 31 .pcs = true ∧ ((at' 3 0).ch 31).closing = false) ∧
    (∀ k : Fin 4, mdReg 31 31 ((at' 31 k.val).mgmt.ports[31].addrs.toList.getD 31 0) = some (.win ⟨k.val, by omega⟩)) ∧
    (on.mgmt.ports[31].busy = false ∧ (on.ds .MGMT_MDLOCK_NAT_EN 0).natRefused 0 = true ∧
      ((on.ds .MGMT_MDLOCK_NAT_EN 1).ds .MGMT_MDLOCK_NAT_SVC 1).natRefused 0 = false ∧
      busy.mgmt.ports[31].busy = true ∧ busy.servicesUp = true) ∧
    ({ on.mgmt.ports[31] with autoinc := true }.autoinc = true ∧ on.mgmt.ports[31].addr + 4 < 2 ^ 32) ∧
    (State.reset.tapUp = false ∧ act.tapUp = true ∧ (inMode .service .none none).power.mode = .service ∧
      (inMode .service .none none).pd37 = true ∧ act.pd37 = false) := by decide +kernel

/-! ### Well-formedness refuses what a command cannot carry -/

/-- An access of the sideband that carries no fault. -/
def acc (a : Nat) (size : Nat := 4) (src : Src := .sideband) : Access := ⟨src, false, BitVec.ofNat 32 a, 0, size⟩

theorem wf_examples : (Instr.addi 0).wf = true ∧ (Instr.supplyWarnStart 5 8191).wf = true ∧ (Instr.satBlockEnd 0 1024).wf = true ∧
    (Instr.collision 31 600 (some 8191)).wf = true ∧ (Instr.todSet (ngT 8 1 16)).wf = true ∧
    (Instr.registerWrite (acc 3 4095) ⟨[acc 0 4 .prog], [⟨4, 31, .add 1⟩], true, false, false, false, false, false⟩).wf = true ∧
    (Instr.rcCounterRead .sideband 0#32 4 0 [{ acc 4 4 .mdio with rd := true }]).wf = true := by decide

theorem wf_power : (Instr.supplyWarnStart 0 8192).wf = false ∧ (Instr.supplyWarnEnd 0 8192).wf = false ∧
    (Instr.supplyReset 0 8192 false).wf = false ∧ (Instr.vsupBrownOut 8192).wf = false ∧
    (Instr.svcMemEccError 0 (2 ^ 32)).wf = false ∧ (Instr.canopyRamEccError (2 ^ 32)).wf = false ∧
    (Instr.smbistDone 0 (2 ^ 32)).wf = false := by decide

theorem wf_accesses : (Instr.rcCounterRead .sideband 2#32 4 0 []).wf = false ∧ (Instr.rcCounterRead .sideband 0#32 4 (2 ^ 32) []).wf = false ∧
    (Instr.rcCounterRead .sideband 0#32 4096 0 []).wf = false ∧ (Instr.registerWrite (acc 0 4096) Along.none).wf = false ∧
    (Instr.registerWrite (acc 0 2 .prog) Along.none).wf = false ∧
    (Instr.registerWrite (acc 0) { Along.none with others := [acc 0 4096] }).wf = false ∧
    ([⟨2, 0, .set⟩, ⟨0, 32, .clr⟩, ⟨0, 0, .add (2 ^ 32)⟩, ⟨0, 0, .put (2 ^ 32)⟩] : List HwUpd).all (fun u =>
      !(Instr.postedWriteLand 0 { Along.none with hw := [u] }).wf) = true := by decide

theorem wf_line : (Instr.satBlockEnd 0 1025).wf = false ∧ (Instr.fecCodewordDecode 0 (some 23)).wf = false ∧
    (Instr.alignmentSearch 0 258).wf = false ∧ (Instr.oamFieldReceive 0 (List.replicate 127 0)).wf = false ∧
    (Instr.probeDwellEnd 0 (List.replicate 65 0)).wf = false ∧ (Instr.collision 31 0 (some 8192)).wf = false ∧
    (Instr.beaconReceive 31 8192).wf = false ∧
    (([⟨[⟨0, 1024, 0⟩], 0, 0, 0, [], none⟩, ⟨[], 65, 0, 0, [], none⟩, ⟨[], 0, 64, 0, [], none⟩, ⟨[], 0, 0, 0, [], some 8192⟩] :
      List BlockIn).all fun b => !(Instr.updateBlockBoundary 0 b).wf) = true := by decide

theorem wf_line_lengths : (Instr.updateBlockBoundary 0 ⟨[], 0, 0, 0, List.replicate 8193 0, none⟩).wf = false ∧
    (Instr.diagRunComplete 0 (List.replicate 16385 []) false).wf = false ∧
    (Instr.diagRunComplete 0 [List.replicate 16385 0] false).wf = false := by decide +kernel

theorem wf_frames : (Instr.ctxUpdate .sideband 0 4096 0).wf = false ∧ (Instr.ctxDelete .sideband 0 4096).wf = false ∧
    (Instr.ctxRead .sideband 0 4096).wf = false ∧ (Instr.meterRefresh 0 4096).wf = false ∧
    (Instr.egressFrameStart 0 (some ⟨4096, true, 0⟩)).wf = false ∧
    (Instr.ingressFrameReceive 0 { fr 60 with ecc := some ⟨4096, false, 0⟩ }).wf = false ∧
    (Instr.ingressFrameReceive 0 { fr 60 with cws := 145 }).wf = false ∧
    (Instr.ingressFrameReceive 0 { fr 60 with mv := 8192 }).wf = false ∧
    (Instr.ingressFrameReceive 0 (fr 65536)).wf = false := by decide +kernel

/-- A message of another type, and one whose body is longer than its LENGTH. -/
def badNg (typ : Nat) : List NgMsg := [ngT (typ % 9 + 1) 1 0, { ngT typ 1 0 with body := [0] }]

theorem wf_messages : ([(1, Instr.nguidFrameStart), (2, .nguidFrameCont), (3, .nguidFrameEnd), (5, .nguidCreditGrant),
    (6, .nguidCreditReturn), (7, .nguidCreditResync), (8, .todSet), (9, .controlFlush), (9, .controlMbox), (9, .controlSnap),
    (9, .controlUnknownCode)].all fun x => (badNg x.1).all fun m => !(x.2 m).wf) = true ∧
    (Instr.nguidTypeError (ngT 15 1 512)).wf = false := by decide +kernel

theorem wf_calibration : (Instr.calRref .sideband (meas (2 ^ 32))).wf = false ∧
    (Instr.calVref .sideband { meas 0 with calR := 2 ^ 32 }).wf = false ∧
    (Instr.calgHyb .sideband 0 { meas 0 with calV := 2 ^ 32 }).wf = false ∧
    (Instr.calgAmp .sideband 0 { meas 0 with calVpp := 2 ^ 32 }).wf = false ∧
    (Instr.calgRxg .sideband 0 (meas (2 ^ 32))).wf = false ∧ (Instr.calComplete none 65536 0 0).wf = false ∧
    (Instr.calComplete none 0 (-32769) 0).wf = false ∧ (Instr.calComplete none 0 0 65536).wf = false ∧
    (Instr.bistComplete 0 ⟨0, [4096], []⟩).wf = false ∧ (Instr.bistComplete 0 ⟨0, [], [4096]⟩).wf = false ∧
    (Instr.sliceCalUpdate 0 96 0 0 0 none).wf = false ∧ (Instr.wearUpdate 0 [⟨0, 1024, 1, 0, 0, false⟩]).wf = false ∧
    (Instr.wearUpdate 0 [⟨0, 0, 0, 0, 0, false⟩]).wf = false := by decide

/-! ### Addresses (the worked examples after R402 and before R385) -/

theorem test_addresses : tgtAt 0x01E58048 = .chan 14 .diag .clr 0x48 ∧ tgtAt 0x04581000 = .ctx 11 0x1000 ∧
    0x1000 / 128 = 32 ∧ 32 / (ctxCount 11 / 4) = 0 ∧ winAddr 4 0x20024 = 0x01420024 ∧
    tgtAt 0x01420024 = .chan 4 .dsp .plain 0x24 ∧ tgtAt 0x010A0028 = .pram 0 0x28 := by decide +kernel

/-! ### Instruction words (the worked disassembly after R201) -/

theorem test_words :
    pw 0x19 0 0 8 = 0x64000008#32 ∧ ww 0x1C 0x16 0x1E848 = 0x7059E848#32 ∧ iw 0x10 0 0 0x3FFFE = 0x4003FFFE#32 ∧
    pw 0x18 2 0 10 = 0x6080000A#32 ∧ iw 5 3 2 4 = 0x14C80004#32 ∧ iw 0x10 14 0 0x3FFF6 = 0x4383FFF6#32 ∧
    aw 0 0 7 6 0xB = 0x001D8B00#32 ∧ aw 3 0 8 7 1 = 0x0C21C100#32 ∧ iw 9 0 0 0 = 0x24000000#32 := by decide

theorem test_words_decode :
    (mnOf 0x64000008#32 = some .pwr ∧ fPort 0x64000008#32 = 0 ∧ fIndex 0x64000008#32 = 8) ∧
    (mnOf 0x7059E848#32 = some .wait ∧ fMask 0x7059E848#32 = 0x16 ∧ fTime 0x7059E848#32 = 125000) ∧
    (mnOf 0x4003FFFE#32 = some .br ∧ fCond 0x4003FFFE#32 = 0 ∧ fImm 0x4003FFFE#32 = -2) ∧
    (mnOf 0x6080000A#32 = some .prd ∧ fD 0x6080000A#32 = 2 ∧ fIndex 0x6080000A#32 = 10) ∧
    (mnOf 0x14C80004#32 = some .andi ∧ fD 0x14C80004#32 = 3 ∧ fA 0x14C80004#32 = 2 ∧ fImm 0x14C80004#32 = 4) ∧
    (mnOf 0x001D8B00#32 = some .cmp ∧ fA 0x001D8B00#32 = 7 ∧ fB 0x001D8B00#32 = 6) ∧
    (mnOf 0x0C21C100#32 = some .post ∧ fA 0x0C21C100#32 = 8 ∧ fB 0x0C21C100#32 = 7) ∧
    (mnOf 0x24000000#32 = some .movh ∧ legal .movh 0x24000000#32 = true) := by decide

theorem test_words_each :
    ([aw 0 1 2 3 1, aw 0 1 2 3 2, aw 0 1 2 3 3, aw 0 1 2 3 4, aw 0 1 2 3 5, aw 0 1 2 3 6, aw 0 1 2 3 7, aw 0 1 2 3 8,
      aw 0 1 2 3 9, aw 0 1 2 0 10, aw 0 1 2 0 12, aw 1 1 2 3 0, aw 1 1 2 3 1, aw 1 1 0 0 2, aw 1 1 2 3 3, aw 2 1 2 0 0,
      aw 3 0 1 0 0, aw 3 0 0 0 2, aw 3 0 0 0 3].map mnOf) = [Mn.sub, .and, .or, .xor, .shl, .shr, .sar, .min, .max, .abs,
      .mov, .mac, .msu, .clra, .rda, .tset, .raise, .commit, .halt].map some ∧
    ([iw 4 1 2 3, iw 6 1 2 3, iw 7 0 2 3, iw 8 1 0 3, iw 0xA 1 2 4, iw 0xB 1 2 4, iw 0xC 0 1 2, iw 0xD 0 0 1, iw 0xE 0 0 1,
      iw 0x11 14 0 1, iw 0x12 14 0 0, ww 0x1D 1 0, ww 0x1E 1 0].map mnOf) = [Mn.addi, .ori, .cmpi, .movi, .ld, .st, .loop,
      .vote, .unvote, .call, .ret, .frz, .thw].map some := by decide

/-! ### One step each, with results from the spec's worked examples -/

/-- What a command leaves, or the state it met. -/
def after (i : Instr) (s : State) : State :=
  match exec i s with
  | .next t => t
  | .fault _ | .refused _ => s

/-- `li s1, 0x01238ABC` (the worked example after R201): movi, then movh. -/
theorem test_li : (after (.movi 0) (prog 0 (iw 8 1 0 0x8ABC))).sReg 0 1 = 0x00008ABC#32 ∧
    (after (.movh 0) (prog 0 (iw 9 1 0 0x0123) fun q => { q with s := q.s.set 1 0x8ABC#32 })).sReg 0 1 = 0x01238ABC#32 := by
  decide +kernel

/-- abs of the most negative number (R191), an arithmetic shift, and the flags of a subtraction that borrows. -/
theorem test_arith :
    (after (.abs 0) (prog 0 (aw 0 1 2 0 10) fun q => { q with s := q.s.set 2 0x80000000#32 })).sReg 0 1 = 0x7FFFFFFF#32 ∧
    (after (.sar 0) (prog 0 (aw 0 1 2 3 7) fun q => { q with s := (q.s.set 2 0x80000000#32).set 3 0x24#32 })).sReg 0 1 =
      0xF8000000#32 ∧
    ((after (.cmp 0) (prog 0 (aw 0 0 1 2 11) fun q => { q with s := q.s.set 2 1#32 })).ch 0).seq.c = true := by
  decide +kernel

/-- Steps 1, 6 and 7 of the meter example after R213. -/
theorem test_meter :
    let m : Meter := { ctx0.meter with cir := 3277, cbs := 3000, ct := 196608000 }
    (m.run 0 1000 false) = (.green, { m with ct := 131072000 }) ∧
    ({ m with ct := 8000, last := 40000 }.run 50000 1000 false) = (.red, { m with ct := 32778000, last := 50000 }) ∧
    ({ m with ct := 32778000, last := 50000 }.run 60000 1000 false) = (.green, { m with ct := 12000, last := 60000 }) := by
  decide +kernel

/-- The worked example after R264: a wrong key, the key, a write through the open gate, and one through the closed. -/
theorem test_keygate :
    let a := after (.keygateWrite .sideband 0xA5C30F69#32) act
    let b := after (.keygateWrite .sideband 0xA5C30F96#32) a
    let c := after (.registerWrite ⟨.sideband, false, 0x00070000#32, 0, 4⟩ Along.none) b
    let d := after (.registerWrite ⟨.sideband, false, 0x00070000#32, 1, 4⟩ Along.none) c
    (a.dg .KEYGATE_FAILS = 1 ∧ a.dg .INTEG_EVT_KEY_FAIL = 1 ∧ a.dg .KEYGATE_OPEN = 0) ∧
    (b.dg .KEYGATE_OPEN = 1 ∧ b.dg .KEYGATE_FAILS = 0) ∧ (c.dg .INTEG_CTL_MM_REACT = 0 ∧ c.dg .KEYGATE_OPEN = 0) ∧
    (d.dg .INTEG_CTL_MM_REACT = 0 ∧ d.dg .INTEG_LOCKVCNT_COUNT = 1 ∧ d.db (.FC_SRC_STICKY 6) = true) := by decide +kernel

/-- Step 1 of the worked example after R343: source 21 of T1 with kind 1, class 2, and the channel reset as reaction. -/
theorem test_first_record :
    let s := ((lnk 1 .up .up 5).ds .CLK_PLLSTAT_LOCK 2).cs 1 .FLT_CFG_C2ACT 1
    let t := after (.pllLockLoss (.channel 1)) s
    t.recValid (.ch 1) = true ∧ t.recSrc (.ch 1) = 21 ∧ t.recClass (.ch 1) = 2 ∧
      t.cg 1 .FLT_FIRSTCNT_COUNT = 1 ∧ (t.cg 1 .CHPWR_VOTE_CLIENTS).testBit 3 = true ∧ t.recValid .dev = false := by decide +kernel

/-- 24.5 dB in 25GBASE-T1 lies in SQI 5 (the worked example before R385). -/
theorem test_sqi : sqiCand 6 392 = 5 := by decide

/-- A word written through the CLR alias to a read-only register changes nothing and is no error (the example after R402). -/
theorem test_read_only :
    let t := after (.postedWriteLand 14 Along.none) (after (.registerWrite ⟨.sideband, false, 0x01E58048#32, 0xFFFFFFFF#32, 4⟩ Along.none) act)
    t.bus = ⟨0, false⟩ ∧ (t.ch 14).posted = [] ∧ t.cg 14 .DIAG_RES_RES_ACC = act.cg 14 .DIAG_RES_RES_ACC := by decide +kernel

/-- The distance of the worked example after R142, and the hours of the one after R138. -/
theorem test_distance : (((act.cs 6 .DIAG_CFG_VF 660).cs 6 .DIAG_CFG_REFPL 180).distOf 6 6 ⟨11204, 10, 0⟩).1 = 7847 ∧
    predict ((List.range 16).map fun i => (4096 * i, 113 + (i : Int))) (15 * 4096) 307 = 203 := by decide +kernel

/-- Steps 1 and 6 of the worked example after R290: VCORE's levels at OP1, and the record of a dip to 741 mV of 8 us. -/
theorem test_supply :
    let s := { act with now := 225, power := { act.power with warn := [1], dip := some ⟨1, 745, 25, false⟩ } }.ds .PWR_OP_STAT_OP 1
    let t := after (.supplyWarnEnd 1 741) s
    s.warnLevel 1 = 7520 ∧ s.resetLevel 1 = 7200 ∧ t.dg .TAP_DIPLOG_RAIL = 1 ∧ t.dg .TAP_DIPLOG_MIN_MV = 741 ∧
      t.dg .TAP_DIPDUR_US = 8 ∧ t.dg .PWR_EVT_DIP_END = 1 := by decide +kernel

/-- Steps 3 and 4 of the worked example after R323: spare 64 for slice 23 of T5, and the pool's use after its record. -/
theorem test_swap :
    let s := act.updGraft 5 fun g => { g with swap := some ⟨0, 23, 1, true, true, false, false⟩ }
    let t := after (.graftRecordDone 5 none) s
    t.otp.subst[5] = [⟨0, 64, 23⟩] ∧ s.poolUsed 5 0 = 0 ∧ t.poolUsed 5 0 = 1 := by decide +kernel

/-- The bytes of a number written in hexadecimal, most significant first. -/
def hexN (n v : Nat) : List Byte := (leN n v).reverse

/-- The message "abc" of FIPS 180-4, and the first vector of RFC 8032 (an empty message). -/
theorem test_sha512 : sha512 [0x61, 0x62, 0x63] = hexN 64
    0xddaf35a193617abacc417349ae20413112e6fa4e89a97ea20a9eeee64b55d39a2192992a274fc1a836ba3c23a3feebbd454d4423643ce80e2a9ac94fa54ca49f := by
  decide +kernel

theorem test_ed25519 : edSign (hexN 32 0x9d61b19deffd5a60ba844af492ec2cc44449c5697b326919703bac031cae7f60) [] = hexN 64
    0xe5564300c360ac729086e2cc806e828a84877f1eb8e5d974d873e065224901555fb8821590a33bacc61e39701cf9b46bd25bf5f0595bbe24655141438e7a100b := by
  decide +kernel

/-! ### Further forms of the hypotheses above -/

theorem wit_ModeRequestsMoveThePart_forms :
    let s := ((((withCh 0 fun x => { x with sub := .maint }).updCh 1 fun x => { x with sub := .sleep }).updCh 2 fun x =>
      { x with sub := .quarantine, pst := .poweringUp }).updCh 3 fun x => { x with pst := .off, sub := .off }).updCh 4 fun x =>
      { x with sub := .up, link := { x.link with st := .up } }
    let u := s.updCh 31 fun x => { x with sub := .up, seg := { x.seg with st := .up } }
    let p := withCh 31 fun x => { x with posted := [⟨.mdio, 0, 0, none⟩] }
    (u.arrivesDev .sideband .pwr ∧ u.power.mode = .active ∧ u.power.chg = .none ∧ u.powered 3 = false ∧ u.powered 0 = true ∧
      (u.ch 0).sub = .maint ∧ (u.ch 1).sub = .sleep ∧ (u.ch 4).sub = .up ∧ u.linkLive 4 = true ∧ isSeg 4 = false ∧
      u.linkLive 31 = true ∧ isSeg 31 = true ∧ (u.ch 4).queue.line = none ∧ (u.ch 2).pst = .poweringUp) ∧
    ((inMode .active .stbyReady none).arrivesDev .sideband .pwr ∧ (inMode .active .stbyReady none).power.mode = .active ∧
      (inMode .active .stbyReady none).power.chg = .stbyReady) ∧
    ((inMode .safe .none none).arrivesDev .sideband .pwr ∧ (inMode .safe .none none).power.mode ≠ .active ∧
      (inMode .safe .none none).power.mode ≠ .standby) ∧
    (p.arrivesDev .sideband .pwr ∧ p.power.mode = .active ∧ p.power.wakeNow = false ∧ (p.ch 31).posted ≠ [] ∧
      (inMode .active .service none).power.chg ≠ .none) := by delta State.arrivesDev; decide +kernel

theorem wit_PowerAndTemperature_forms :
    let hp : State := { act with otp := { act.otp with grade := 1 } }
    let hh : State := { hp with power := { hp.power with hot := true } }
    let mean := fun (s : State) (q : Int) => (((q :: s.power.temps).take 10).sum, (((q :: s.power.temps).take 10).length : Int))
    (act.power.chg ≠ .stbyReady ∧ (act.ds .TAP_WAKEEN_PIN 0).db .TAP_WAKEEN_PIN = false ∧ (inMode .lockedOut .none none).power.mode = .lockedOut ∧
      act.power.mode ≠ .lockedOut) ∧
    (act.monitored 1 = true ∧ act.power.warn.contains (1 : Fin 6).val = false ∧ 100 * 10 < act.warnLevel 1 ∧
      act.servicesUp = true ∧ act.powered 31 = true) ∧
    (hp.servicesUp = true ∧ hp.otp.grade = 1 ∧ hp.power.hot = false ∧ 500 * (mean hp 601).2 < (mean hp 601).1 ∧
      600 * (mean hp 601).2 < (mean hp 601).1 ∧ (mean hp 600).1 ≤ 600 * (mean hp 600).2 ∧ hp.live (.dev 4) = false) ∧
    (hh.servicesUp = true ∧ hh.power.hot = true ∧ (mean hh 500).1 ≤ 500 * (mean hh 500).2) ∧
    ({ act with otp := { act.otp with grade := 0 } }.otp.grade ≠ 1 ∧ 500 * (mean act 501).2 < (mean act 501).1) := by decide +kernel

theorem wit_ChannelResetIsTakenAndEnds_forms :
    let v := (act.cs 5 .CHPWR_VOTE_HOST 0).cs 5 .CHPWR_VOTE_CLIENTS 1
    let d := withCh 5 fun x => { x with closing := true, pst := .draining }
    let r := withCh 5 fun x => { x with closing := true }
    (v.arrives .sideband 5 .chpwr ∧ (v.ch 5).posted = [] ∧ (v.ch 5).sub ≠ .off ∧ (v.ch 5).pst = .on ∧
      v.power.mode = .active ∧ v.power.chg = .none ∧ v.cg 5 .CHPWR_VOTE_HOST = 0 ∧ v.cg 5 .CHPWR_VOTE_CLIENTS = 1) ∧
    ((d.ch 5).closing = true ∧ (d.ch 5).pst = .draining) ∧ ((r.ch 5).closing = true ∧ (r.ch 5).pst = .on) := by
  delta State.arrives; decide +kernel

theorem wit_KeygateOpensAndCloses_classes :
    (16 * (1 : Fin 8).val + 1 < 18 ∧ ¬ 16 * (1 : Fin 8).val + 2 < 18 ∧ (allowedCls 2).1 ≤ 3 ∧ 3 ≤ (allowedCls 2).2) ∧
    ¬ 3 ≤ (allowedCls 0).2 := by decide

theorem wit_Sequencer_forms :
    let zf := fun q : SeqSt => { q with z := true }
    let w8 := prog 0 0 fun q => { q with st := .waiting, wait := some (255, 1), wdog := 1048574 }
    let due := fun st => prog 3 0 fun q => { q with st := st, wdog := 1048575 }
    (∀ p ∈ [(Mn.br, iw 0x10 1 0 5), (Mn.call, iw 0x11 1 0 5), (Mn.ret, iw 0x12 1 0 0)],
      (p.1 = .br ∨ p.1 = .call ∨ p.1 = .ret) ∧ (prog 0 p.2 zf).issues 0 p.1 p.2 ∧
        condHolds (fCond p.2) true false false false = false) ∧
    ((capProg 0 (pw 0x19 1 2 0)).romRuns 0 = none ∧ ((capProg 0 (pw 0x19 1 2 0)).cs 0 .SEQ_IMG_SRC 1).romRuns 0 ≠ none ∧
      ((capProg 0 (pw 0x19 1 2 0)).cs 0 .SEQ_IMG_SRC 1).issues 0 .pwr (pw 0x19 1 2 0)) ∧
    ((w8.ch 0).seq.wait = some (255, 1) ∧ w8.evPend 0 &&& 255 = 0 ∧
      (w8.ch 0).seq.wdog + 1 < max 1024 (w8.cg 0 .SEQ_WDOG_PERIOD)) ∧
    (∀ q ∈ [QState.running, .waiting], (due q).arrives .sideband 3 .seq ∧ ((due q).ch 3).posted = [] ∧
      ((due q).ch 3).seq.st = q ∧ (due q).clocked 3 .seq = true ∧ (due q).insn 3 = some 0 ∧
      max 1024 ((due q).cg 3 .SEQ_WDOG_PERIOD) ≤ ((due q).ch 3).seq.wdog + 1) := by
  delta State.issues State.arrives; decide +kernel

theorem wit_Bus_forms :
    let o := { act with clock := { act.clock with okA := true, okB := true } }.ds .KEYGATE_OPEN 1
    let i : FInfo := DFld.FC_INTEN_CLS.info
    let a := devAddr .canopy 0x20
    ((acc 0x10010).rd = false ∧ act.srcOk .mdio (tgtAt (0x10010#32).toNat) = true ∧ asksReset (acc 0x10010) = false ∧
      (inMode .standby .none none).srcOk .mdio (tgtAt (winAddr 31 0x30008)) = false) ∧
    (o.cyc = CycSt.none ∧ o.busUp true = true ∧ o.devOk .pwr = true ∧ o.db .KEYGATE_OPEN = true ∧ o.resettable = true ∧
      (1#32).toNat.testBit 0 = true ∧ o.clock.okA = true ∧ o.clock.okB = true) ∧
    (touches [(a, 2 ^ i.lsb)] ⟨BitVec.ofNat 32 a, i.lsb, .put 1⟩ i = true ∧
      touches [] ⟨BitVec.ofNat 32 a, i.lsb, .put 1⟩ i = false) ∧
    (act.srcOk .sideband (.chan 31 .pcs .plain 8) = true ∧ act.retained = false ∧ Src.sideband ≠ .mdio) := by decide +kernel

theorem wit_Line_forms :
    let m := lnk 0 .up .up 7 fun l => { l with carry := [LinkMsg.build 0x12 5 3 4 1 0] }
    let p := ((lnk 0 .up .up 2).cs 0 .AFE_CTL_ADC_EN 1).cs 0 .DSP_PROBE_EN 1
    let dw := fun n => p.updRx 0 fun r => { r with dwell := n }
    let tr := fun k v => lnk 0 .train .training 0 fun l => { l with typ := k, vnp := v }
    let st := (shiftable.updDsp 0 fun d => { d with stbyValid := true }).cs 0 .DSP_BANK_STBY_TYPE 7
    (m.oamOpen 0 = true ∧ (m.ch 0).link.carry ≠ [] ∧ (lnk 0 .up .up 7).oamOpen 0 = true ∧ ((lnk 0 .up .up 7).ch 0).link.carry = []) ∧
    (((dw 0).ch 0).rx.dwell * blockLen 0 < 2 ^ max 12 (min 24 ((dw 0).cg 0 .DSP_PROBE_DWELL)) ∧ (dw 0).dspRuns 0 = true ∧
      2 ^ max 12 (min 24 ((dw (2 ^ 24)).cg 0 .DSP_PROBE_DWELL)) ≤ ((dw (2 ^ 24)).ch 0).rx.dwell * blockLen 0) ∧
    (act.classOfSrc (.ch 0 4) < act.classOfSrc (.ch 0 2) ∧
      (act.cs 0 .FLT_CLASS_CLASS 0x100).classOfSrc (.ch 0 2) < (act.cs 0 .FLT_CLASS_CLASS 0x100).classOfSrc (.ch 0 4)) ∧
    ((tr 2 false).trainable 0 = true ∧ (tr 7 true).trainable 0 = true ∧ (tr 7 false).trainable 0 = false ∧
      (tr 1 false).linkIn 0 .train = true ∧ (tr 9 false).trainable 0 = false) ∧
    (st.oamLive 0 = true ∧ st.clocked 0 .link = true ∧ (st.ch 0).dsp.stbyValid = true ∧
      st.cg 0 .DSP_BANK_STBY_TYPE ≠ msg5.target ∧ st.shiftBlock 0 msg5.target false false = 0) := by decide +kernel

theorem wit_SegmentsJoinShareAndRetry_forms :
    let u := fun n k => sgm .up .up fun g =>
      { g with nid := n, plcaOk := true, coord := decide (n = 0), ncnt := k, cycle := some 0, toTmr := 1, toT0 := 0 }
    let at' := fun (s : State) (n : Nat) => { s with now := n }
    let lost := fun s : State => s.ds .CLK_REFSTAT_REF_LOST 1
    let l : LineEg := ⟨0, ⟨0, [], 2, false⟩, none, none, none, none, none, 0, 0⟩
    let k := (u 1 8).updQ 31 fun q => { q with line := some l }
    (((lost (u 1 8)).segIn 31 .up = true ∧ (lost (u 1 8)).db .CLK_REFSTAT_REF_LOST = true ∧
      (lost (sgm .join .training id)).segIn 31 .join = true) ∧
      (u 1 8).db .CLK_REFSTAT_REF_LOST = false ∧ ((u 1 8).ch 31).seg.csma = false) ∧
    ((at' (u 0 1) 2).plcaDue 31 = false ∧ (at' (u 0 1) 3).plcaDue 31 = true ∧ ((u 0 1).ch 31).seg.cycle.isSome = true ∧
      ((u 0 1).ch 31).queue.line = none ∧ ((u 0 1).ch 31).seg.coord = true ∧
      ((u 0 1).ch 31).seg.ncnt ≤ (u 0 1).cg 31 .SEG_PLCASTAT_CUR_TO + 1 ∧ ((u 1 8).ch 31).seg.coord = false ∧
      (u 0 8).cg 31 .SEG_PLCASTAT_CUR_TO + 1 < ((u 0 8).ch 31).seg.ncnt) ∧
    (k.segIn 31 .up = true ∧ (k.ch 31).queue.line = some l ∧ (k.ch 31).seg.retry = false ∧ k.plcaRuns 31 = true ∧
      (k.ch 31).seg.csma = false ∧ (k.ch 31).seg.cycle.isSome = true ∧ (k.ch 31).seg.att < k.maxAtt 31) := by decide +kernel

theorem wit_DiagnosticsAndSleep_forms :
    let d := act.updDiag 0 fun d => { d with run := .process }
    let up := lnk 0 .up .up 2
    let tr := up.cs 0 .DIAG_CTL_TREND_EN 1
    let tc := ((lnk 0 .up .up 1).updLpi 0 fun l => { l with sleep := some ⟨true, 5, none⟩ }).cs 0 .LPI_STAT_SLP_PHASE 2
    let sl := ((lnk 0 .up .up 4).updLpi 0 fun l => { l with sleep := some ⟨true, 5, none⟩ }).cs 0 .LPI_STAT_SLP_PHASE 1
    let az := act.updCh 0 fun x => { x with sub := .sleep, lpi := { x.lpi with waking := true } }
    (d.clocked 0 .diag = true ∧ (d.ch 0).diag.run = .process ∧ (List.replicate 15 ([] : List Int)).length ≠ (d.cs 0 .DIAG_TDRCFG_AVG 4).avgBursts 0 ∧
      (List.replicate 16 ([] : List Int)).length = (d.cs 0 .DIAG_TDRCFG_AVG 4).avgBursts 0) ∧
    (tr.clocked 0 .diag = true ∧ tr.cb 0 .DIAG_CTL_TREND_EN = true ∧ (tr.ch 0).diag.closed = none ∧ tr.isrOk 0 = true ∧ isSeg 0 = false ∧
      ((tr.updDiag 0 fun d => { d with iv := { d.iv with up := true } }).ch 0).diag.iv.up = true ∧ (tr.ch 0).diag.iv.up = false) ∧
    (tc.clocked 0 .lpi = true ∧ tc.sleepDue 0 = true ∧ sl.lpiRuns 0 = true ∧ sl.sleepOpen 0 = true) ∧
    (az.clocked 0 .lpi = true ∧ az.lpiRuns 0 = true ∧ (az.ch 0).sub = .sleep ∧ (az.ch 0).lpi.waking = true ∧ isSeg 0 = false ∧
      az.power.mode = .active) := by decide +kernel

theorem wit_HostCalibrationAndGraft_forms :
    let run := fun k => act.updGraft 31 fun g => { g with run := some k }
    let rq : Swap := ⟨3, 5, 6, true, true, false, false⟩
    let b := (act.cs 0 .GRAFT_CTL_POLICY 1).updGraft 0 fun g => { g with run := some 8, rep := some rq, bistRows := [(4, 9)] }
    let s := act.updGraft 0 fun g => { g with swap := some rq }
    act.servicesUp = true ∧ (((run 8).ch 31).graft.run = some 8 ∧ ((run 8).ch 31).graft.rep = none) ∧
    ((b.ch 0).graft.request = some rq ∧ rq.recording = true ∧ (b.ch 0).graft.rep.isSome = true ∧
      (b.ch 0).graft.bistRows ≠ [] ∧ b.policy 0 ≠ 0 ∧ (b.ch 0).graft.bistEnd = 0 ∧
      (∀ x ∈ (b.ch 0).graft.bistRows, b.poolLeft 0 x.1 ≠ 0 ∧ x.1 ≠ rq.pool)) ∧
    ((s.ch 0).graft.request = some rq ∧ (s.ch 0).graft.rep = none ∧ s.swapRuns 0 = true ∧ act.swapRuns 0 = false) := by
  decide +kernel

theorem wit_FaultsAndManagement_forms :
    let recd := (act.cs 31 (.FLT_FIRST_REC 0) (2 ^ 31 + (SrcId.ch 31 11).num)).cs 31 .CHPWR_VOTE_CLIENTS 8
    let on := (inMode .standby .none none).ds .MGMT_MDCTL_EN 1
    let lo := (inMode .lockedOut .none none).ds .MGMT_MDCTL_EN 1
    let at' := fun (s : State) (r : Nat) => { s with mgmt := ⟨s.mgmt.ports.set 31 { s.mgmt.ports[31] with
      addrs := s.mgmt.ports[31].addrs.set 3 r }⟩ }
    let tap := { act with jtag := { act.jtag with trst := true } }
    (recd.recValid (.ch 31) = true ∧ (recd.cg 31 .CHPWR_VOTE_CLIENTS).testBit 3 = true ∧
      (recd.cs 31 .FLT_CFG_C2ACT 1).cb 31 .FLT_CFG_C2ACT = true ∧ (recd.cs 31 .FLT_CFG_C2ACT 0).cb 31 .FLT_CFG_C2ACT = false) ∧
    (on.mdOn = true ∧ on.power.mode = .standby ∧ mdReg 31 3 0 = some .pcs1 ∧ MdReg.isWin .pcs1 = false ∧ lo.mdOn = true ∧
      lo.power.mode = .lockedOut ∧ act.retained = false ∧ act.power.mode ≠ .lockedOut ∧ mdReg 31 3 ((0 + 2) % 65536) = none ∧
      mdReg 31 3 0 ≠ none ∧ mdReg 31 30 (0x8001 % 65536) ≠ some .pcs1 ∧
      ((at' act 1).mgmt.ports[31].addrs.toList.getD 3 0) = 1 ∧ mdReg 31 3 ((1 + 1) % 65536) = none) ∧
    (act.tapUp = true ∧ act.jtag.trst = false ∧ tap.jtag.trst = true ∧ ((act.ds .PWR_DBGVOTE_HOST 1).pd37 = true) ∧ act.pd37 = false ∧
      lo.power.mode = .lockedOut ∧ { act with now := 5 }.power.wakePin.2 ≠ { act with now := 5 }.now) := by decide +kernel

end Sys2Proof.Tests
end

section
namespace Sys2Proof.Machine

/-! ### What every step keeps -/

/-- What the part keeps from `s` to `t`, whatever happens between: a canonical register store stays canonical (R8), the
queue of waiting commands is the same, one-time programmable memory is not undone (R317, R346, R357), and a cycle that
holds nothing leaves nothing behind. -/
structure Evolves (s t : State) : Prop where
  regsOk : s.regsOk → t.regsOk
  pending : t.pending = s.pending
  otp : s.otp.onlyOn t.otp
  cyc : s.cyc = CycSt.none → t.cyc = CycSt.none

/-- A command answers a next state, which keeps what every step keeps. -/
def Runs (s : State) (o : Host.Outcome State Fault Refusal) : Prop := ∃ t, o = .next t ∧ Evolves s t

/-- As `Evolves`, for what an instruction of the link program comes to. A trap has had no effect. -/
def Completes (s : State) : Done → Prop
  | .trap _ => True
  | .next t _ | .jump t _ _ _ | .waits t => Evolves s t

/-! ### One-time programmable memory -/

theorem Otp.onlyOn_refl (o : Otp) : o.onlyOn o := by simp [Otp.onlyOn]

theorem Otp.onlyOn.trans {a b c : Otp} (hab : a.onlyOn b) (hbc : b.onlyOn c) : a.onlyOn c := by
  obtain ⟨hrev, hkey, hsub, hlanes, hvt, h1, h2, h3, h4, h5, h6⟩ := hab
  obtain ⟨krev, kkey, ksub, klanes, kvt, k1, k2, k3, k4, k5, k6⟩ := hbc
  exact ⟨fun k h => krev k (hrev k h), fun h => kkey (hkey h), fun c => (hsub c).trans (ksub c), hlanes.trans klanes,
    fun h => kvt (hvt h), k1.trans h1, k2.trans h2, k3.trans h3, k4.trans h4, k5.trans h5, k6.trans h6⟩

/-- A slot is written or revoked (R352, R353). -/
theorem Otp.onlyOn_keyOp {op k hash : Nat} (o : Otp) : o.onlyOn (o.keyOp op k hash) := by
  unfold Otp.keyOp
  split
  · refine ⟨fun i hi => ?_, (Otp.onlyOn_refl o).2⟩
    simp [Nat.testBit_or, hi]
  · exact Otp.onlyOn_refl o

/-- A rollback counter rises (R354). -/
theorem Otp.onlyOn_rbTo {cnt v : Nat} (o : Otp) : o.onlyOn (o.rbTo cnt v) := Otp.onlyOn_refl o

/-- The customer slots are blanked (R357). -/
theorem Otp.onlyOn_blank (o : Otp) : o.onlyOn o.blank := by
  obtain ⟨hrev, -, hrest⟩ := Otp.onlyOn_refl o
  exact ⟨hrev, fun h => by simp [Otp.blank, h], hrest⟩

/-- A vendor session is used (R368). -/
theorem Otp.onlyOn_vtest (o : Otp) : o.onlyOn { o with vtest := true } := by
  obtain ⟨hrev, hkey, hsub, hlanes, -, hrest⟩ := Otp.onlyOn_refl o
  exact ⟨hrev, hkey, hsub, hlanes, fun _ => rfl, hrest⟩

/-- A substitution is recorded (R317). -/
theorem Otp.onlyOn_subst (o : Otp) (c : Ch) (r : Subst) :
    o.onlyOn { o with subst := o.subst.set c.val (o.subst[c.val] ++ [r]) } := by
  obtain ⟨hrev, hkey, -, hrest⟩ := Otp.onlyOn_refl o
  refine ⟨hrev, hkey, fun d => ?_, hrest⟩
  by_cases h : c.val = d.val
  · simp [h]
  · simp [h]

/-- A lane repair is recorded (R230). -/
theorem Otp.onlyOn_lanes (o : Otp) (l : Bool × Nat) : o.onlyOn { o with lanes := o.lanes ++ [l] } := by
  obtain ⟨hrev, hkey, hsub, -, hrest⟩ := Otp.onlyOn_refl o
  exact ⟨hrev, hkey, hsub, List.prefix_append .., hrest⟩

/-! ### The register store -/

/-- A store without entries is canonical: every field reads its reset value. -/
theorem State.regsOk_of_nil {s : State} (h : s.regs = []) : s.regsOk := by
  simp [State.regsOk, h]

/-- Fields put back to their reset value leave the others as they were. -/
theorem State.regsOk_clearFields {s : State} (h : s.regsOk) (p : Fld → Bool) : (s.clearFields p).regsOk := by
  obtain ⟨hone, hfit⟩ := h
  exact ⟨hone.sublist (List.filter_sublist.map _), fun q hq => hfit q (List.mem_of_mem_filter hq)⟩

/-- A write takes the field's old entry out and, unless it is the reset value, puts in the value cut to the field's width. -/
theorem State.regsOk_wr {s : State} (h : s.regsOk) (f : Fld) (v : Nat) : (s.wr f v).regsOk := by
  obtain ⟨hone, hfit⟩ := h
  have hone' : ((s.regs.filter fun p => p.1 ≠ f).map Prod.fst).Nodup := hone.sublist (List.filter_sublist.map _)
  have hfit' : ∀ p ∈ s.regs.filter fun p => p.1 ≠ f, p.2 < 2 ^ p.1.info.wid ∧ p.2 ≠ p.1.reset :=
    fun p hp => hfit p (List.mem_of_mem_filter hp)
  by_cases hv : v % 2 ^ f.info.wid = f.reset
  · simpa only [State.regsOk, State.wr, hv, if_true] using ⟨hone', hfit'⟩
  · have hnew : f ∉ (s.regs.filter fun p => p.1 ≠ f).map Prod.fst := by simp
    simp only [State.regsOk, State.wr, hv, if_false, List.map_cons, List.nodup_cons, List.forall_mem_cons]
    exact ⟨⟨hnew, hone'⟩, ⟨Nat.mod_lt _ (Nat.two_pow_pos _), hv⟩, hfit'⟩

/-! ### The rules of `Evolves` -/

section
variable {s₀ s x y t : State} {c : Ch}

theorem Evolves.refl (s : State) : Evolves s s := ⟨id, rfl, Otp.onlyOn_refl _, id⟩

/-- A change of nothing that `Evolves` speaks of. -/
theorem Evolves.frame (h : Evolves s₀ x) (hregs : t.regs = x.regs) (hpend : t.pending = x.pending)
    (hotp : t.otp = x.otp) (hcyc : t.cyc = x.cyc) : Evolves s₀ t where
  regsOk h₀ := by simpa only [State.regsOk, hregs] using h.regsOk h₀
  pending := hpend.trans h.pending
  otp := hotp ▸ h.otp
  cyc h₀ := hcyc.trans (h.cyc h₀)

theorem Evolves.chans {v} (h : Evolves s₀ s) : Evolves s₀ { s with chans := v } := h.frame rfl rfl rfl rfl
theorem Evolves.power {v} (h : Evolves s₀ s) : Evolves s₀ { s with power := v } := h.frame rfl rfl rfl rfl
theorem Evolves.clock {v} (h : Evolves s₀ s) : Evolves s₀ { s with clock := v } := h.frame rfl rfl rfl rfl
theorem Evolves.canopy {v} (h : Evolves s₀ s) : Evolves s₀ { s with canopy := v } := h.frame rfl rfl rfl rfl
theorem Evolves.host {v} (h : Evolves s₀ s) : Evolves s₀ { s with host := v } := h.frame rfl rfl rfl rfl
theorem Evolves.cal {v} (h : Evolves s₀ s) : Evolves s₀ { s with cal := v } := h.frame rfl rfl rfl rfl
theorem Evolves.heart {v} (h : Evolves s₀ s) : Evolves s₀ { s with heart := v } := h.frame rfl rfl rfl rfl
theorem Evolves.dbgr {v} (h : Evolves s₀ s) : Evolves s₀ { s with dbgr := v } := h.frame rfl rfl rfl rfl
theorem Evolves.integ {v} (h : Evolves s₀ s) : Evolves s₀ { s with integ := v } := h.frame rfl rfl rfl rfl
theorem Evolves.mgmt {v} (h : Evolves s₀ s) : Evolves s₀ { s with mgmt := v } := h.frame rfl rfl rfl rfl
theorem Evolves.jtag {v} (h : Evolves s₀ s) : Evolves s₀ { s with jtag := v } := h.frame rfl rfl rfl rfl
theorem Evolves.bus {v} (h : Evolves s₀ s) : Evolves s₀ { s with bus := v } := h.frame rfl rfl rfl rfl
theorem Evolves.free {v} (h : Evolves s₀ s) : Evolves s₀ { s with free := v } := h.frame rfl rfl rfl rfl

/-- OTP changes as it may. -/
theorem Evolves.setOtp {o : Otp} (h : Evolves s₀ s) (ho : s.otp.onlyOn o) : Evolves s₀ { s with otp := o } :=
  ⟨h.regsOk, h.pending, h.otp.trans ho, h.cyc⟩

/-- What happens in a cycle that holds `k` beside it, once the cycle is over. -/
theorem Evolves.overCycle {k j : CycSt} (h : Evolves s₀ x) (hy : Evolves { x with cyc := k } y)
    (hj : x.cyc = CycSt.none → j = CycSt.none) : Evolves s₀ { y with cyc := j } :=
  ⟨fun h₀ => hy.regsOk (h.regsOk h₀), hy.pending.trans h.pending, h.otp.trans hy.otp, fun h₀ => hj (h.cyc h₀)⟩

theorem Evolves.ite {p : Prop} {_ : Decidable p} (hx : Evolves s₀ x) (hy : Evolves s₀ y) :
    Evolves s₀ (if p then x else y) := iteInduction (fun _ => hx) fun _ => hy

/-- What a later part keeps, given what the part before it keeps. -/
theorem Evolves.andThen {p : Prop} (h : Evolves s₀ x) (hp : Evolves s₀ x → p) : p := hp h

theorem Evolves.foldl {α : Type} {g : State → α → State} {l : List α} (h : Evolves s₀ s)
    (hg : ∀ {x a}, Evolves s₀ x → Evolves s₀ (g x a)) : Evolves s₀ (l.foldl g s) :=
  List.foldlRecOn l g h fun _ hx _ _ => hg hx

theorem Evolves.ite_fst {α : Type} {p : Prop} {_ : Decidable p} {a b : State × α} (ha : Evolves s₀ a.1)
    (hb : Evolves s₀ b.1) : Evolves s₀ (if p then a else b).1 :=
  iteInduction (motive := fun r : State × α => Evolves s₀ r.1) (fun _ => ha) fun _ => hb

theorem Evolves.ite_snd {α : Type} {p : Prop} {_ : Decidable p} {a b : α × State} (ha : Evolves s₀ a.2)
    (hb : Evolves s₀ b.2) : Evolves s₀ (if p then a else b).2 :=
  iteInduction (motive := fun r : α × State => Evolves s₀ r.2) (fun _ => ha) fun _ => hb

theorem Evolves.foldl_fst {α β : Type} {g : State × β → α → State × β} {l : List α} {a : State × β}
    (h : Evolves s₀ a.1) (hg : ∀ {a x}, Evolves s₀ a.1 → Evolves s₀ (g a x).1) : Evolves s₀ (l.foldl g a).1 :=
  List.foldlRecOn (motive := fun r => Evolves s₀ r.1) l g h fun _ hx _ _ => hg hx

theorem Evolves.foldl_snd {α β : Type} {g : β × State → α → β × State} {l : List α} {a : β × State}
    (h : Evolves s₀ a.2) (hg : ∀ {a x}, Evolves s₀ a.2 → Evolves s₀ (g a x).2) : Evolves s₀ (l.foldl g a).2 :=
  List.foldlRecOn (motive := fun r => Evolves s₀ r.2) l g h fun _ hx _ _ => hg hx

theorem Evolves.fst {α : Type} {a : α} (h : Evolves s₀ x) : Evolves s₀ (x, a).1 := h
theorem Evolves.snd {α : Type} {a : α} (h : Evolves s₀ x) : Evolves s₀ (a, x).2 := h

theorem Runs.ok (h : Evolves s₀ t) : Runs s₀ (ok t) := ⟨t, rfl, h⟩

theorem Runs.ite {p : Prop} {_ : Decidable p} {a b : Host.Outcome State Fault Refusal} (ha : Runs s₀ a) (hb : Runs s₀ b) :
    Runs s₀ (if p then a else b) := iteInduction (fun _ => ha) fun _ => hb

theorem Completes.next {n : Nat} (h : Evolves s₀ t) : Completes s₀ (.next t n) := h
theorem Completes.jump {a : Nat} {call : Bool} {n : Nat} (h : Evolves s₀ t) : Completes s₀ (.jump t a call n) := h
theorem Completes.waits (h : Evolves s₀ t) : Completes s₀ (.waits t) := h

theorem Completes.of_next {n : Nat} (h : Completes s₀ (.next t n)) : Evolves s₀ t := h
theorem Completes.of_jump {a : Nat} {call : Bool} {n : Nat} (h : Completes s₀ (.jump t a call n)) : Evolves s₀ t := h
theorem Completes.of_waits (h : Completes s₀ (.waits t)) : Evolves s₀ t := h

theorem Completes.ite {p : Prop} {_ : Decidable p} {a b : Done} (ha : Completes s₀ a) (hb : Completes s₀ b) :
    Completes s₀ (if p then a else b) := iteInduction (fun _ => ha) fun _ => hb

end

section
variable {s₀ s x y t : State} {c : Ch}

/-! ### Machine/Ops -/

theorem Evolves.wr {f v} (h : Evolves s₀ s) : Evolves s₀ (s.wr f v) :=
  ⟨fun h₀ => State.regsOk_wr (h.regsOk h₀) f v, h.pending, h.otp, h.cyc⟩
theorem Evolves.cs {f v} (h : Evolves s₀ s) : Evolves s₀ (s.cs c f v) := h.wr
theorem Evolves.ds {f v} (h : Evolves s₀ s) : Evolves s₀ (s.ds f v) := h.wr
theorem Evolves.cinc {f n} (h : Evolves s₀ s) : Evolves s₀ (s.cinc c f n) := h.cs
theorem Evolves.dinc {f n} (h : Evolves s₀ s) : Evolves s₀ (s.dinc f n) := h.ds
theorem Evolves.cor {f m} (h : Evolves s₀ s) : Evolves s₀ (s.cor c f m) := h.cs
theorem Evolves.candn {f m} (h : Evolves s₀ s) : Evolves s₀ (s.candn c f m) := h.cs
theorem Evolves.updCh {g} (h : Evolves s₀ s) : Evolves s₀ (s.updCh c g) := h.chans

theorem Evolves.forCh {g : State → Ch → State} (h : Evolves s₀ s)
    (hg : ∀ {x a2}, Evolves s₀ x → Evolves s₀ (g x a2)) : Evolves s₀ (s.forCh g) :=
  h.foldl hg

theorem Evolves.sysEvt {bit} (h : Evolves s₀ s) : Evolves s₀ (s.sysEvt c bit) :=
  .ite
    (match bit with
      | 0 | 1 | 2 | 3 | 4 | 5 | 6 | 7 => h.cs
      | _ + 8 => h) h

theorem Evolves.sysEvtAll {bit} (h : Evolves s₀ s) : Evolves s₀ (s.sysEvtAll bit) := h.forCh fun h => h.sysEvt
/-- The width of a free value is no matter. -/
theorem Evolves.fresh (h : Evolves s₀ s) : Evolves s₀ { s with free := s.free + 1 } := h.free

theorem Evolves.roundFree {num den} (h : Evolves s₀ s) : Evolves s₀ (s.roundFree num den).2 := by
  unfold State.roundFree
  split
  · exact h
  · exact h.fresh

theorem Evolves.reply {v} (h : Evolves s₀ s) : Evolves s₀ (s.reply v) := h.bus
theorem Evolves.busError (h : Evolves s₀ s) : Evolves s₀ s.busError := h.bus

/-- `g` starts from a cycle of its own, so it must keep what it finds from whatever state it starts in. -/
theorem Evolves.inCyc {k} {g : State → State} (h : Evolves s₀ s)
    (hg : ∀ {s₀ x}, Evolves s₀ x → Evolves s₀ (g x)) : Evolves s₀ (s.inCyc k g) :=
  h.overCycle (hg (.refl _)) fun _ => rfl

/-! ### Machine/Credits -/

theorem Evolves.updQ {g} (h : Evolves s₀ s) : Evolves s₀ (s.updQ c g) := h.updCh
theorem Evolves.updF {g} (h : Evolves s₀ s) : Evolves s₀ (s.updF c g) := h.updCh
theorem Evolves.acctEg {g} (h : Evolves s₀ s) : Evolves s₀ (s.acctEg c g) := h.updF
theorem Evolves.acctIn {g} (h : Evolves s₀ s) : Evolves s₀ (s.acctIn c g) := h.updF
theorem Evolves.updPair {k g} (h : Evolves s₀ s) : Evolves s₀ (s.updPair c k g) := h.host
theorem Evolves.hostActive (h : Evolves s₀ s) : Evolves s₀ s.hostActive := h.host.ds
theorem Evolves.send {m} (h : Evolves s₀ s) : Evolves s₀ (s.send m) := .host (by split; exacts [h.ds.hostActive, h])
theorem Evolves.announce {k} (h : Evolves s₀ s) : Evolves s₀ (s.announce c k) := h.updPair.send
theorem Evolves.announceDue {k} (h : Evolves s₀ s) : Evolves s₀ (s.announceDue c k) := .ite h.announce h
theorem Evolves.issueCls {k} (h : Evolves s₀ s) : Evolves s₀ (s.issueCls c k) := .ite h.updPair.announceDue h
theorem Evolves.issue (h : Evolves s₀ s) : Evolves s₀ (s.issue c) := .ite h (h.foldl (fun h => h.issueCls))
theorem Evolves.retTokens {k n} (h : Evolves s₀ s) : Evolves s₀ (s.retTokens c k n) := h.updPair
theorem Evolves.trySync {k} (h : Evolves s₀ s) : Evolves s₀ (s.trySync c k) := .ite h.updPair.send h
theorem Evolves.freeCells {k n} (h : Evolves s₀ s) : Evolves s₀ (s.freeCells c k n) := h.retTokens.issue.trySync
theorem Evolves.trySyncAll (h : Evolves s₀ s) : Evolves s₀ s.trySyncAll :=
  h.forCh (fun h => h.foldl (fun h => h.trySync))
theorem Evolves.announceAll (h : Evolves s₀ s) : Evolves s₀ s.announceAll :=
  h.forCh (fun h => h.foldl (fun h => h.announceDue))
theorem Evolves.resync (h : Evolves s₀ s) : Evolves s₀ (s.resync c) := h.foldl fun h => h.updPair.trySync
theorem Evolves.resyncAll (h : Evolves s₀ s) : Evolves s₀ s.resyncAll := h.forCh fun h => h.resync
theorem Evolves.dropEgCls {k r} (h : Evolves s₀ s) : Evolves s₀ (s.dropEgCls c k r) := h.updQ.acctEg.freeCells
theorem Evolves.atBoundary (h : Evolves s₀ s) : Evolves s₀ (s.atBoundary c) := .ite h.updQ h

theorem Evolves.dropLine {r} (h : Evolves s₀ s) : Evolves s₀ (s.dropLine c r) := by
  unfold State.dropLine
  split
  · exact h
  · exact h.updQ.atBoundary.acctEg.freeCells

theorem Evolves.dropInCls {k p} (h : Evolves s₀ s) : Evolves s₀ (s.dropInCls c k p) := by
  unfold State.dropInCls
  exact h.updQ.acctIn

theorem Evolves.dropAll (h : Evolves s₀ s) : Evolves s₀ (s.dropAll c) :=
  h.dropLine.foldl fun h => h.dropEgCls.dropInCls
theorem Evolves.answerFlush (h : Evolves s₀ s) : Evolves s₀ (s.answerFlush c) :=
  .ite h (h.updQ.cs.foldl (fun h => h.send))
theorem Evolves.giveBack (h : Evolves s₀ s) : Evolves s₀ (s.giveBack c) := h.foldl fun h => .ite h.updPair.send h

/-! ### Machine/Stamp -/

theorem Evolves.stampNow {egress} (h : Evolves s₀ s) : Evolves s₀ (s.stampNow c egress).2 := h.roundFree.fresh
theorem Evolves.tsStep {t} (h : Evolves s₀ s) : Evolves s₀ (s.tsStep c t) := h.updF.cinc
theorem Evolves.tsLoad {w0 w1 w2} (h : Evolves s₀ s) : Evolves s₀ (s.tsLoad c w0 w1 w2) :=
  .tsStep (by split; exacts [h, h.fresh])

theorem Evolves.tsCmd {v} (h : Evolves s₀ s) : Evolves s₀ (s.tsCmd c v) :=
  have h := Evolves.ite h.tsLoad h
  .ite h.tsStep h

/-! ### Machine/Records -/

theorem Evolves.setRecWord {j w v} (h : Evolves s₀ s) : Evolves s₀ (s.setRecWord j w v) := by
  unfold State.setRecWord
  split
  · exact h.cs
  · exact h.ds

theorem Evolves.countSrc {x kind} (h : Evolves s₀ s) : Evolves s₀ (s.countSrc x kind) := by
  unfold State.countSrc
  split
  · exact h.cinc.cs.cs.updCh
  · exact h.dinc.ds.ds.canopy

theorem Evolves.pend {cl w0 w1 w2 w3} (h : Evolves s₀ s) : Evolves s₀ (s.pend cl w0 w1 w2 w3) :=
  .ite (.ite h.ds.canopy h.ds) h

theorem Evolves.record {x kind addr forced} (h : Evolves s₀ s) : Evolves s₀ (s.record x kind addr forced).1 := by
  unfold State.record
  extract_lets cl dry t w0 s1
  have h1 : Evolves s₀ s1 := h.countSrc
  clear_value s1
  split
  · cases x with
    | ch c k => exact h1.setRecWord.cinc.cs
    | dev i => exact h1.setRecWord.dinc.ds
  · refine .ite_fst (.fst ?_) (.fst ?_)
    · cases x with
      | ch c k => exact h1.cinc.cs.pend.sysEvt
      | dev i => exact h1.dinc.ds.pend
    · cases x with
      | ch c k => exact h1.setRecWord.setRecWord.setRecWord.setRecWord.cinc.updCh.pend.sysEvt
      | dev i => exact h1.setRecWord.setRecWord.setRecWord.setRecWord.dinc.canopy.pend

theorem Evolves.setLive {x b} (h : Evolves s₀ s) : Evolves s₀ (s.setLive x b) :=
  Evolves.andThen (by split; exacts [h.cs, h.ds]) fun h =>
  .ite (by split; exacts [.ite (.ite h.cs h) (.cs (.ite h.cs h)), .ite (.ite h.ds h) (.ds (.ite h.ds h))]) h

/-! ### Machine/Trend -/

theorem Evolves.updDiag {g} (h : Evolves s₀ s) : Evolves s₀ (s.updDiag c g) := h.updCh

theorem Evolves.newInterval (h : Evolves s₀ s) : Evolves s₀ (s.newInterval c) := by
  unfold State.newInterval
  exact h.updDiag

theorem Evolves.predWarn {i v} (h : Evolves s₀ s) : Evolves s₀ (s.predWarn c i v) := by
  unfold State.predWarn
  exact .updDiag (.ite h.cs h)

theorem Evolves.predictions (h : Evolves s₀ s) : Evolves s₀ (s.predictions c) :=
  have h := h.foldl fun h => h.cs.predWarn
  .predWarn (.cs (.ite h.cs h.cs.roundFree.cs))

theorem Evolves.trendClear (h : Evolves s₀ s) : Evolves s₀ (s.trendClear c) := by
  unfold State.trendClear
  exact .updDiag (.cs (.cs (h.cs.cs.foldl (fun h => h.cs))))

theorem Evolves.writeRecord {iv t isrOk up gam} (h : Evolves s₀ s) :
    Evolves s₀ (s.writeRecord c iv t isrOk up gam) := by
  refine .ite h.updDiag.trendClear ?_
  extract_lets f r m s1 snr rec s2 nx s3 s4
  have hr : Evolves s₀ r.2 := .ite_snd h.fresh h.roundFree
  have h1 : Evolves s₀ s1 := .ite_snd hr.fresh hr
  have h3 : Evolves s₀ s3 := h1.updDiag.cs
  have h4 : Evolves s₀ s4 := .ite h3.cs h3
  exact .ite h4 h4.predictions

theorem Evolves.diagStop {status} (h : Evolves s₀ s) : Evolves s₀ (s.diagStop c status) := by
  unfold State.diagStop
  split
  · exact h
  · dsimp only
    split
    · exact h.cinc.cs.cs.cs.cs.cs.updDiag.writeRecord
    · exact h.cinc.cs.cs.cs.cs.cs.updDiag

theorem Evolves.diagMoved {o n} (h : Evolves s₀ s) : Evolves s₀ (s.diagMoved c o n) := by
  unfold State.diagMoved
  extract_lets live s1 s2 run
  have h2 : Evolves s₀ s2 := .ite (.updDiag (.ite h.updDiag h)) (.ite h.updDiag h)
  clear_value s2
  cases n with
  | off => exact h2.updDiag
  | maint => exact h2.diagStop
  | quarantine => exact h2.diagStop
  | training => exact .ite h2.diagStop h2
  | idle => exact .ite h2.diagStop h2
  | up => exact .ite h2.diagStop h2
  | lpi => exact .ite h2.diagStop h2
  | sleep => exact .ite h2.diagStop h2

/-! ### Machine/Secure -/

theorem Evolves.clearFields {p} (h : Evolves s₀ s) : Evolves s₀ (s.clearFields p) :=
  ⟨fun h₀ => State.regsOk_clearFields (h.regsOk h₀) p, h.pending, h.otp, h.cyc⟩
theorem Evolves.voteBit {bit b} (h : Evolves s₀ s) : Evolves s₀ (s.voteBit c bit b) := h.cs

theorem Evolves.blkOff {p} (h : Evolves s₀ s) : Evolves s₀ (s.blkOff p) := by
  unfold State.blkOff
  exact h.integ.clearFields

theorem Evolves.mmLevel (h : Evolves s₀ s) : Evolves s₀ (s.mmLevel c) := h.setLive
theorem Evolves.mmLevelSvc (h : Evolves s₀ s) : Evolves s₀ s.mmLevelSvc := h.setLive

theorem Evolves.dbgPower (h : Evolves s₀ s) : Evolves s₀ s.dbgPower := by
  refine .ite h ?_
  extract_lets s1
  have h1 : Evolves s₀ s1 := h.blkOff.clearFields
  clear_value s1
  exact h1.frame rfl rfl rfl rfl

theorem Evolves.dropNonce (h : Evolves s₀ s) : Evolves s₀ s.dropNonce := h.ds.clearFields
theorem Evolves.clearToken (h : Evolves s₀ s) : Evolves s₀ s.clearToken := h.clearFields

theorem Evolves.closeSession {cause} (h : Evolves s₀ s) : Evolves s₀ (s.closeSession cause) := by
  unfold State.closeSession
  extract_lets mask s1 s2 s3 d j s4
  have h3 : Evolves s₀ s3 := h.ds.ds.ds.ds.ds.ds.ds.ds.forCh fun h => h.voteBit
  have h4 : Evolves s₀ s4 := h3.frame rfl rfl rfl rfl
  exact h4.record

theorem Evolves.updHeart {g} (h : Evolves s₀ s) : Evolves s₀ (s.updHeart g) := h.heart
theorem Evolves.updOtp {g} (h : Evolves s₀ s) (hg : ∀ o : Otp, o.onlyOn (g o)) : Evolves s₀ (s.updOtp g) :=
  h.setOtp (hg _)
theorem Evolves.heartRes {op status reason} (h : Evolves s₀ s) : Evolves s₀ (s.heartRes op status reason) :=
  .ite h.ds.ds.ds.ds.ds h.ds.ds.ds.ds
theorem Evolves.clearStaging (h : Evolves s₀ s) : Evolves s₀ s.clearStaging := h.updHeart.clearFields
theorem Evolves.lcStep {lc} (h : Evolves s₀ s) : Evolves s₀ (s.lcStep lc) :=
  .ds (h.updOtp Otp.onlyOn_refl)

theorem Evolves.lcCut {op} (h : Evolves s₀ s) : Evolves s₀ (s.lcCut op) := by
  unfold State.lcCut
  split
  · exact .lcStep (h.fresh.updOtp Otp.onlyOn_refl)
  · exact h.lcStep
  · exact h

theorem Evolves.rbCut {cnt v} (h : Evolves s₀ s) : Evolves s₀ (s.rbCut cnt v) :=
  .ite (.ds (h.fresh.updOtp Otp.onlyOn_rbTo)) (h.fresh.updOtp Otp.onlyOn_rbTo)

/-! ### Machine/Param -/

theorem Evolves.updPol {g} (h : Evolves s₀ s) : Evolves s₀ (s.updPol c g) := h.updCh

theorem Evolves.polFail (h : Evolves s₀ s) : Evolves s₀ (s.polFail c) := by
  unfold State.polFail
  exact h.updPol

theorem Evolves.polStop (h : Evolves s₀ s) : Evolves s₀ (s.polStop c) := by
  unfold State.polStop
  exact h.updPol

/-! ### Machine/Down -/

theorem Evolves.updGraft {g} (h : Evolves s₀ s) : Evolves s₀ (s.updGraft c g) := h.updCh

theorem Evolves.endCalCh {status} (h : Evolves s₀ s) : Evolves s₀ (s.endCalCh c status) := by
  unfold State.endCalCh
  split
  · exact .ite h.updGraft (.updGraft (.ite h.cs.cs.cs h.cs.cs.cs.cs))
  · exact h

theorem Evolves.swapRecord (h : Evolves s₀ s) : Evolves s₀ (s.swapRecord c) := by
  unfold State.swapRecord
  split
  · exact .ite h.updGraft h
  · exact h

theorem Evolves.swapDefer {supply} (h : Evolves s₀ s) : Evolves s₀ (s.swapDefer c supply) := by
  unfold State.swapDefer
  extract_lets s1
  have h1 : Evolves s₀ s1 := .ite h.updGraft.cs h
  clear_value s1
  split
  · exact .ite h1.updGraft.cs h1
  · exact h1

theorem Evolves.swapMoved (h : Evolves s₀ s) : Evolves s₀ (s.swapMoved c) :=
  .ite h.updGraft (.ite h.swapRecord h.swapDefer)

theorem Evolves.setSub {n} (h : Evolves s₀ s) : Evolves s₀ (s.setSub c n) :=
  .ite
    h
    (have h := h.cs.cs.updCh
     have h := Evolves.swapMoved (.diagMoved (.ite (.endCalCh (.ite h.cs h)) (.ite h.cs h)))
     .ite h.cs.cs.cs.cs h)

theorem Evolves.padLatch (h : Evolves s₀ s) : Evolves s₀ (s.padLatch c) := by
  unfold State.padLatch
  exact h.updCh

theorem Evolves.updSeq {g} (h : Evolves s₀ s) : Evolves s₀ (s.updSeq c g) := h.updCh
theorem Evolves.updLink {g} (h : Evolves s₀ s) : Evolves s₀ (s.updLink c g) := h.updCh
theorem Evolves.updSeg {g} (h : Evolves s₀ s) : Evolves s₀ (s.updSeg c g) := h.updCh
theorem Evolves.plcaBack (h : Evolves s₀ s) : Evolves s₀ (s.plcaBack c) := .ite h.updSeg.cs h
theorem Evolves.updDsp {g} (h : Evolves s₀ s) : Evolves s₀ (s.updDsp c g) := h.updCh
theorem Evolves.updRx {g} (h : Evolves s₀ s) : Evolves s₀ (s.updRx c g) := h.updCh
theorem Evolves.updLpi {g} (h : Evolves s₀ s) : Evolves s₀ (s.updLpi c g) := h.updCh
theorem Evolves.seqEnter (h : Evolves s₀ s) : Evolves s₀ (s.seqEnter c) :=
  .cs (.cs (.cs (.cs (h.updSeq.polStop.foldl (fun h => h.cs)))))

theorem Evolves.seqQHalt (h : Evolves s₀ s) : Evolves s₀ (s.seqQHalt c) := by
  unfold State.seqQHalt
  split
  · exact h.updSeq.cs
  · exact h.updSeq.cs
  all_goals exact h

theorem Evolves.seqStop (h : Evolves s₀ s) : Evolves s₀ (s.seqStop c) := h.updSeq
theorem Evolves.setLpiMask (h : Evolves s₀ s) : Evolves s₀ (s.setLpiMask c) := h.cs
theorem Evolves.endLine (h : Evolves s₀ s) : Evolves s₀ (s.endLine c) :=
  h.cs.cs.cs.cs.updLpi.setLpiMask.updLink.cs.cs.cs.updCh.dropLine
theorem Evolves.noteLoss {cause} (h : Evolves s₀ s) : Evolves s₀ (s.noteLoss c cause) :=
  .ite h.updDiag.cs.cinc.cs h.updDiag.cs.cs.cinc.cs
theorem Evolves.toStop (h : Evolves s₀ s) : Evolves s₀ (s.toStop c) := .ite h.polStop.updSeg h.polStop.updLink
theorem Evolves.forceStop {cause} (h : Evolves s₀ s) : Evolves s₀ (s.forceStop c cause) :=
  .toStop (.endLine (by split; exacts [h.noteLoss, h]))

theorem Evolves.zeroKeys (h : Evolves s₀ s) : Evolves s₀ (s.zeroKeys c) := by
  unfold State.zeroKeys
  exact h.updF.clearFields

theorem Evolves.loseE {keepRetain} (h : Evolves s₀ s) : Evolves s₀ (s.loseE c keepRetain) := by
  unfold State.loseE
  exact h.zeroKeys.clearFields.updCh

theorem Evolves.loseF (h : Evolves s₀ s) : Evolves s₀ (s.loseF c) := by
  unfold State.loseF
  exact h.clearFields.updCh

theorem Evolves.cancelDrain (h : Evolves s₀ s) : Evolves s₀ (s.cancelDrain c) := .ite h.updCh.issue h

theorem Evolves.voteUp (h : Evolves s₀ s) : Evolves s₀ (s.voteUp c) := by
  unfold State.voteUp
  split
  · exact .ite h.updCh h
  · exact h.cancelDrain
  all_goals exact h

theorem Evolves.startLoad {l} (h : Evolves s₀ s) : Evolves s₀ (s.startLoad c l) := h.updSeq

theorem Evolves.feed (h : Evolves s₀ s) : Evolves s₀ s.feed := by
  unfold State.feed
  split
  · exact h
  · exact
      have h := h.voteBit.voteUp
      .ite h.startLoad h
  · exact h.heartRes.clearStaging.updHeart

theorem Evolves.abandonLoad (h : Evolves s₀ s) : Evolves s₀ (s.abandonLoad c) :=
  .ite
    h
    (have h := h.updSeq.voteBit.cs
     .ite h.updHeart.feed h)

theorem Evolves.offBegin (h : Evolves s₀ s) : Evolves s₀ (s.offBegin c) := by
  unfold State.offBegin
  exact h.forceStop.dropAll.answerFlush.setSub.seqStop.zeroKeys.padLatch.updCh

theorem Evolves.powerOff (h : Evolves s₀ s) : Evolves s₀ (s.powerOff c) :=
  have h := h.resync.voteBit.loseF.loseE.updGraft.blkOff.foldl fun h => h.setLive
  .abandonLoad (.cs (.ite h.mmLevel.updCh.ds.ds h.mmLevel.updCh.ds))

theorem Evolves.offNow (h : Evolves s₀ s) : Evolves s₀ (s.offNow c) := by
  unfold State.offNow
  exact .ite h.offBegin.powerOff h.offBegin

theorem Evolves.startDrain (h : Evolves s₀ s) : Evolves s₀ (s.startDrain c) := h.updCh.atBoundary

theorem Evolves.evalVote (h : Evolves s₀ s) : Evolves s₀ (s.evalVote c) := by
  unfold State.evalVote
  exact
    .ite
      h.voteUp
      (by
         split
         · exact h
         · exact h
         · exact h
         · exact h.updCh
         · split
           · exact .ite h.startDrain h
           · exact h.offNow
           · exact h.offNow
           · exact h.offNow
           · exact h.offNow
           all_goals exact h)

theorem Evolves.voteChanged (h : Evolves s₀ s) : Evolves s₀ (s.voteChanged c) := h.updCh.evalVote

theorem Evolves.endSession {cause} (h : Evolves s₀ s) : Evolves s₀ (s.endSession cause) := by
  unfold State.endSession
  exact .ite (.dbgPower (h.closeSession.forCh (fun h => .ite h.voteChanged h))) h

theorem Evolves.endHeart (h : Evolves s₀ s) : Evolves s₀ s.endHeart := by
  unfold State.endHeart
  exact
    .updHeart (.ds (by
        split
        · exact h.rbCut
        · exact .ite (h.fresh.updOtp Otp.onlyOn_keyOp) h.fresh
        · exact .ite (.ite (.endSession (h.fresh.updOtp Otp.onlyOn_keyOp)) (h.fresh.updOtp Otp.onlyOn_keyOp)) h.fresh
        · exact .ite (.endSession (.ds (h.fresh.updOtp Otp.onlyOn_refl))) h.fresh
        · exact .ite h.fresh.lcCut.endSession h.fresh
        · exact .ite h.fresh.lcCut.endSession h.fresh
        all_goals exact h))

theorem Evolves.clearKeyHash (h : Evolves s₀ s) : Evolves s₀ s.clearKeyHash := h.clearFields
theorem Evolves.clearAnonce (h : Evolves s₀ s) : Evolves s₀ s.clearAnonce := h.clearFields

theorem Evolves.clearStaged (h : Evolves s₀ s) : Evolves s₀ s.clearStaged := by
  unfold State.clearStaged
  extract_lets s1
  have h1 : Evolves s₀ s1 := h.clearKeyHash
  clear_value s1
  split
  · exact h1.clearStaging.clearAnonce
  · exact h1.clearStaging.clearAnonce
  · exact h1.clearToken.clearStaging
  · exact .ite h1.clearToken.clearStaging.clearAnonce h1.clearToken.clearAnonce
  all_goals exact h1.clearToken.clearStaging.clearAnonce

theorem Evolves.resetDebug (h : Evolves s₀ s) : Evolves s₀ s.resetDebug := h.endSession.dropNonce.clearStaged.ds

theorem Evolves.beginReset (h : Evolves s₀ s) : Evolves s₀ (s.beginReset c) :=
  have h := h.abandonLoad.resetDebug
  .ite h.voteChanged h.forceStop.dropAll.answerFlush.resync.padLatch.setSub.seqStop.updCh

theorem Evolves.toQuarantine (h : Evolves s₀ s) : Evolves s₀ (s.toQuarantine c) := h.forceStop.setSub.seqQHalt
theorem Evolves.setMode {m} (h : Evolves s₀ s) : Evolves s₀ (s.setMode m) := h.power.ds.ds.sysEvtAll.dbgPower

theorem Evolves.domainOff (h : Evolves s₀ s) : Evolves s₀ (s.domainOff c) := by
  unfold State.domainOff
  split
  · exact h.offNow
  · exact h.offNow
  · exact h.updCh
  all_goals exact h

theorem Evolves.lockOut (h : Evolves s₀ s) : Evolves s₀ s.lockOut :=
  .setMode (.power (h.endHeart.endSession.forCh (fun h => h.domainOff)))

/-! ### Machine/Pll -/

theorem Evolves.setPll {p b} (h : Evolves s₀ s) : Evolves s₀ (s.setPll p b) := by
  unfold State.setPll
  split <;> exact h.ds

theorem Evolves.takeRoot {typ} (h : Evolves s₀ s) : Evolves s₀ (s.takeRoot c typ) := .ite h.updLink h.updLink.setPll
theorem Evolves.endDrvHold (h : Evolves s₀ s) : Evolves s₀ (s.endDrvHold c) := .ite h.updCh h
theorem Evolves.relock (h : Evolves s₀ s) : Evolves s₀ s.relock :=
  .ite h (h.ds.ds.forCh (fun h => .ite h.endDrvHold h))
theorem Evolves.leaveL2 (h : Evolves s₀ s) : Evolves s₀ s.leaveL2 := h.ds.hostActive

/-! ### Machine/React -/

theorem Evolves.reportLoss {addr} (h : Evolves s₀ s) : Evolves s₀ (s.reportLoss c addr) :=
  .ite h.record (.ite h.record.lockOut (.ite h.record.voteBit.cancelDrain.beginReset h.record))

theorem Evolves.quarantine (h : Evolves s₀ s) : Evolves s₀ (s.quarantine c) :=
  .ite
    h
    (have h := h.voteBit.cancelDrain.toQuarantine
     .ite h.reportLoss h)

theorem Evolves.enterSafe (h : Evolves s₀ s) : Evolves s₀ s.enterSafe := by
  unfold State.enterSafe
  extract_lets s1 s2 p s3 s4
  have h1 : Evolves s₀ s1 := .ite h.leaveL2 h
  have h2 : Evolves s₀ s2 := .ite h1.relock h1
  have h3 : Evolves s₀ s3 := h2.power
  have h4 : Evolves s₀ s4 := h3.forCh fun h => h.quarantine
  clear_value s4
  split
  · exact h4
  all_goals exact h4.setMode.forCh fun h => .ite h.cancelDrain h

theorem Evolves.react {x cl} (h : Evolves s₀ s) : Evolves s₀ (s.react x cl) := by
  unfold State.react
  split
  · split
    · exact h
    · exact h
    all_goals exact h.lockOut
  · split
    · exact .ite
          h
          (.ite
             (have h := h.voteBit.cancelDrain
              have h := Evolves.ite h.reportLoss h
              .ite h h.beginReset)
             h.quarantine)
    · split
      · exact h.enterSafe
      · exact h.enterSafe
      · exact h.enterSafe
      · exact h.enterSafe
      all_goals exact h
  · exact h

theorem Evolves.assertSrc {x kind addr forced} (h : Evolves s₀ s) : Evolves s₀ (s.assertSrc x kind addr forced) :=
  .ite h.record h.record.react
theorem Evolves.raiseLevel {x kind addr} (h : Evolves s₀ s) : Evolves s₀ (s.raiseLevel x kind addr) :=
  .ite h h.setLive.assertSrc
theorem Evolves.fallLevel {x} (h : Evolves s₀ s) : Evolves s₀ (s.fallLevel x) := h.setLive

theorem Evolves.linkLoss {cause restart} (h : Evolves s₀ s) : Evolves s₀ (s.linkLoss c cause restart) :=
  .ite
    h
    (have h := Evolves.ite h.noteLoss.endLine.toStop h.noteLoss.endLine.updLink
     .ite h.setSub.assertSrc h.setSub)

theorem Evolves.idleCheck (h : Evolves s₀ s) : Evolves s₀ (s.idleCheck c) := by
  unfold State.idleCheck
  split
  · exact h
  · exact h
  · exact h
  · exact h
  · exact .ite h.setSub h

theorem Evolves.releaseCh (h : Evolves s₀ s) : Evolves s₀ (s.releaseCh c) := by
  unfold State.releaseCh
  extract_lets s1
  have h1 : Evolves s₀ s1 := h.setSub.voteBit
  clear_value s1
  split
  · exact h1.seqEnter
  · exact h1.seqEnter
  all_goals exact h1

/-! ### Machine/Resets -/

theorem Evolves.refDown (h : Evolves s₀ s) : Evolves s₀ s.refDown :=
  h.ds.ds.fresh.ds.sysEvtAll.clock.ds.ds.ds.forCh fun h => h.updCh
theorem Evolves.loseRef {r} (h : Evolves s₀ s) : Evolves s₀ (s.loseRef r) :=
  h.refDown.raiseLevel.forCh fun h => .ite h h.linkLoss

theorem Evolves.takeRef (h : Evolves s₀ s) : Evolves s₀ s.takeRef := by
  unfold State.takeRef
  split
  · exact .fallLevel (.ite h.ds.ds.clock h.ds.ds.clock.ds)
  · split
    · exact .ite h.ds h.ds.refDown
    · exact h

theorem Evolves.linkDown {linkError} (h : Evolves s₀ s) : Evolves s₀ (s.linkDown linkError) := h.host.ds

theorem Evolves.hostPortReset {linkError} (h : Evolves s₀ s) : Evolves s₀ (s.hostPortReset linkError) :=
  .resyncAll (.host (.forCh (h.linkDown.resetDebug.ds.forCh
       (fun h => .foldl (by split; exacts [.ite h h.dropLine.plcaBack, h]) (fun h => h.dropEgCls.dropInCls)))
      (fun h => h.updQ)))

theorem Evolves.allOff (h : Evolves s₀ s) : Evolves s₀ s.allOff := by
  unfold State.allOff
  exact h.forCh (fun h => .updCh (.ite h.updQ.offBegin.powerOff (.ite h.updQ.powerOff h.updQ)))

theorem Evolves.clearUnits (h : Evolves s₀ s) : Evolves s₀ s.clearUnits := h.frame rfl rfl rfl rfl

theorem Evolves.bootSrc {lost i} (h : Evolves s₀ s) : Evolves s₀ (s.bootSrc lost i) := by
  unfold State.bootSrc
  split
  · exact h.assertSrc
  · split
    · exact h.raiseLevel
    · exact h
  · exact h.assertSrc

theorem Evolves.startBoot (h : Evolves s₀ s) : Evolves s₀ s.startBoot := h.takeRef.foldl fun h => h.bootSrc
theorem Evolves.enterBoot (h : Evolves s₀ s) : Evolves s₀ s.enterBoot := .ite h.power h.power.startBoot
theorem Evolves.releaseReset {k} (h : Evolves s₀ s) : Evolves s₀ (s.releaseReset k) :=
  .ite (.ite h.enterBoot h.power) h

theorem Evolves.warmReset {k rail} (h : Evolves s₀ s) : Evolves s₀ (s.warmReset k rail) := by
  unfold State.warmReset
  extract_lets prev s1 s2 s3 s4 s5 o s6 s7
  have h3 : Evolves s₀ s3 := h.linkDown.endHeart.resetDebug.allOff.clearFields.ds.ds
  have h5 : Evolves s₀ s5 := .hostPortReset (.clearUnits (.ite h3.ds h3))
  clear_value s5
  have h6 : Evolves s₀ s6 := h5.host
  have h7 : Evolves s₀ s7 := .ite h6 h6.setMode
  clear_value s7
  split
  · exact h7.power
  · exact h7.power
  all_goals exact h7.enterBoot

theorem Evolves.domainsOff (h : Evolves s₀ s) : Evolves s₀ s.domainsOff := by
  unfold State.domainsOff
  extract_lets s1 warn s2
  have h2 : Evolves s₀ s2 := h.clearFields.clearUnits
  exact h2.frame rfl rfl rfl rfl

/-! ### Machine/Clock -/

theorem Evolves.updClock {g} (h : Evolves s₀ s) : Evolves s₀ (s.updClock g) := h.clock

theorem Evolves.execRcReady (h : Evolves s₀ s) : Runs s₀ (execRcReady s) := by
  unfold Machine.execRcReady
  split
  · exact .ok h
  all_goals exact .ok h.updClock

theorem Evolves.execXsdDelayExpire (h : Evolves s₀ s) : Runs s₀ (execXsdDelayExpire s) :=
  .ite (.ok h.updClock) (.ok h)
theorem Evolves.endClockWait (h : Evolves s₀ s) : Evolves s₀ s.endClockWait :=
  .ite (by split; exacts [.startBoot (h.frame rfl rfl rfl rfl), h]) h
theorem Evolves.closeLoops {r} (h : Evolves s₀ s) : Evolves s₀ (s.closeLoops r) := .ite h.updClock h
theorem Evolves.execRefQualify {r} (h : Evolves s₀ s) : Runs s₀ (execRefQualify r s) :=
  .ite (.ok h.updClock.endClockWait.closeLoops) (.ok h)
theorem Evolves.refBad {r} (h : Evolves s₀ s) : Evolves s₀ (s.refBad r) := h.updClock

theorem Evolves.execRefLost (h : Evolves s₀ s) : Runs s₀ (execRefLost s) := by
  unfold Machine.execRefLost
  split
  · exact .ite (.ite (.ok h.refBad.loseRef) (.ok h)) (.ok h.refBad)
  · exact .ok h

theorem Evolves.execRefMonitorBad {r} (h : Evolves s₀ s) : Runs s₀ (execRefMonitorBad r s) :=
  .ite (.ok h) (.ok h.refBad)
theorem Evolves.refBack (h : Evolves s₀ s) : Evolves s₀ s.refBack :=
  .ite (h.ds.ds.fallLevel.forCh (fun h => h.endDrvHold)) h
theorem Evolves.execSvcClockRestart (h : Evolves s₀ s) : Runs s₀ (execSvcClockRestart s) :=
  .ite (.ok h) (.ite (.ok h.ds.ds) (.ite (.ok h.ds.ds.refBack) (.ok h)))

theorem Evolves.execPllLock {p} (h : Evolves s₀ s) : Runs s₀ (execPllLock p s) :=
  .ite
    (.ok h)
    (by split; exacts [.ok h.setPll.refBack, .ite (.ok (.endDrvHold (.ite h.setPll.fallLevel h.setPll))) (.ok h)])

theorem Evolves.execPllLockLoss {p} (h : Evolves s₀ s) : Runs s₀ (execPllLockLoss p s) := by
  unfold Machine.execPllLockLoss
  split
  · exact .ite (.ok h.setPll.raiseLevel) (.ok h)
  · exact .ite (.ok h.setPll.raiseLevel) (.ok h)
  · exact .ok h.setPll

theorem Evolves.execPllUnlockTimeout {p} (h : Evolves s₀ s) : Runs s₀ (execPllUnlockTimeout p s) := by
  unfold Machine.execPllUnlockTimeout
  dsimp only
  split
  · exact .ite (.ok h.linkLoss) (.ok h)
  · exact .ok h

theorem Evolves.setAllEn (h : Evolves s₀ s) : Evolves s₀ (s.setAllEn c) := by
  unfold State.setAllEn
  exact h.ds.ds.ds.updClock

theorem Evolves.gateShut {b} (h : Evolves s₀ s) : Evolves s₀ (s.gateShut c b) := by
  unfold State.gateShut
  dsimp only
  split
  · exact .ite h.blkOff h.blkOff.linkLoss
  · exact .ite h.blkOff h.blkOff.linkLoss
  · exact .ite h.blkOff h.blkOff.linkLoss
  all_goals exact h.blkOff

theorem Evolves.closeGate {b} (h : Evolves s₀ s) : Evolves s₀ (s.closeGate c b) := .ite h.updClock h.gateShut
theorem Evolves.enWritten {was} (h : Evolves s₀ s) : Evolves s₀ (s.enWritten c was) :=
  .feed (h.foldl (fun h => .ite h.closeGate (.ite h.updClock h)))

theorem Evolves.execGateClose {g} (h : Evolves s₀ s) : Runs s₀ (execGateClose g s) := by
  unfold Machine.execGateClose
  split
  · exact .ite (.ok h.updClock.gateShut) (.ok h)
  · exact .ok h.updClock

/-! ### Machine/Power -/

theorem Evolves.updPower {g} (h : Evolves s₀ s) : Evolves s₀ (s.updPower g) := h.power
theorem Evolves.evalVotes (h : Evolves s₀ s) : Evolves s₀ s.evalVotes := h.forCh fun h => h.evalVote
theorem Evolves.restoreD (h : Evolves s₀ s) : Evolves s₀ (s.restoreD c) := h.updGraft
theorem Evolves.execDomainPowerUpDone (h : Evolves s₀ s) : Runs s₀ (execDomainPowerUpDone c s) :=
  .ite (.ok h.updCh.restoreD.updGraft.setAllEn.fallLevel.cs.issue.evalVote) (.ok h)
theorem Evolves.execPdonTimeout (h : Evolves s₀ s) : Runs s₀ (execPdonTimeout c s) :=
  .ite (.ok h.updCh.raiseLevel) (.ok h)
theorem Evolves.unvoteNow (h : Evolves s₀ s) : Evolves s₀ (s.unvoteNow c) := .ite h.voteBit.voteChanged h
theorem Evolves.chrst (h : Evolves s₀ s) : Evolves s₀ (s.chrst c) :=
  .ite h.unvoteNow.cs (.ite h.unvoteNow h.unvoteNow.beginReset)

theorem Evolves.stbyCh (h : Evolves s₀ s) : Evolves s₀ (s.stbyCh c) :=
  .ite
    h
    (.padLatch (by
        split
        · exact h.forceStop.setSub
        · exact h.forceStop.setSub
        · exact h.forceStop.setSub
        · exact h.forceStop.setSub
        all_goals exact h))

theorem Evolves.heartOff (h : Evolves s₀ s) : Evolves s₀ s.heartOff := by
  unfold State.heartOff
  exact h.endHeart.clearFields.blkOff.updHeart

theorem Evolves.commitDormant (h : Evolves s₀ s) : Evolves s₀ s.commitDormant :=
  .setMode (.updPower (.forCh (h.endHeart.endSession.dropNonce.ds.host.forCh (fun h => h.padLatch))
      (fun h => h.domainOff)))

theorem Evolves.dormantReq (h : Evolves s₀ s) : Evolves s₀ s.dormantReq := .ite h.ds h.commitDormant

theorem Evolves.modeReq {v} (h : Evolves s₀ s) : Evolves s₀ (s.modeReq v) := by
  unfold State.modeReq
  dsimp only
  split
  · exact h.dormantReq
  · exact h.dormantReq
  · exact .ite h.ds (.updPower (h.forCh (fun h => h.stbyCh)))
  · exact .ite h.updPower.evalVotes (.ite h.relock.updPower.evalVotes h.ds)
  · exact .ite
        h.ds
        (h.updPower.forCh
           (fun h =>
              by
                split
                · exact h.startDrain
                · exact h.updCh
                all_goals exact h))
  · exact h.ds

theorem Evolves.execStandbyPrepDone (h : Evolves s₀ s) : Runs s₀ (execStandbyPrepDone s) :=
  .ite (.ok (.updPower (.ds (.ds (.heartOff (.blkOff (h.forCh (fun h => h.stbyCh)))))))) (.ok h)
theorem Evolves.execHostL2Request (h : Evolves s₀ s) : Runs s₀ (execHostL2Request s) :=
  .ite (.ok (.setMode (.updPower (.host (h.forCh (fun h => .ite h h.padLatch)))))) (.ok h)
theorem Evolves.noteWake {w} (h : Evolves s₀ s) : Evolves s₀ (s.noteWake w) := h.ds.ds.ds

theorem Evolves.execStandbyExit (h : Evolves s₀ s) : Runs s₀ (execStandbyExit s) := by
  unfold Machine.execStandbyExit
  split
  · exact .ok h.noteWake.relock.leaveL2.updPower.setMode.evalVotes
  all_goals exact .ok h

theorem Evolves.execServiceEnter (h : Evolves s₀ s) : Runs s₀ (execServiceEnter s) :=
  .ite (.ok h.updPower.setMode) (.ok h)
theorem Evolves.execDormantEntryDone (h : Evolves s₀ s) : Runs s₀ (execDormantEntryDone s) :=
  .ite (by dsimp only; split; exacts [.ok h.domainsOff.ds.updPower, .ok h.domainsOff.updPower]) (.ok h)

theorem Evolves.tapWake {cause chan prtad} (h : Evolves s₀ s) : Evolves s₀ (s.tapWake cause chan prtad) := by
  unfold State.tapWake
  dsimp only
  split
  · exact h
  all_goals exact h.updPower

theorem Evolves.execWakePinQualify (h : Evolves s₀ s) : Runs s₀ (execWakePinQualify s) :=
  .ite (.ok h.updPower.tapWake) (.ok h.updPower)
theorem Evolves.execMdioAddressWake {prtad} (h : Evolves s₀ s) : Runs s₀ (execMdioAddressWake prtad s) :=
  .ite (.ok h.tapWake) (.ok h)
theorem Evolves.execDormantWake (h : Evolves s₀ s) : Runs s₀ (execDormantWake s) :=
  .ite (.ok h.updClock.updPower) (.ok h)

theorem Evolves.execDormantExitToBoot (h : Evolves s₀ s) : Runs s₀ (execDormantExitToBoot s) := by
  unfold Machine.execDormantExitToBoot
  split
  · exact .ite
        (have h := h.noteWake.updPower.setMode.canopy
         .ok (.ite h h.takeRef))
        (.ok h)
  · exact .ok h

theorem Evolves.execRailupTimeout {railsOk} (h : Evolves s₀ s) : Runs s₀ (execRailupTimeout railsOk s) := by
  unfold Machine.execRailupTimeout
  split
  · exact .ite (.ok h) (.ok (.updPower (.ite (.ds (.ite h h.ds)) (.ite h h.ds))))
  · exact .ok h

theorem Evolves.vsupLost (h : Evolves s₀ s) : Evolves s₀ s.vsupLost :=
  ⟨fun _ => State.regsOk_of_nil rfl, h.pending, h.otp, fun _ => rfl⟩

theorem Evolves.execVsupPowerOn {xsd} (h : Evolves s₀ s) : Runs s₀ (execVsupPowerOn xsd s) := by
  unfold Machine.execVsupPowerOn
  split
  · exact .ok h.vsupLost.ds
  all_goals exact .ok h

theorem Evolves.execVsupBrownOut {mv} (h : Evolves s₀ s) : Runs s₀ (execVsupBrownOut mv s) :=
  .ite (.ok h) (.ok h.endHeart.vsupLost.updPower)
theorem Evolves.execResetNAssert {toSafe} (h : Evolves s₀ s) : Runs s₀ (execResetNAssert toSafe s) :=
  .ite (.ok h.updPower.warmReset) (.ok h.updPower)
theorem Evolves.execResetNRelease (h : Evolves s₀ s) : Runs s₀ (execResetNRelease s) := .ok h.updPower.releaseReset
theorem Evolves.execHeartWatchdogExpire {toSafe} (h : Evolves s₀ s) : Runs s₀ (execHeartWatchdogExpire toSafe s) :=
  .ite (.ok h.warmReset) (.ok h)
theorem Evolves.softReset (h : Evolves s₀ s) : Evolves s₀ s.softReset := .ite h.warmReset h
theorem Evolves.endOpWait (h : Evolves s₀ s) : Evolves s₀ s.endOpWait := h.forCh fun h => .ite h.updLink h
theorem Evolves.opDone {o} (h : Evolves s₀ s) : Evolves s₀ (s.opDone o) := h.ds.ds.updPower.sysEvtAll.endOpWait
theorem Evolves.execOpRaiseStart (h : Evolves s₀ s) : Runs s₀ (execOpRaiseStart s) := .ite (.ok h.ds.updPower) (.ok h)
theorem Evolves.execOpHoldExpire (h : Evolves s₀ s) : Runs s₀ (execOpHoldExpire s) := .ite (.ok h.ds.updPower) (.ok h)

theorem Evolves.execPgoodRise (h : Evolves s₀ s) : Runs s₀ (execPgoodRise s) := by
  unfold Machine.execPgoodRise
  dsimp only
  split
  · exact .ite (.ok h.updPower.opDone) (.ok h.updPower)
  · exact .ok h.updPower

theorem Evolves.execPgoodFall (h : Evolves s₀ s) : Runs s₀ (execPgoodFall s) := .ok h.updPower

theorem Evolves.execVsettleExpire (h : Evolves s₀ s) : Runs s₀ (execVsettleExpire s) := by
  unfold Machine.execVsettleExpire
  split
  · exact .ite (.ok h.opDone.ds.assertSrc) (.ok h.opDone)
  · exact .ok h

theorem Evolves.execTempMeasure {quarterDeg} (h : Evolves s₀ s) : Runs s₀ (execTempMeasure quarterDeg s) :=
  .ite
    (.ok h)
    (have h := Evolves.ite
         h.updPower.roundFree.ds.ds.sysEvtAll.updPower
         (.ite h.updPower.roundFree.ds.ds.sysEvtAll.updPower h.updPower.roundFree.ds)
     .ite (.ok h.raiseLevel) (.ok h.fallLevel))

theorem Evolves.execXthotExpire (h : Evolves s₀ s) : Runs s₀ (execXthotExpire s) :=
  .ite (.ok (h.foldl (fun h => h.linkLoss))) (.ok h)

/-! ### Machine/Cal -/

theorem Evolves.updCal {g} (h : Evolves s₀ s) : Evolves s₀ (s.updCal g) := h.cal
theorem Evolves.setUtIdle {g} (h : Evolves s₀ s) : Evolves s₀ (s.setUtIdle c g) := h.updCal
theorem Evolves.setDevIdle {g} (h : Evolves s₀ s) : Evolves s₀ (s.setDevIdle g) := h.updCal
theorem Evolves.calCommit {dev} (h : Evolves s₀ s) : Evolves s₀ (s.calCommit dev) := h.updCal.ds
theorem Evolves.applyTrims (h : Evolves s₀ s) : Evolves s₀ (s.applyTrims c) := h.restoreD

theorem Evolves.execBankCopyDone (h : Evolves s₀ s) : Runs s₀ (execBankCopyDone s) := by
  unfold Machine.execBankCopyDone
  split
  · exact .ok h.updCal
  · exact .ok h

theorem Evolves.endCalDev {status precond} (h : Evolves s₀ s) : Evolves s₀ (s.endCalDev status precond) :=
  .ite h.ds.ds.ds h.ds.ds.ds.ds
theorem Evolves.calDev {cmd m} (h : Evolves s₀ s) : Evolves s₀ (s.calDev cmd m) :=
  .ite h.ds (.ite h.ds.endCalDev h.ds.updCal)
theorem Evolves.stopCalDev {status} (h : Evolves s₀ s) : Evolves s₀ (s.stopCalDev status) := .ite h.updCal.endCalDev h
theorem Evolves.calAbortCmd (h : Evolves s₀ s) : Evolves s₀ s.calAbortCmd := .ite h.stopCalDev h.ds

theorem Evolves.imgSave (h : Evolves s₀ s) : Evolves s₀ s.imgSave := by
  unfold State.imgSave
  exact h.updCal.ds.endCalDev

theorem Evolves.imgLoad (h : Evolves s₀ s) : Evolves s₀ s.imgLoad :=
  .ite h.ds.endCalDev (.endCalDev (h.ds.setDevIdle.ds.foldl (fun h => h.setUtIdle)))

theorem Evolves.calCmd {cmd abort dev m} (h : Evolves s₀ s) : Evolves s₀ (s.calCmd cmd abort dev m) := by
  unfold State.calCmd
  extract_lets s1
  have h1 : Evolves s₀ s1 := .ite h.calAbortCmd h
  clear_value s1
  split
  · exact .ite h1 h1.ds
  · exact h1.calDev
  · exact h1.calDev
  · exact .ite h1.ds h1.imgSave
  · exact .ite h1.ds h1.imgLoad
  · exact .ite h1.ds h1.ds.endCalDev.calCommit
  · exact h1.ds

/-! ### Machine/Graft -/

theorem Evolves.swapDue {pool elem reason} (h : Evolves s₀ s) : Evolves s₀ (s.swapDue c pool elem reason) :=
  .ite
    (have h := h.cs.updGraft
     .ite h.assertSrc h)
    (.ite h.updGraft.swapRecord h.updGraft.cs)

theorem Evolves.trigger {n} (h : Evolves s₀ s) : Evolves s₀ (s.trigger c n) := by
  induction n generalizing s with
  | zero => exact h
  | succ n ih =>
    unfold State.trigger
    refine .ite h ?_
    split
    · exact .ite (ih h.swapDue) h
    · split
      · exact h
      · exact .ite (ih h.cs.swapDue) h.cs.updGraft

theorem Evolves.triggers (h : Evolves s₀ s) : Evolves s₀ (s.triggers c) := h.trigger

theorem Evolves.wearOf {m} (h : Evolves s₀ s) : Evolves s₀ (s.wearOf c m).2 := by
  unfold State.wearOf
  extract_lets idx slow slowDen
  split
  · exact .ite_snd h.roundFree h.roundFree
  · exact h.roundFree
  · exact h.roundFree
  · exact .ite_snd h h.roundFree

theorem Evolves.execWearUpdate {l} (h : Evolves s₀ s) : Runs s₀ (execWearUpdate c l s) :=
  .ite (.ok h) (.ok (.triggers (h.foldl (fun h => h.wearOf.updGraft))))

theorem Evolves.approve (h : Evolves s₀ s) : Evolves s₀ (s.approve c) := by
  unfold State.approve
  split
  · exact .ite h.swapDue.triggers h.cs
  · exact h.cs

theorem Evolves.deny (h : Evolves s₀ s) : Evolves s₀ (s.deny c) := by
  unfold State.deny
  split
  · exact .ite h.updGraft.cs.triggers h.cs
  · exact h.cs

theorem Evolves.swapCmd {pool elem} (h : Evolves s₀ s) : Evolves s₀ (s.swapCmd c pool elem) :=
  .ite h.cs h.swapDue.triggers

theorem Evolves.graftCmd {v} (h : Evolves s₀ s) : Evolves s₀ (s.graftCmd c v) :=
  have h := Evolves.ite h.approve h
  have h := Evolves.ite h.deny h
  .ite h.swapCmd h

theorem Evolves.addRecord {pool elem} (h : Evolves s₀ s) : Evolves s₀ (s.addRecord c pool elem) :=
  h.setOtp (Otp.onlyOn_subst ..)

theorem Evolves.execGraftSwitch (h : Evolves s₀ s) : Runs s₀ (execGraftSwitch c s) := by
  unfold Machine.execGraftSwitch
  split
  · split
    · exact .ite (.ok h.updGraft.cs.cs.cs.cs.triggers) (.ok h)
    · exact .ok h
  · exact .ok h

theorem Evolves.execLifeEstimate (h : Evolves s₀ s) : Runs s₀ (execLifeEstimate c s) :=
  .ite (.ok h) (by dsimp only; split; exacts [.ok (.ite h.updGraft.cs.cs.cs h.updGraft.cs.cs), .ok h.updGraft])
theorem Evolves.bistFinish (h : Evolves s₀ s) : Evolves s₀ (s.bistFinish c) := h.cs.cs.cs.cs.updGraft.beginReset
theorem Evolves.leaveRow (h : Evolves s₀ s) : Evolves s₀ (s.leaveRow c) := h.cs

theorem Evolves.bistNext {l} (h : Evolves s₀ s) : Evolves s₀ (s.bistNext c l) := by
  induction l generalizing s with
  | nil => exact h.bistFinish
  | cons x l ih => exact .ite h.updGraft (ih h.leaveRow)

theorem Evolves.execBistComplete {r} (h : Evolves s₀ s) : Runs s₀ (execBistComplete c r s) :=
  .ite (by split; exacts [.ite (.ok h) (.ok h.leaveRow.bistNext), .ok h.cs.cs.cs.bistNext]) (.ok h)

theorem Evolves.execGraftRecordDone {bad} (h : Evolves s₀ s) : Runs s₀ (execGraftRecordDone c bad s) := by
  unfold Machine.execGraftRecordDone
  split
  · exact .ite
        (.ok h)
        (by split; exacts [.ok h.assertSrc,
             .ite (.ok h.addRecord.updGraft.cinc.bistNext) (.ok h.addRecord.updGraft)])
  · exact .ok h

theorem Evolves.supplyAbort (h : Evolves s₀ s) : Evolves s₀ s.supplyAbort :=
  h.stopCalDev.forCh fun h => h.endCalCh.swapDefer
theorem Evolves.swapRetry (h : Evolves s₀ s) : Evolves s₀ s.swapRetry :=
  h.forCh fun h => h.updGraft.swapRecord.triggers
theorem Evolves.calgRun {cmd m} (h : Evolves s₀ s) : Evolves s₀ (s.calgRun c cmd m) :=
  .ite h.cs (.ite h.cs.cs.cs.cs.cs h.cs.updGraft)
theorem Evolves.calEnded (h : Evolves s₀ s) : Evolves s₀ (s.calEnded c) := h.swapRecord.triggers

theorem Evolves.calgAbortCmd (h : Evolves s₀ s) : Evolves s₀ (s.calgAbortCmd c) := by
  unfold State.calgAbortCmd
  split
  · exact .ite h.cs h.endCalCh.calEnded
  · exact h.cs

theorem Evolves.calgCmd {cmd abort fromProg m} (h : Evolves s₀ s) : Evolves s₀ (s.calgCmd c cmd abort fromProg m) := by
  unfold State.calgCmd
  extract_lets s1
  have h1 : Evolves s₀ s1 := .ite h.calgAbortCmd h
  clear_value s1
  split
  · exact .ite h1 h1.cs
  · exact h1.calgRun
  · exact h1.calgRun
  · exact h1.calgRun
  · exact .ite h1.cs h1.calgRun
  · exact h1.cs

theorem Evolves.execCalComplete {o meas target target2} (h : Evolves s₀ s) :
    Runs s₀ (Machine.execCalComplete o meas target target2 s) := by
  unfold Machine.execCalComplete
  cases o with
  | none =>
    dsimp only
    split
    · split
      · exact .ok h.updCal.ds.setDevIdle.endCalDev
      · exact .ok h.updCal.ds.endCalDev
    · exact .ok h
  | some c =>
    dsimp -zeta only
    extract_lets ft write s1
    clear_value write
    split
    · exact .ok h
    · split
      · exact .ok h.cs.setUtIdle.endCalCh.calEnded
      · exact .ok h.cs.endCalCh.calEnded
    · exact .ok h

theorem Evolves.execSliceCalUpdate {slice off gain skew fault} (h : Evolves s₀ s) :
    Runs s₀ (execSliceCalUpdate c slice off gain skew fault s) :=
  .ite (by split; exacts [.ok h.raiseLevel, .ok h.updGraft]) (.ok h)

/-! ### Machine/Supply -/

theorem Evolves.writeDip {d} (h : Evolves s₀ s) : Evolves s₀ (s.writeDip d) := h.ds.ds.ds

theorem Evolves.heartWarn (h : Evolves s₀ s) : Evolves s₀ s.heartWarn := by
  unfold State.heartWarn
  split
  · exact h.rbCut.heartRes.updHeart
  · exact .ite h.fresh.heartRes.updHeart h.fresh
  · exact .ite h.fresh.heartRes.updHeart.clearStaging h.fresh
  · exact .ite h.fresh.heartRes.updHeart h.fresh
  · exact .ite h.fresh.heartRes.updHeart h.fresh.lcCut.fresh.heartRes.updHeart.endSession
  · exact .ite h.fresh.heartRes.updHeart h.fresh.lcCut.fresh.heartRes.updHeart.endSession
  all_goals exact h

theorem Evolves.execSupplyWarnStart {rail mv} (h : Evolves s₀ s) : Runs s₀ (execSupplyWarnStart rail mv s) :=
  .ite
    (.ok h)
    (have h := Evolves.ite h.updPower.dinc h.updPower
     .ite
       (.ok h)
       (.ok (.heartWarn (.supplyAbort (.sysEvtAll (h.ds.setLive.assertSrc.forCh (fun h => .ite h.cs h)))))))

theorem Evolves.execSupplyWarnEnd {rail minMv} (h : Evolves s₀ s) : Runs s₀ (execSupplyWarnEnd rail minMv s) :=
  .ite
    (.ok h)
    (by
       dsimp only
       split
       · exact .ite
             (have h := h.updPower.updPower.writeDip
              .ite (.ok h.ds.fallLevel.sysEvtAll) (.ok h))
             (.ok h.updPower.updPower)
       · exact .ok h.updPower)

theorem Evolves.execDipholdExpire (h : Evolves s₀ s) : Runs s₀ (execDipholdExpire s) := by
  unfold Machine.execDipholdExpire
  split
  · exact .ite (.ok (.swapRetry (h.updPower.forCh (fun h => .ite h.cs h)))) (.ok h)
  · exact .ok h

theorem Evolves.execSupplyReset {rail minMv toSafe} (h : Evolves s₀ s) :
    Runs s₀ (execSupplyReset rail minMv toSafe s) :=
  .ite (.ok h) (.ok (.warmReset (.updPower (by split <;> exact h.writeDip))))

theorem Evolves.execSupplyResetRelease (h : Evolves s₀ s) : Runs s₀ (execSupplyResetRelease s) := .ok h.releaseReset

/-! ### Machine/Dsp -/

theorem Evolves.updAct {g} (h : Evolves s₀ s) : Evolves s₀ (s.updAct c g) := h.updDsp
theorem Evolves.updStby {g} (h : Evolves s₀ s) : Evolves s₀ (s.updStby c g) := h.updDsp
theorem Evolves.acquire {e} (h : Evolves s₀ s) : Evolves s₀ (s.acquire c e) := h.updRx
theorem Evolves.acquireAll (h : Evolves s₀ s) : Evolves s₀ (s.acquireAll c) := h.updRx
theorem Evolves.clearTaps (h : Evolves s₀ s) : Evolves s₀ (s.clearTaps c) := h.updAct.updDsp.acquireAll
theorem Evolves.clearEc (h : Evolves s₀ s) : Evolves s₀ (s.clearEc c) := h.updAct.foldl fun h => h.acquire
theorem Evolves.probeDwell (h : Evolves s₀ s) : Evolves s₀ (s.probeDwell c) := .ite h (by split; exacts [h, h.updRx])

theorem Evolves.execProbeDwellEnd {est} (h : Evolves s₀ s) : Runs s₀ (execProbeDwellEnd c est s) :=
  .ite
    (.ok h)
    (by split; exacts [.ok h, by dsimp only; split; exacts [.ok h.updRx.updRx.updRx, .ok h.updRx.updRx.updRx.cinc]])

theorem Evolves.capt (h : Evolves s₀ s) : Evolves s₀ (s.capt c) := .ite h.cs h.updRx
theorem Evolves.rebase (h : Evolves s₀ s) : Evolves s₀ (s.rebase c) := .ite h.updRx h.cs
theorem Evolves.snapReq (h : Evolves s₀ s) : Evolves s₀ (s.snapReq c) := .ite h.updRx h

theorem Evolves.dspCmd {v} (h : Evolves s₀ s) : Evolves s₀ (s.dspCmd c v) :=
  have h := Evolves.ite h.capt h
  have h := Evolves.ite h.snapReq h
  have h := Evolves.ite h.updRx h
  have h := Evolves.ite h.rebase h
  .ite h.updRx h

theorem Evolves.execSnapPeriodic (h : Evolves s₀ s) : Runs s₀ (execSnapPeriodic c s) := .ite (.ok h.snapReq) (.ok h)
theorem Evolves.resample {b ra rs k} (h : Evolves s₀ s) : Evolves s₀ (s.resample c b ra rs k).2 := h.roundFree

theorem Evolves.rebaseDone (h : Evolves s₀ s) : Evolves s₀ (s.rebaseDone c) := by
  unfold State.rebaseDone
  extract_lets d ra rs n delays r taps
  have h1 : Evolves s₀ r.2 := .foldl_snd h fun h => h.resample
  exact h1.updStby.updDsp.updRx

theorem Evolves.bankSwap (h : Evolves s₀ s) : Evolves s₀ (s.bankSwap c) := by
  unfold State.bankSwap
  exact .updRx (.acquireAll (.cs (.ite h.updDsp h.updDsp.updAct)))

theorem Evolves.placeSh (h : Evolves s₀ s) : Evolves s₀ (s.placeSh c) :=
  .ite h (.ite h.updCh (.ite (h.updCh.foldl (fun h => h.updAct.acquire)) h.updCh.cs))
theorem Evolves.placeWord {p} (h : Evolves s₀ s) : Evolves s₀ (s.placeWord c p) :=
  .ite h.cs (.ite h.updDsp.acquire h.updDsp)

theorem Evolves.placeByProbe {p r} (h : Evolves s₀ s) : Evolves s₀ (s.placeByProbe c p r) := by
  unfold State.placeByProbe
  split
  · exact h
  · exact .ite h.cs (h.updAct.acquire.foldl (fun h => by split; exacts [h.updAct, h]))

theorem Evolves.placeAll (h : Evolves s₀ s) : Evolves s₀ (s.placeAll c) := by
  unfold State.placeAll
  exact
    Evolves.andThen (by split; exacts [h.updAct, h]) fun h =>
    .updRx (.placeByProbe (.foldl (.placeSh (.ite h.clearTaps h)) (fun h => h.placeWord)))

theorem Evolves.adaptOne {g} (h : Evolves s₀ s) : Evolves s₀ (s.adaptOne c g) :=
  .ite h (.updAct (by split <;> exact h.roundFree))
theorem Evolves.timing {pd} (h : Evolves s₀ s) : Evolves s₀ (s.timing c pd) := .ite h h.updRx.roundFree.cs.cs

theorem Evolves.countSat (h : Evolves s₀ s) : Evolves s₀ (s.countSat c) := by
  unfold State.countSat
  exact h.updRx

theorem Evolves.decode {inp} (h : Evolves s₀ s) : Evolves s₀ (s.decode c inp) := .ite h h.updRx
theorem Evolves.agc {pga} (h : Evolves s₀ s) : Evolves s₀ (s.agc c pga) := .ite h.cs h

theorem Evolves.adapt {inp} (h : Evolves s₀ s) : Evolves s₀ (s.adapt c inp) :=
  have h := Evolves.decode (.countSat (.timing (.updRx (h.foldl (fun h => h.adaptOne)))))
  .ite h h.agc

theorem Evolves.captSnap (h : Evolves s₀ s) : Evolves s₀ (s.captSnap c) :=
  have h := Evolves.ite h.updRx h
  .ite h.updDsp.updRx h

theorem Evolves.blockBoundary {inp} (h : Evolves s₀ s) : Evolves s₀ (s.blockBoundary c inp) :=
  .captSnap (.probeDwell (.adapt (.updRx (.placeAll (.ite h.updRx.bankSwap h.updRx)))))
theorem Evolves.execAcqToTrack {e} (h : Evolves s₀ s) : Runs s₀ (execAcqToTrack c e s) := .ite (.ok h.updRx) (.ok h)
theorem Evolves.tapInc (h : Evolves s₀ s) : Evolves s₀ (s.tapInc c) := .ite h.cinc h
theorem Evolves.tapWrite {v} (h : Evolves s₀ s) : Evolves s₀ (s.tapWrite c v) :=
  .tapInc (.ite h.cs (.ite (.ite h.cs (.ite h.cs h.updRx)) (.ite h.cs (.ite h.updStby (.ite h.updAct h.cs)))))
theorem Evolves.stbyType {typ} (h : Evolves s₀ s) : Evolves s₀ (s.stbyType c typ) := h.cs.updDsp
theorem Evolves.clearDiverged (h : Evolves s₀ s) : Evolves s₀ (s.clearDiverged c) := h.cs.cs
theorem Evolves.diverge {kind} (h : Evolves s₀ s) : Evolves s₀ (s.diverge c kind) :=
  .ite h (.assertSrc (.ite h.cs.cs.updRx h.cs.cs))
theorem Evolves.execTapSatCountExpire (h : Evolves s₀ s) : Runs s₀ (execTapSatCountExpire c s) :=
  .ite (.ok h.diverge) (.ok h)
theorem Evolves.snrOf {pam4 n err} (h : Evolves s₀ s) : Evolves s₀ (s.snrOf pam4 n err).2 :=
  .ite_snd h.fresh (.ite_snd h (.ite_snd h h.fresh))

/-! ### Machine/Link -/

theorem Evolves.setSh {f v} (h : Evolves s₀ s) : Evolves s₀ (s.setSh c f v) := h.updCh
theorem Evolves.shApply (h : Evolves s₀ s) : Evolves s₀ (s.shApply c) :=
  .applyTrims (h.updCh.foldl (fun h => .ite h.cs.cs h.cs))
theorem Evolves.updLine {g} (h : Evolves s₀ s) : Evolves s₀ (s.updLine c g) := h.updCh

theorem Evolves.toData {typ fr} (h : Evolves s₀ s) : Evolves s₀ (s.toData c typ fr) := by
  unfold State.toData
  exact h.cs.shApply.updLine

theorem Evolves.resolveRole {own partner ownSeed lpSeed} (h : Evolves s₀ s) :
    Evolves s₀ (s.resolveRole own partner ownSeed lpSeed).2 := by
  unfold State.resolveRole
  dsimp only
  split
  · exact h
  · split
    · exact h
    · split
      · exact h
      · split
        · exact h
        · exact h.fresh

theorem Evolves.toTraining (h : Evolves s₀ s) : Evolves s₀ (s.toTraining c) := .ite h h.setSub.updRx
theorem Evolves.noPartner (h : Evolves s₀ s) : Evolves s₀ (s.noPartner c) := h.cs.cs
theorem Evolves.enterAn (h : Evolves s₀ s) : Evolves s₀ (s.enterAn c) := h.cs.cs.cs.noPartner.fresh.updLink.toTraining
theorem Evolves.enterTrain {typ master} (h : Evolves s₀ s) : Evolves s₀ (s.enterTrain c typ master) :=
  h.cs.cs.takeRoot.updLink.updLine.updDsp.toTraining
theorem Evolves.enterForced (h : Evolves s₀ s) : Evolves s₀ (s.enterForced c) := h.noPartner.updLink.enterTrain

theorem Evolves.attempt (h : Evolves s₀ s) (ht : s.attempt c = some t) : Evolves s₀ t := by
  unfold State.attempt at ht
  split at ht
  · exact Option.some.inj ht ▸ h.enterAn
  · split at ht
    · exact Option.some.inj ht ▸ h.enterForced
    · nomatch ht

theorem Evolves.toHoldoff {restart} (h : Evolves s₀ s) : Evolves s₀ (s.toHoldoff c restart) :=
  h.endLine.updLink.setSub
theorem Evolves.trainFail {evt} (h : Evolves s₀ s) : Evolves s₀ (s.trainFail c evt) := h.cs.cinc.polFail.toHoldoff
theorem Evolves.linkRej (h : Evolves s₀ s) : Evolves s₀ (s.linkRej c) := h.cs

theorem Evolves.cmdStart (h : Evolves s₀ s) : Evolves s₀ (s.cmdStart c) := by
  refine .ite ?_ h.linkRej
  extract_lets s1
  have h1 : Evolves s₀ s1 := h.updLink
  cases ha : s1.attempt c with
  | some t => exact h1.attempt ha
  | none => exact h1.linkRej

theorem Evolves.cmdStop {fromProg} (h : Evolves s₀ s) : Evolves s₀ (s.cmdStop c fromProg) := by
  unfold State.cmdStop
  split
  · exact h.linkRej
  · exact h.updLink
  · exact h.toHoldoff
  · exact h.toHoldoff
  all_goals exact h.linkLoss

theorem Evolves.cmdRestart {fromProg} (h : Evolves s₀ s) : Evolves s₀ (s.cmdRestart c fromProg) := by
  unfold State.cmdRestart
  split
  · exact h.linkRej
  · exact h.linkRej
  · exact h.toHoldoff
  · exact h.toHoldoff
  all_goals exact h.linkLoss

theorem Evolves.sayOnce {m} (h : Evolves s₀ s) : Evolves s₀ (s.sayOnce c m) := h.updLink
theorem Evolves.say {m} (h : Evolves s₀ s) : Evolves s₀ (s.say c m) := h.sayOnce.updLink
theorem Evolves.hush (h : Evolves s₀ s) : Evolves s₀ (s.hush c) := h.updLink
theorem Evolves.sendShift {id reason f} (h : Evolves s₀ s) : Evolves s₀ (s.sendShift c id reason f) := h.say
theorem Evolves.updShift {g} (h : Evolves s₀ s) : Evolves s₀ (s.updShift c g) := h.updLink
theorem Evolves.acted {id m} (h : Evolves s₀ s) : Evolves s₀ (s.acted c id m) := h.updLink

theorem Evolves.shiftCancelled {reason} (h : Evolves s₀ s) : Evolves s₀ (s.shiftCancelled c reason) := by
  unfold State.shiftCancelled
  exact h.cs.cs.cs.updLink

theorem Evolves.sendSet (h : Evolves s₀ s) : Evolves s₀ (s.sendSet c) := h.cs.cs.updShift.sendShift

theorem Evolves.sendAck (h : Evolves s₀ s) : Evolves s₀ (s.sendAck c) :=
  have h := h.cs.updShift
  .ite h.sendShift.sendSet h.sendShift

theorem Evolves.ackIfDue (h : Evolves s₀ s) : Evolves s₀ (s.ackIfDue c) := by
  unfold State.ackIfDue
  split
  · exact .ite h.sendAck h
  · exact h

theorem Evolves.beginShift {init target tid due} (h : Evolves s₀ s) :
    Evolves s₀ (s.beginShift c init target tid due) := by
  unfold State.beginShift
  exact h.cs.cs.updLink

theorem Evolves.cmdShift (h : Evolves s₀ s) : Evolves s₀ (s.cmdShift c) :=
  .ite (.ite h.cs.linkRej h.fresh.beginShift.sendShift) h.linkRej

theorem Evolves.cmdShiftCancel (h : Evolves s₀ s) : Evolves s₀ (s.cmdShiftCancel c) := by
  unfold State.cmdShiftCancel
  split
  · exact .ite h.linkRej h.sendShift.shiftCancelled
  · exact h.linkRej

theorem Evolves.linkCmd {v fromProg} (h : Evolves s₀ s) : Evolves s₀ (s.linkCmd c v fromProg) :=
  have h := Evolves.ite h.linkRej h
  .ite h.cmdStop (.ite h.cmdRestart (.ite h.cmdStart (.ite h.cmdShiftCancel (.ite h.cmdShift h))))

theorem Evolves.execHoldoffEnd (h : Evolves s₀ s) : Runs s₀ (execHoldoffEnd c s) := by
  refine .ite (.ite ?_ (.ok h.toStop)) (.ok h)
  split
  · next ha => exact .ok (h.attempt ha)
  · exact .ok h.toStop.linkRej

theorem Evolves.execAnPageReceive {p} (h : Evolves s₀ s) : Runs s₀ (execAnPageReceive c p s) :=
  .ite
    (.ok h)
    (by
       split
       · exact .ok h.cs.cs.updLink
       · exact .ok h.updLink
       · exact .ite (.ok h.cs.cs.cs.updLink) (.ok h)
       · exact .ok h.updLink)

theorem Evolves.execAnResolve (h : Evolves s₀ s) : Runs s₀ (Machine.execAnResolve c s) := by
  refine .ite (.ok h) ?_
  extract_lets l
  split
  · exact .ok h
  · extract_lets r s1
    have h1 : Evolves s₀ s1 := h.resolveRole
    clear_value s1
    split
    · exact .ok h1.cs.trainFail
    · exact .ite (.ok h1.cs.trainFail) (.ok h1.cs.enterTrain)

theorem Evolves.execAnTimeout (h : Evolves s₀ s) : Runs s₀ (execAnTimeout c s) := .ite (.ok h.trainFail) (.ok h)
theorem Evolves.execTrainTimeout (h : Evolves s₀ s) : Runs s₀ (execTrainTimeout c s) := .ite (.ok h.trainFail) (.ok h)
theorem Evolves.toX {x} (h : Evolves s₀ s) : Evolves s₀ (s.toX c x) := h.updLink

theorem Evolves.enterCheck (h : Evolves s₀ s) : Evolves s₀ (s.enterCheck c) := by
  unfold State.enterCheck
  exact h.toX.toData.updLine

theorem Evolves.xEval (h : Evolves s₀ s) : Evolves s₀ (s.xEval c) := by
  unfold State.xEval
  dsimp only
  split
  · exact .ite h.toX h
  · exact .ite h.toX h
  · exact .ite h.toX h
  · exact .ite h.toX h
  all_goals exact h

theorem Evolves.execXsilExpire (h : Evolves s₀ s) : Runs s₀ (execXsilExpire c s) := .ite (.ok h.toX) (.ok h)

theorem Evolves.xiApply (h : Evolves s₀ s) : Evolves s₀ (s.xiApply c) :=
  have h := Evolves.ite h.setSh.setSh.setSh h
  .ite h.setSh h

theorem Evolves.execInfofieldReceive {bits' crc} (h : Evolves s₀ s) : Runs s₀ (execInfofieldReceive c bits' crc s) :=
  .ite
    (.ok h)
    (have h := h.foldl (fun h => h.cs)
     .ite (.ok h.updLink.xiApply.toX) (.ok h.updLink.xiApply.xEval))

theorem Evolves.execInfofieldSend (h : Evolves s₀ s) : Runs s₀ (execInfofieldSend c s) :=
  .ite (.ok h) (.ite (.ite (.ok h.updLink.enterCheck) (.ok h.updLink.updLink)) (.ok h.updLink))

theorem Evolves.precoders {lpReq ack} (h : Evolves s₀ s) : Evolves s₀ (s.precoders c lpReq ack) :=
  Evolves.andThen (by split; exacts [h.setSh, h]) fun h =>
  .ite h.setSh h

theorem Evolves.execLinkUp {lpReq ack} (h : Evolves s₀ s) : Runs s₀ (execLinkUp c lpReq ack s) :=
  .ite
    (.ok h)
    (.ite (.ok h) (.ok (.cs (.setSub (.updPol (.updLpi (.updLink (.ite h (.toData (.ite h.precoders h))))))))))

theorem Evolves.critLoss {cause} (h : Evolves s₀ s) : Evolves s₀ (s.critLoss c cause) := .ite h.linkLoss h
theorem Evolves.execLinkMonitorFail {why} (h : Evolves s₀ s) : Runs s₀ (execLinkMonitorFail c why s) :=
  .ite (.ok h.critLoss) (.ok h)
theorem Evolves.nakShift {m reason} (h : Evolves s₀ s) : Evolves s₀ (s.nakShift c m reason) := h.sayOnce
theorem Evolves.takeReq {m} (h : Evolves s₀ s) : Evolves s₀ (s.takeReq c m) :=
  .ite h.cs.nakShift (.ackIfDue (.beginShift (.ite h h.stbyType.rebase)))

theorem Evolves.execShiftReqReceive {m} (h : Evolves s₀ s) : Runs s₀ (execShiftReqReceive c m s) :=
  .ite
    (.ok h)
    (by
       dsimp only
       split
       · exact .ite (.ite (.ok h.acted) (.ok h.acted.cs.cs.updLink.takeReq)) (.ok h.acted.cs.nakShift)
       · exact .ok h.acted.takeReq)

theorem Evolves.execShiftAckReceive {m} (h : Evolves s₀ s) : Runs s₀ (execShiftAckReceive c m s) := by
  unfold Machine.execShiftAckReceive
  split
  · exact .ite (.ok (.ite h.acted.cs.sendSet h.acted.cs)) (.ok h)
  · exact .ok h

theorem Evolves.execShiftNakReceive {m} (h : Evolves s₀ s) : Runs s₀ (execShiftNakReceive c m s) := by
  unfold Machine.execShiftNakReceive
  split
  · exact .ite (.ok h.acted.shiftCancelled) (.ok h)
  · exact .ok h

theorem Evolves.execShiftSetReceive {m} (h : Evolves s₀ s) : Runs s₀ (execShiftSetReceive c m s) := by
  unfold Machine.execShiftSetReceive
  split
  · exact .ite (.ok h.acted.cs.cs.updShift.sendShift) (.ok h)
  · exact .ok h

theorem Evolves.execShiftSetackReceive {m} (h : Evolves s₀ s) : Runs s₀ (execShiftSetackReceive c m s) := by
  unfold Machine.execShiftSetackReceive
  split
  · exact .ite (.ok h.acted) (.ok h)
  · exact .ok h

theorem Evolves.execShiftCancelReceive {m} (h : Evolves s₀ s) : Runs s₀ (execShiftCancelReceive c m s) := by
  unfold Machine.execShiftCancelReceive
  split
  · exact .ite (.ok h.acted.shiftCancelled) (.ok h)
  · exact .ok h

theorem Evolves.execShiftRspTimeout (h : Evolves s₀ s) : Runs s₀ (execShiftRspTimeout c s) := by
  unfold Machine.execShiftRspTimeout
  split
  · exact .ite (.ok h) (.ok h.fresh.sendShift.shiftCancelled)
  · exact .ok h

theorem Evolves.execShiftSwitch (h : Evolves s₀ s) : Runs s₀ (execShiftSwitch c s) := by
  unfold Machine.execShiftSwitch
  split
  · exact .ite (.ok h.toData.cs.cs.cs.updLine.updRx.updLink.updShift) (.ok h)
  · exact .ok h

theorem Evolves.shiftFinish (h : Evolves s₀ s) : Evolves s₀ (s.shiftFinish c) := by
  unfold State.shiftFinish
  split
  · exact .ite h.updLink.cs.cs h
  · exact h

theorem Evolves.shiftQualify (h : Evolves s₀ s) : Evolves s₀ (s.shiftQualify c) := by
  unfold State.shiftQualify
  split
  · exact .ite h.updShift.cs.sendShift.shiftFinish h
  · exact h

theorem Evolves.execShiftDoneReceive {m} (h : Evolves s₀ s) : Runs s₀ (execShiftDoneReceive c m s) := by
  unfold Machine.execShiftDoneReceive
  split
  · exact .ite (.ok h.acted.updShift.shiftFinish) (.ok h)
  · exact .ok h

theorem Evolves.execShiftResumeTimeout (h : Evolves s₀ s) : Runs s₀ (execShiftResumeTimeout c s) := by
  unfold Machine.execShiftResumeTimeout
  split
  · exact .ite (.ok h.cs.critLoss) (.ite (.ok h.cs.critLoss) (.ok h))
  · exact .ok h

theorem Evolves.execRebaseDone (h : Evolves s₀ s) : Runs s₀ (execRebaseDone c s) :=
  .ite (.ok h.rebaseDone.ackIfDue) (.ok h)

theorem Evolves.execBlockLockChange {lock aligned} (h : Evolves s₀ s) :
    Runs s₀ (execBlockLockChange c lock aligned s) :=
  .ite
    (.ok h)
    (have h := Evolves.ite h.cs h.cs.updLine
     .ok (.shiftQualify (.ite h.cs h)))

theorem Evolves.oamFrame (h : Evolves s₀ s) : Evolves s₀ (s.oamFrame c) := .ite h.updLink h.updLink

theorem Evolves.chctlCtl {v fromProg} (h : Evolves s₀ s) : Evolves s₀ (s.chctlCtl c v fromProg) :=
  have h := Evolves.ite h.cs.updPol h.cs
  have h := Evolves.ite h h.cs.cs.cs.cs.cs
  have h := Evolves.ite h.setSub h
  .ite h.voteBit.voteChanged h

theorem Evolves.execMaintEntry (h : Evolves s₀ s) : Runs s₀ (execMaintEntry c s) :=
  .ite (.ok h.forceStop.setSub) (.ok h)
theorem Evolves.qrel (h : Evolves s₀ s) : Evolves s₀ (s.qrel c) := .ite h.releaseCh.voteChanged h.cs

/-! ### Machine/Seg -/

theorem Evolves.segRej (h : Evolves s₀ s) : Evolves s₀ (s.segRej c) := h.cs
theorem Evolves.segStart (h : Evolves s₀ s) : Evolves s₀ (s.segStart c) := .ite h.updSeg.updCh.setSub.toData h.segRej

theorem Evolves.segStop {fromProg} (h : Evolves s₀ s) : Evolves s₀ (s.segStop c fromProg) := by
  unfold State.segStop
  split
  · exact h.segRej
  · exact h.toStop.setSub
  · exact h.linkLoss

theorem Evolves.segCmd {v fromProg} (h : Evolves s₀ s) : Evolves s₀ (s.segCmd c v fromProg) :=
  .ite (.segStop (.ite h.segRej h)) (.ite h.segStart h)

theorem Evolves.segCtl {v} (h : Evolves s₀ s) : Evolves s₀ (s.segCtl c v) :=
  have h := h.cs.cs.cs.cs
  .ite h.segRej h.cs

theorem Evolves.newCycle (h : Evolves s₀ s) : Evolves s₀ (s.newCycle c) := by
  unfold State.newCycle
  exact .updSeg (.cs (by split; exacts [h.cs, h]))

theorem Evolves.sendBeacon (h : Evolves s₀ s) : Evolves s₀ (s.sendBeacon c) := .newCycle (.ite h h.cinc)
theorem Evolves.segUp {csma coord} (h : Evolves s₀ s) : Evolves s₀ (s.segUp c csma coord) := h.updSeg.setSub.cs
theorem Evolves.execSegJoinExpire (h : Evolves s₀ s) : Runs s₀ (execSegJoinExpire c s) :=
  .ite (.ok h) (.ite (.ok h.segUp) (.ite (.ok h.segUp.sendBeacon) (.ite (.ok h.segUp) (.ok h))))
theorem Evolves.execSegJoinTimeout (h : Evolves s₀ s) : Runs s₀ (execSegJoinTimeout c s) :=
  .ite (.ok h.cs.toStop.setSub) (.ok h)

theorem Evolves.execBeaconReceive {mv} (h : Evolves s₀ s) : Runs s₀ (execBeaconReceive c mv s) :=
  .ite
    (.ok h)
    (.ite
       (.ok h.cinc.cinc.cs)
       (.ite (.ok h.cinc.newCycle.segUp) (.ite (.ok h.cinc.newCycle.updSeg.plcaBack) (.ok h.cinc.newCycle))))

theorem Evolves.execBeaconLoss (h : Evolves s₀ s) : Runs s₀ (execBeaconLoss c s) :=
  .ite (.ok h) (.ite (.ok h.linkLoss) (.ite (.ok h) (.ok h.updSeg.cs.cinc)))
theorem Evolves.plcaNext (h : Evolves s₀ s) : Evolves s₀ (s.plcaNext c) :=
  .ite h (.ite h.updSeg.sendBeacon h.updSeg.cs)
theorem Evolves.plcaUsed (h : Evolves s₀ s) : Evolves s₀ (s.plcaUsed c) := .ite (.ite h.updSeg h.updSeg.plcaNext) h
theorem Evolves.execPlcaToExpire (h : Evolves s₀ s) : Runs s₀ (execPlcaToExpire c s) := .ite (.ok h) (.ok h.plcaNext)
theorem Evolves.segDiscard {reason} (h : Evolves s₀ s) : Evolves s₀ (s.segDiscard c reason) := h.dropLine.plcaBack
theorem Evolves.drawBackoff {n} (h : Evolves s₀ s) : Evolves s₀ (s.drawBackoff c n).2 := .snd h.updSeg

theorem Evolves.execCollision {bitTime diff} (h : Evolves s₀ s) : Runs s₀ (execCollision c bitTime diff s) :=
  .ite
    (.ok h)
    (have h := Evolves.ite h.cinc.cinc h.cinc
     .ite (.ok (.segDiscard (.ite h.plcaNext h))) (.ite (.ok h.drawBackoff.updSeg) (.ok h.updSeg.plcaNext)))

theorem Evolves.execBackoffExpire (h : Evolves s₀ s) : Runs s₀ (execBackoffExpire c s) :=
  .ite (.ok h.updSeg.plcaBack) (.ok h)

theorem Evolves.execRetryStart (h : Evolves s₀ s) : Runs s₀ (execRetryStart c s) :=
  .ite
    (.ok h)
    (.ite
       (.ok h)
       (.ite
          (.ok h.segDiscard)
          (have h := h.updSeg.cinc
           by dsimp only; split; exacts [.ite (.ok h.updQ.stampNow.updQ) (.ok h.updQ), .ok h.updQ])))

theorem Evolves.execRewindOvertake (h : Evolves s₀ s) : Runs s₀ (execRewindOvertake c s) := by
  unfold Machine.execRewindOvertake
  split
  · exact .ite (.ok (.freeCells (.updQ (.ite h.updSeg.cs.cinc h)))) (.ok h)
  · exact .ok h

/-! ### Machine/Diag -/

theorem Evolves.diagRej (h : Evolves s₀ s) : Evolves s₀ (s.diagRej c) := h.cs
theorem Evolves.tdrCmd (h : Evolves s₀ s) : Evolves s₀ (s.tdrCmd c) := .ite h.updDiag h.diagRej
theorem Evolves.isrCmd (h : Evolves s₀ s) : Evolves s₀ (s.isrCmd c) := .ite h.updDiag h.diagRej
theorem Evolves.sqiRst (h : Evolves s₀ s) : Evolves s₀ (s.sqiRst c) := .ite h h.cs.cs.cs

theorem Evolves.diagCmd {v} (h : Evolves s₀ s) : Evolves s₀ (s.diagCmd c v) :=
  h.overCycle (k := { s.cyc with trClr := s.cyc.trClr || v.testBit 3 })
    (have h := Evolves.refl _
     have h := Evolves.ite h.diagRej h
     have h := Evolves.ite h.diagStop (.ite h.tdrCmd (.ite h.isrCmd h))
     have h := Evolves.ite h.trendClear h
     .ite h.sqiRst h) id

theorem Evolves.diagCtl {v} (h : Evolves s₀ s) : Evolves s₀ (s.diagCtl c v) :=
  have h := h.cs.cs.cs.cs
  have h := Evolves.ite h.trendClear h
  .ite h.newInterval h

theorem Evolves.execTdrActivityDetect (h : Evolves s₀ s) : Runs s₀ (execTdrActivityDetect c s) :=
  .ite (.ok h.diagStop) (.ok h)
theorem Evolves.execTdrListenEnd (h : Evolves s₀ s) : Runs s₀ (execTdrListenEnd c s) := .ite (.ok h.updDiag) (.ok h)
theorem Evolves.execTdrAcquireEnd (h : Evolves s₀ s) : Runs s₀ (execTdrAcquireEnd c s) := .ite (.ok h.updDiag) (.ok h)

theorem Evolves.execUpdateBlockBoundary {inp} (h : Evolves s₀ s) : Runs s₀ (execUpdateBlockBoundary c inp s) :=
  .ite
    (.ok h.agc)
    (.ite
       (.ok h)
       (have h := Evolves.blockBoundary (.ite h.updRx h)
        .ite (.ok h) (.ite (.ok h.diagStop) (.ok h.updDiag))))

theorem Evolves.execCaptDone (h : Evolves s₀ s) : Runs s₀ (execCaptDone c s) := by
  unfold Machine.execCaptDone
  split
  · exact .ite (.ok h.updRx.cs.cs) (.ok h)
  · exact .ok h

theorem Evolves.nearest {num den} (h : Evolves s₀ s) : Evolves s₀ (s.nearest num den).2 := by
  unfold State.nearest
  split
  · exact h.fresh
  · exact h

theorem Evolves.distOf {typ p} (h : Evolves s₀ s) : Evolves s₀ (s.distOf c typ p).2 := by
  unfold State.distOf
  dsimp only
  split
  · exact h
  · exact h.nearest

theorem Evolves.gammaC {raw mm} (h : Evolves s₀ s) : Evolves s₀ (s.gammaC c raw mm).2 := h.roundFree
theorem Evolves.gammaRaw {isr n v} (h : Evolves s₀ s) : Evolves s₀ (s.gammaRaw c isr n v).2 := h.roundFree
theorem Evolves.extrema {typ isr n l} (h : Evolves s₀ s) : Evolves s₀ (s.extrema c typ isr n l).2 :=
  .foldl_snd h fun h => h.distOf.gammaRaw.gammaC
theorem Evolves.features {typ isr n l} (h : Evolves s₀ s) : Evolves s₀ (s.features c typ isr n l).2 := h.extrema
theorem Evolves.takeEntry {j f cls} (h : Evolves s₀ s) : Evolves s₀ (s.takeEntry c j f cls) := h.cs.cs.cs.cs

theorem Evolves.trackMatch {res l} (h : Evolves s₀ s) : Evolves s₀ (s.trackMatch c res l).1 := by
  refine .ite_fst (.foldl_fst (.fst h.updDiag) fun h => h.takeEntry) (.foldl_fst (.fst h.updDiag) fun {a x} h => ?_)
  dsimp only
  split
  · exact .cs (.cs (.ite h.cs h))
  · refine .ite_fst h ?_
    split
    · exact h.cs.takeEntry
    · exact h.cs

theorem Evolves.putFeat {i f trk} (h : Evolves s₀ s) : Evolves s₀ (s.putFeat c i f trk) := h.cs.cs.cs.cs.cs.cs

theorem Evolves.putResult {isr typ partial' beyond l trk} (h : Evolves s₀ s) :
    Evolves s₀ (s.putResult c isr typ partial' beyond l trk) :=
  .cs (h.cinc.cs.cs.cs.cs.cs.cs.cs.cs.cs.cs.foldl (fun h => h.putFeat))

theorem Evolves.rawKept {n l} (h : Evolves s₀ s) : Evolves s₀ (s.rawKept c n l).2 :=
  .foldl_snd h fun h => h.roundFree

theorem Evolves.tdrDone {bursts} (h : Evolves s₀ s) : Evolves s₀ (s.tdrDone c bursts) := by
  unfold State.tdrDone
  exact h.features.rawKept.putResult.updDiag

theorem Evolves.isrDone (h : Evolves s₀ s) : Evolves s₀ (s.isrDone c) := by
  unfold State.isrDone
  extract_lets d prof mags f l t part s1
  have h1 : Evolves s₀ s1 := h.features.trackMatch.putResult.updDiag
  clear_value s1
  split
  · exact h1.writeRecord
  · exact h1

theorem Evolves.withClr {clr} {g : State → State} (h : Evolves s₀ s)
    (hg : ∀ {s₀ x}, Evolves s₀ x → Evolves s₀ (g x)) : Evolves s₀ (s.withClr c clr g) :=
  have h := h.inCyc hg
  .ite h.trendClear h

theorem Evolves.execDiagRunComplete {bursts clr} (h : Evolves s₀ s) : Runs s₀ (execDiagRunComplete c bursts clr s) := by
  unfold Machine.execDiagRunComplete
  exact .ite (.ok (h.withClr (fun h => h.tdrDone))) (.ite (.ok (h.withClr (fun h => h.isrDone))) (.ok h))

theorem Evolves.closeInterval {iv} (h : Evolves s₀ s) : Evolves s₀ (s.closeInterval c iv) :=
  .ite h.writeRecord (.ite h.writeRecord (.ite h.updDiag (.ite h.updDiag h.writeRecord)))
theorem Evolves.execTrendIntervalEnd {clr} (h : Evolves s₀ s) : Runs s₀ (execTrendIntervalEnd c clr s) :=
  .ite (.ok h) (.ok (h.updDiag.newInterval.withClr (fun h => h.closeInterval)))

/-! ### Machine/Lpi -/

theorem Evolves.lpiRej (h : Evolves s₀ s) : Evolves s₀ (s.lpiRej c) := h.cs
theorem Evolves.lpiSub (h : Evolves s₀ s) : Evolves s₀ (s.lpiSub c) := .ite h.setSub h.setSub
theorem Evolves.txExit (h : Evolves s₀ s) : Evolves s₀ (s.txExit c) :=
  .ite h h.cs.cs.cs.updLpi.setLpiMask.shApply.lpiSub
theorem Evolves.txReq {b} (h : Evolves s₀ s) : Evolves s₀ (s.txReq c b) := .ite h.lpiRej (.ite h.cs h.txExit.cs)
theorem Evolves.lpiCell (h : Evolves s₀ s) : Evolves s₀ (s.lpiCell c) := h.txExit.updLpi
theorem Evolves.execLpiTxEnter (h : Evolves s₀ s) : Runs s₀ (execLpiTxEnter c s) :=
  .ite (.ok h.cs.cs.cinc.updLpi.lpiSub) (.ok h)
theorem Evolves.execLpiRxEnter (h : Evolves s₀ s) : Runs s₀ (execLpiRxEnter c s) :=
  .ite (.ok h.cs.cs.updLpi.setLpiMask.lpiSub) (.ok h)
theorem Evolves.execLpiRxExit (h : Evolves s₀ s) : Runs s₀ (execLpiRxExit c s) :=
  .ite (.ok h.cs.cs.updLpi.setLpiMask.lpiSub) (.ok h)

theorem Evolves.execLpiRefresh {rx begins} (h : Evolves s₀ s) : Runs s₀ (execLpiRefresh c rx begins s) :=
  .ite
    (.ok h)
    (.ite
       (.ite
          (.ok h)
          (.ite
             (.ok h.updLpi.setLpiMask)
             (have h := h.updLpi.setLpiMask
              .ite (.ok h.critLoss) (.ok h))))
       (.ite
          (.ok h)
          (have h := h.updLpi.setLpiMask
           .ok (.ite h.shApply h))))

theorem Evolves.execLpiIdleExpire (h : Evolves s₀ s) : Runs s₀ (execLpiIdleExpire c s) :=
  .ite (.ok h.updLpi.cs) (.ok h)
theorem Evolves.updSleep {g} (h : Evolves s₀ s) : Evolves s₀ (s.updSleep c g) := h.updLpi

theorem Evolves.sendSleep {id reason f} (h : Evolves s₀ s) : Evolves s₀ (s.sendSleep c id reason f) := by
  unfold State.sendSleep
  split
  · exact h.say
  · exact h

theorem Evolves.sendTc10 {m} (h : Evolves s₀ s) : Evolves s₀ (s.sendTc10 c m) := h.updLpi

theorem Evolves.sleepFail {reason} (h : Evolves s₀ s) : Evolves s₀ (s.sleepFail c reason) := by
  unfold State.sleepFail
  exact h.cs.cs.cs.hush.updLpi

theorem Evolves.sleepCancel {reason} (h : Evolves s₀ s) : Evolves s₀ (s.sleepCancel c reason) :=
  .sleepFail (.ite h h.sendSleep)
theorem Evolves.sleepBegin {init tid phase} (h : Evolves s₀ s) : Evolves s₀ (s.sleepBegin c init tid phase) :=
  h.cs.updLpi
theorem Evolves.sleepCmd (h : Evolves s₀ s) : Evolves s₀ (s.sleepCmd c) :=
  .ite (.ite h.sleepBegin.sendTc10 h.fresh.sleepBegin.sendSleep) h.lpiRej
theorem Evolves.sendGo (h : Evolves s₀ s) : Evolves s₀ (s.sendGo c) := h.sendSleep.updSleep.cs
theorem Evolves.nakSleep {m reason} (h : Evolves s₀ s) : Evolves s₀ (s.nakSleep c m reason) := h.cs.sayOnce

theorem Evolves.takeSlpReq {m} (h : Evolves s₀ s) : Evolves s₀ (s.takeSlpReq c m) :=
  .ite
    h.txExit.nakSleep
    (.ite
       h.txExit.nakSleep
       (have h := h.txExit.sleepBegin.sendSleep
        .ite h.sendGo h))

theorem Evolves.execSlpReqReceive {m} (h : Evolves s₀ s) : Runs s₀ (execSlpReqReceive c m s) :=
  .ite
    (.ok h)
    (by
       dsimp only
       split
       · exact .ite (.ite (.ok h.acted) (.ok h.acted.updLpi.hush.cs.takeSlpReq)) (.ok h.acted.nakSleep)
       · exact .ok h.acted.takeSlpReq)

theorem Evolves.execSlpAckReceive {m} (h : Evolves s₀ s) : Runs s₀ (execSlpAckReceive c m s) :=
  .ite (.ok (.ite h.acted.cs.sendGo h.acted.cs)) (.ok h)
theorem Evolves.execSlpNakReceive {m} (h : Evolves s₀ s) : Runs s₀ (execSlpNakReceive c m s) :=
  .ite (.ok h.acted.sleepCancel) (.ok h)
theorem Evolves.execSlpGoReceive {m} (h : Evolves s₀ s) : Runs s₀ (execSlpGoReceive c m s) :=
  .ite (.ok h.acted.updSleep.cs) (.ok h)
theorem Evolves.execSlpCancelReceive {m} (h : Evolves s₀ s) : Runs s₀ (execSlpCancelReceive c m s) :=
  .ite (.ok h.acted.sleepFail) (.ok h)
theorem Evolves.execSleepRspTimeout (h : Evolves s₀ s) : Runs s₀ (execSleepRspTimeout c s) :=
  .ite (.ok h.fresh.sleepCancel) (.ok h)

theorem Evolves.wakeStart (h : Evolves s₀ s) : Evolves s₀ (s.wakeStart c) := by
  unfold State.wakeStart
  exact .updLpi (.updLink (.cs (.ite h.updLpi.enterAn h.updLpi.enterForced)))

theorem Evolves.countWake (h : Evolves s₀ s) : Evolves s₀ (s.countWake c) := h.mgmt.cinc.cs

theorem Evolves.sleepAborted {w} (h : Evolves s₀ s) : Evolves s₀ (s.sleepAborted c w) := by
  unfold State.sleepAborted
  exact
    have h := h.cs.cs.updLpi.hush
    by split; exacts [h.countWake, h]

theorem Evolves.execSleepEnter {wake loss} (h : Evolves s₀ s) : Runs s₀ (execSleepEnter c wake loss s) :=
  .ite
    (.ok h)
    (by
       split
       · exact .ok (.critLoss (by split; exacts [h.sleepAborted, h]))
       · exact
           have h := h.sleepAborted
           .ite (.ite (.ok h.fresh.updDiag.endLine.toStop.wakeStart) (.ok h.fresh)) (.ok h)
       · exact .ok h.updDiag.endLine.toStop.setSub.updLpi.cs.cs)

theorem Evolves.wakeCmd (h : Evolves s₀ s) : Evolves s₀ (s.wakeCmd c) :=
  .ite (.updLpi (.ite h.sendTc10 h)) (.ite h.sleepCancel h.lpiRej)
theorem Evolves.execWakeSignalEnd (h : Evolves s₀ s) : Runs s₀ (execWakeSignalEnd c s) :=
  .ite (.ok h.wakeStart) (.ok h)
theorem Evolves.lineWake (h : Evolves s₀ s) : Evolves s₀ (s.lineWake c) := h.countWake.wakeStart

theorem Evolves.execLineWakeQualify (h : Evolves s₀ s) : Runs s₀ (execLineWakeQualify c s) := by
  unfold Machine.execLineWakeQualify
  dsimp only
  split
  · exact .ok (.ite h.tapWake h)
  · exact .ok (.ite h.tapWake h)
  · exact .ite (.ok h.lineWake) (.ok h)
  · exact .ite (.ok h.lineWake) (.ok h)
  · exact .ite (.ok h.lineWake) (.ok h)
  · exact .ite (.ok h.lineWake) (.ok h)
  · exact .ite (.ok h.lineWake) (.ok h)
  · exact .ite (.ok h.lineWake) (.ite (.ok h.tapWake.voteBit.voteChanged) (.ok h))

theorem Evolves.execTc10MessageReceive {m} (h : Evolves s₀ s) : Runs s₀ (execTc10MessageReceive c m s) := by
  unfold Machine.execTc10MessageReceive
  dsimp only
  split
  · exact .ite
        (.ok h)
        (.ite
           (.ok h.txExit.sendTc10)
           (.ok (.ite h.txExit.sendTc10 (.ite h.txExit.sendTc10.cs h.txExit.sendTc10.sleepBegin))))
  · exact .ite (.ok h.cs) (.ok h)
  · exact .ite (.ok h.fresh.sleepFail) (.ok h)
  · exact .ite (.ok h.updSleep.cs) (.ok h)
  · exact .ite (.ok h.lineWake) (.ok h)

theorem Evolves.padRelease (h : Evolves s₀ s) : Evolves s₀ (s.padRelease c) := .ite h.lpiRej h.updCh

theorem Evolves.lpiCmd {v} (h : Evolves s₀ s) : Evolves s₀ (s.lpiCmd c v) :=
  have h := Evolves.ite h (.ite (.ite h.lpiRej.wakeCmd h.cs) (.ite h.sleepCmd (.ite h.wakeCmd h)))
  .ite h.padRelease h

/-! ### Machine/Line -/

theorem Evolves.afeRej (h : Evolves s₀ s) : Evolves s₀ (s.afeRej c) := h.cs
theorem Evolves.loopWrite {m} (h : Evolves s₀ s) : Evolves s₀ (s.loopWrite c m) :=
  .ite h.cs (.ite h.afeRej (.ite h.cs.clearEc h.cs))

theorem Evolves.afeCtl {v} (h : Evolves s₀ s) : Evolves s₀ (s.afeCtl c v) :=
  have h := Evolves.ite h.cs.cs.updLine.updRx h.cs.cs
  .loopWrite (.ite h h.cs)

theorem Evolves.pcsRej (h : Evolves s₀ s) : Evolves s₀ (s.pcsRej c) := h.cs
theorem Evolves.pcsLoop {b} (h : Evolves s₀ s) : Evolves s₀ (s.pcsLoop c b) := .ite h.cs (.ite h.pcsRej h.cs)
theorem Evolves.scrBypass {b} (h : Evolves s₀ s) : Evolves s₀ (s.scrBypass c b) := .ite h.cs (.ite h.pcsRej h.cs)
theorem Evolves.pcsCtl {v} (h : Evolves s₀ s) : Evolves s₀ (s.pcsCtl c v) := h.pcsLoop.scrBypass
theorem Evolves.testMode {v} (h : Evolves s₀ s) : Evolves s₀ (s.testMode c v) := .ite h.cs (.ite h.pcsRej h.cs)
theorem Evolves.satEvent (h : Evolves s₀ s) : Evolves s₀ (s.satEvent c) :=
  .ite h.cinc.cs.updLine.assertSrc h.cinc.cs.updLine
theorem Evolves.execSatBlockEnd {fullScale} (h : Evolves s₀ s) : Runs s₀ (execSatBlockEnd c fullScale s) :=
  .ite (.ok h) (.ok (.updLine (.ite h.satEvent h)))
theorem Evolves.burst {bad} (h : Evolves s₀ s) : Evolves s₀ (s.burst c bad) :=
  .ite h.updLine.updLine.cs.assertSrc h.updLine

theorem Evolves.execFecCodewordDecode {errs} (h : Evolves s₀ s) : Runs s₀ (execFecCodewordDecode c errs s) :=
  .ite
    (.ok h)
    (have h := Evolves.ite h.cinc h.cinc.cinc
     .ok (.shiftQualify (.burst (by split; exacts [.updDiag (.updLine (.ite h h.cinc.cinc)),
            h.cinc.updLine.updDiag]))))

theorem Evolves.execFecBurstWindowEnd (h : Evolves s₀ s) : Runs s₀ (execFecBurstWindowEnd c s) :=
  .ite (.ok h.updLine) (.ok h)

theorem Evolves.execAlignmentSearch {wrongBits} (h : Evolves s₀ s) : Runs s₀ (execAlignmentSearch c wrongBits s) :=
  .ite
    (.ok h)
    (have h := Evolves.ite h.updLpi h
     .ite
       (.ite (.ok h.updLine) (.ite (.ok h.updLine) (.ok h.updLine.cs.critLoss)))
       (.ite (.ok h.updLine.cs.shiftQualify) (.ok h.updLine)))

theorem Evolves.execOamFieldReceive {octets} (h : Evolves s₀ s) : Runs s₀ (execOamFieldReceive c octets s) :=
  .ite (.ok h.updLine.cs) (.ok h)
theorem Evolves.sqiStep {snr} (h : Evolves s₀ s) : Evolves s₀ (s.sqiStep c snr) := .ite h.updDiag.cs h.updDiag
theorem Evolves.sqiTrack {snr} (h : Evolves s₀ s) : Evolves s₀ (s.sqiTrack c snr) := .ite h.cs.cs h.cs.cs.cs.updDiag
theorem Evolves.divWindow {snr} (h : Evolves s₀ s) : Evolves s₀ (s.divWindow c snr).2 := .snd h.updRx
theorem Evolves.lossWindow {snr} (h : Evolves s₀ s) : Evolves s₀ (s.lossWindow c snr).2 := .snd h.updRx
theorem Evolves.windowFaults {div loss} (h : Evolves s₀ s) : Evolves s₀ (s.windowFaults c div loss) :=
  h.foldl fun h => .ite h.diverge h.critLoss
theorem Evolves.setLock {b} (h : Evolves s₀ s) : Evolves s₀ (s.setLock c b) := .cs (.ite h.cs h)

theorem Evolves.mseValid {snr} (h : Evolves s₀ s) : Evolves s₀ (s.mseValid c snr) := by
  unfold State.mseValid
  split
  · exact .ite h.updRx h.cs.updShift
  · exact .ite h.updRx h.cs.updShift
  · exact .ite h.updRx h.cs.updShift
  all_goals exact h

theorem Evolves.execMseWindowEnd (h : Evolves s₀ s) : Runs s₀ (execMseWindowEnd c s) :=
  .ite
    (.ok h)
    (have h := h.snrOf.updRx.cs.setLock.mseValid
     .ok (.windowFaults (.lossWindow (.shiftQualify (.xEval (.divWindow (.ite
             (.sqiTrack (.ite h.sqiStep h))
             h)))))))

/-! ### Machine/Flow -/

theorem Evolves.choose {α : Type} {l : List α} (h : Evolves s₀ s) : Evolves s₀ (s.choose l).2 :=
  match l with
  | [] => h
  | [_] => h
  | _ :: _ :: _ => h.fresh

theorem Evolves.lineCtx {g} (h : Evolves s₀ s) : Evolves s₀ (s.lineCtx c g) := h.updQ
theorem Evolves.ctxDone {res idx} (h : Evolves s₀ s) : Evolves s₀ (s.ctxDone c res idx) := h.updF.cs.cs
theorem Evolves.ctxNone {res} (h : Evolves s₀ s) : Evolves s₀ (s.ctxNone c res) := h.fresh.ctxDone

theorem Evolves.ctxInsert {st} (h : Evolves s₀ s) : Evolves s₀ (s.ctxInsert c st) := by
  unfold State.ctxInsert
  extract_lets km f k place cs free start ps r ents e
  have hr : Evolves s₀ r.2 := h.choose
  have he : Evolves s₀ e.2 := h.choose
  clear_value r e
  split
  · exact h.cs.ctxDone
  · split
    · exact hr.updF.lineCtx.updF.cs.ctxDone
    · split
      · exact h.cs.ctxNone
      · split
        · exact h.cs.ctxNone
        · exact he.updF.updF.cs.ctxDone

theorem Evolves.ctxRead {i} (h : Evolves s₀ s) : Evolves s₀ (s.ctxRead c i) := .ctxDone (h.foldl (fun h => h.cs))
theorem Evolves.ctxCmd {op index wmask} (h : Evolves s₀ s) : Evolves s₀ (s.ctxCmd c op index wmask) :=
  .ite h.cs h.updF

theorem Evolves.execCtxCmdComplete {ecc} (h : Evolves s₀ s) : Runs s₀ (execCtxCmdComplete c ecc s) := by
  unfold Machine.execCtxCmdComplete
  split
  · exact .ok h
  · exact .ite
        (.ok h)
        (by
           split
           · exact .ok h.ctxInsert
           · split
             · exact .ok h.ctxDone
             · exact .ok h.ctxNone
           · exact .ite
                 (.ok h.ctxDone)
                 (.ite
                    (.ok (.ctxRead (by split; exacts [h.updF, h])))
                    (by split; exacts [.ok h.ctxDone, .ite (.ok h.updF.ctxDone) (.ok h.updF.lineCtx.ctxDone)])))

theorem Evolves.frameCtl {v} (h : Evolves s₀ s) : Evolves s₀ (s.frameCtl c v) :=
  .ite h.cs.cs.cs (.ite h.cs.cs.cs.cs h.cs.cs.cs.cs)
theorem Evolves.execMeterRefresh {index} (h : Evolves s₀ s) : Runs s₀ (execMeterRefresh c index s) :=
  .ite (.ok h) (.ok h.updF)
theorem Evolves.ctxDrop {i} (h : Evolves s₀ s) : Evolves s₀ (s.ctxDrop c i) := h.updF

theorem Evolves.ctxPass {fl len} (h : Evolves s₀ s) : Evolves s₀ (s.ctxPass c fl len) := by
  unfold State.ctxPass
  split
  · exact h.updF
  · exact h

theorem Evolves.lookupCtx {egress octets ecc} (h : Evolves s₀ s) : Evolves s₀ (s.lookupCtx c egress octets ecc).2 := by
  unfold State.lookupCtx
  extract_lets f km k s1
  have h1 : Evolves s₀ s1 := by
    cases ecc with
    | some b => exact h.updF
    | none => exact h
  clear_value s1
  split
  · exact h1.assertSrc.cs
  · split
    · exact h1
    · exact .ite_snd h1.ctxDrop h1

theorem Evolves.judge {fl octets len} (h : Evolves s₀ s) : Evolves s₀ (s.judge c fl octets len).2 := by
  unfold State.judge
  extract_lets f
  split
  · exact h
  · split
    · exact h
    · exact .ite_snd h.ctxDrop (.ite_snd h (.snd (.updF (.ite h.cs h))))

theorem Evolves.judgeLate {l} (h : Evolves s₀ s) : Evolves s₀ (s.judgeLate c l).2 := by
  unfold State.judgeLate
  extract_lets f fl upd
  have hupd : ∀ {x g}, Evolves s₀ x → Evolves s₀ (upd x g) := fun h => by
    unfold upd
    split
    · exact h.updF
    · exact h
  clear_value upd
  split
  · exact h
  · exact .ite_snd (hupd h) (.ite_snd h (hupd (.ite h.cs h)))

theorem Evolves.classify {egress octets len ecc} (h : Evolves s₀ s) :
    Evolves s₀ (s.classify c egress octets len ecc).2 := by
  unfold State.classify
  dsimp only
  split
  · exact h.lookupCtx
  · exact h.lookupCtx.judge

/-! ### Machine/Macsec -/

theorem Evolves.msRej (h : Evolves s₀ s) : Evolves s₀ (s.msRej c) := h.cs
theorem Evolves.msInstall (h : Evolves s₀ s) : Evolves s₀ (s.msInstall c) :=
  .ite h.msRej (.foldl (h.updF.foldl (fun h => h.cs)) (fun h => h.cs))
theorem Evolves.msRetire (h : Evolves s₀ s) : Evolves s₀ (s.msRetire c) := .ite h.msRej h.updF
theorem Evolves.msSwitch (h : Evolves s₀ s) : Evolves s₀ (s.msSwitch c) := .ite h.msRej h.updF.cs
theorem Evolves.msWriteSc (h : Evolves s₀ s) : Evolves s₀ (s.msWriteSc c) := .ite h.msRej h.updF

theorem Evolves.msCmd {op} (h : Evolves s₀ s) : Evolves s₀ (s.msCmd c op) := by
  unfold State.msCmd
  split
  · exact h.msInstall
  · exact h.msRetire
  · exact h.msSwitch
  · exact h.msWriteSc
  · exact h.msRej

theorem Evolves.protect {sc} (h : Evolves s₀ s) : Evolves s₀ (s.protect c sc).2 := by
  unfold State.protect
  split
  · exact h
  · dsimp only
    split
    · exact h
    · split
      · exact h
      · exact .ite (.cs (.ite h.updF.cs h.updF)) (.ite h.updF.cs h.updF)

theorem Evolves.msEvent (h : Evolves s₀ s) : Evolves s₀ (s.msEvent c) := .ite h.updF.cs.assertSrc h.updF

theorem Evolves.msVerify {l icvOk} (h : Evolves s₀ s) : Evolves s₀ (s.msVerify c l icvOk).2 := by
  refine .ite_snd h ?_
  split
  · exact h
  · split
    · exact h.fresh
    · refine .ite_snd h ?_
      extract_lets tci
      split
      · exact h
      · exact .ite_snd h (.ite_snd h (.ite_snd h (.snd h.updF)))

/-! ### Machine/Mac -/

theorem Evolves.symErr {n} (h : Evolves s₀ s) : Evolves s₀ (s.symErr c n) := h.cinc.updDiag
theorem Evolves.segHeard {fr} (h : Evolves s₀ s) : Evolves s₀ (s.segHeard c fr) := .ite h.symErr.plcaNext h.symErr

theorem Evolves.inDiscard {r} (h : Evolves s₀ s) : Evolves s₀ (s.inDiscard c r) :=
  have h := Evolves.ite h.acctIn.msEvent h.acctIn
  .ite h.cs h

theorem Evolves.inQueue {f} (h : Evolves s₀ s) : Evolves s₀ (s.inQueue c f) := .ite h.inDiscard h.updQ

theorem Evolves.execIngressFrameReceive {fr} (h : Evolves s₀ s) : Runs s₀ (Machine.execIngressFrameReceive c fr s) := by
  refine .ite (.ok h) ?_
  extract_lets s1 s2 m s3 len fl s4 s5 octets handle t st
  have h1 : Evolves s₀ s1 := .ite h.segHeard h
  have h2 : Evolves s₀ s2 := h1.acctIn
  have h3 : Evolves s₀ s3 := h2.msVerify
  clear_value s3
  have h4 : Evolves s₀ s4 := h3.classify
  have h5 : Evolves s₀ s5 := h4.ctxPass
  have hst : Evolves s₀ st.2 := .ite_snd h5.stampNow h5
  clear_value st s5 s4
  refine .ite (.ok h1) (.ite (.ok h2.inDiscard) (.ite (.ok h2.inDiscard) (.ite (.ok h3.inDiscard) ?_)))
  split
  · exact .ok h3.inDiscard
  · split
    · exact .ok h4.inDiscard
    · exact .ite (.ok h4.inDiscard) (.ok hst.inQueue)

theorem Evolves.egLinkDown (h : Evolves s₀ s) : Evolves s₀ (s.egLinkDown c) := h.foldl fun h => .ite h h.dropEgCls
theorem Evolves.toLine {l} (h : Evolves s₀ s) : Evolves s₀ (s.toLine c l) :=
  .ite h.updQ.updSeg (.ite h.updQ h.updQ.updLpi)
theorem Evolves.lineCut {r} (h : Evolves s₀ s) : Evolves s₀ (s.lineCut c r) :=
  .plcaBack (.ite h.dropLine.plcaUsed h.dropLine)

theorem Evolves.lineWhole (h : Evolves s₀ s) : Evolves s₀ (s.lineWhole c) := by
  unfold State.lineWhole
  split
  · dsimp only
    split
    · exact h.judgeLate.lineCut
    · exact .ctxPass (.ite h.judgeLate.updQ h.judgeLate)
  · exact h

theorem Evolves.egStart {k f ecc} (h : Evolves s₀ s) : Evolves s₀ (s.egStart c k f ecc) := by
  unfold State.egStart
  extract_lets s1 fl s2 p s3 s4 octets rec handle look t st
  have h1 : Evolves s₀ s1 := h.toLine
  have h2 : Evolves s₀ s2 := .ite_snd h1.classify h1.lookupCtx
  clear_value s2
  have h3 : Evolves s₀ s3 := h2.protect
  have h4 : Evolves s₀ s4 := .ite h3.ctxPass h3
  have hst : Evolves s₀ st.2 := .ite_snd h4.stampNow h4
  clear_value st s4 s3
  refine .ite h1.dropLine ?_
  split
  · exact h2.dropLine
  · split
    · exact h3.dropLine
    · exact hst.updQ

theorem Evolves.execEgressFrameStart {ecc} (h : Evolves s₀ s) : Runs s₀ (execEgressFrameStart c ecc s) :=
  .ite (.ok h) (.ite (.ok h) (.ite (.ite (.ok h) (by split; exacts [.ok h.egStart, .ok h])) (.ok h.egLinkDown)))

theorem Evolves.queueStamp {l} (h : Evolves s₀ s) : Evolves s₀ (s.queueStamp c l) := by
  unfold State.queueStamp
  split
  · exact h
  · exact .ite h.updF h.cinc.cs

theorem Evolves.execEgressFrameDelivered (h : Evolves s₀ s) : Runs s₀ (execEgressFrameDelivered c s) := by
  unfold Machine.execEgressFrameDelivered
  split
  · exact .ite (.ok h) (.ite (.ok h) (.ok h.updQ.atBoundary.acctEg.updF.queueStamp.freeCells.plcaUsed.plcaBack))
  · exact .ok h

theorem Evolves.execEgressUnderrun {eps} (h : Evolves s₀ s) : Runs s₀ (execEgressUnderrun c eps s) := by
  unfold Machine.execEgressUnderrun
  split
  · exact .ite (.ok h) (.ite (.ok h.lineCut.cs) (.ite (.ok h.lineCut) (.ok h)))
  · exact .ok h

theorem Evolves.acctSnap (h : Evolves s₀ s) : Evolves s₀ (s.acctSnap c) := h.updF.cinc.cs

theorem Evolves.flush {eg ing} (h : Evolves s₀ s) : Evolves s₀ (s.flush c eg ing) := by
  unfold State.flush
  exact
    .updQ (.foldl (h.foldl (fun h => .ite h (.dropEgCls (by split; exacts [.ite h.lineCut h, h]))))
       (fun h => .ite h.dropInCls h))

theorem Evolves.qFlush {v} (h : Evolves s₀ s) : Evolves s₀ (s.qFlush c v) := .ite h h.flush
theorem Evolves.egCls {k v} (h : Evolves s₀ s) : Evolves s₀ (s.egCls c k v) := .ite h.cs h.cs.cs.issue
theorem Evolves.drainOff (h : Evolves s₀ s) : Evolves s₀ (s.drainOff c) := h.giveBack.offNow
theorem Evolves.execDrainEnd (h : Evolves s₀ s) : Runs s₀ (execDrainEnd c s) := .ite (.ok h.cs.drainOff) (.ok h)
theorem Evolves.execDrainTimeout (h : Evolves s₀ s) : Runs s₀ (execDrainTimeout c s) :=
  .ite (.ok h.dropAll.cs.drainOff) (.ok h)

/-! ### Machine/Nguid -/

theorem Evolves.updHost {g} (h : Evolves s₀ s) : Evolves s₀ (s.updHost g) := h.host
theorem Evolves.ngErr {code typ m} (h : Evolves s₀ s) : Evolves s₀ (s.ngErr code typ m) :=
  h.ds.ds.ds.ds.dinc.ds.assertSrc

theorem Evolves.wakeL1 (h : Evolves s₀ s) : Evolves s₀ s.wakeL1 := by
  unfold State.wakeL1
  split
  · exact h.ds.hostActive
  all_goals exact h

theorem Evolves.ngIn {m} (h : Evolves s₀ s) : Evolves s₀ (s.ngIn m) := h.wakeL1.dinc.dinc

theorem Evolves.ngTake {typ len m} {g : State → State} (h : Evolves s₀ s)
    (hg : ∀ {x}, Evolves s₀ x → Evolves s₀ (g x)) : Runs s₀ (s.ngTake typ len m g) :=
  .ite (.ok h) (.ite (.ok h.ngIn.ngErr) (.ite (.ok h.ngIn.ngErr) (.ok (hg h.ngIn))))

theorem Evolves.spendEg {k n} (h : Evolves s₀ s) : Evolves s₀ (s.spendEg c k n) := h.updPair

theorem Evolves.takeSegment {m last} (h : Evolves s₀ s) : Evolves s₀ (s.takeSegment m last) := by
  unfold State.takeSegment
  dsimp only
  split
  · exact .freeCells (.ite h.updQ h)
  · split
    · exact h.updQ
    · split
      · exact .ite h.updQ.lineCut (.ite h.updQ.lineWhole h.updQ)
      · exact h

theorem Evolves.frameMsg {typ m} (h : Evolves s₀ s) : Evolves s₀ (s.frameMsg typ m) :=
  .ite
    (.ite h.ngErr.spendEg.freeCells h.ngErr)
    (have h := Evolves.ite h.spendEg.updPair.updQ.acctEg h.spendEg.takeSegment
     .ite h h.lpiCell)

theorem Evolves.ngFrame {typ m} (h : Evolves s₀ s) : Runs s₀ (s.ngFrame typ m) := .ite (.ok h) (.ok h.ngIn.frameMsg)
theorem Evolves.execNguidFrameStart {m} (h : Evolves s₀ s) : Runs s₀ (execNguidFrameStart m s) := h.ngFrame
theorem Evolves.execNguidFrameCont {m} (h : Evolves s₀ s) : Runs s₀ (execNguidFrameCont m s) := h.ngFrame
theorem Evolves.execNguidFrameEnd {m} (h : Evolves s₀ s) : Runs s₀ (execNguidFrameEnd m s) := h.ngFrame
theorem Evolves.execNguidTypeError {m} (h : Evolves s₀ s) : Runs s₀ (execNguidTypeError m s) :=
  .ite (.ok h) (.ite h.ngFrame (.ok h.ngIn.ngErr))
theorem Evolves.execNguidCreditGrant {m} (h : Evolves s₀ s) : Runs s₀ (execNguidCreditGrant m s) :=
  h.ngTake fun h => .ite h.updPair h.ngErr
theorem Evolves.execNguidCreditReturn {m} (h : Evolves s₀ s) : Runs s₀ (execNguidCreditReturn m s) :=
  h.ngTake fun h => .ite h.updPair.freeCells h.ngErr

theorem Evolves.execNguidCreditResync {m} (h : Evolves s₀ s) : Runs s₀ (execNguidCreditResync m s) :=
  h.ngTake
    (fun h =>
       .ite
         h.ngErr
         (.ite
            h.updPair
            (.issue (.ite (.ds (.ite h.updPair.updQ.cs h.updPair.updQ)) (.ite h.updPair.updQ.cs h.updPair.updQ)))))

theorem Evolves.execCreditGrantTimer {cls} (h : Evolves s₀ s) : Runs s₀ (execCreditGrantTimer c cls s) :=
  .ite (.ok h.announce) (.ok h)
theorem Evolves.execTodSet {m} (h : Evolves s₀ s) : Runs s₀ (execTodSet m s) := h.ngTake fun h => h.updHost

theorem Evolves.execTodLoad (h : Evolves s₀ s) : Runs s₀ (execTodLoad s) := by
  unfold Machine.execTodLoad
  split
  · exact .ok h
  · exact .ok (h.updHost.forCh (fun h => .ite h.tsLoad h))

theorem Evolves.answer {m code result snapSeq} (h : Evolves s₀ s) : Evolves s₀ (s.answer m code result snapSeq) :=
  h.send

theorem Evolves.control {code m} {g : State → State} (h : Evolves s₀ s)
    (hg : ∀ {x}, Evolves s₀ x → Evolves s₀ (g x)) : Runs s₀ (s.control code m g) :=
  h.ngTake (fun h => .ite h.answer (hg h))

theorem Evolves.execControlFlush {m} (h : Evolves s₀ s) : Runs s₀ (execControlFlush m s) :=
  h.control fun h => h.flush.updQ
theorem Evolves.mboxIn {v} (h : Evolves s₀ s) : Evolves s₀ (s.mboxIn c v) := h.cs.cs
theorem Evolves.execControlMbox {m} (h : Evolves s₀ s) : Runs s₀ (execControlMbox m s) :=
  h.control fun h => h.mboxIn.answer
theorem Evolves.execControlSnap {m} (h : Evolves s₀ s) : Runs s₀ (execControlSnap m s) :=
  h.control fun h => h.acctSnap.answer
theorem Evolves.execControlUnknownCode {m} (h : Evolves s₀ s) : Runs s₀ (execControlUnknownCode m s) :=
  .ite (.ok h) (h.ngTake (fun h => h.answer))
theorem Evolves.execFlushComplete (h : Evolves s₀ s) : Runs s₀ (execFlushComplete c s) := .ok h.answerFlush

theorem Evolves.execTstampMessageSend (h : Evolves s₀ s) : Runs s₀ (execTstampMessageSend c s) := by
  unfold Machine.execTstampMessageSend
  split
  · exact .ok h
  · exact .ite (.ok h.updF.send) (.ok h)

theorem Evolves.execEventMessageSend (h : Evolves s₀ s) : Runs s₀ (execEventMessageSend c s) := by
  unfold Machine.execEventMessageSend
  split
  · exact .ok h
  · exact .ite (.ok h.updSeq.send) (.ok h)

theorem Evolves.sendSegment {k f rest} (h : Evolves s₀ s) : Evolves s₀ (s.sendSegment c k f rest) :=
  .send (.updHost (.ite h.updPair.updQ.acctIn h.updPair.updQ))
theorem Evolves.execHostSegmentSend (h : Evolves s₀ s) : Runs s₀ (execHostSegmentSend s) :=
  .ite (.ok h) (by split; exacts [.ok h, by split; exacts [.ok h.sendSegment, .ok h]])
theorem Evolves.execL1IdleExpire (h : Evolves s₀ s) : Runs s₀ (execL1IdleExpire s) := .ite (.ok h.updHost) (.ok h)
theorem Evolves.execHostL1Request (h : Evolves s₀ s) : Runs s₀ (execHostL1Request s) := .ite (.ok h.updHost) (.ok h)

theorem Evolves.trained (h : Evolves s₀ s) : Evolves s₀ s.trained := by
  unfold State.trained
  exact h.fresh.ds.ds.updHost

theorem Evolves.ngStart (h : Evolves s₀ s) : Evolves s₀ s.ngStart := by
  unfold State.ngStart
  split
  · exact .ite h.trySyncAll.announceAll h.ds.resyncAll
  · exact .ite h.trySyncAll.announceAll h.ds.resyncAll
  · exact .ite h.trySyncAll.announceAll h.ds.resyncAll
  all_goals exact h

theorem Evolves.execAdapterActive (h : Evolves s₀ s) : Runs s₀ (execAdapterActive s) :=
  .ite
    (.ok h)
    (by
       split
       · exact .ok h.trained.ngStart
       · exact .ok h.trained.ngStart
       · exact .ok h.trained.ngStart
       · exact .ok h.trained.ngStart
       · exact .ok h.ngStart
       all_goals exact .ok h)

theorem Evolves.retrain (h : Evolves s₀ s) : Evolves s₀ s.retrain := by
  unfold State.retrain
  exact h.fresh.ds.dinc.dinc.updHost

theorem Evolves.linkError {addr} (h : Evolves s₀ s) : Evolves s₀ (s.linkError addr) := h.ds.assertSrc.hostPortReset

theorem Evolves.execLaneFailure {l} (h : Evolves s₀ s) : Runs s₀ (Machine.execLaneFailure l s) := by
  have hlane : Evolves s₀ { s with otp := { s.otp with lanes := s.otp.lanes ++ [(l.rx, l.lane.val)] } } :=
    h.setOtp (Otp.onlyOn_lanes ..)
  refine .ite (.ok h) ?_
  extract_lets addr
  split
  any_goals exact .ok h
  all_goals
    exact .ite (.ok hlane.ds.ds.ds.assertSrc.retrain) (.ite (.ok h.ds.updHost.assertSrc.retrain) (.ok h.linkError))

theorem Evolves.execUcieLinkReset {linkError} (h : Evolves s₀ s) : Runs s₀ (execUcieLinkReset linkError s) :=
  .ite (.ok h) (.ite (.ok h.fresh.linkError) (.ok h.hostPortReset))

theorem Evolves.hostCmd {v} (h : Evolves s₀ s) : Evolves s₀ (s.hostCmd v) :=
  .ite
    h.hostPortReset
    (.ite
       (by
          split
          · exact h.retrain
          · exact h.retrain
          all_goals exact h)
       h)

/-! ### Machine/Fault -/

theorem Evolves.clearRec {j} (h : Evolves s₀ s) : Evolves s₀ (s.clearRec j) := h.foldl fun h => h.setRecWord
theorem Evolves.fltAck {v} (h : Evolves s₀ s) : Evolves s₀ (s.fltAck c v) :=
  .ite (.ite h.clearRec.voteBit.voteChanged h.clearRec) h
theorem Evolves.fcAck {v} (h : Evolves s₀ s) : Evolves s₀ (s.fcAck v) := .ite h.clearRec h
theorem Evolves.execFaultLevelFall {x} (h : Evolves s₀ s) : Runs s₀ (execFaultLevelFall x s) :=
  .ite (.ok h) (.ok h.fallLevel)

theorem Evolves.markRead {a} (h : Evolves s₀ s) : Evolves s₀ (s.markRead a) := by
  unfold State.markRead
  split
  · exact h.updCh
  · exact h.canopy
  · exact h.updCh
  · exact h.canopy

theorem Evolves.latchTime (h : Evolves s₀ s) : Evolves s₀ s.latchTime := h.ds
theorem Evolves.fcClass {w v} (h : Evolves s₀ s) : Evolves s₀ (s.fcClass w v) :=
  h.foldl (fun h => .ite h (.ite h.ds h.ds))
theorem Evolves.assertAll {l} (h : Evolves s₀ s) : Evolves s₀ (s.assertAll l) := h.foldl fun h => h.assertSrc
theorem Evolves.fltForce {v} (h : Evolves s₀ s) : Evolves s₀ (s.fltForce c v) := h.assertAll
theorem Evolves.fcForce {w v} (h : Evolves s₀ s) : Evolves s₀ (s.fcForce w v) := h.assertAll

theorem Evolves.safeExit (h : Evolves s₀ s) : Evolves s₀ s.safeExit :=
  .ite
    (.evalVotes (.forCh (.forCh (h.setMode.forCh (fun h => .ite h.releaseCh h))
         (fun h => h.foldl (fun h => .ite h.updPair.trySync h)))
        (fun h => h.idleCheck)))
    h.ds

theorem Evolves.freshUt (h : Evolves s₀ s) : Evolves s₀ s.freshUt.2 := h.fresh.fresh.fresh

theorem Evolves.smbist (h : Evolves s₀ s) : Evolves s₀ s.smbist := by
  unfold State.smbist
  split
  · exact .forCh (h.ds.ds.clearStaging.updHeart.updHost.foldl (fun h => h.fresh.fresh.updCal))
        (fun h => h.foldl (fun h => h.freshUt.updCal))
  all_goals exact h.ds

theorem Evolves.fcCmd {v} (h : Evolves s₀ s) : Evolves s₀ (s.fcCmd v) :=
  have h := Evolves.ite h.safeExit h
  .ite h.smbist h

theorem Evolves.execSmbistDone {fail rows} (h : Evolves s₀ s) : Runs s₀ (execSmbistDone fail rows s) :=
  .ite (.ok (h.ds.ds.ds.foldl (fun h => .ite h.assertSrc h))) (.ok h)
theorem Evolves.acctCheck (h : Evolves s₀ s) : Evolves s₀ (s.acctCheck c) :=
  .ite h (h.updQ.foldl (fun h => .ite h.assertSrc h.fresh.assertSrc))
theorem Evolves.execGlitchDetect (h : Evolves s₀ s) : Runs s₀ (execGlitchDetect s) := .ite (.ok h.assertSrc) (.ok h)
theorem Evolves.execKeyStoreIntegrityFail (h : Evolves s₀ s) : Runs s₀ (execKeyStoreIntegrityFail s) :=
  .ite (.ok h.assertSrc) (.ok h)
theorem Evolves.execSvcMemEccError {pd row} (h : Evolves s₀ s) : Runs s₀ (execSvcMemEccError pd row s) :=
  .ite (.ok h.assertSrc) (.ok h)
theorem Evolves.execCanopyRamEccError {row} (h : Evolves s₀ s) : Runs s₀ (execCanopyRamEccError row s) :=
  .ite (.ok h.assertSrc) (.ok h)

/-! ### Machine/Heart -/

theorem Evolves.setPramWord {a v} (h : Evolves s₀ s) : Evolves s₀ (s.setPramWord c a v) := h.updSeq

theorem Evolves.started {src id rollback cap range} (h : Evolves s₀ s) :
    Evolves s₀ (s.started c src id rollback cap range) :=
  h.updSeq.cs.cs.cs.cs.cs.cs.cs.cs.cs.cs.seqEnter

theorem Evolves.loadRom {id} (h : Evolves s₀ s) : Evolves s₀ (s.loadRom c id) := h.updSeq.started
theorem Evolves.loadImg {i} (h : Evolves s₀ s) : Evolves s₀ (s.loadImg c i) := h.updSeq.started
theorem Evolves.loadEnded (h : Evolves s₀ s) : Evolves s₀ (s.loadEnded c) := h.voteBit.voteChanged.idleCheck

theorem Evolves.execLoadComplete (h : Evolves s₀ s) : Runs s₀ (execLoadComplete c s) :=
  .ite
    (.ok h)
    (by
       split
       · exact .ok h.loadImg.updHeart.loadEnded.feed
       all_goals exact .ok h.loadRom.loadEnded.feed)

theorem Evolves.execSeqStart (h : Evolves s₀ s) : Runs s₀ (execSeqStart c s) :=
  .ite (.ok h) (.ite (.ok h.feed) (.ite (.ok h.seqEnter.idleCheck) (.ite (.ok h) (.ok h.voteBit.startLoad))))

theorem Evolves.execBootOtpLoadDone {romOk ftOk bad} (h : Evolves s₀ s) :
    Runs s₀ (Machine.execBootOtpLoadDone romOk ftOk bad s) := by
  refine .ite (.ok h) (.ite (.ok h.assertSrc) ?_)
  extract_lets s1 s2 s3 r s4 s5
  have h2 : Evolves s₀ s2 := h.ds.ds.ds.ds.ds.ds
  have h3 : Evolves s₀ s3 := .ite (h2.updOtp Otp.onlyOn_blank) h2
  have h4 : Evolves s₀ s4 := .ite h3 h3.fresh.assertSrc
  have h5 : Evolves s₀ s5 := h4.foldl fun h => h.assertSrc
  clear_value s5
  split
  · exact .ok h5.evalVotes.updHeart
  all_goals exact .ok h5

theorem Evolves.execBootWaitExpire (h : Evolves s₀ s) : Runs s₀ (execBootWaitExpire s) :=
  .ite (.ok h.updHeart) (.ok h)

theorem Evolves.execBootEnd (h : Evolves s₀ s) : Runs s₀ (execBootEnd s) :=
  .ite
    (.ok (.evalVotes (.forCh (.updHeart (.ds (.setMode (h.forCh (fun h => .ite h.loadRom h)))))
         (fun h => h.idleCheck))))
    (.ok h)

theorem Evolves.heartCmd {v} (h : Evolves s₀ s) : Evolves s₀ (s.heartCmd v) :=
  .ite
    h.ds
    (by
       split
       · exact .ite h.ds h.updHeart
       · exact .ite h.updHeart h.ds
       · exact .ite h.heartRes h.updHeart
       · exact h.clearStaging
       · exact h.ds)

theorem Evolves.heartData {v} (h : Evolves s₀ s) : Evolves s₀ (s.heartData v) := .ite h.ds (.ite h.ds.updHeart h.ds)

theorem Evolves.execImageVerdict (h : Evolves s₀ s) : Runs s₀ (execImageVerdict s) := by
  unfold Machine.execImageVerdict
  split
  · exact .ite (.ok h.heartRes.clearStaging.updHeart.assertSrc) (.ite (.ok h.updHeart) (.ok h.updHeart.feed))
  · exact .ok h

theorem Evolves.startOp {op} (h : Evolves s₀ s) : Evolves s₀ (s.startOp op) := h.updHeart

theorem Evolves.lcCmd {v} (h : Evolves s₀ s) : Evolves s₀ (s.lcCmd v) :=
  .ite
    h.ds
    (by
       dsimp only
       split
       · exact h.ds.ds.ds
       · exact .ite h.ds.ds.ds.startOp h.ds.ds.ds.heartRes
       · exact .ite h.ds.ds.ds.startOp h.ds.ds.ds.heartRes
       · exact .ite h.ds.ds.ds.startOp (.ite h.ds.ds.ds.startOp.ds h.ds.ds.ds.heartRes)
       · exact .ite h.ds.ds.ds.startOp h.ds.ds.ds.heartRes
       · exact .ite h.ds.ds.ds.startOp h.ds.ds.ds.heartRes
       · exact h.ds.ds.ds.heartRes)

theorem Evolves.lcEnd {lc rec_} (h : Evolves s₀ s) : Evolves s₀ (s.lcEnd lc rec_) := by
  unfold State.lcEnd
  exact .warmReset (.updHeart (h.lcStep.endSession.updOtp Otp.onlyOn_blank))

theorem Evolves.execLcProgDone {bad} (h : Evolves s₀ s) : Runs s₀ (execLcProgDone bad s) := by
  unfold Machine.execLcProgDone
  split
  · exact .ok (.ite h.assertSrc h)
  · split
    · exact .ok (.updHeart (.heartRes (.clearKeyHash (h.updOtp Otp.onlyOn_keyOp))))
    · exact
        have h := Evolves.updHeart (.heartRes (.clearStaging (h.updOtp Otp.onlyOn_keyOp)))
        .ok (.ite h.endSession h)
    · exact .ok (.endSession (.updHeart (.heartRes (.ds (h.updOtp Otp.onlyOn_refl)))))
    · exact .ok (.updHeart (.heartRes (.ds (h.updOtp Otp.onlyOn_rbTo))))
    · exact .ok h.lcEnd
    · exact .ok h.lcEnd
    all_goals exact .ok h

theorem Evolves.execAttestDone (h : Evolves s₀ s) : Runs s₀ (execAttestDone s) := by
  unfold Machine.execAttestDone
  split
  · exact .ok h.updHeart.clearAnonce.heartRes.ds.updHeart
  · exact .ok h

theorem Evolves.openSession (h : Evolves s₀ s) : Evolves s₀ s.openSession :=
  .assertSrc (.foldl (.dbgr (.ds (.ds (.ds (.ds (.ds (.ite (h.ds.updOtp Otp.onlyOn_vtest) h.ds)))))))
     (fun h => h.voteBit.voteUp))

theorem Evolves.execTokenCheckDone (h : Evolves s₀ s) : Runs s₀ (execTokenCheckDone s) := by
  unfold Machine.execTokenCheckDone
  split
  · exact .ok (.ite
         (have h := h.dropNonce.clearToken.ds
          have h := Evolves.ite h.ds.ds h
          .assertSrc (.updHeart (.ite h.heartRes h.ds)))
         (.ite h.dropNonce.clearToken.ds.startOp h.openSession.dropNonce.clearToken.ds.updHeart.ds))
  · exact .ok (.ite
         (have h := h.dropNonce.clearToken.ds
          have h := Evolves.ite h.ds.ds h
          .assertSrc (.updHeart (.ite h.heartRes h.ds)))
         (.ite h.dropNonce.clearToken.ds.startOp h.openSession.dropNonce.clearToken.ds.updHeart.ds))
  · exact .ok h

theorem Evolves.dbgCmd {v n} (h : Evolves s₀ s) : Evolves s₀ (s.dbgCmd v n) := by
  unfold State.dbgCmd
  dsimp only
  split
  · exact .ite (.ds (h.foldl (fun h => h.ds))) h.ds
  · exact .ite h.ds h.startOp.ds
  · exact .ite h.endSession h.ds
  · exact h

theorem Evolves.execNonceExpire (h : Evolves s₀ s) : Runs s₀ (execNonceExpire s) := .ite (.ok h.dropNonce) (.ok h)
theorem Evolves.execSessionExpire (h : Evolves s₀ s) : Runs s₀ (execSessionExpire s) :=
  .ite (.ok h.endSession) (.ok h)
theorem Evolves.trCtl {v} (h : Evolves s₀ s) : Evolves s₀ (s.trCtl v) := h.ds.ds.dbgr
theorem Evolves.trace {kind pc} (h : Evolves s₀ s) : Evolves s₀ (s.trace c kind pc) := .ite (.dbgr (.ite h.ds h.ds)) h
theorem Evolves.seqCycles {n} (h : Evolves s₀ s) : Evolves s₀ (s.seqCycles c n) := h.cinc.dbgr

/-! ### Machine/Pins -/

theorem Evolves.tapLoad {code} (h : Evolves s₀ s) : Evolves s₀ (s.tapLoad code) := h.jtag

theorem Evolves.wakeLevel {ext} (h : Evolves s₀ s) : Evolves s₀ (s.wakeLevel ext).2 := by
  unfold State.wakeLevel
  split
  · exact h
  · exact h.power

theorem Evolves.bndSample {ext} (h : Evolves s₀ s) : Evolves s₀ (s.bndSample ext).2 := h.wakeLevel

/-! ### Machine/Views -/

theorem Evolves.cfetch {f} (h : Evolves s₀ s) : Evolves s₀ (s.cfetch c f).2 := by
  unfold State.cfetch
  split
  · split
    · exact h.roundFree
    · exact h
  · exact h

theorem Evolves.dread {f} (h : Evolves s₀ s) : Evolves s₀ (s.dread f).2 := by
  unfold State.dread
  split
  · exact h.fresh
  · split
    · exact h
    · exact h.fresh.ds
  · dsimp only
    split
    · exact h.wakeLevel
    · exact h.fresh.wakeLevel
  · split
    · exact h
    · split
      · exact h
      · exact h.roundFree
  · split
    · exact h.fresh
    · exact h
  · split <;> exact h

/-! ### Machine/Land -/

theorem Evolves.putC {v f} (h : Evolves s₀ s) : Evolves s₀ (s.putC c v f) :=
  .ite
    h
    (by
       dsimp only
       split
       · exact h.cs
       · exact h.cs
       · exact h.cs
       · exact h.cs
       · exact h.cs
       · exact h.setSh
       · exact h.candn
       · exact h.candn
       · exact h.cor
       all_goals exact h)

theorem Evolves.putD {v f} (h : Evolves s₀ s) : Evolves s₀ (s.putD v f) := by
  unfold State.putD
  dsimp only
  split
  · exact h.ds
  · exact h.ds
  · exact h.ds
  · exact h.ds
  · exact h.ds
  · exact h.ds
  · exact h.ds
  · exact h.ds
  · exact h.ds
  all_goals exact h

theorem Evolves.putReg {b o v} (h : Evolves s₀ s) : Evolves s₀ (s.putReg c b o v) := h.foldl fun h => h.putC
theorem Evolves.putSh {b o v} (h : Evolves s₀ s) : Evolves s₀ (s.putSh c b o v) := h.foldl fun h => h.putC
theorem Evolves.putRegD {b o v} (h : Evolves s₀ s) : Evolves s₀ (s.putRegD b o v) := h.foldl fun h => h.putD
theorem Evolves.lockViol {addr} (h : Evolves s₀ s) : Evolves s₀ (s.lockViol addr) := h.ds.dinc.ds.assertSrc
theorem Evolves.shutGate (h : Evolves s₀ s) : Evolves s₀ s.shutGate :=
  h.overCycle (Evolves.refl _).ds fun h₀ => by rw [h₀]; rfl

theorem Evolves.guard {addr} {g : State → State} (h : Evolves s₀ s)
    (hg : ∀ {x}, Evolves s₀ x → Evolves s₀ (g x)) : Evolves s₀ (s.guard addr g) :=
  .ite (hg h.shutGate) h.lockViol

theorem Evolves.keygate {v} (h : Evolves s₀ s) : Evolves s₀ (s.keygate v) :=
  .ite h.ds.ds (.ite h.ds.ds.ds.assertSrc h.ds.ds.dinc)
theorem Evolves.arm {b} (h : Evolves s₀ s) : Evolves s₀ (s.arm b) := h.integ
theorem Evolves.freshMeas (h : Evolves s₀ s) : Evolves s₀ s.freshMeas.2 := h.fresh.fresh.fresh.fresh.fresh
theorem Evolves.freshNonce (h : Evolves s₀ s) : Evolves s₀ s.freshNonce.2 := h.fresh.fresh
theorem Evolves.voteWrite {v} (h : Evolves s₀ s) : Evolves s₀ (s.voteWrite c v) := .ite h.cs h.cs.voteChanged
theorem Evolves.voteClr {v} (h : Evolves s₀ s) : Evolves s₀ (s.voteClr c v) := .ite h.voteBit.voteChanged h
theorem Evolves.utWrite {g} (h : Evolves s₀ s) : Evolves s₀ (s.utWrite c g) := .ite h.cs h.setUtIdle
theorem Evolves.graftCtl {v} (h : Evolves s₀ s) : Evolves s₀ (s.graftCtl c v) := .ite h.cs.cs.cs h.cs.cs.cs
theorem Evolves.winWrite {w v} (h : Evolves s₀ s) : Evolves s₀ (s.winWrite c w v) := .ite h (.ite h.cs h.putReg)
theorem Evolves.anAdv {v} (h : Evolves s₀ s) : Evolves s₀ (s.anAdv c v) := h.cs.cs
theorem Evolves.commit (h : Evolves s₀ s) : Evolves s₀ (s.commit c) := .ite h h.shApply

theorem Evolves.writeReg {b o v prog} (h : Evolves s₀ s) : Evolves s₀ (s.writeReg c b o v prog) :=
  .ite
    (.ite h.putReg.cs.arm h)
    (by
       split
       · exact .ite h.chctlCtl (.ite (.ite h.qrel h) h.putReg)
       · exact .ite h.afeCtl h.putReg
       · exact .ite h.pcsCtl.putSh (.ite h.testMode h.putReg)
       · exact .ite
             h.putReg
             (.ite
                h.putReg
                (.ite
                   (.ite h.putReg.clearDiverged h.putReg)
                   (.ite h.dspCmd (.ite h.tapWrite (.ite (.ite h.stbyType h) (.ite h.winWrite h.putReg))))))
       · exact .ite h.putReg (.ite h.anAdv (.ite h.linkCmd h.putReg))
       · exact .ite h.diagCtl (.ite h.diagCmd h.putReg)
       · exact .ite (.ite h h.txReq) (.ite h.lpiCmd h.putReg)
       · exact .ite h.frameCtl (.ite h.ctxCmd (.ite h.msCmd (.ite h.tsCmd (.ite (.ite h.acctSnap h) h.putReg))))
       · exact .ite h.qFlush (.ite h.egCls h.putReg)
       · exact .ite
             h
             (.ite
                (.ite h.cs h)
                (.ite h.updSeq (.ite (.ite h h.mboxIn) (.ite (.ite h.putReg h) (.ite h.putReg h.putReg)))))
       · exact .ite
             h.freshMeas.calgCmd
             (.ite h.utWrite (.ite h.utWrite (.ite h.utWrite (.ite h.graftCtl (.ite h.graftCmd h.putReg)))))
       · exact .ite h.voteWrite (.ite (.ite h.chrst h) h.putReg)
       · exact .ite h.fltAck (.ite h.fltForce h.putReg)
       · exact .ite h (.ite h.segCtl (.ite h.segCmd h.putReg)))

theorem Evolves.cfgPut {b o} {g : State → State} (h : Evolves s₀ s)
    (hg : ∀ {x}, Evolves s₀ x → Evolves s₀ (g x)) : Evolves s₀ (s.cfgPut c b o g) :=
  .ite (hg h) (.cs (hg h))

theorem Evolves.landC {b op o v prog addr} (h : Evolves s₀ s) : Evolves s₀ (s.landC c b op o v prog addr) := by
  unfold State.landC
  extract_lets fs s1
  have h1 : Evolves s₀ s1 := .ite h.voteClr h
  clear_value s1
  split
  · exact h1
  · exact .ite (h1.guard fun h => h.cfgPut fun h => h.writeReg) (h1.cfgPut fun h => h.writeReg)

theorem Evolves.chenWrite {v} (h : Evolves s₀ s) : Evolves s₀ (s.chenWrite c v) := h.putRegD.enWritten
theorem Evolves.svcenWrite {v} (h : Evolves s₀ s) : Evolves s₀ (s.svcenWrite v) :=
  h.putRegD.foldl fun h => .ite h.blkOff h
theorem Evolves.utDev {g} (h : Evolves s₀ s) : Evolves s₀ (s.utDev g) := .ite h.ds h.setDevIdle
theorem Evolves.commits {v} (h : Evolves s₀ s) : Evolves s₀ (s.commits v) := h.forCh fun h => .ite h.commit h

theorem Evolves.writeRegD {b o v} (h : Evolves s₀ s) : Evolves s₀ (s.writeRegD b o v) :=
  .ite
    h.putRegD.ds.arm
    (by
       split
       · exact .ite h.keygate h.putRegD
       · exact .ite h.svcenWrite (by split; exacts [h.chenWrite, h.putRegD])
       · exact .ite (.ite h.ds h.modeReq) (.ite (.ite h.softReset h) (.ite h.putRegD.dbgPower h.putRegD))
       · exact .ite h.fcAck (.ite h.fcCmd (.ite h.fcForce (.ite h.fcClass h.putRegD)))
       · exact .ite h.heartCmd (.ite h.lcCmd (.ite h.heartData (.ite h.ds h.putRegD)))
       · exact .ite h.freshMeas.calCmd (.ite h.utDev (.ite h.utDev h.putRegD))
       · exact .ite h.hostCmd h.putRegD
       · exact .ite (.mmLevelSvc (h.putRegD.forCh (fun h => h.mmLevel))) (.ite h.commits h.putRegD)
       · exact .ite h.freshNonce.dbgCmd (.ite h.trCtl h.putRegD)
       all_goals exact h.putRegD)

theorem Evolves.imgWrite {op o v} (h : Evolves s₀ s) : Evolves s₀ (s.imgWrite op o v) := by
  unfold State.imgWrite
  exact h.updCal

theorem Evolves.landD {b op o v addr} (h : Evolves s₀ s) : Evolves s₀ (s.landD b op o v addr) :=
  .ite
    h.imgWrite
    (by
       split
       · exact h
       · exact .ite (h.guard (fun h => .ite h.writeRegD h.writeRegD.ds)) (.ite h.writeRegD h.writeRegD.ds))

/-! ### Machine/Read -/

theorem Evolves.regC {b o} (h : Evolves s₀ s) : Evolves s₀ (s.regC c b o).2 :=
  .foldl_snd h fun h => h.cfetch
theorem Evolves.regD {b o} (h : Evolves s₀ s) : Evolves s₀ (s.regD b o).2 :=
  .foldl_snd h fun h => h.dread

theorem Evolves.readEffC {b o} (h : Evolves s₀ s) : Evolves s₀ (s.readEffC c b o) := by
  unfold State.readEffC
  extract_lets s1
  have h1 : Evolves s₀ s1 := h.foldl fun h => h.cs
  clear_value s1
  split
  · exact .ite h1.tapInc h1
  · refine .ite h1.markRead ?_
    split
    · exact h1.markRead
    · exact h1
  all_goals exact h1

theorem Evolves.readEffD {b o} (h : Evolves s₀ s) : Evolves s₀ (s.readEffD b o) := by
  unfold State.readEffD
  extract_lets s1
  have h1 : Evolves s₀ s1 := h.foldl fun h => h.ds
  clear_value s1
  split
  · refine .ite h1.markRead (.ite h1.latchTime ?_)
    split
    · exact h1.markRead
    · exact h1
  · exact .ite h1.ds h1
  all_goals exact h1

theorem Evolves.readC {b op o} (h : Evolves s₀ s) : Evolves s₀ (s.readC c b op o).2 := by
  unfold State.readC
  split
  · exact h
  · dsimp only
    split
    · exact h.regC.readEffC
    all_goals exact h.regC

theorem Evolves.readD {b op o} (h : Evolves s₀ s) : Evolves s₀ (s.readD b op o).2 := by
  unfold State.readD
  split
  · exact h
  · dsimp only
    split
    · exact h.regD.readEffD
    all_goals exact h.regD

/-! ### Machine/Seq -/

theorem Evolves.setSReg {r v} (h : Evolves s₀ s) : Evolves s₀ (s.setSReg c r v) := .ite h h.updSeq
theorem Evolves.setFlags {f} (h : Evolves s₀ s) : Evolves s₀ (s.setFlags c f) := h.updSeq
theorem Evolves.setAcc {r v} (h : Evolves s₀ s) : Evolves s₀ (s.setAcc c r v) := h.updSeq

theorem Evolves.seqTrap {cause pc insn vec} (h : Evolves s₀ s) : Evolves s₀ (s.seqTrap c cause pc insn vec) :=
  .assertSrc (.ite
     h.cs.cs.cs.cs.trace.updSeq.updSeq
     (.ite h.cs.cs.cs.cs.trace.updSeq.cs.updSeq h.cs.cs.cs.cs.trace.updSeq.updSeq))

theorem Evolves.advance {pc} (h : Evolves s₀ s) : Evolves s₀ (s.advance c pc) := .ite h.updSeq h

theorem Evolves.finish {w step d} (h : Evolves s₀ s) (hd : Completes s₀ d) : Evolves s₀ (s.finish c w step d) := by
  cases d with
  | trap k => exact h.seqTrap
  | next t n => exact .ite hd.of_next.seqCycles.advance.updSeq hd.of_next.seqCycles.advance
  | jump t a call n => exact .ite hd.of_jump.seqCycles.updSeq.updSeq hd.of_jump.seqCycles.updSeq
  | waits t => exact .ite hd.of_waits.seqCycles.updSeq hd.of_waits.seqCycles

theorem Evolves.issueMn {m} {g : State → Word → Done} (h : Evolves s₀ s)
    (hg : ∀ {x a2}, Evolves s₀ x → Completes s₀ (g x a2)) : Runs s₀ (s.issueMn c m g) :=
  .ite (.ok h) (by split; exacts [.ok h, .ite (.ok (h.finish (.ite (hg h) trivial))) (.ok h)])

theorem Evolves.execUndefinedOpcode (h : Evolves s₀ s) : Runs s₀ (execUndefinedOpcode c s) :=
  .ite (.ok h) (by split; exacts [.ok h, .ite (.ok (h.finish trivial)) (.ok h)])
theorem Evolves.pmem {vec} (h : Evolves s₀ s) : Evolves s₀ (s.pmem c vec) := h.fresh.seqTrap
theorem Evolves.execFetchOutsideLoadedRange (h : Evolves s₀ s) : Runs s₀ (execFetchOutsideLoadedRange c s) :=
  .ite (.ok h.pmem) (.ok h)
theorem Evolves.gatedAcc (h : Evolves s₀ s) : Evolves s₀ (s.gatedAcc c) := h.ds.ds
theorem Evolves.timePort {i} (h : Evolves s₀ s) : Evolves s₀ (s.timePort c i).2 := .ite h.updSeq h
theorem Evolves.stall (h : Evolves s₀ s) : Evolves s₀ s.stall.2 := h.fresh

theorem Evolves.portRead {p i} (h : Evolves s₀ s) : Evolves s₀ (s.portRead c p i).2 := by
  unfold State.portRead
  split
  · exact h
  · split
    · exact h.timePort
    · split
      · exact h
      · split
        · exact h
        · split
          · exact h.readC
          · exact h.gatedAcc

theorem Evolves.portWrite {b i v} (h : Evolves s₀ s) : Evolves s₀ (s.portWrite c b i v) := .ite h.landC h.gatedAcc

/-! ### Machine/SeqArith -/

theorem Evolves.putRes {d r n} (h : Evolves s₀ s) : Completes s₀ (s.putRes c d r n) := .next h.setSReg.setFlags
theorem Evolves.putZN {d r} (h : Evolves s₀ s) : Completes s₀ (s.putZN c d r) := h.putRes
theorem Evolves.insAdd {w} (h : Evolves s₀ s) : Completes s₀ (insAdd c s w) := h.putRes
theorem Evolves.execAdd (h : Evolves s₀ s) : Runs s₀ (execAdd c s) := h.issueMn fun h => h.insAdd
theorem Evolves.insSub {w} (h : Evolves s₀ s) : Completes s₀ (insSub c s w) := h.putRes
theorem Evolves.execSub (h : Evolves s₀ s) : Runs s₀ (execSub c s) := h.issueMn fun h => h.insSub
theorem Evolves.insAnd {w} (h : Evolves s₀ s) : Completes s₀ (insAnd c s w) := h.putZN
theorem Evolves.execAnd (h : Evolves s₀ s) : Runs s₀ (execAnd c s) := h.issueMn fun h => h.insAnd
theorem Evolves.insOr {w} (h : Evolves s₀ s) : Completes s₀ (insOr c s w) := h.putZN
theorem Evolves.execOr (h : Evolves s₀ s) : Runs s₀ (execOr c s) := h.issueMn fun h => h.insOr
theorem Evolves.insXor {w} (h : Evolves s₀ s) : Completes s₀ (insXor c s w) := h.putZN
theorem Evolves.execXor (h : Evolves s₀ s) : Runs s₀ (execXor c s) := h.issueMn fun h => h.insXor
theorem Evolves.insShl {w} (h : Evolves s₀ s) : Completes s₀ (insShl c s w) := h.putZN
theorem Evolves.execShl (h : Evolves s₀ s) : Runs s₀ (execShl c s) := h.issueMn fun h => h.insShl
theorem Evolves.insShr {w} (h : Evolves s₀ s) : Completes s₀ (insShr c s w) := h.putZN
theorem Evolves.execShr (h : Evolves s₀ s) : Runs s₀ (execShr c s) := h.issueMn fun h => h.insShr
theorem Evolves.insSar {w} (h : Evolves s₀ s) : Completes s₀ (insSar c s w) := h.putZN
theorem Evolves.execSar (h : Evolves s₀ s) : Runs s₀ (execSar c s) := h.issueMn fun h => h.insSar
theorem Evolves.insMin {w} (h : Evolves s₀ s) : Completes s₀ (insMin c s w) := h.putZN
theorem Evolves.execMin (h : Evolves s₀ s) : Runs s₀ (execMin c s) := h.issueMn fun h => h.insMin
theorem Evolves.insMax {w} (h : Evolves s₀ s) : Completes s₀ (insMax c s w) := h.putZN
theorem Evolves.execMax (h : Evolves s₀ s) : Runs s₀ (execMax c s) := h.issueMn fun h => h.insMax
theorem Evolves.insAbs {w} (h : Evolves s₀ s) : Completes s₀ (insAbs c s w) := h.putRes
theorem Evolves.execAbs (h : Evolves s₀ s) : Runs s₀ (execAbs c s) := h.issueMn fun h => h.insAbs
theorem Evolves.insCmp {w} (h : Evolves s₀ s) : Completes s₀ (insCmp c s w) := .next h.setFlags
theorem Evolves.execCmp (h : Evolves s₀ s) : Runs s₀ (execCmp c s) := h.issueMn fun h => h.insCmp
theorem Evolves.insMov {w} (h : Evolves s₀ s) : Completes s₀ (insMov c s w) := .next h.setSReg
theorem Evolves.execMov (h : Evolves s₀ s) : Runs s₀ (execMov c s) := h.issueMn fun h => h.insMov
theorem Evolves.insAddi {w} (h : Evolves s₀ s) : Completes s₀ (insAddi c s w) := h.putRes
theorem Evolves.execAddi (h : Evolves s₀ s) : Runs s₀ (execAddi c s) := h.issueMn fun h => h.insAddi
theorem Evolves.insAndi {w} (h : Evolves s₀ s) : Completes s₀ (insAndi c s w) := h.putZN
theorem Evolves.execAndi (h : Evolves s₀ s) : Runs s₀ (execAndi c s) := h.issueMn fun h => h.insAndi
theorem Evolves.insOri {w} (h : Evolves s₀ s) : Completes s₀ (insOri c s w) := h.putZN
theorem Evolves.execOri (h : Evolves s₀ s) : Runs s₀ (execOri c s) := h.issueMn fun h => h.insOri
theorem Evolves.insCmpi {w} (h : Evolves s₀ s) : Completes s₀ (insCmpi c s w) := .next h.setFlags
theorem Evolves.execCmpi (h : Evolves s₀ s) : Runs s₀ (execCmpi c s) := h.issueMn fun h => h.insCmpi
theorem Evolves.insMovi {w} (h : Evolves s₀ s) : Completes s₀ (insMovi c s w) := .next h.setSReg
theorem Evolves.execMovi (h : Evolves s₀ s) : Runs s₀ (execMovi c s) := h.issueMn fun h => h.insMovi
theorem Evolves.insMovh {w} (h : Evolves s₀ s) : Completes s₀ (insMovh c s w) := .next h.setSReg
theorem Evolves.execMovh (h : Evolves s₀ s) : Runs s₀ (execMovh c s) := h.issueMn fun h => h.insMovh
theorem Evolves.insMac {w} (h : Evolves s₀ s) : Completes s₀ (insMac c s w) := .next h.setAcc.setFlags
theorem Evolves.execMac (h : Evolves s₀ s) : Runs s₀ (execMac c s) := h.issueMn fun h => h.insMac
theorem Evolves.insMsu {w} (h : Evolves s₀ s) : Completes s₀ (insMsu c s w) := .next h.setAcc.setFlags
theorem Evolves.execMsu (h : Evolves s₀ s) : Runs s₀ (execMsu c s) := h.issueMn fun h => h.insMsu
theorem Evolves.insClra {w} (h : Evolves s₀ s) : Completes s₀ (insClra c s w) := .next h.setAcc
theorem Evolves.execClra (h : Evolves s₀ s) : Runs s₀ (execClra c s) := h.issueMn fun h => h.insClra
theorem Evolves.insRda {w} (h : Evolves s₀ s) : Completes s₀ (insRda c s w) := h.putRes
theorem Evolves.execRda (h : Evolves s₀ s) : Runs s₀ (execRda c s) := h.issueMn fun h => h.insRda

/-! ### Machine/SeqFlow -/

theorem Evolves.insLd {w} (h : Evolves s₀ s) : Completes s₀ (insLd c s w) := by
  unfold Machine.insLd
  split
  · exact .next h.setSReg
  · exact trivial

theorem Evolves.execLd (h : Evolves s₀ s) : Runs s₀ (execLd c s) := h.issueMn fun h => h.insLd

theorem Evolves.insSt {w} (h : Evolves s₀ s) : Completes s₀ (insSt c s w) := by
  unfold Machine.insSt
  split
  · exact .next h.updSeq
  · exact trivial

theorem Evolves.execSt (h : Evolves s₀ s) : Runs s₀ (execSt c s) := h.issueMn fun h => h.insSt
theorem Evolves.insBr {w} (h : Evolves s₀ s) : Completes s₀ (insBr c s w) := .ite (.jump h.trace) (.next h)
theorem Evolves.execBr (h : Evolves s₀ s) : Runs s₀ (execBr c s) := h.issueMn fun h => h.insBr
theorem Evolves.insCall {w} (h : Evolves s₀ s) : Completes s₀ (insCall c s w) :=
  .ite (.next h) (.ite trivial (.jump h.trace.updSeq))
theorem Evolves.execCall (h : Evolves s₀ s) : Runs s₀ (execCall c s) := h.issueMn fun h => h.insCall
theorem Evolves.insRet {w} (h : Evolves s₀ s) : Completes s₀ (insRet c s w) :=
  .ite (.next h) (by split; exacts [trivial, .jump h.trace.updSeq])
theorem Evolves.execRet (h : Evolves s₀ s) : Runs s₀ (execRet c s) := h.issueMn fun h => h.insRet
theorem Evolves.insLoop {w} (h : Evolves s₀ s) : Completes s₀ (insLoop c s w) :=
  .ite (.jump h) (.ite trivial (.next h.updSeq))
theorem Evolves.execLoop (h : Evolves s₀ s) : Runs s₀ (execLoop c s) := h.issueMn fun h => h.insLoop

/-! ### Machine/Policy -/

theorem Evolves.progMade {b o v} (h : Evolves s₀ s) : Evolves s₀ (s.progMade c b o v) :=
  .ite h (.ite h.updPol (.ite h.updPol h))
theorem Evolves.portMakes {b i v} (h : Evolves s₀ s) : Evolves s₀ (s.portMakes c b i v) :=
  .ite h.gatedAcc (by dsimp only; split; exacts [.ite h.progMade.portWrite h, h.portWrite])

/-! ### Machine/SeqAct -/

theorem Evolves.insPrd {w} (h : Evolves s₀ s) : Completes s₀ (insPrd c s w) :=
  .ite trivial (.next h.portRead.stall.setSReg)
theorem Evolves.execPrd (h : Evolves s₀ s) : Runs s₀ (execPrd c s) := h.issueMn fun h => h.insPrd
theorem Evolves.insPwr {w} (h : Evolves s₀ s) : Completes s₀ (insPwr c s w) :=
  .ite trivial (.next (by split; exacts [h.trace.stall.portMakes, h.trace.stall]))
theorem Evolves.execPwr (h : Evolves s₀ s) : Runs s₀ (execPwr c s) := h.issueMn fun h => h.insPwr
theorem Evolves.endWait {hit} (h : Evolves s₀ s) : Evolves s₀ (s.endWait c hit) := h.updSeq.cs.trace
theorem Evolves.insWait {w} (h : Evolves s₀ s) : Completes s₀ (insWait c s w) :=
  .ite trivial (.ite (.next h.endWait) (.waits h.updSeq))
theorem Evolves.execWait (h : Evolves s₀ s) : Runs s₀ (execWait c s) := h.issueMn fun h => h.insWait
theorem Evolves.insTset {w} (h : Evolves s₀ s) : Completes s₀ (insTset c s w) := .ite trivial (.next h.cs.updSeq.cs)
theorem Evolves.execTset (h : Evolves s₀ s) : Runs s₀ (execTset c s) := h.issueMn fun h => h.insTset
theorem Evolves.insFrz {w} (h : Evolves s₀ s) : Completes s₀ (insFrz c s w) := .next h.updSeq
theorem Evolves.execFrz (h : Evolves s₀ s) : Runs s₀ (execFrz c s) := h.issueMn fun h => h.insFrz
theorem Evolves.insThw {w} (h : Evolves s₀ s) : Completes s₀ (insThw c s w) := .next h.updSeq
theorem Evolves.execThw (h : Evolves s₀ s) : Runs s₀ (execThw c s) := h.issueMn fun h => h.insThw
theorem Evolves.insRaise {w} (h : Evolves s₀ s) : Completes s₀ (insRaise c s w) := .ite (.next h.assertSrc) trivial
theorem Evolves.execRaise (h : Evolves s₀ s) : Runs s₀ (execRaise c s) := h.issueMn fun h => h.insRaise
theorem Evolves.insPost {w} (h : Evolves s₀ s) : Completes s₀ (insPost c s w) := .ite trivial (.next h.updSeq)
theorem Evolves.execPost (h : Evolves s₀ s) : Runs s₀ (execPost c s) := h.issueMn fun h => h.insPost
theorem Evolves.insCommit {x} (h : Evolves s₀ s) : Completes s₀ (insCommit c s x) := .next h.stall.commit
theorem Evolves.execCommit (h : Evolves s₀ s) : Runs s₀ (execCommit c s) := h.issueMn fun h => h.insCommit
theorem Evolves.insHalt {x} (h : Evolves s₀ s) : Completes s₀ (insHalt c s x) := .next h.updSeq
theorem Evolves.execHalt (h : Evolves s₀ s) : Runs s₀ (execHalt c s) := h.issueMn fun h => h.insHalt

theorem Evolves.seqVote {t b} (h : Evolves s₀ s) : Evolves s₀ (s.seqVote c t b) := by
  unfold State.seqVote
  split
  · exact .ite h h.voteBit.voteChanged
  all_goals exact h.ds

theorem Evolves.voteIns {w b} (h : Evolves s₀ s) : Completes s₀ (s.voteIns c w b) :=
  .ite trivial (.ite trivial (.next h.seqVote))
theorem Evolves.insVote {w} (h : Evolves s₀ s) : Completes s₀ (insVote c s w) := h.voteIns
theorem Evolves.execVote (h : Evolves s₀ s) : Runs s₀ (execVote c s) := h.issueMn fun h => h.insVote
theorem Evolves.insUnvote {w} (h : Evolves s₀ s) : Completes s₀ (insUnvote c s w) := h.voteIns
theorem Evolves.execUnvote (h : Evolves s₀ s) : Runs s₀ (execUnvote c s) := h.issueMn fun h => h.insUnvote

theorem Evolves.insOf {m w} (h : Evolves s₀ s) : Completes s₀ (State.insOf c m s w) := by
  cases m with
  | add => exact h.insAdd
  | sub => exact h.insSub
  | and => exact h.insAnd
  | or => exact h.insOr
  | xor => exact h.insXor
  | shl => exact h.insShl
  | shr => exact h.insShr
  | sar => exact h.insSar
  | min => exact h.insMin
  | max => exact h.insMax
  | abs => exact h.insAbs
  | cmp => exact h.insCmp
  | mov => exact h.insMov
  | mac => exact h.insMac
  | msu => exact h.insMsu
  | clra => exact h.insClra
  | rda => exact h.insRda
  | tset => exact h.insTset
  | raise => exact h.insRaise
  | post => exact h.insPost
  | commit => exact h.insCommit (x := w)
  | halt => exact h.insHalt (x := w)
  | addi => exact h.insAddi
  | andi => exact h.insAndi
  | ori => exact h.insOri
  | cmpi => exact h.insCmpi
  | movi => exact h.insMovi
  | movh => exact h.insMovh
  | ld => exact h.insLd
  | st => exact h.insSt
  | loop => exact h.insLoop
  | vote => exact h.insVote
  | unvote => exact h.insUnvote
  | br => exact h.insBr
  | call => exact h.insCall
  | ret => exact h.insRet
  | prd => exact h.insPrd
  | pwr => exact h.insPwr
  | wait => exact h.insWait
  | frz => exact h.insFrz
  | thw => exact h.insThw

theorem Evolves.oneStep (h : Evolves s₀ s) : Evolves s₀ (s.oneStep c) := by
  unfold State.oneStep
  dsimp only
  split
  · exact h.updSeq.pmem
  · split
    · exact h.updSeq.finish trivial
    · exact h.updSeq.finish (.ite h.updSeq.insOf trivial)

theorem Evolves.wdogTrap {halt} (h : Evolves s₀ s) : Evolves s₀ (s.wdogTrap c halt) := by
  unfold State.wdogTrap
  dsimp only
  split
  · exact h.updSeq.seqTrap
  · exact h.updSeq.fresh.seqTrap

theorem Evolves.seqRej (h : Evolves s₀ s) : Evolves s₀ (s.seqRej c) := h.cs

theorem Evolves.seqRun (h : Evolves s₀ s) : Evolves s₀ (s.seqRun c) := by
  unfold State.seqRun
  split
  · exact h.seqEnter
  · exact h.seqEnter
  all_goals exact h.seqRej

theorem Evolves.seqHalt (h : Evolves s₀ s) : Evolves s₀ (s.seqHalt c) := by
  unfold State.seqHalt
  split
  · exact h.updSeq
  · exact h.updSeq
  all_goals exact h.seqRej

theorem Evolves.seqResume (h : Evolves s₀ s) : Evolves s₀ (s.seqResume c) :=
  .ite (by dsimp only; split; exacts [.ite (h.updSeq.finish h.updSeq.insWait) h.updSeq, h.updSeq]) h.seqRej
theorem Evolves.seqHaltNow {issue wdog} (h : Evolves s₀ s) : Evolves s₀ (s.seqHaltNow c issue wdog) :=
  .ite h.wdogTrap (.ite h.oneStep h.seqHalt)
theorem Evolves.seqStep (h : Evolves s₀ s) : Evolves s₀ (s.seqStep c) := .ite h.oneStep h.seqRej

theorem Evolves.seqCmd {v} (h : Evolves s₀ s) : Evolves s₀ (s.seqCmd c v) := by
  unfold State.seqCmd
  split
  · exact h
  · exact h.seqRun
  · exact h.seqHalt
  · exact h.seqResume
  · exact h.seqStep
  · exact h.seqRej

theorem Evolves.execWaitWake (h : Evolves s₀ s) : Runs s₀ (execWaitWake c s) := by
  unfold Machine.execWaitWake
  split
  · exact .ite (.ok h.endWait.updSeq.advance) (.ok h)
  · exact .ok h

theorem Evolves.waitDone {m} (h : Evolves s₀ s) : Evolves s₀ (s.waitDone c m) := h.endWait.updSeq.advance

theorem Evolves.execWaitTimeout (h : Evolves s₀ s) : Runs s₀ (execWaitTimeout c s) := by
  unfold Machine.execWaitTimeout
  split
  · exact .ite (.ok h.waitDone) (.ok h)
  · exact .ok h

theorem Evolves.timerDone {n} (h : Evolves s₀ s) : Evolves s₀ (s.timerDone c n) := .ite h.cor.cs h.cor.cs.cs
theorem Evolves.execTimerExpire {n} (h : Evolves s₀ s) : Runs s₀ (execTimerExpire c n s) :=
  .ite (.ok h.timerDone) (.ok h)
theorem Evolves.execWatchdogExpire (h : Evolves s₀ s) : Runs s₀ (execWatchdogExpire c s) :=
  .ite (.ok h.wdogTrap) (.ok h)

/-! ### Machine/Bus -/

theorem Evolves.pramLand {o v} (h : Evolves s₀ s) : Evolves s₀ (s.pramLand c o v) :=
  .ite h (.ite h.setPramWord.cs h.cs)
theorem Evolves.dramLand {o v} (h : Evolves s₀ s) : Evolves s₀ (s.dramLand c o v) := .ite h h.updSeq
theorem Evolves.landReg {b op o v addr} (h : Evolves s₀ s) : Evolves s₀ (s.landReg c b op o v addr) :=
  .ite (.ite h.seqCmd h) h.landC

theorem Evolves.landBits {b o v m addr} (h : Evolves s₀ s) : Evolves s₀ (s.landBits c b o v m addr) := by
  unfold State.landBits
  split
  · exact h.cfgPut fun h => h.pcsLoop
  all_goals exact h.landReg

theorem Evolves.landAt {t v addr} (h : Evolves s₀ s) : Evolves s₀ (s.landAt t v addr) := by
  unfold State.landAt
  split
  · exact h.landReg
  · exact h.pramLand
  · exact h.dramLand
  · exact h.landD
  all_goals exact h

theorem Evolves.landPosted {p} (h : Evolves s₀ s) : Evolves s₀ (s.landPosted c p) := by
  unfold State.landPosted
  split
  · exact h.landBits
  · exact h.landAt

theorem Evolves.landHead {g : Posted → State → State} (h : Evolves s₀ s)
    (hg : ∀ {a1 x}, Evolves s₀ x → Evolves s₀ (g a1 x)) : Evolves s₀ (s.landHead c g) := by
  unfold State.landHead
  split
  · exact h
  · exact .ite (.ite (.evalVote (.powerOff (hg h.updCh))) (hg h.updCh)) h

theorem Evolves.landOne (h : Evolves s₀ s) : Evolves s₀ (s.landOne c) := h.landHead fun h => h.landPosted

theorem Evolves.landN {n} (h : Evolves s₀ s) : Evolves s₀ (s.landN c n) := by
  induction n generalizing s with
  | zero => exact h
  | succ n ih => exact ih h.landOne

theorem Evolves.landAll (h : Evolves s₀ s) : Evolves s₀ (s.landAll c) := h.landN

theorem Evolves.post {p} (h : Evolves s₀ s) : Evolves s₀ (s.post c p) :=
  .ite
    h.busError
    (.ite
       (.reply (.ds (by
            split
            · exact .ite h.cs h
            all_goals exact h)))
       h.updCh.reply)

theorem Evolves.busWrite {src addr v} (h : Evolves s₀ s) : Evolves s₀ (s.busWrite src addr v) :=
  .ite h.busError (by split; exacts [h.post, h.landAt.reply])
theorem Evolves.busLand {src addr v} (h : Evolves s₀ s) : Evolves s₀ (s.busLand src addr v) :=
  .ite h.busError (by split; exacts [.ite h.busError h.landAll.landAt.reply, h.landAt.reply])

theorem Evolves.fetch {t} (h : Evolves s₀ s) : Evolves s₀ (s.fetch t).2 := by
  unfold State.fetch
  split
  · exact h.readC
  · exact h
  · exact h
  · exact h
  · exact h.readD
  · exact h

theorem Evolves.busRead {src addr} (h : Evolves s₀ s) : Evolves s₀ (s.busRead src addr) :=
  Evolves.andThen (by split; exacts [.ite h.landAll h, h]) fun h =>
  .ite h.busError h.fetch.reply

theorem Evolves.progDo {b o} {g : State → State} (h : Evolves s₀ s)
    (hg : ∀ {x}, Evolves s₀ x → Evolves s₀ (g x)) : Evolves s₀ (s.progDo c b o g) :=
  .ite (.ite (hg h) h.gatedAcc) h

theorem Evolves.progLand {b op o v addr} (h : Evolves s₀ s) : Evolves s₀ (s.progLand c b op o v addr) := by
  unfold State.progLand
  split
  · exact .ite h.progMade.landC h
  · exact h.landC

theorem Evolves.progWrite {addr v} (h : Evolves s₀ s) : Evolves s₀ (s.progWrite addr v) := by
  unfold State.progWrite
  split
  · exact .ite (h.progDo (fun h => h.progLand)) h
  all_goals exact h

theorem Evolves.progRead {addr} (h : Evolves s₀ s) : Evolves s₀ (s.progRead addr) := by
  unfold State.progRead
  split
  · exact .ite (.ite h.readC.reply h.gatedAcc.reply) h
  all_goals exact h

theorem Evolves.rowDo {src b o v} {g : State → Bool → State} (h : Evolves s₀ s)
    (hg : ∀ {x a2}, Evolves s₀ x → Evolves s₀ (g x a2)) : Runs s₀ (s.rowDo src c b o v g) := by
  unfold State.rowDo
  split
  · exact .ok (h.progDo (fun h => .ite (hg h.progMade) h))
  all_goals exact .ite (.ok (.reply (hg h.landAll))) (.ok h.busError)

theorem Evolves.rowW {src b o v} (h : Evolves s₀ s) : Runs s₀ (s.rowW src c b o v) :=
  h.rowDo fun h => .ite h.landC h.landReg

theorem Evolves.devDo {src b} {g : State → State} (h : Evolves s₀ s)
    (hg : ∀ {x}, Evolves s₀ x → Evolves s₀ (g x)) : Runs s₀ (s.devDo src b g) := by
  unfold State.devDo
  split
  · exact .ok h
  all_goals exact .ite (.ok (.reply (hg h))) (.ok h.busError)

theorem Evolves.devW {src b o v} (h : Evolves s₀ s) : Runs s₀ (s.devW src b o v) := h.devDo fun h => h.landD

theorem Evolves.anyLand {src addr v} (h : Evolves s₀ s) : Evolves s₀ (s.anyLand src addr v) := by
  unfold State.anyLand
  split
  · exact h.progWrite
  all_goals exact h.busLand

theorem Evolves.anyRead {src addr} (h : Evolves s₀ s) : Evolves s₀ (s.anyRead src addr) := by
  unfold State.anyRead
  split
  · exact h.progRead
  all_goals exact h.busRead

theorem Evolves.hwAct {before at' u} (h : Evolves s₀ s) : Evolves s₀ (s.hwAct before at' u) := by
  unfold State.hwAct
  split
  · split
    · split
      · exact h.cs
      · exact h.cs
      · exact .ite h.cs h.cs
      all_goals exact h
    · exact h
  · split
    · split
      · exact h.ds
      · exact h.ds
      · exact .ite h.ds h.ds
      all_goals exact h
    · exact h
  all_goals exact h

theorem Evolves.boundaryAt {a} (h : Evolves s₀ s) : Evolves s₀ (s.boundaryAt a) := by
  unfold State.boundaryAt
  split
  · exact .ite h.shApply h
  all_goals exact h

theorem Evolves.access {a} (h : Evolves s₀ s) : Evolves s₀ (s.access a) :=
  .ite
    (by
       split
       · exact h
       all_goals exact h.busError)
    (.ite
       h.anyRead
       (by
          split
          · exact h.progWrite
          all_goals exact h.busWrite))

theorem Evolves.turns {l} (h : Evolves s₀ s) : Evolves s₀ (s.turns l) := h.foldl fun h => h.access

theorem Evolves.cycle {al at'} {g : State → State} (h : Evolves s₀ s)
    (hg : ∀ {s₀ x}, Evolves s₀ x → Evolves s₀ (g x)) : Evolves s₀ (s.cycle al at' g) := by
  unfold State.cycle
  extract_lets hw s1 s2
  have h1 : Evolves s₀ s1 := .ite (h.foldl fun h => h.boundaryAt) h
  have h2 : Evolves s₀ s2 := h1.foldl fun h => h.hwAct
  exact h2.inCyc fun h => (hg h).foldl fun h => h.hwAct

theorem Evolves.execRegisterWrite {a al} (h : Evolves s₀ s) : Runs s₀ (execRegisterWrite a al s) := by
  unfold Machine.execRegisterWrite
  exact .ok (h.cycle (fun h => h.turns))

theorem Evolves.cmdBoth {b v v'} (h : Evolves s₀ s) : Evolves s₀ (s.cmdBoth c b v v') := by
  unfold State.cmdBoth
  dsimp only
  split
  · exact .linkCmd (.ite h.linkRej h)
  · exact .segCmd (.ite h.segRej h)
  · exact h.progMade.diagCmd

theorem Evolves.execPostedWriteLand {al} (h : Evolves s₀ s) : Runs s₀ (execPostedWriteLand c al s) := by
  unfold Machine.execPostedWriteLand
  split
  · exact .ok (h.cycle
         (fun h =>
            have h := h.foldl fun h => h.access
            by dsimp only; split; exacts [.turns (h.landHead (fun h => h.cmdBoth)), h.landOne.turns]))
  · exact .ok h

theorem Evolves.execAliasSetWrite {src addr v} (h : Evolves s₀ s) : Runs s₀ (execAliasSetWrite src addr v s) :=
  .ok h.anyLand
theorem Evolves.execAliasClrWrite {src addr v} (h : Evolves s₀ s) : Runs s₀ (execAliasClrWrite src addr v s) :=
  .ok h.anyLand
theorem Evolves.execAliasTglWrite {src addr v} (h : Evolves s₀ s) : Runs s₀ (execAliasTglWrite src addr v s) :=
  .ok h.anyLand
theorem Evolves.execShWrite {src addr v} (h : Evolves s₀ s) : Runs s₀ (execShWrite src addr v s) := .ok h.anyLand
theorem Evolves.execCfgrefWrite {src addr v} (h : Evolves s₀ s) : Runs s₀ (execCfgrefWrite src addr v s) :=
  .ok h.anyLand
theorem Evolves.execFaultForce {src addr v} (h : Evolves s₀ s) : Runs s₀ (execFaultForce src addr v s) :=
  .ok h.anyLand

theorem Evolves.rcInc {t n} (h : Evolves s₀ s) : Evolves s₀ (s.rcInc t n) := by
  unfold State.rcInc
  split
  · exact h.foldl fun h => h.cinc
  · exact h.foldl fun h => h.dinc
  · exact h

theorem Evolves.execRcCounterRead {src addr size inc others} (h : Evolves s₀ s) :
    Runs s₀ (execRcCounterRead src addr size inc others s) :=
  .ok (h.inCyc
     (fun h =>
        have h := Evolves.bus (.foldl (.access (h.foldl (fun h => h.access))) (fun h => h.access))
        .ite h.rcInc h))

theorem Evolves.execPramWrite {src off v} (h : Evolves s₀ s) : Runs s₀ (execPramWrite src c off v s) := by
  unfold Machine.execPramWrite
  split
  · exact .ok h
  all_goals exact .ok h.busLand

theorem Evolves.execFprint0Read {src} (h : Evolves s₀ s) : Runs s₀ (execFprint0Read src s) := .ok h.anyRead
theorem Evolves.execFcTime0Read {src} (h : Evolves s₀ s) : Runs s₀ (execFcTime0Read src s) := .ok h.anyRead
theorem Evolves.execFaultRecordRead {src x} (h : Evolves s₀ s) : Runs s₀ (execFaultRecordRead src x s) :=
  .ok h.anyRead

/-! ### Machine/Mgmt -/

theorem Evolves.updPort {g} (h : Evolves s₀ s) : Evolves s₀ (s.updPort c g) := h.mgmt

theorem Evolves.llTake {r} (h : Evolves s₀ s) : Evolves s₀ (s.llTake c r) := by
  unfold State.llTake
  dsimp only
  split
  · exact .ite h.updSeg h.updLink
  · exact .ite h.updSeg h.updLine
  · exact h.updLink
  · exact h

theorem Evolves.mdVal {r} (h : Evolves s₀ s) : Evolves s₀ (s.mdVal c r).2 := by
  unfold State.mdVal
  cases r with
  | t1 =>
    dsimp only
    split
    · exact h
    · exact .snd h.fresh
  | _ => exact h

theorem Evolves.mdBusErr (h : Evolves s₀ s) : Evolves s₀ s.mdBusErr := h.ds

theorem Evolves.mdFrame {devad} {g : State → State × Bool} (h : Evolves s₀ s)
    (hg : ∀ {x}, Evolves s₀ x → Evolves s₀ (g x).1) : Runs s₀ (s.mdFrame c devad g) :=
  .ite (.ok h) (.ok (.ite (.dinc (.dinc (.ds (.ds (hg h))))) (.dinc (.ds (.ds (hg h))))))

theorem Evolves.mdFix {devad reg named} (h : Evolves s₀ s) : Evolves s₀ (s.mdFix c devad reg named).1 := by
  unfold State.mdFix
  extract_lets s1 put
  have h1 : Evolves s₀ s1 := h.updPort
  have hput : ∀ {x v}, Evolves s₀ x → Evolves s₀ (put x v) := fun h => h.updPort
  clear_value s1 put
  split
  · exact .fst (hput (.ite h1.ds h1))
  · next r _ =>
    have h2 : Evolves s₀ (if (r.blk c).isSome then s1.landAll c else s1) := .ite h1.landAll h1
    exact .ite_fst h1 (.ite_fst (hput h2.mdVal) (hput h2.mdBusErr))

theorem Evolves.execMdioAddress {prtad devad reg} (h : Evolves s₀ s) : Runs s₀ (execMdioAddress prtad devad reg s) :=
  h.mdFrame fun h => h.mdFix.reply

theorem Evolves.mdPost {b o v m} (h : Evolves s₀ s) : Evolves s₀ (s.mdPost c b o v m).1 :=
  have h := Evolves.ite h.busError h.post
  .ite_fst h.mdBusErr h

theorem Evolves.both {x} {g : State → State × Bool} (h : Evolves s₀ x.1)
    (hg : ∀ {x}, Evolves s₀ x → Evolves s₀ (g x).1) : Evolves s₀ (both x g).1 :=
  hg h

theorem Evolves.mdStd {r v} (h : Evolves s₀ s) : Evolves s₀ (s.mdStd c r v).1 := by
  refine .ite_fst h.busError.mdBusErr ?_
  extract_lets rst
  have hrst : ∀ {x}, Evolves s₀ x → Evolves s₀ (rst x).1 := fun h => .ite_fst h.mdPost h
  clear_value rst
  split
  · exact h.mdPost.both hrst
  · exact .ite_fst h (.ite_fst h.mdPost h.mdPost)
  · exact h.mdPost.both hrst
  · exact h.mdPost.both fun h => .ite_fst h.mdPost h
  · exact .ite_fst h.mdPost h
  · exact .ite_fst h.mdPost h
  · split
    · exact .ite_fst h h.mdPost
    · exact h.mdPost
    · exact h.mdPost
    · exact h.mdPost
    · exact h
  all_goals exact h

theorem Evolves.natDone (h : Evolves s₀ s) : Evolves s₀ (s.natDone c).1 := by
  unfold State.natDone
  dsimp only
  split
  · exact .ite h.busRead.updPort.mdBusErr h.busRead.updPort
  · exact h

theorem Evolves.natRead (h : Evolves s₀ s) : Evolves s₀ (s.natRead c).1 :=
  .ite_fst (.fst h.natDone.mdBusErr.updPort) (.fst h.natDone.updPort)

theorem Evolves.natWrite {v} (h : Evolves s₀ s) : Evolves s₀ (s.natWrite c v).1 :=
  .updPort (by
     split
     · exact h.natDone.mdBusErr
     · dsimp only
       split
       · exact h.natDone.busWrite.mdBusErr
       · exact h.natDone.busWrite)

theorem Evolves.winSet {k v} (h : Evolves s₀ s) : Evolves s₀ (s.winSet c k v).1 := by
  unfold State.winSet
  split
  · exact .fst h.updPort
  · exact .fst h.updPort
  · exact h.natWrite
  · exact .fst h.updPort
  · exact .ite_fst h.updPort.natRead (.fst h.updPort)

theorem Evolves.winGet {k} (h : Evolves s₀ s) : Evolves s₀ (s.winGet c k).2.1 := by
  unfold State.winGet
  extract_lets p
  split
  · exact h
  · exact h
  · split
    · exact .fst h.ds
    · exact h
  · split
    · exact .fst h.updPort.ds
    · exact .fst h.updPort
  · exact h

theorem Evolves.mdWrFrame {devad} {g : State → State × Bool} (h : Evolves s₀ s)
    (hg : ∀ {x}, Evolves s₀ x → Evolves s₀ (g x).1) : Runs s₀ (s.mdWrFrame c devad g) :=
  .ite (.ok h) (h.mdFrame hg)

theorem Evolves.execMdioWrite {prtad devad v} (h : Evolves s₀ s) : Runs s₀ (execMdioWrite prtad devad v s) :=
  h.mdWrFrame (fun h => .reply (by split; exacts [h.ds, h.winSet, h.mdStd]))

theorem Evolves.mdGet {devad late} (h : Evolves s₀ s) : Evolves s₀ (s.mdGet c devad late).2.1 := by
  unfold State.mdGet
  split
  · exact h.ds
  · exact h.winGet
  · split
    · exact h.ds
    · dsimp only
      split
      · exact h
      · exact
          have h := Evolves.ite h h.llTake
          .ite h.updPort h

theorem Evolves.execMdioRead {prtad devad late} (h : Evolves s₀ s) : Runs s₀ (execMdioRead prtad devad late s) :=
  h.mdFrame fun h => h.mdGet.reply
theorem Evolves.execMdioReadInc {prtad devad late} (h : Evolves s₀ s) : Runs s₀ (execMdioReadInc prtad devad late s) :=
  h.mdFrame fun h => h.mdGet.mdFix.reply
theorem Evolves.execMdioNativeRd {prtad} (h : Evolves s₀ s) : Runs s₀ (execMdioNativeRd prtad s) :=
  h.mdWrFrame fun h => h.natRead.reply
theorem Evolves.execMdioNativeWrite {prtad v} (h : Evolves s₀ s) : Runs s₀ (execMdioNativeWrite prtad v s) :=
  h.mdWrFrame fun h => h.natWrite.reply
theorem Evolves.execMdioNativeReadDone {prtad} (h : Evolves s₀ s) : Runs s₀ (execMdioNativeReadDone prtad s) :=
  .ite (.ok (.ite h.natDone.dinc h.natDone)) (.ok h)
theorem Evolves.execBypass (h : Evolves s₀ s) : Runs s₀ (execBypass s) := .ite (.ok h.tapLoad.reply) (.ok h)
theorem Evolves.execIdcode (h : Evolves s₀ s) : Runs s₀ (execIdcode s) := .ite (.ok h.tapLoad.reply) (.ok h)

theorem Evolves.execSamplePreload {preload sampled} (h : Evolves s₀ s) :
    Runs s₀ (execSamplePreload preload sampled s) :=
  .ite (.ok h) (.ite (.ok h.tapLoad.bndSample.reply.jtag) (.ok h.tapLoad.reply))

theorem Evolves.execExtest {boundary} (h : Evolves s₀ s) : Runs s₀ (execExtest boundary s) :=
  .ite
    (.ok h)
    (have h := h.tapLoad.reply
     .ite (.ok h.jtag) (.ok h))

theorem Evolves.execClamp (h : Evolves s₀ s) : Runs s₀ (execClamp s) := .ite (.ok h.tapLoad.reply) (.ok h)
theorem Evolves.execHighz (h : Evolves s₀ s) : Runs s₀ (execHighz s) := .ite (.ok h.tapLoad.reply) (.ok h)
theorem Evolves.execInstrAccess {sib} (h : Evolves s₀ s) : Runs s₀ (execInstrAccess sib s) :=
  .ite (.ok h) (.ite (.ok h.tapLoad.reply.jtag) (.ok h.tapLoad.reply))
theorem Evolves.execTrst {low} (h : Evolves s₀ s) : Runs s₀ (execTrst low s) := .ok h.jtag

/-! ### Machine/Rows -/

theorem Evolves.execClockEnableWrite {src r v} (h : Evolves s₀ s) : Runs s₀ (execClockEnableWrite src r v s) := by
  unfold Machine.execClockEnableWrite
  split <;> exact h.devW

theorem Evolves.execSoftrst {src v toSafe} (h : Evolves s₀ s) : Runs s₀ (execSoftrst src v toSafe s) :=
  h.devDo (fun h => h.inCyc (fun h => h.landD))
theorem Evolves.execReqDormant {src wake} (h : Evolves s₀ s) : Runs s₀ (execReqDormant src wake s) :=
  h.devDo (fun h => h.inCyc (fun h => h.landD))
theorem Evolves.execReqStandby {src} (h : Evolves s₀ s) : Runs s₀ (execReqStandby src s) := h.devW
theorem Evolves.execReqActive {src} (h : Evolves s₀ s) : Runs s₀ (execReqActive src s) := h.devW
theorem Evolves.execReqService {src} (h : Evolves s₀ s) : Runs s₀ (execReqService src s) := h.devW
theorem Evolves.execChpwrVoteWrite {src op v} (h : Evolves s₀ s) : Runs s₀ (execChpwrVoteWrite src c op v s) :=
  h.rowDo fun h => h.landC
theorem Evolves.execChannelReset {src unvote} (h : Evolves s₀ s) : Runs s₀ (execChannelReset src c unvote s) :=
  h.rowDo (fun h => h.inCyc (fun h => h.landC))
theorem Evolves.execBootDone {src} (h : Evolves s₀ s) : Runs s₀ (execBootDone src s) := h.devW
theorem Evolves.execSubmit {src} (h : Evolves s₀ s) : Runs s₀ (execSubmit src s) := h.devW
theorem Evolves.execHeartDataWrite {src v} (h : Evolves s₀ s) : Runs s₀ (execHeartDataWrite src v s) := h.devW
theorem Evolves.execAttest {src} (h : Evolves s₀ s) : Runs s₀ (execAttest src s) := h.devW
theorem Evolves.execHeartAbort {src} (h : Evolves s₀ s) : Runs s₀ (execHeartAbort src s) := h.devW
theorem Evolves.execKeyProg {src v} (h : Evolves s₀ s) : Runs s₀ (execKeyProg src v s) := h.devW
theorem Evolves.execDeploy {src v} (h : Evolves s₀ s) : Runs s₀ (execDeploy src v s) := h.devW
theorem Evolves.execLcReturn {src v} (h : Evolves s₀ s) : Runs s₀ (execLcReturn src v s) := h.devW
theorem Evolves.execScrap {src v} (h : Evolves s₀ s) : Runs s₀ (execScrap src v s) := h.devW
theorem Evolves.execRbSet {src v} (h : Evolves s₀ s) : Runs s₀ (execRbSet src v s) := h.devW
theorem Evolves.execDbgNonce {src n} (h : Evolves s₀ s) : Runs s₀ (execDbgNonce src n s) :=
  h.devDo fun h => h.dbgCmd
theorem Evolves.execDbgOpen {src} (h : Evolves s₀ s) : Runs s₀ (execDbgOpen src s) := h.devDo fun h => h.dbgCmd
theorem Evolves.execDbgClose {src} (h : Evolves s₀ s) : Runs s₀ (execDbgClose src s) := h.devDo fun h => h.dbgCmd
theorem Evolves.execSeqCmdRun {src} (h : Evolves s₀ s) : Runs s₀ (execSeqCmdRun src c s) := h.rowW
theorem Evolves.execSeqCmdHalt {src issue wdog} (h : Evolves s₀ s) : Runs s₀ (execSeqCmdHalt src c issue wdog s) :=
  h.rowDo fun h => h.seqHaltNow
theorem Evolves.execSeqCmdResume {src} (h : Evolves s₀ s) : Runs s₀ (execSeqCmdResume src c s) := h.rowW
theorem Evolves.execSeqCmdStep {src} (h : Evolves s₀ s) : Runs s₀ (execSeqCmdStep src c s) := h.rowW
theorem Evolves.execSeqTrapack {src v} (h : Evolves s₀ s) : Runs s₀ (execSeqTrapack src c v s) := h.rowW
theorem Evolves.execSeqWdkick {src v} (h : Evolves s₀ s) : Runs s₀ (execSeqWdkick src c v s) := h.rowW
theorem Evolves.execSeqWdogWrite {src v} (h : Evolves s₀ s) : Runs s₀ (execSeqWdogWrite src c v s) := h.rowW
theorem Evolves.execSeqMboxInWrite {src v} (h : Evolves s₀ s) : Runs s₀ (execSeqMboxInWrite src c v s) := h.rowW
theorem Evolves.execIntegCommit {src v} (h : Evolves s₀ s) : Runs s₀ (execIntegCommit src v s) := h.devW
theorem Evolves.execKeygateWrite {src v} (h : Evolves s₀ s) : Runs s₀ (execKeygateWrite src v s) := h.devW
theorem Evolves.execAfeCtlWrite {src v leave} (h : Evolves s₀ s) : Runs s₀ (execAfeCtlWrite src c v leave s) :=
  h.rowDo (fun h => h.inCyc (fun h => h.landC))
theorem Evolves.execPcsCtlWrite {src v leave} (h : Evolves s₀ s) : Runs s₀ (execPcsCtlWrite src c v leave s) :=
  h.rowDo (fun h => h.inCyc (fun h => h.landC))

theorem Evolves.execPcsTestmodeWrite {src v leave} (h : Evolves s₀ s) :
    Runs s₀ (execPcsTestmodeWrite src c v leave s) :=
  h.rowDo (fun h => h.inCyc (fun h => h.landC))

theorem Evolves.execDspWinWrite {src w v} (h : Evolves s₀ s) : Runs s₀ (execDspWinWrite src c w v s) := h.rowW
theorem Evolves.execCapt {src} (h : Evolves s₀ s) : Runs s₀ (execCapt src c s) := h.rowW
theorem Evolves.execSnap {src} (h : Evolves s₀ s) : Runs s₀ (execSnap src c s) := h.rowW
theorem Evolves.execClr {src} (h : Evolves s₀ s) : Runs s₀ (execClr src c s) := h.rowW
theorem Evolves.execRebase {src} (h : Evolves s₀ s) : Runs s₀ (execRebase src c s) := h.rowW
theorem Evolves.execProbeRst {src} (h : Evolves s₀ s) : Runs s₀ (execProbeRst src c s) := h.rowW
theorem Evolves.execDspTapdataWrite {src v} (h : Evolves s₀ s) : Runs s₀ (execDspTapdataWrite src c v s) := h.rowW
theorem Evolves.execDspTapdataRead {src} (h : Evolves s₀ s) : Runs s₀ (execDspTapdataRead src c s) := .ok h.anyRead
theorem Evolves.execStbyTypeWrite {src v} (h : Evolves s₀ s) : Runs s₀ (execStbyTypeWrite src c v s) := h.rowW
theorem Evolves.execDivergedClear {src} (h : Evolves s₀ s) : Runs s₀ (execDivergedClear src c s) := h.rowW
theorem Evolves.execStart {src} (h : Evolves s₀ s) : Runs s₀ (execStart src c s) := h.rowW
theorem Evolves.execStop {src} (h : Evolves s₀ s) : Runs s₀ (execStop src c s) := h.rowW
theorem Evolves.execRestart {src} (h : Evolves s₀ s) : Runs s₀ (execRestart src c s) := h.rowW
theorem Evolves.execShift {src} (h : Evolves s₀ s) : Runs s₀ (execShift src c s) := h.rowW
theorem Evolves.execShiftCancel {src} (h : Evolves s₀ s) : Runs s₀ (execShiftCancel src c s) := h.rowW
theorem Evolves.execChctlCtlWrite {src v} (h : Evolves s₀ s) : Runs s₀ (execChctlCtlWrite src c v s) := h.rowW
theorem Evolves.execQrel {src} (h : Evolves s₀ s) : Runs s₀ (execQrel src c s) := h.rowW
theorem Evolves.execSegStart {src} (h : Evolves s₀ s) : Runs s₀ (execSegStart src c s) := h.rowW
theorem Evolves.execSegStop {src} (h : Evolves s₀ s) : Runs s₀ (execSegStop src c s) := h.rowW
theorem Evolves.execSegCtlWrite {src v} (h : Evolves s₀ s) : Runs s₀ (execSegCtlWrite src c v s) := h.rowW
theorem Evolves.execTdr {src} (h : Evolves s₀ s) : Runs s₀ (execTdr src c s) := h.rowW
theorem Evolves.execIsr {src} (h : Evolves s₀ s) : Runs s₀ (execIsr src c s) := h.rowW
theorem Evolves.execDiagAbort {src} (h : Evolves s₀ s) : Runs s₀ (execDiagAbort src c s) := h.rowW
theorem Evolves.execTrendClr {src} (h : Evolves s₀ s) : Runs s₀ (execTrendClr src c s) := h.rowW
theorem Evolves.execSqiRst {src} (h : Evolves s₀ s) : Runs s₀ (execSqiRst src c s) := h.rowW
theorem Evolves.execDiagCtlWrite {src v} (h : Evolves s₀ s) : Runs s₀ (execDiagCtlWrite src c v s) := h.rowW
theorem Evolves.execTxReq {src v} (h : Evolves s₀ s) : Runs s₀ (execTxReq src c v s) := h.rowW
theorem Evolves.execSleep {src} (h : Evolves s₀ s) : Runs s₀ (execSleep src c s) := h.rowW
theorem Evolves.execWake {src} (h : Evolves s₀ s) : Runs s₀ (execWake src c s) := h.rowW
theorem Evolves.execPadRelease {src latch} (h : Evolves s₀ s) : Runs s₀ (execPadRelease src c latch s) :=
  h.rowDo fun h => .ite h.lpiRej h.lpiCmd
theorem Evolves.execCtxInsert {src} (h : Evolves s₀ s) : Runs s₀ (execCtxInsert src c s) :=
  h.rowDo fun h => h.ctxCmd
theorem Evolves.execCtxUpdate {src index wmask} (h : Evolves s₀ s) : Runs s₀ (execCtxUpdate src c index wmask s) :=
  h.rowDo fun h => h.ctxCmd
theorem Evolves.execCtxDelete {src index} (h : Evolves s₀ s) : Runs s₀ (execCtxDelete src c index s) :=
  h.rowDo fun h => h.ctxCmd
theorem Evolves.execCtxLookup {src} (h : Evolves s₀ s) : Runs s₀ (execCtxLookup src c s) :=
  h.rowDo fun h => h.ctxCmd
theorem Evolves.execCtxRead {src index} (h : Evolves s₀ s) : Runs s₀ (execCtxRead src c index s) :=
  h.rowDo fun h => h.ctxCmd
theorem Evolves.execFrameCtlWrite {src v} (h : Evolves s₀ s) : Runs s₀ (execFrameCtlWrite src c v s) := h.rowW
theorem Evolves.execMsInstall {src} (h : Evolves s₀ s) : Runs s₀ (execMsInstall src c s) := h.rowW
theorem Evolves.execMsRetire {src} (h : Evolves s₀ s) : Runs s₀ (execMsRetire src c s) := h.rowW
theorem Evolves.execMsSwitch {src} (h : Evolves s₀ s) : Runs s₀ (execMsSwitch src c s) := h.rowW
theorem Evolves.execMsWriteSc {src} (h : Evolves s₀ s) : Runs s₀ (execMsWriteSc src c s) := h.rowW
theorem Evolves.execTsSet {src} (h : Evolves s₀ s) : Runs s₀ (execTsSet src c s) := h.rowW
theorem Evolves.execTsAdj {src} (h : Evolves s₀ s) : Runs s₀ (execTsAdj src c s) := h.rowW
theorem Evolves.execAcctSnap {src} (h : Evolves s₀ s) : Runs s₀ (execAcctSnap src c s) := h.rowW
theorem Evolves.execHpreset {src} (h : Evolves s₀ s) : Runs s₀ (execHpreset src s) := h.devW
theorem Evolves.execHostRetrain {src} (h : Evolves s₀ s) : Runs s₀ (execHostRetrain src s) := h.devW
theorem Evolves.execQueueFlush {src v} (h : Evolves s₀ s) : Runs s₀ (execQueueFlush src c v s) := h.rowW
theorem Evolves.execQEgclsWrite {src cls v} (h : Evolves s₀ s) : Runs s₀ (execQEgclsWrite src c cls v s) := h.rowW
theorem Evolves.execCalRref {src m} (h : Evolves s₀ s) : Runs s₀ (execCalRref src m s) := h.devDo fun h => h.calCmd
theorem Evolves.execCalVref {src m} (h : Evolves s₀ s) : Runs s₀ (execCalVref src m s) := h.devDo fun h => h.calCmd
theorem Evolves.execImgSave {src} (h : Evolves s₀ s) : Runs s₀ (execImgSave src s) := h.devW
theorem Evolves.execImgLoad {src} (h : Evolves s₀ s) : Runs s₀ (execImgLoad src s) := h.devW
theorem Evolves.execCalCommit {src dev} (h : Evolves s₀ s) : Runs s₀ (execCalCommit src dev s) := h.devW
theorem Evolves.execCalAbort {src supply} (h : Evolves s₀ s) : Runs s₀ (execCalAbort src supply s) :=
  h.devDo (fun h => h.inCyc (fun h => h.landD))
theorem Evolves.execCalgHyb {src m} (h : Evolves s₀ s) : Runs s₀ (execCalgHyb src c m s) :=
  h.rowDo fun h => h.calgCmd
theorem Evolves.execCalgAmp {src m} (h : Evolves s₀ s) : Runs s₀ (execCalgAmp src c m s) :=
  h.rowDo fun h => h.calgCmd
theorem Evolves.execCalgRxg {src m} (h : Evolves s₀ s) : Runs s₀ (execCalgRxg src c m s) :=
  h.rowDo fun h => h.calgCmd
theorem Evolves.execCalgBist {src} (h : Evolves s₀ s) : Runs s₀ (execCalgBist src c s) := h.rowW
theorem Evolves.execCalgAbort {src supply} (h : Evolves s₀ s) : Runs s₀ (execCalgAbort src c supply s) :=
  h.rowDo (fun h => h.inCyc (fun h => h.landC))
theorem Evolves.execApprove {src} (h : Evolves s₀ s) : Runs s₀ (execApprove src c s) := h.rowW
theorem Evolves.execDeny {src} (h : Evolves s₀ s) : Runs s₀ (execDeny src c s) := h.rowW
theorem Evolves.execSwap {src v} (h : Evolves s₀ s) : Runs s₀ (execSwap src c v s) := h.rowW
theorem Evolves.execFltAck {src v} (h : Evolves s₀ s) : Runs s₀ (execFltAck src c v s) := h.rowW
theorem Evolves.execFcAck {src v} (h : Evolves s₀ s) : Runs s₀ (execFcAck src v s) := h.devW
theorem Evolves.execSafeExit {src v} (h : Evolves s₀ s) : Runs s₀ (execSafeExit src v s) := h.devW
theorem Evolves.execSmbist {src v} (h : Evolves s₀ s) : Runs s₀ (execSmbist src v s) := h.devW
theorem Evolves.execFcClassWrite {src w v} (h : Evolves s₀ s) : Runs s₀ (execFcClassWrite src w v s) := h.devW

/-! ### Machine/Sweep -/

theorem Evolves.execShadowApply (h : Evolves s₀ s) : Runs s₀ (execShadowApply c s) := .ite (.ok h.shApply) (.ok h)
theorem Evolves.execKeygateTimeout (h : Evolves s₀ s) : Runs s₀ (execKeygateTimeout s) := .ok h.ds

theorem Evolves.trSet {b t v} (h : Evolves s₀ s) : Evolves s₀ (s.trSet b t v) := by
  unfold State.trSet
  split
  · exact h.cs
  · exact h.ds

theorem Evolves.compare {b} (h : Evolves s₀ s) : Evolves s₀ (s.compare b) :=
  .ite
    h.trSet
    (have h := h.trSet.trSet
     .ite h (.ite h.ds.setLive h.ds))

theorem Evolves.sweepCrc (h : Evolves s₀ s) : Evolves s₀ s.sweepCrc := h.foldl fun h => .ite h.trSet h
theorem Evolves.sweepCompare (h : Evolves s₀ s) : Evolves s₀ s.sweepCompare :=
  .foldl (h.foldl (fun h => h.compare)) fun h => h.assertSrc
theorem Evolves.sweepFold (h : Evolves s₀ s) : Evolves s₀ s.sweepFold := .integ (.ite h.dinc h.dinc.ds)
theorem Evolves.sweepNext (h : Evolves s₀ s) : Evolves s₀ s.sweepNext :=
  .mmLevelSvc (h.integ.forCh (fun h => h.mmLevel))

theorem Evolves.execSweepComplete (h : Evolves s₀ s) : Runs s₀ (execSweepComplete s) :=
  .ite
    (.ok h)
    (have h := h.sweepCrc.sweepCompare
     .ok (.ite h.sweepFold.sweepNext h.sweepNext))

theorem Evolves.resetClasses (h : Evolves s₀ s) : Evolves s₀ (s.resetClasses c) := by
  unfold State.resetClasses
  exact
    have h := Evolves.ite h.loseF h.loseF.loseE.blkOff
    .updDsp (.updGraft (.ite (h.foldl (fun h => h.cs)) h))

theorem Evolves.execChannelResetDone (h : Evolves s₀ s) : Runs s₀ (execChannelResetDone c s) :=
  .ite
    (.ite
       (.ok h.landAll)
       (.ok (.evalVote (.issue (.cs (.updCh (.mmLevel (.setAllEn (h.landAll.resetClasses.restoreD.foldl
                 (fun h => .ite h h.setLive))))))))))
    (.ok h)

/-! ### Machine/Dispatch -/

theorem Evolves.exec {i} (h : Evolves s₀ s) : Runs s₀ (Machine.exec i s) := by
  cases i with
  | vsupPowerOn => exact h.execVsupPowerOn
  | vsupBrownOut => exact h.execVsupBrownOut
  | rcReady => exact h.execRcReady
  | xsdDelayExpire => exact h.execXsdDelayExpire
  | refQualify => exact h.execRefQualify
  | refLost => exact h.execRefLost
  | svcClockRestart => exact h.execSvcClockRestart
  | pllLock => exact h.execPllLock
  | pllLockLoss => exact h.execPllLockLoss
  | pllUnlockTimeout => exact h.execPllUnlockTimeout
  | clockEnableWrite => exact h.execClockEnableWrite
  | gateClose => exact h.execGateClose
  | dormantWake => exact h.execDormantWake
  | dormantExitToBoot => exact h.execDormantExitToBoot
  | railupTimeout => exact h.execRailupTimeout
  | wakePinQualify => exact h.execWakePinQualify
  | mdioAddressWake => exact h.execMdioAddressWake
  | lineWakeQualify => exact h.execLineWakeQualify
  | resetNAssert => exact h.execResetNAssert
  | resetNRelease => exact h.execResetNRelease
  | softrst => exact h.execSoftrst
  | heartWatchdogExpire => exact h.execHeartWatchdogExpire
  | supplyWarnStart => exact h.execSupplyWarnStart
  | supplyWarnEnd => exact h.execSupplyWarnEnd
  | dipholdExpire => exact h.execDipholdExpire
  | supplyReset => exact h.execSupplyReset
  | supplyResetRelease => exact h.execSupplyResetRelease
  | tempMeasure => exact h.execTempMeasure
  | xthotExpire => exact h.execXthotExpire
  | opRaiseStart => exact h.execOpRaiseStart
  | opHoldExpire => exact h.execOpHoldExpire
  | pgoodRise => exact h.execPgoodRise
  | vsettleExpire => exact h.execVsettleExpire
  | reqDormant => exact h.execReqDormant
  | dormantEntryDone => exact h.execDormantEntryDone
  | reqStandby => exact h.execReqStandby
  | standbyPrepDone => exact h.execStandbyPrepDone
  | reqActive => exact h.execReqActive
  | reqService => exact h.execReqService
  | serviceEnter => exact h.execServiceEnter
  | hostL2Request => exact h.execHostL2Request
  | standbyExit => exact h.execStandbyExit
  | chpwrVoteWrite => exact h.execChpwrVoteWrite
  | drainEnd => exact h.execDrainEnd
  | drainTimeout => exact h.execDrainTimeout
  | domainPowerUpDone => exact h.execDomainPowerUpDone
  | pdonTimeout => exact h.execPdonTimeout
  | channelReset => exact h.execChannelReset
  | channelResetDone => exact h.execChannelResetDone
  | bootOtpLoadDone => exact h.execBootOtpLoadDone
  | bootDone => exact h.execBootDone
  | bootWaitExpire => exact h.execBootWaitExpire
  | bootEnd => exact h.execBootEnd
  | submit => exact h.execSubmit
  | heartDataWrite => exact h.execHeartDataWrite
  | imageVerdict => exact h.execImageVerdict
  | loadComplete => exact h.execLoadComplete
  | attest => exact h.execAttest
  | attestDone => exact h.execAttestDone
  | heartAbort => exact h.execHeartAbort
  | keyProg => exact h.execKeyProg
  | deploy => exact h.execDeploy
  | lcReturn => exact h.execLcReturn
  | scrap => exact h.execScrap
  | rbSet => exact h.execRbSet
  | lcProgDone => exact h.execLcProgDone
  | dbgNonce => exact h.execDbgNonce
  | nonceExpire => exact h.execNonceExpire
  | dbgOpen => exact h.execDbgOpen
  | tokenCheckDone => exact h.execTokenCheckDone
  | dbgClose => exact h.execDbgClose
  | sessionExpire => exact h.execSessionExpire
  | seqStart => exact h.execSeqStart
  | seqCmdRun => exact h.execSeqCmdRun
  | seqCmdHalt => exact h.execSeqCmdHalt
  | seqCmdResume => exact h.execSeqCmdResume
  | seqCmdStep => exact h.execSeqCmdStep
  | waitWake => exact h.execWaitWake
  | waitTimeout => exact h.execWaitTimeout
  | timerExpire => exact h.execTimerExpire
  | watchdogExpire => exact h.execWatchdogExpire
  | seqTrapack => exact h.execSeqTrapack
  | seqWdkick => exact h.execSeqWdkick
  | seqWdogWrite => exact h.execSeqWdogWrite
  | seqMboxInWrite => exact h.execSeqMboxInWrite
  | pramWrite => exact h.execPramWrite
  | add => exact h.execAdd
  | sub => exact h.execSub
  | and => exact h.execAnd
  | or => exact h.execOr
  | xor => exact h.execXor
  | shl => exact h.execShl
  | shr => exact h.execShr
  | sar => exact h.execSar
  | min => exact h.execMin
  | max => exact h.execMax
  | abs => exact h.execAbs
  | cmp => exact h.execCmp
  | mov => exact h.execMov
  | mac => exact h.execMac
  | msu => exact h.execMsu
  | clra => exact h.execClra
  | rda => exact h.execRda
  | tset => exact h.execTset
  | raise => exact h.execRaise
  | post => exact h.execPost
  | commit => exact h.execCommit
  | halt => exact h.execHalt
  | addi => exact h.execAddi
  | andi => exact h.execAndi
  | ori => exact h.execOri
  | cmpi => exact h.execCmpi
  | movi => exact h.execMovi
  | movh => exact h.execMovh
  | ld => exact h.execLd
  | st => exact h.execSt
  | loop => exact h.execLoop
  | vote => exact h.execVote
  | unvote => exact h.execUnvote
  | br => exact h.execBr
  | call => exact h.execCall
  | ret => exact h.execRet
  | prd => exact h.execPrd
  | pwr => exact h.execPwr
  | wait => exact h.execWait
  | frz => exact h.execFrz
  | thw => exact h.execThw
  | registerWrite => exact h.execRegisterWrite
  | postedWriteLand => exact h.execPostedWriteLand
  | aliasSetWrite => exact h.execAliasSetWrite
  | aliasClrWrite => exact h.execAliasClrWrite
  | aliasTglWrite => exact h.execAliasTglWrite
  | rcCounterRead => exact h.execRcCounterRead
  | shWrite => exact h.execShWrite
  | shadowApply => exact h.execShadowApply
  | integCommit => exact h.execIntegCommit
  | keygateWrite => exact h.execKeygateWrite
  | keygateTimeout => exact h.execKeygateTimeout
  | sweepComplete => exact h.execSweepComplete
  | cfgrefWrite => exact h.execCfgrefWrite
  | fprint0Read => exact h.execFprint0Read
  | afeCtlWrite => exact h.execAfeCtlWrite
  | pcsCtlWrite => exact h.execPcsCtlWrite
  | pcsTestmodeWrite => exact h.execPcsTestmodeWrite
  | satBlockEnd => exact h.execSatBlockEnd
  | fecCodewordDecode => exact h.execFecCodewordDecode
  | fecBurstWindowEnd => exact h.execFecBurstWindowEnd
  | alignmentSearch => exact h.execAlignmentSearch
  | oamFieldReceive => exact h.execOamFieldReceive
  | updateBlockBoundary => exact h.execUpdateBlockBoundary
  | acqToTrack => exact h.execAcqToTrack
  | probeDwellEnd => exact h.execProbeDwellEnd
  | dspWinWrite => exact h.execDspWinWrite
  | capt => exact h.execCapt
  | captDone => exact h.execCaptDone
  | snap => exact h.execSnap
  | snapPeriodic => exact h.execSnapPeriodic
  | clr => exact h.execClr
  | rebase => exact h.execRebase
  | rebaseDone => exact h.execRebaseDone
  | probeRst => exact h.execProbeRst
  | dspTapdataWrite => exact h.execDspTapdataWrite
  | dspTapdataRead => exact h.execDspTapdataRead
  | stbyTypeWrite => exact h.execStbyTypeWrite
  | divergedClear => exact h.execDivergedClear
  | mseWindowEnd => exact h.execMseWindowEnd
  | tapSatCountExpire => exact h.execTapSatCountExpire
  | start => exact h.execStart
  | stop => exact h.execStop
  | restart => exact h.execRestart
  | shift => exact h.execShift
  | shiftCancel => exact h.execShiftCancel
  | holdoffEnd => exact h.execHoldoffEnd
  | anPageReceive => exact h.execAnPageReceive
  | anResolve => exact h.execAnResolve
  | anTimeout => exact h.execAnTimeout
  | trainTimeout => exact h.execTrainTimeout
  | linkUp => exact h.execLinkUp
  | xsilExpire => exact h.execXsilExpire
  | infofieldReceive => exact h.execInfofieldReceive
  | infofieldSend => exact h.execInfofieldSend
  | linkMonitorFail => exact h.execLinkMonitorFail
  | shiftReqReceive => exact h.execShiftReqReceive
  | shiftAckReceive => exact h.execShiftAckReceive
  | shiftNakReceive => exact h.execShiftNakReceive
  | shiftSetReceive => exact h.execShiftSetReceive
  | shiftSetackReceive => exact h.execShiftSetackReceive
  | shiftDoneReceive => exact h.execShiftDoneReceive
  | shiftCancelReceive => exact h.execShiftCancelReceive
  | shiftRspTimeout => exact h.execShiftRspTimeout
  | shiftSwitch => exact h.execShiftSwitch
  | shiftResumeTimeout => exact h.execShiftResumeTimeout
  | chctlCtlWrite => exact h.execChctlCtlWrite
  | maintEntry => exact h.execMaintEntry
  | qrel => exact h.execQrel
  | segStart => exact h.execSegStart
  | segStop => exact h.execSegStop
  | segCtlWrite => exact h.execSegCtlWrite
  | segJoinExpire => exact h.execSegJoinExpire
  | segJoinTimeout => exact h.execSegJoinTimeout
  | beaconReceive => exact h.execBeaconReceive
  | beaconLoss => exact h.execBeaconLoss
  | plcaToExpire => exact h.execPlcaToExpire
  | collision => exact h.execCollision
  | backoffExpire => exact h.execBackoffExpire
  | retryStart => exact h.execRetryStart
  | rewindOvertake => exact h.execRewindOvertake
  | tdr => exact h.execTdr
  | isr => exact h.execIsr
  | diagAbort => exact h.execDiagAbort
  | trendClr => exact h.execTrendClr
  | sqiRst => exact h.execSqiRst
  | diagCtlWrite => exact h.execDiagCtlWrite
  | tdrActivityDetect => exact h.execTdrActivityDetect
  | tdrListenEnd => exact h.execTdrListenEnd
  | tdrAcquireEnd => exact h.execTdrAcquireEnd
  | diagRunComplete => exact h.execDiagRunComplete
  | trendIntervalEnd => exact h.execTrendIntervalEnd
  | txReq => exact h.execTxReq
  | lpiTxEnter => exact h.execLpiTxEnter
  | lpiRxEnter => exact h.execLpiRxEnter
  | lpiRxExit => exact h.execLpiRxExit
  | lpiIdleExpire => exact h.execLpiIdleExpire
  | sleep => exact h.execSleep
  | wake => exact h.execWake
  | padRelease => exact h.execPadRelease
  | wakeSignalEnd => exact h.execWakeSignalEnd
  | tc10MessageReceive => exact h.execTc10MessageReceive
  | slpReqReceive => exact h.execSlpReqReceive
  | slpAckReceive => exact h.execSlpAckReceive
  | slpNakReceive => exact h.execSlpNakReceive
  | slpGoReceive => exact h.execSlpGoReceive
  | slpCancelReceive => exact h.execSlpCancelReceive
  | sleepRspTimeout => exact h.execSleepRspTimeout
  | sleepEnter => exact h.execSleepEnter
  | ctxInsert => exact h.execCtxInsert
  | ctxUpdate => exact h.execCtxUpdate
  | ctxDelete => exact h.execCtxDelete
  | ctxLookup => exact h.execCtxLookup
  | ctxRead => exact h.execCtxRead
  | ctxCmdComplete => exact h.execCtxCmdComplete
  | frameCtlWrite => exact h.execFrameCtlWrite
  | ingressFrameReceive => exact h.execIngressFrameReceive
  | meterRefresh => exact h.execMeterRefresh
  | egressFrameStart => exact h.execEgressFrameStart
  | egressFrameDelivered => exact h.execEgressFrameDelivered
  | egressUnderrun => exact h.execEgressUnderrun
  | msInstall => exact h.execMsInstall
  | msRetire => exact h.execMsRetire
  | msSwitch => exact h.execMsSwitch
  | msWriteSc => exact h.execMsWriteSc
  | tsSet => exact h.execTsSet
  | tsAdj => exact h.execTsAdj
  | acctSnap => exact h.execAcctSnap
  | laneFailure => exact h.execLaneFailure
  | ucieLinkReset => exact h.execUcieLinkReset
  | hpreset => exact h.execHpreset
  | hostRetrain => exact h.execHostRetrain
  | adapterActive => exact h.execAdapterActive
  | l1IdleExpire => exact h.execL1IdleExpire
  | hostL1Request => exact h.execHostL1Request
  | nguidFrameStart => exact h.execNguidFrameStart
  | nguidFrameCont => exact h.execNguidFrameCont
  | nguidFrameEnd => exact h.execNguidFrameEnd
  | nguidCreditGrant => exact h.execNguidCreditGrant
  | nguidCreditReturn => exact h.execNguidCreditReturn
  | nguidCreditResync => exact h.execNguidCreditResync
  | todSet => exact h.execTodSet
  | todLoad => exact h.execTodLoad
  | controlFlush => exact h.execControlFlush
  | controlMbox => exact h.execControlMbox
  | controlSnap => exact h.execControlSnap
  | creditGrantTimer => exact h.execCreditGrantTimer
  | hostSegmentSend => exact h.execHostSegmentSend
  | queueFlush => exact h.execQueueFlush
  | flushComplete => exact h.execFlushComplete
  | qEgclsWrite => exact h.execQEgclsWrite
  | calRref => exact h.execCalRref
  | calVref => exact h.execCalVref
  | imgSave => exact h.execImgSave
  | imgLoad => exact h.execImgLoad
  | calCommit => exact h.execCalCommit
  | bankCopyDone => exact h.execBankCopyDone
  | calAbort => exact h.execCalAbort
  | calgHyb => exact h.execCalgHyb
  | calgAmp => exact h.execCalgAmp
  | calgRxg => exact h.execCalgRxg
  | calgBist => exact h.execCalgBist
  | calgAbort => exact h.execCalgAbort
  | calComplete => exact h.execCalComplete
  | bistComplete => exact h.execBistComplete
  | sliceCalUpdate => exact h.execSliceCalUpdate
  | wearUpdate => exact h.execWearUpdate
  | approve => exact h.execApprove
  | deny => exact h.execDeny
  | swap => exact h.execSwap
  | graftRecordDone => exact h.execGraftRecordDone
  | graftSwitch => exact h.execGraftSwitch
  | lifeEstimate => exact h.execLifeEstimate
  | faultLevelFall => exact h.execFaultLevelFall
  | fltAck => exact h.execFltAck
  | fcAck => exact h.execFcAck
  | safeExit => exact h.execSafeExit
  | smbist => exact h.execSmbist
  | smbistDone => exact h.execSmbistDone
  | faultForce => exact h.execFaultForce
  | fcClassWrite => exact h.execFcClassWrite
  | fcTime0Read => exact h.execFcTime0Read
  | mdioAddress => exact h.execMdioAddress
  | mdioWrite => exact h.execMdioWrite
  | mdioRead => exact h.execMdioRead
  | mdioReadInc => exact h.execMdioReadInc
  | mdioNativeRd => exact h.execMdioNativeRd
  | mdioNativeWrite => exact h.execMdioNativeWrite
  | mdioNativeReadDone => exact h.execMdioNativeReadDone
  | bypass => exact h.execBypass
  | idcode => exact h.execIdcode
  | samplePreload => exact h.execSamplePreload
  | extest => exact h.execExtest
  | clamp => exact h.execClamp
  | highz => exact h.execHighz
  | instrAccess => exact h.execInstrAccess
  | trst => exact h.execTrst
  | lpiRefresh => exact h.execLpiRefresh
  | blockLockChange => exact h.execBlockLockChange
  | pgoodFall => exact h.execPgoodFall
  | refMonitorBad => exact h.execRefMonitorBad
  | eventMessageSend => exact h.execEventMessageSend
  | tstampMessageSend => exact h.execTstampMessageSend
  | undefinedOpcode => exact h.execUndefinedOpcode
  | fetchOutsideLoadedRange => exact h.execFetchOutsideLoadedRange
  | nguidTypeError => exact h.execNguidTypeError
  | controlUnknownCode => exact h.execControlUnknownCode
  | faultRecordRead => exact h.execFaultRecordRead
  | glitchDetect => exact h.execGlitchDetect
  | keyStoreIntegrityFail => exact h.execKeyStoreIntegrityFail
  | svcMemEccError => exact h.execSvcMemEccError
  | canopyRamEccError => exact h.execCanopyRamEccError

/-! ### Machine/Decide -/

theorem Evolves.polPut {b o v} (h : Evolves s₀ s) : Evolves s₀ (s.polPut c b o v) := .ite h.landC h
theorem Evolves.polBits {b o v m} (h : Evolves s₀ s) : Evolves s₀ (s.polBits c b o v m) := h.polPut

theorem Evolves.polReady {id} (h : Evolves s₀ s) : Evolves s₀ (s.polReady c id) :=
  have h := Evolves.ite h.polBits.polBits.updPol h.polBits
  .ite h h.polBits.polBits

theorem Evolves.polPads (h : Evolves s₀ s) : Evolves s₀ (s.polPads c) := .ite h.polPut h
theorem Evolves.polShiftTo {t} (h : Evolves s₀ s) : Evolves s₀ (s.polShiftTo c t) :=
  .ite h.seqVote (.ite h (.ite h.polBits (.ite h.polPut h.polBits.updPol.polPut)))

theorem Evolves.polType {id} (h : Evolves s₀ s) : Evolves s₀ (s.polType c id) := by
  unfold State.polType
  split
  · exact h
  · exact .ite h.polShiftTo (.ite h (.ite h.updPol.polReady.polPut h.updPol))

theorem Evolves.polUp {id} (h : Evolves s₀ s) : Evolves s₀ (s.polUp c id) :=
  have h := Evolves.ite (.ite h.updPol h.updPol.polBits) h
  have h := Evolves.ite h.polPut.polPut h
  .ite h.polType h

theorem Evolves.polDown {id} (h : Evolves s₀ s) : Evolves s₀ (s.polDown c id) :=
  .ite
    (have h := Evolves.ite h.polPads h
     .ite h.polPut.updPol h)
    (.ite
       h
       (have h := Evolves.ite h.polPads h.polPads.polReady
        .ite h (.ite h.polPut h.polPut)))

theorem Evolves.tickPol (h : Evolves s₀ s) : Evolves s₀ (s.tickPol c) := by
  unfold State.tickPol
  split
  · exact h
  · exact .ite h.polUp h.polDown

/-! ### Machine/Tick -/

theorem Evolves.tickTimers (h : Evolves s₀ s) : Evolves s₀ (s.tickTimers c) :=
  h.foldl (fun h => .ite h (.ite h.timerDone h.cs))

theorem Evolves.tickWait (h : Evolves s₀ s) : Evolves s₀ (s.tickWait c) := by
  unfold State.tickWait
  split
  · exact .ite h (.ite h.waitDone h.updSeq)
  · exact h

theorem Evolves.tickWdog (h : Evolves s₀ s) : Evolves s₀ (s.tickWdog c) := .ite h (.ite h.wdogTrap h.updSeq.tickWait)
theorem Evolves.tickSeq (h : Evolves s₀ s) : Evolves s₀ (s.tickSeq c) := .ite h.tickTimers.tickWdog h
theorem Evolves.tickTs (h : Evolves s₀ s) : Evolves s₀ (s.tickTs c) := .ite h.updF h

theorem Evolves.lpiTime {n f} (h : Evolves s₀ s) : Evolves s₀ (s.lpiTime c n f).2 := by
  unfold State.lpiTime
  split
  · exact h.cinc
  · exact h

theorem Evolves.tickLpi (h : Evolves s₀ s) : Evolves s₀ (s.tickLpi c) :=
  .ite
    h
    (have h := Evolves.ite h.updLpi.lpiTime.updLpi h.updLpi
     .ite h.lpiTime.updLpi h)

theorem Evolves.tickDiag (h : Evolves s₀ s) : Evolves s₀ (s.tickDiag c) := .ite h.updDiag h
theorem Evolves.tickOam (h : Evolves s₀ s) : Evolves s₀ (s.tickOam c) := .ite h.oamFrame h

theorem Evolves.tickCells (h : Evolves s₀ s) : Evolves s₀ (s.tickCells c) := by
  unfold State.tickCells
  split
  · exact .ite h h.updQ.freeCells
  · exact h

theorem Evolves.tickCh (h : Evolves s₀ s) : Evolves s₀ (s.tickCh c) :=
  .ite
    (have h := h.tickSeq.tickTs.tickLpi.tickDiag.tickOam.tickCells
     have h := Evolves.ite h.triggers h
     .tickPol (.ite h.acctCheck h))
    h

theorem Evolves.tickCanopy (h : Evolves s₀ s) : Evolves s₀ s.tickCanopy := by
  unfold State.tickCanopy
  split
  · exact h
  · exact h
  all_goals exact .ite h h.canopy

theorem Evolves.tickDebug (h : Evolves s₀ s) : Evolves s₀ s.tickDebug := by
  unfold State.tickDebug
  split
  · exact h
  all_goals exact h.dbgr

theorem Evolves.tick (h : Evolves s₀ s) : Evolves s₀ s.tick :=
  .forCh (.tickDebug (.tickCanopy (h.frame rfl rfl rfl rfl))) fun h => h.tickCh

end

/-! ### A step -/

/-- A step on an empty queue is a reference tick. -/
theorem step_of_idle {s : State} (h : s.pending = []) : step s = .next s.tick := by
  simp [step, h, ok]

/-- A step on a queue is its first command's, on the state with the rest of the queue. -/
theorem step_of_cons {s : State} {i : Instr} {rest : List Instr} (h : s.pending = i :: rest) :
    step s = exec i { s with pending := rest } := by
  simp [step, h]

theorem regsOk_of_step {s t : State} (h : step s = .next t) (hs : s.regsOk) : t.regsOk := by
  cases hq : s.pending with
  | nil =>
    rw [step_of_idle hq] at h
    obtain rfl := Host.Outcome.next.inj h
    exact (Evolves.refl s).tick.regsOk hs
  | cons i rest =>
    rw [step_of_cons hq] at h
    obtain ⟨t', ht', hev⟩ := (Evolves.refl { s with pending := rest }).exec (i := i)
    obtain rfl := Host.Outcome.next.inj (h.symm.trans ht')
    exact hev.regsOk hs

/-- Settles O4: every function of the model keeps the store canonical, since it changes the store by `State.wr`, by
clearing fields, or by losing the supply. -/
theorem everyStepKeepsRegisterStoreCanonical : Obligations.EveryStepKeepsRegisterStoreCanonical :=
  fun _ _ => regsOk_of_step

/-! ### Reset -/

/-- Settles O3. -/
theorem resetIsDormantWithPowerOnPending : Obligations.ResetIsDormantWithPowerOnPending := by
  have hch : ∀ c, State.reset.ch c = Chan.init := fun c => by simp [State.reset, State.ch]
  refine ⟨rfl, rfl, rfl, fun c => ?_, fun f => rfl, State.regsOk_of_nil rfl, State.reset_memOk⟩
  rw [hch]
  exact ⟨rfl, rfl, rfl, rfl⟩

/-! ### What a reaction leaves of the temperature monitor -/

/-- The device fields that tell of the temperature (R295): its two events, and the over-temperature source 388's
stickiness and word of live levels. -/
def DFld.tellsTemp : DFld → Bool
  | .PWR_EVT_TEMP_HI | .PWR_EVT_TEMP_OK | .FC_LIVE_BITS 0 | .FC_SRC_STICKY 4 => true
  | _ => false

/-- As `DFld.tellsTemp`, for a channel. -/
def CFld.tellsTemp : CFld → Bool
  | .SEQ_SYSEVT_TEMP_HI => true
  | _ => false

/-- The over-temperature source. -/
def SrcId.tellsTemp : SrcId → Bool
  | .dev 4 => true
  | _ => false

/-- The channel's domain is on. -/
def Chan.on (x : Chan) : Prop := x.pst = .on ∨ x.pst = .draining

theorem State.powered_iff {s : State} {c : Ch} : s.powered c = true ↔ (s.ch c).on := by
  unfold State.powered Chan.on
  cases (s.ch c).pst <;> simp

/-- A field that is not cleared reads as before. -/
theorem State.rd_clearFields_of_not {s : State} {p : Fld → Bool} {f : Fld} (h : p f = false) :
    (s.clearFields p).rd f = s.rd f := by
  have hl : ∀ l : List (Fld × Nat), (l.filter fun r => !p r.1).lookup f = l.lookup f := fun l => by
    induction l with
    | nil => rfl
    | cons r l ih =>
      obtain ⟨g, v⟩ := r
      by_cases hg : f = g
      · subst hg
        simp [h]
      · have hb : (f == g) = false := by simpa using hg
        cases hp : p g <;> simp [List.lookup_cons, hp, hb, ih]
  unfold State.rd State.clearFields
  rw [hl]

/-- What Canopy's reaction to an assertion (R337) leaves of the temperature monitor: what it measured, TEMP_HI in force
or not, and the fields that tell of it, in a channel as long as its domain stays on. -/
structure TempKept (s t : State) : Prop where
  temps : t.power.temps = s.power.temps
  hot : t.power.hot = s.power.hot
  dev : ∀ f, f.tellsTemp = true → t.dg f = s.dg f
  ch : ∀ c, (t.ch c).on → (s.ch c).on ∧ t.cg c .SEQ_SYSEVT_TEMP_HI = s.cg c .SEQ_SYSEVT_TEMP_HI

section
variable {s₀ s x y t : State} {c : Ch}

theorem TempKept.refl (s : State) : TempKept s s := ⟨rfl, rfl, fun _ _ => rfl, fun _ h => ⟨h, rfl⟩⟩

theorem TempKept.trans (hx : TempKept s₀ x) (hy : TempKept x y) : TempKept s₀ y where
  temps := hy.temps.trans hx.temps
  hot := hy.hot.trans hx.hot
  dev f hf := (hy.dev f hf).trans (hx.dev f hf)
  ch c hc :=
    have ⟨hon, heq⟩ := hy.ch c hc
    have ⟨hon', heq'⟩ := hx.ch c hon
    ⟨hon', heq.trans heq'⟩

/-- A change of nothing that `TempKept` speaks of. -/
theorem TempKept.frame (h : TempKept s₀ x) (hregs : t.regs = x.regs) (hchans : t.chans = x.chans)
    (htemps : t.power.temps = x.power.temps) (hhot : t.power.hot = x.power.hot) : TempKept s₀ t :=
  h.trans
    { temps := htemps
      hot := hhot
      dev := fun f _ => State.dg_of_regs hregs f
      ch := fun c hc => ⟨by simpa only [State.ch, hchans] using hc, State.cg_of_regs hregs ..⟩ }

theorem TempKept.canopy {v} (h : TempKept s₀ s) : TempKept s₀ { s with canopy := v } := h.frame rfl rfl rfl rfl
theorem TempKept.host {v} (h : TempKept s₀ s) : TempKept s₀ { s with host := v } := h.frame rfl rfl rfl rfl
theorem TempKept.heart {v} (h : TempKept s₀ s) : TempKept s₀ { s with heart := v } := h.frame rfl rfl rfl rfl
theorem TempKept.integ {v} (h : TempKept s₀ s) : TempKept s₀ { s with integ := v } := h.frame rfl rfl rfl rfl
theorem TempKept.free {v} (h : TempKept s₀ s) : TempKept s₀ { s with free := v } := h.frame rfl rfl rfl rfl
theorem TempKept.updOtp {g} (h : TempKept s₀ s) : TempKept s₀ (s.updOtp g) := h.frame rfl rfl rfl rfl

theorem TempKept.ds {f v} (h : TempKept s₀ s) (hf : f.tellsTemp = false) : TempKept s₀ (s.ds f v) :=
  h.trans
    { temps := rfl
      hot := rfl
      dev := fun g hg => by
        have hne : g ≠ f := fun e => by simp [e, hf] at hg
        simp [hne]
      ch := fun d hd => ⟨hd, by simp⟩ }

theorem TempKept.cs {f v} (h : TempKept s₀ s) (hf : f.tellsTemp = false) : TempKept s₀ (s.cs c f v) :=
  h.trans
    { temps := rfl
      hot := rfl
      dev := fun g _ => by simp
      ch := fun d hd => ⟨hd, by
        have hne : CFld.SEQ_SYSEVT_TEMP_HI ≠ f := by rintro rfl; nomatch hf
        simp [hne]⟩ }

/-- A domain that is off stays off. -/
theorem TempKept.off (h : TempKept s t) (hc : ¬(s.ch c).on) : ¬(t.ch c).on := fun ht => hc (h.ch c ht).1

/-- A domain that is on may go off. -/
theorem TempKept.updCh_on {g} (h : TempKept s₀ s) (hg : (g (s.ch c)).on → (s.ch c).on) : TempKept s₀ (s.updCh c g) :=
  h.trans
    { temps := rfl
      hot := rfl
      dev := fun f _ => State.dg_of_regs rfl f
      ch := fun d hd => ⟨by
        by_cases hdc : d = c
        · subst hdc
          exact hg (by simpa using hd)
        · simpa [hdc] using hd, State.cg_of_regs rfl ..⟩ }

theorem TempKept.updCh {g} (h : TempKept s₀ s) (hg : ∀ x : Chan, (g x).on → x.on) :
    TempKept s₀ (s.updCh c g) := h.updCh_on (hg _)

/-- Fields are cleared that do not tell of the temperature, or tell it of a channel whose domain is off. -/
theorem TempKept.clearFields {p} (h : TempKept s₀ s)
    (hdev : p (.dev .PWR_EVT_TEMP_HI) = false ∧ p (.dev .PWR_EVT_TEMP_OK) = false ∧ p (.dev (.FC_LIVE_BITS 0)) = false ∧
      p (.dev (.FC_SRC_STICKY 4)) = false)
    (hch : ∀ c, (s.ch c).on → p (.ch c .SEQ_SYSEVT_TEMP_HI) = false) :
    TempKept s₀ (s.clearFields p) :=
  h.trans
    { temps := rfl
      hot := rfl
      dev := fun f hf => by
        have hp : p (.dev f) = false := by
          obtain ⟨hhi, hok, hlive, hsticky⟩ := hdev
          unfold DFld.tellsTemp at hf
          split at hf <;> trivial
        exact State.rd_clearFields_of_not hp
      ch := fun c hc => ⟨hc, State.rd_clearFields_of_not (hch c hc)⟩ }

theorem TempKept.ite {p : Prop} {_ : Decidable p} (hx : TempKept s₀ x) (hy : TempKept s₀ y) :
    TempKept s₀ (if p then x else y) := iteInduction (fun _ => hx) fun _ => hy

theorem TempKept.ite_fst {α : Type} {p : Prop} {_ : Decidable p} {a b : State × α} (ha : TempKept s₀ a.1)
    (hb : TempKept s₀ b.1) : TempKept s₀ (if p then a else b).1 :=
  iteInduction (motive := fun r : State × α => TempKept s₀ r.1) (fun _ => ha) fun _ => hb

theorem TempKept.ite_snd {α : Type} {p : Prop} {_ : Decidable p} {a b : α × State} (ha : TempKept s₀ a.2)
    (hb : TempKept s₀ b.2) : TempKept s₀ (if p then a else b).2 :=
  iteInduction (motive := fun r : α × State => TempKept s₀ r.2) (fun _ => ha) fun _ => hb

theorem TempKept.fst {α : Type} {a : α} (h : TempKept s₀ x) : TempKept s₀ (x, a).1 := h

theorem TempKept.foldl {α : Type} {g : State → α → State} {l : List α} (h : TempKept s₀ s)
    (hg : ∀ {x a}, TempKept s₀ x → TempKept s₀ (g x a)) : TempKept s₀ (l.foldl g s) :=
  List.foldlRecOn l g h fun _ hx _ _ => hg hx

end

section
variable {s₀ s x y t : State} {c : Ch}

theorem TempKept.cinc {f n} (h : TempKept s₀ s) (hf : f.tellsTemp = false) : TempKept s₀ (s.cinc c f n) :=
  h.cs hf
theorem TempKept.dinc {f n} (h : TempKept s₀ s) (hf : f.tellsTemp = false) : TempKept s₀ (s.dinc f n) :=
  h.ds hf

theorem TempKept.forCh {g : State → Ch → State} (h : TempKept s₀ s)
    (hg : ∀ {x a2}, TempKept s₀ x → TempKept s₀ (g x a2)) : TempKept s₀ (s.forCh g) :=
  h.foldl hg

theorem TempKept.sysEvt {bit} (h : TempKept s₀ s) (hbit : bit ≠ 3) : TempKept s₀ (s.sysEvt c bit) :=
  .ite
    (match bit with
      | 0 | 1 | 2 | 4 | 5 | 6 | 7 => h.cs rfl
      | 3 => nomatch hbit
      | _ + 8 => h) h

theorem TempKept.sysEvtAll {bit} (h : TempKept s₀ s) (hbit : bit ≠ 3) : TempKept s₀ (s.sysEvtAll bit) :=
  h.forCh fun h => h.sysEvt hbit
/-- The width of a free value is no matter. -/
theorem TempKept.fresh (h : TempKept s₀ s) : TempKept s₀ { s with free := s.free + 1 } := h.free

theorem TempKept.roundFree {num den} (h : TempKept s₀ s) : TempKept s₀ (s.roundFree num den).2 := by
  unfold State.roundFree
  split
  · exact h
  · exact h.fresh

theorem TempKept.updQ {g} (h : TempKept s₀ s) : TempKept s₀ (s.updQ c g) := h.updCh fun _ => id
theorem TempKept.updF {g} (h : TempKept s₀ s) : TempKept s₀ (s.updF c g) := h.updCh fun _ => id
theorem TempKept.acctEg {g} (h : TempKept s₀ s) : TempKept s₀ (s.acctEg c g) := h.updF
theorem TempKept.acctIn {g} (h : TempKept s₀ s) : TempKept s₀ (s.acctIn c g) := h.updF
theorem TempKept.updPair {k g} (h : TempKept s₀ s) : TempKept s₀ (s.updPair c k g) := h.host
theorem TempKept.hostActive (h : TempKept s₀ s) : TempKept s₀ s.hostActive := h.host.ds rfl
theorem TempKept.send {m} (h : TempKept s₀ s) : TempKept s₀ (s.send m) :=
  .host (by split; exacts [h.ds rfl |>.hostActive, h])
theorem TempKept.announce {k} (h : TempKept s₀ s) : TempKept s₀ (s.announce c k) := h.updPair.send
theorem TempKept.announceDue {k} (h : TempKept s₀ s) : TempKept s₀ (s.announceDue c k) := .ite h.announce h
theorem TempKept.issueCls {k} (h : TempKept s₀ s) : TempKept s₀ (s.issueCls c k) := .ite h.updPair.announceDue h
theorem TempKept.issue (h : TempKept s₀ s) : TempKept s₀ (s.issue c) := .ite h (h.foldl (fun h => h.issueCls))
theorem TempKept.retTokens {k n} (h : TempKept s₀ s) : TempKept s₀ (s.retTokens c k n) := h.updPair
theorem TempKept.trySync {k} (h : TempKept s₀ s) : TempKept s₀ (s.trySync c k) := .ite h.updPair.send h
theorem TempKept.freeCells {k n} (h : TempKept s₀ s) : TempKept s₀ (s.freeCells c k n) := h.retTokens.issue.trySync
theorem TempKept.resync (h : TempKept s₀ s) : TempKept s₀ (s.resync c) := h.foldl fun h => h.updPair.trySync
theorem TempKept.dropEgCls {k r} (h : TempKept s₀ s) : TempKept s₀ (s.dropEgCls c k r) := h.updQ.acctEg.freeCells
theorem TempKept.atBoundary (h : TempKept s₀ s) : TempKept s₀ (s.atBoundary c) := .ite h.updQ h

theorem TempKept.dropLine {r} (h : TempKept s₀ s) : TempKept s₀ (s.dropLine c r) := by
  unfold State.dropLine
  split
  · exact h
  · exact h.updQ.atBoundary.acctEg.freeCells

theorem TempKept.dropInCls {k p} (h : TempKept s₀ s) : TempKept s₀ (s.dropInCls c k p) := by
  unfold State.dropInCls
  exact h.updQ.acctIn

theorem TempKept.dropAll (h : TempKept s₀ s) : TempKept s₀ (s.dropAll c) :=
  h.dropLine.foldl fun h => h.dropEgCls.dropInCls
theorem TempKept.answerFlush (h : TempKept s₀ s) : TempKept s₀ (s.answerFlush c) :=
  .ite h ((h.updQ.cs rfl).foldl fun h => h.send)

theorem TempKept.setRecWord {j w v} (h : TempKept s₀ s) : TempKept s₀ (s.setRecWord j w v) := by
  unfold State.setRecWord
  split
  · exact h.cs rfl
  · exact h.ds rfl

theorem TempKept.countSrc {x kind} (h : TempKept s₀ s) (hx : x.tellsTemp = false) :
    TempKept s₀ (s.countSrc x kind) := by
  cases x with
  | ch c k =>
    unfold State.countSrc
    exact (h.cinc rfl |>.cs rfl |>.cs rfl).updCh fun _ => id
  | dev i =>
    have hi : (DFld.FC_SRC_STICKY i).tellsTemp = false := by
      unfold SrcId.tellsTemp at hx
      unfold DFld.tellsTemp
      split at hx
      · nomatch hx
      · split <;> simp_all
    exact h.dinc rfl |>.ds hi |>.ds rfl |>.canopy

theorem TempKept.pend {cl w0 w1 w2 w3} (h : TempKept s₀ s) : TempKept s₀ (s.pend cl w0 w1 w2 w3) :=
  .ite (.ite (h.ds rfl |>.canopy) (h.ds rfl)) h

/-- All that an assertion's record writes of the temperature is that its source is sticky. -/
theorem TempKept.record_of_countSrc {x kind addr forced} (h : TempKept s₀ (s.countSrc x kind)) :
    TempKept s₀ (s.record x kind addr forced).1 := by
  unfold State.record
  extract_lets cl dry t w0 s1
  have h1 : TempKept s₀ s1 := h
  clear_value s1
  split
  · cases x with
    | ch c k => exact h1.setRecWord.cinc rfl |>.cs rfl
    | dev i => exact h1.setRecWord.dinc rfl |>.ds rfl
  · refine .ite_fst (.fst ?_) (.fst ?_)
    · cases x with
      | ch c k => exact h1.cinc rfl |>.cs rfl |>.pend.sysEvt nofun
      | dev i => exact h1.dinc rfl |>.ds rfl |>.pend
    · cases x with
      | ch c k =>
        refine .sysEvt (.pend (.updCh ?_ fun _ => id)) nofun
        exact h1.setRecWord.setRecWord.setRecWord.setRecWord.cinc rfl
      | dev i => exact (h1.setRecWord.setRecWord.setRecWord.setRecWord.dinc rfl).canopy.pend

theorem TempKept.record {x kind addr forced} (h : TempKept s₀ s) (hx : x.tellsTemp = false) :
    TempKept s₀ (s.record x kind addr forced).1 := (h.countSrc hx).record_of_countSrc

theorem TempKept.setLive {k b} (h : TempKept s₀ s) : TempKept s₀ (s.setLive (.ch c k) b) := by
  unfold State.setLive
  dsimp -zeta only
  extract_lets was s1 s2
  have h1 : TempKept s₀ s1 := h.cs rfl
  have h2 : TempKept s₀ s2 := .ite (h1.cs rfl) h1
  exact .ite (.ite h2 (h2.cs rfl)) h1

theorem TempKept.updDiag {g} (h : TempKept s₀ s) : TempKept s₀ (s.updDiag c g) := h.updCh fun _ => id

theorem TempKept.predWarn {i v} (h : TempKept s₀ s) : TempKept s₀ (s.predWarn c i v) := by
  unfold State.predWarn
  exact .updDiag (.ite (h.cs rfl) h)

theorem TempKept.predictions (h : TempKept s₀ s) : TempKept s₀ (s.predictions c) := by
  unfold State.predictions
  extract_lets log tl n s1 s2 pts target v f r s3
  have h1 : TempKept s₀ s1 := by
    refine h.foldl fun h => .predWarn (h.cs ?_)
    rfl
  have h2 : TempKept s₀ s2 := h1.cs rfl
  have h3 : TempKept s₀ s3 := .ite h2 (h2.roundFree.cs rfl)
  exact .predWarn (h3.cs rfl)

theorem TempKept.trendClear (h : TempKept s₀ s) : TempKept s₀ (s.trendClear c) := by
  unfold State.trendClear
  extract_lets s1 s2 s3
  have h1 : TempKept s₀ s1 := h.cs rfl |>.cs rfl
  have h2 : TempKept s₀ s2 := by
    refine h1.foldl fun h => h.cs ?_
    rfl
  exact (h2.cs rfl |>.cs rfl).updDiag

theorem TempKept.writeRecord {iv t isrOk up gam} (h : TempKept s₀ s) : TempKept s₀ (s.writeRecord c iv t isrOk up gam) := by
  refine .ite h.updDiag.trendClear ?_
  extract_lets f r m s1 snr rec s2 nx s3 s4
  have hr : TempKept s₀ r.2 := .ite_snd h.fresh h.roundFree
  have h1 : TempKept s₀ s1 := .ite_snd hr.fresh hr
  have h3 : TempKept s₀ s3 := h1.updDiag.cs rfl
  have h4 : TempKept s₀ s4 := .ite (h3.cs rfl) h3
  exact .ite h4 h4.predictions

theorem TempKept.diagStop {status} (h : TempKept s₀ s) : TempKept s₀ (s.diagStop c status) := by
  unfold State.diagStop
  split
  · exact h
  · have hevt : (if status = 2 then CFld.DIAG_EVT_PARTNER_ACTIVE else .DIAG_EVT_ABORTED).tellsTemp = false := by
      split <;> rfl
    dsimp only
    split
    · exact (h.cinc rfl |>.cs rfl |>.cs rfl |>.cs rfl |>.cs rfl |>.cs hevt).updDiag.writeRecord
    · exact (h.cinc rfl |>.cs rfl |>.cs rfl |>.cs rfl |>.cs rfl |>.cs hevt).updDiag

theorem TempKept.diagMoved {o n} (h : TempKept s₀ s) : TempKept s₀ (s.diagMoved c o n) := by
  unfold State.diagMoved
  extract_lets live s1 s2 run
  have h2 : TempKept s₀ s2 := .ite (.updDiag (.ite h.updDiag h)) (.ite h.updDiag h)
  clear_value s2
  cases n with
  | off => exact h2.updDiag
  | maint => exact h2.diagStop
  | quarantine => exact h2.diagStop
  | training => exact .ite h2.diagStop h2
  | idle => exact .ite h2.diagStop h2
  | up => exact .ite h2.diagStop h2
  | lpi => exact .ite h2.diagStop h2
  | sleep => exact .ite h2.diagStop h2

theorem TempKept.voteBit {bit b} (h : TempKept s₀ s) : TempKept s₀ (s.voteBit c bit b) := h.cs rfl

theorem TempKept.blkOff {p} (h : TempKept s₀ s) : TempKept s₀ (s.blkOff p) := by
  unfold State.blkOff
  exact h.integ.clearFields ⟨rfl, rfl, rfl, rfl⟩ fun _ _ => rfl

theorem TempKept.mmLevel (h : TempKept s₀ s) : TempKept s₀ (s.mmLevel c) := h.setLive

theorem TempKept.dbgPower (h : TempKept s₀ s) : TempKept s₀ s.dbgPower := by
  refine .ite h ?_
  extract_lets s1
  have h1 : TempKept s₀ s1 := h.blkOff.clearFields ⟨rfl, rfl, rfl, rfl⟩ fun _ _ => rfl
  clear_value s1
  exact h1.frame rfl rfl rfl rfl

theorem TempKept.dropNonce (h : TempKept s₀ s) : TempKept s₀ s.dropNonce :=
  h.ds rfl |>.clearFields ⟨rfl, rfl, rfl, rfl⟩ fun _ _ => rfl
theorem TempKept.clearToken (h : TempKept s₀ s) : TempKept s₀ s.clearToken :=
  h.clearFields ⟨rfl, rfl, rfl, rfl⟩ fun _ _ => rfl

theorem TempKept.closeSession {cause} (h : TempKept s₀ s) : TempKept s₀ (s.closeSession cause) := by
  unfold State.closeSession
  extract_lets mask s1 s2 s3 d j s4
  have h1 : TempKept s₀ s1 := h.ds rfl |>.ds rfl |>.ds rfl |>.ds rfl |>.ds rfl
  have h2 : TempKept s₀ s2 := h1.ds rfl |>.ds rfl |>.ds rfl
  have h3 : TempKept s₀ s3 := h2.forCh fun h => h.voteBit
  have h4 : TempKept s₀ s4 := h3.frame rfl rfl rfl rfl
  exact h4.record rfl

theorem TempKept.updHeart {g} (h : TempKept s₀ s) : TempKept s₀ (s.updHeart g) := h.heart
theorem TempKept.heartRes {op status reason} (h : TempKept s₀ s) : TempKept s₀ (s.heartRes op status reason) :=
  .ite (h.ds rfl |>.ds rfl |>.ds rfl |>.ds rfl |>.ds rfl) (h.ds rfl |>.ds rfl |>.ds rfl |>.ds rfl)
theorem TempKept.clearStaging (h : TempKept s₀ s) : TempKept s₀ s.clearStaging :=
  h.updHeart.clearFields ⟨rfl, rfl, rfl, rfl⟩ fun _ _ => rfl
theorem TempKept.lcStep {lc} (h : TempKept s₀ s) : TempKept s₀ (s.lcStep lc) :=
  h.updOtp.ds rfl

theorem TempKept.lcCut {op} (h : TempKept s₀ s) : TempKept s₀ (s.lcCut op) := by
  unfold State.lcCut
  split
  · exact h.fresh.updOtp.lcStep
  · exact h.lcStep
  · exact h

theorem TempKept.rbCut {cnt v} (h : TempKept s₀ s) : TempKept s₀ (s.rbCut cnt v) :=
  .ite (h.fresh.updOtp.ds rfl) h.fresh.updOtp
theorem TempKept.updPol {g} (h : TempKept s₀ s) : TempKept s₀ (s.updPol c g) := h.updCh fun _ => id

theorem TempKept.polStop (h : TempKept s₀ s) : TempKept s₀ (s.polStop c) := by
  unfold State.polStop
  exact h.updPol

theorem TempKept.updGraft {g} (h : TempKept s₀ s) : TempKept s₀ (s.updGraft c g) := h.updCh fun _ => id

theorem TempKept.endCalCh {status} (h : TempKept s₀ s) : TempKept s₀ (s.endCalCh c status) := by
  unfold State.endCalCh
  split
  · exact .ite h.updGraft (.updGraft (.ite (h.cs rfl |>.cs rfl |>.cs rfl) (h.cs rfl |>.cs rfl |>.cs rfl |>.cs rfl)))
  · exact h

theorem TempKept.swapRecord (h : TempKept s₀ s) : TempKept s₀ (s.swapRecord c) := by
  unfold State.swapRecord
  split
  · exact .ite h.updGraft h
  · exact h

theorem TempKept.swapDefer {supply} (h : TempKept s₀ s) : TempKept s₀ (s.swapDefer c supply) := by
  unfold State.swapDefer
  extract_lets s1
  have h1 : TempKept s₀ s1 := .ite (h.updGraft.cs rfl) h
  clear_value s1
  split
  · exact .ite (h1.updGraft.cs rfl) h1
  · exact h1

theorem TempKept.swapMoved (h : TempKept s₀ s) : TempKept s₀ (s.swapMoved c) :=
  .ite h.updGraft (.ite h.swapRecord h.swapDefer)

theorem TempKept.setSub {n} (h : TempKept s₀ s) : TempKept s₀ (s.setSub c n) := by
  unfold State.setSub
  extract_lets o s1 live s2 s3
  have h1 : TempKept s₀ s1 := .updCh (h.cs rfl |>.cs rfl) fun _ => id
  have h2 : TempKept s₀ s2 := .ite (h1.cs rfl) h1
  have h3 : TempKept s₀ s3 := .swapMoved (.diagMoved (.ite h2.endCalCh h2))
  exact .ite h (.ite (h3.cs rfl |>.cs rfl |>.cs rfl |>.cs rfl) h3)

theorem TempKept.padLatch (h : TempKept s₀ s) : TempKept s₀ (s.padLatch c) := by
  unfold State.padLatch
  exact h.updCh fun _ => id

theorem TempKept.updSeq {g} (h : TempKept s₀ s) : TempKept s₀ (s.updSeq c g) := h.updCh fun _ => id
theorem TempKept.updLink {g} (h : TempKept s₀ s) : TempKept s₀ (s.updLink c g) := h.updCh fun _ => id
theorem TempKept.updSeg {g} (h : TempKept s₀ s) : TempKept s₀ (s.updSeg c g) := h.updCh fun _ => id
theorem TempKept.updLpi {g} (h : TempKept s₀ s) : TempKept s₀ (s.updLpi c g) := h.updCh fun _ => id

theorem TempKept.seqQHalt (h : TempKept s₀ s) : TempKept s₀ (s.seqQHalt c) := by
  unfold State.seqQHalt
  split
  · exact h.updSeq.cs rfl
  · exact h.updSeq.cs rfl
  all_goals exact h

theorem TempKept.seqStop (h : TempKept s₀ s) : TempKept s₀ (s.seqStop c) := h.updSeq
theorem TempKept.setLpiMask (h : TempKept s₀ s) : TempKept s₀ (s.setLpiMask c) := h.cs rfl
theorem TempKept.endLine (h : TempKept s₀ s) : TempKept s₀ (s.endLine c) :=
  have h := h.cs rfl |>.cs rfl |>.cs rfl |>.cs rfl |>.updLpi.setLpiMask.updLink
  .dropLine (.updCh (h.cs rfl |>.cs rfl |>.cs rfl) fun _ => id)
theorem TempKept.noteLoss {cause} (h : TempKept s₀ s) : TempKept s₀ (s.noteLoss c cause) :=
  .ite (h.updDiag.cs rfl |>.cinc rfl |>.cs rfl) (h.updDiag.cs rfl |>.cs rfl |>.cinc rfl |>.cs rfl)
theorem TempKept.toStop (h : TempKept s₀ s) : TempKept s₀ (s.toStop c) := .ite h.polStop.updSeg h.polStop.updLink
theorem TempKept.forceStop {cause} (h : TempKept s₀ s) : TempKept s₀ (s.forceStop c cause) :=
  .toStop (.endLine (by split; exacts [h.noteLoss, h]))

theorem TempKept.zeroKeys (h : TempKept s₀ s) : TempKept s₀ (s.zeroKeys c) := by
  unfold State.zeroKeys
  exact h.updF.clearFields ⟨rfl, rfl, rfl, rfl⟩ fun _ _ => rfl

theorem TempKept.loseE {keepRetain} (h : TempKept s₀ s) (hc : ¬(s.ch c).on) : TempKept s₀ (s.loseE c keepRetain) := by
  unfold State.loseE
  extract_lets s1
  have h1 : TempKept s₀ s1 := h.zeroKeys.clearFields ⟨rfl, rfl, rfl, rfl⟩ fun d hd => by
    have hdc : d ≠ c := fun e => (TempKept.refl s).zeroKeys.off hc (e ▸ hd)
    simp [hdc]
  exact h1.updCh fun _ => id

theorem TempKept.loseF (h : TempKept s₀ s) (hc : ¬(s.ch c).on) : TempKept s₀ (s.loseF c) := by
  unfold State.loseF
  extract_lets s1
  have h1 : TempKept s₀ s1 := h.clearFields ⟨rfl, rfl, rfl, rfl⟩ fun d hd => by
    have hdc : d ≠ c := fun e => hc (e ▸ hd)
    simp [hdc]
  exact h1.updCh fun _ => id

theorem TempKept.cancelDrain (h : TempKept s₀ s) : TempKept s₀ (s.cancelDrain c) := by
  unfold State.cancelDrain
  split
  · next hd =>
    have hon : (s.ch c).on := by simp_all [Chan.on]
    exact (h.updCh_on fun _ => hon).issue
  · exact h

theorem TempKept.voteUp (h : TempKept s₀ s) : TempKept s₀ (s.voteUp c) := by
  unfold State.voteUp
  split
  · exact .ite (h.updCh fun _ hx => hx.elim nofun nofun) h
  · exact h.cancelDrain
  all_goals exact h

theorem TempKept.startLoad {l} (h : TempKept s₀ s) : TempKept s₀ (s.startLoad c l) := h.updSeq

theorem TempKept.feed (h : TempKept s₀ s) : TempKept s₀ s.feed := by
  unfold State.feed
  split
  · exact h
  · exact
      have h := h.voteBit.voteUp
      .ite h.startLoad h
  · exact h.heartRes.clearStaging.updHeart

theorem TempKept.abandonLoad (h : TempKept s₀ s) : TempKept s₀ (s.abandonLoad c) :=
  .ite
    h
    (have h := h.updSeq.voteBit.cs rfl
     .ite h.updHeart.feed h)

theorem TempKept.offBegin (h : TempKept s₀ s) : TempKept s₀ (s.offBegin c) := by
  unfold State.offBegin
  extract_lets s1 s2
  have h2 : TempKept s₀ s2 := h.forceStop.dropAll.answerFlush.setSub.seqStop.zeroKeys.padLatch
  exact h2.updCh fun _ hx => hx.elim nofun nofun

theorem State.offBegin_off : ¬((s.offBegin c).ch c).on := by
  unfold State.offBegin
  rw [State.ch_updCh, if_pos rfl]
  exact fun h => h.elim nofun nofun

theorem TempKept.powerOff (h : TempKept s₀ s) (hc : ¬(s.ch c).on) : TempKept s₀ (s.powerOff c) := by
  unfold State.powerOff
  extract_lets s1 s2 s3 s4 s5 s6 s7 s8
  have h0 : TempKept s ((s.resync c).voteBit c 6 false) := (TempKept.refl s).resync.voteBit
  have h1 : TempKept s s1 := h0.loseF (h0.off hc)
  have h2 : TempKept s s2 := (h1.loseE (h1.off hc)).updGraft
  have h4 : TempKept s s4 := h2.blkOff.foldl fun h => h.setLive
  have h6 : TempKept s s6 := h4.mmLevel.updCh fun _ hx => hx.elim nofun nofun
  have h8 : TempKept s s8 := .ite (h6.ds rfl |>.ds rfl) (h6.ds rfl)
  exact h.trans (h8.cs rfl).abandonLoad

theorem TempKept.offNow (h : TempKept s₀ s) : TempKept s₀ (s.offNow c) := by
  unfold State.offNow
  extract_lets s1
  have h1 : TempKept s₀ s1 := h.offBegin
  have hoff : ¬(s1.ch c).on := State.offBegin_off
  exact .ite (h1.powerOff hoff) h1

theorem TempKept.startDrain (h : TempKept s₀ s) (hc : (s.ch c).on) : TempKept s₀ (s.startDrain c) :=
  (h.updCh_on fun _ => hc).atBoundary

theorem TempKept.evalVote (h : TempKept s₀ s) : TempKept s₀ (s.evalVote c) := by
  refine .ite h.voteUp ?_
  split
  · exact h
  · exact h
  · exact h
  · exact h.updCh fun _ hx => hx.elim nofun nofun
  · next hpst =>
    split
    · exact .ite (h.startDrain (.inl hpst)) h
    · exact h.offNow
    · exact h.offNow
    · exact h.offNow
    · exact h.offNow
    all_goals exact h

theorem TempKept.voteChanged (h : TempKept s₀ s) : TempKept s₀ (s.voteChanged c) :=
  .evalVote (h.updCh fun _ => id)

theorem TempKept.endSession {cause} (h : TempKept s₀ s) : TempKept s₀ (s.endSession cause) := by
  unfold State.endSession
  exact .ite (.dbgPower (h.closeSession.forCh fun h => .ite h.voteChanged h)) h

theorem TempKept.endHeart (h : TempKept s₀ s) : TempKept s₀ s.endHeart := by
  unfold State.endHeart
  refine .updHeart (.ds ?_ rfl)
  split
  · exact h.rbCut
  · exact .ite h.fresh.updOtp h.fresh
  · exact .ite (.ite h.fresh.updOtp.endSession h.fresh.updOtp) h.fresh
  · exact .ite (h.fresh.updOtp.ds rfl).endSession h.fresh
  · exact .ite h.fresh.lcCut.endSession h.fresh
  · exact .ite h.fresh.lcCut.endSession h.fresh
  all_goals exact h

theorem TempKept.clearKeyHash (h : TempKept s₀ s) : TempKept s₀ s.clearKeyHash :=
  h.clearFields ⟨rfl, rfl, rfl, rfl⟩ fun _ _ => rfl
theorem TempKept.clearAnonce (h : TempKept s₀ s) : TempKept s₀ s.clearAnonce :=
  h.clearFields ⟨rfl, rfl, rfl, rfl⟩ fun _ _ => rfl

theorem TempKept.clearStaged (h : TempKept s₀ s) : TempKept s₀ s.clearStaged := by
  unfold State.clearStaged
  extract_lets s1
  have h1 : TempKept s₀ s1 := h.clearKeyHash
  clear_value s1
  split
  · exact h1.clearStaging.clearAnonce
  · exact h1.clearStaging.clearAnonce
  · exact h1.clearToken.clearStaging
  · exact .ite h1.clearToken.clearStaging.clearAnonce h1.clearToken.clearAnonce
  all_goals exact h1.clearToken.clearStaging.clearAnonce

theorem TempKept.resetDebug (h : TempKept s₀ s) : TempKept s₀ s.resetDebug := h.endSession.dropNonce.clearStaged.ds rfl

theorem TempKept.beginReset (h : TempKept s₀ s) : TempKept s₀ (s.beginReset c) :=
  have h := h.abandonLoad.resetDebug
  .ite h.voteChanged (h.forceStop.dropAll.answerFlush.resync.padLatch.setSub.seqStop.updCh fun _ => id)

theorem TempKept.toQuarantine (h : TempKept s₀ s) : TempKept s₀ (s.toQuarantine c) := h.forceStop.setSub.seqQHalt
theorem TempKept.setMode {m} (h : TempKept s₀ s) : TempKept s₀ (s.setMode m) := by
  unfold State.setMode
  extract_lets o p s1
  have h1 : TempKept s₀ s1 := h.frame rfl rfl rfl rfl
  exact .dbgPower (.sysEvtAll (h1.ds rfl |>.ds rfl) nofun)

theorem TempKept.domainOff (h : TempKept s₀ s) : TempKept s₀ (s.domainOff c) := by
  unfold State.domainOff
  split
  · exact h.offNow
  · exact h.offNow
  · exact h.updCh fun _ hx => hx.elim nofun nofun
  all_goals exact h

theorem TempKept.lockOut (h : TempKept s₀ s) : TempKept s₀ s.lockOut := by
  unfold State.lockOut
  extract_lets s1 s2 p s3
  have h2 : TempKept s₀ s2 := h.endHeart.endSession.forCh fun h => h.domainOff
  clear_value s2
  have h3 : TempKept s₀ s3 := h2.frame rfl rfl rfl rfl
  exact h3.setMode

theorem TempKept.endDrvHold (h : TempKept s₀ s) : TempKept s₀ (s.endDrvHold c) := .ite (h.updCh fun _ => id) h
theorem TempKept.relock (h : TempKept s₀ s) : TempKept s₀ s.relock :=
  .ite h (.forCh (h.ds rfl |>.ds rfl) fun h => .ite h.endDrvHold h)
theorem TempKept.leaveL2 (h : TempKept s₀ s) : TempKept s₀ s.leaveL2 := h.ds rfl |>.hostActive
theorem TempKept.reportLoss {addr} (h : TempKept s₀ s) : TempKept s₀ (s.reportLoss c addr) :=
  .ite (h.record rfl) (.ite (h.record rfl).lockOut (.ite (h.record rfl).voteBit.cancelDrain.beginReset (h.record rfl)))

theorem TempKept.quarantine (h : TempKept s₀ s) : TempKept s₀ (s.quarantine c) :=
  .ite
    h
    (have h := h.voteBit.cancelDrain.toQuarantine
     .ite h.reportLoss h)

theorem TempKept.enterSafe (h : TempKept s₀ s) : TempKept s₀ s.enterSafe := by
  unfold State.enterSafe
  extract_lets s1 s2 p s3 s4
  have h1 : TempKept s₀ s1 := .ite h.leaveL2 h
  have h2 : TempKept s₀ s2 := .ite h1.relock h1
  have h3 : TempKept s₀ s3 := h2.frame rfl rfl rfl rfl
  have h4 : TempKept s₀ s4 := h3.forCh fun h => h.quarantine
  clear_value s4
  split
  · exact h4
  all_goals exact h4.setMode.forCh fun h => .ite h.cancelDrain h

end

/-! ### What an over-temperature does -/

section
variable {s₀ s : State}

theorem TempKept.react_dev {i cl} (h : TempKept s₀ s) : TempKept s₀ (s.react (.dev i) cl) := by
  unfold State.react
  split
  · split
    · exact h
    · exact h
    all_goals exact h.lockOut
  · dsimp only
    split
    · exact h.enterSafe
    · exact h.enterSafe
    · exact h.enterSafe
    · exact h.enterSafe
    all_goals exact h
  · exact h

/-- An assertion of a device source, once it is counted. -/
theorem TempKept.assertSrc_dev {i kind addr} : TempKept (s.countSrc (.dev i) kind) (s.assertSrc (.dev i) kind addr) :=
  have h := (TempKept.refl (s.countSrc (.dev i) kind)).record_of_countSrc
  .ite h h.react_dev

end

/-- A change of device fields alone, among them only those in `p`. -/
structure DevOnly (p : DFld → Prop) (s t : State) : Prop where
  power : t.power = s.power
  chans : t.chans = s.chans
  cg : ∀ c f, t.cg c f = s.cg c f
  dg : ∀ f, ¬p f → t.dg f = s.dg f

section
variable {p : DFld → Prop} {s₀ s x y t : State}

theorem DevOnly.refl (s : State) : DevOnly p s s := ⟨rfl, rfl, fun _ _ => rfl, fun _ _ => rfl⟩

theorem DevOnly.ds {f v} (h : DevOnly p s₀ s) (hf : p f) : DevOnly p s₀ (s.ds f v) where
  power := h.power
  chans := h.chans
  cg c g := by simpa using h.cg c g
  dg g hg := by
    have hne : g ≠ f := fun e => hg (e ▸ hf)
    simpa [hne] using h.dg g hg

theorem DevOnly.canopy {v} (h : DevOnly p s₀ s) : DevOnly p s₀ { s with canopy := v } := ⟨h.power, h.chans, h.cg, h.dg⟩

theorem DevOnly.ite {q : Prop} {_ : Decidable q} (hx : DevOnly p s₀ x) (hy : DevOnly p s₀ y) :
    DevOnly p s₀ (if q then x else y) := iteInduction (fun _ => hx) fun _ => hy

theorem DevOnly.trans (hx : DevOnly p s₀ x) (hy : DevOnly p x y) : DevOnly p s₀ y where
  power := hy.power.trans hx.power
  chans := hy.chans.trans hx.chans
  cg c f := (hy.cg c f).trans (hx.cg c f)
  dg f hf := (hy.dg f hf).trans (hx.dg f hf)

theorem DevOnly.powered (h : DevOnly p s t) (c : Ch) : t.powered c = s.powered c := by
  simp only [State.powered, State.ch, h.chans]

end

/-- The device fields of one source. -/
def DFld.ofSrc (i : Nat) : DFld → Prop
  | .FC_LIVE_BITS k => k = i / 32
  | .FC_SRC_TRANSIENT k | .FC_SRC_STICKY k | .FC_SRC_KIND k | .FC_TOTAL_COUNT k => k = i
  | .FC_FIRST_REC _ => True
  | _ => False

section
variable {s : State} {i k : Nat} {b : Bool}

theorem State.setLive_dev : DevOnly (·.ofSrc i) s (s.setLive (.dev i) b) := by
  unfold State.setLive
  dsimp -zeta only
  extract_lets was s1 s2
  have h1 : DevOnly (·.ofSrc i) s s1 := (DevOnly.refl s).ds rfl
  have h2 : DevOnly (·.ofSrc i) s s2 := .ite (h1.ds trivial) h1
  exact .ite (.ite h2 (h2.ds rfl)) h1

/-- A level that is set reads as it was set. -/
theorem State.live_setLive_dev : (s.setLive (.dev i) b).live (.dev i) = b := by
  have h1 : ∀ v, ((s.ds (.FC_LIVE_BITS (i / 32)) (setBitTo v (i % 32) b)).live (.dev i)) = b := fun v => by
    have hlt : i % 32 < 32 := Nat.mod_lt _ (by decide)
    simpa [State.live, DFld.info, hlt, testBit_setBitTo] using Nat.testBit_mod_two_pow (setBitTo v (i % 32) b) 32 (i % 32)
  unfold State.setLive
  dsimp -zeta only
  extract_lets was s1 s2
  have h2 : s2.live (.dev i) = s1.live (.dev i) := by
    unfold s2
    split <;> simp [State.live]
  split
  · split
    · exact h2.trans (h1 _)
    · simpa [State.live] using h2.trans (h1 _)
  · exact h1 _

theorem State.countSrc_dev : DevOnly (·.ofSrc i) s (s.countSrc (.dev i) k) := by
  unfold State.countSrc
  dsimp -zeta only
  extract_lets s1
  have h1 : DevOnly (·.ofSrc i) s s1 := .ds (.ds (.ds (.refl s) rfl) rfl) rfl
  exact h1.canopy

theorem State.dg_sticky_countSrc_dev : (s.countSrc (.dev i) k).dg (.FC_SRC_STICKY i) = 1 := by
  have h : (((s.dinc (.FC_TOTAL_COUNT i)).ds (.FC_SRC_STICKY i) 1).ds (.FC_SRC_KIND i) k).dg (.FC_SRC_STICKY i) = 1 := by
    simp [DFld.info]
  exact h

theorem State.live_countSrc_dev : (s.countSrc (.dev i) k).live (.dev i) = s.live (.dev i) := by
  have h : ((((s.dinc (.FC_TOTAL_COUNT i)).ds (.FC_SRC_STICKY i) 1).ds (.FC_SRC_KIND i) k).live (.dev i)) =
      s.live (.dev i) := by
    simp [State.live, State.dinc]
  exact h

end

/-- What `TempKept` says, but of the over-temperature source. -/
structure EventsKept (s t : State) : Prop where
  temps : t.power.temps = s.power.temps
  hot : t.power.hot = s.power.hot
  hi : t.dg .PWR_EVT_TEMP_HI = s.dg .PWR_EVT_TEMP_HI
  ok : t.dg .PWR_EVT_TEMP_OK = s.dg .PWR_EVT_TEMP_OK
  ch : ∀ c, t.powered c = true → s.powered c = true ∧ t.cg c .SEQ_SYSEVT_TEMP_HI = s.cg c .SEQ_SYSEVT_TEMP_HI

section
variable {s x t : State} {raw : Nat}

theorem EventsKept.refl (s : State) : EventsKept s s := ⟨rfl, rfl, rfl, rfl, fun _ h => ⟨h, rfl⟩⟩

theorem DevOnly.eventsKept (h : DevOnly (·.ofSrc 4) s t) : EventsKept s t where
  temps := by rw [h.power]
  hot := by rw [h.power]
  hi := h.dg _ id
  ok := h.dg _ id
  ch c hc := ⟨h.powered c ▸ hc, h.cg ..⟩

theorem EventsKept.andKept (hx : EventsKept s x) (h : TempKept x t) : EventsKept s t where
  temps := h.temps.trans hx.temps
  hot := h.hot.trans hx.hot
  hi := (h.dev _ rfl).trans hx.hi
  ok := (h.dev _ rfl).trans hx.ok
  ch c hc :=
    have ⟨hon, heq⟩ := h.ch c (State.powered_iff.mp hc)
    have ⟨hs, hseq⟩ := hx.ch c (State.powered_iff.mpr hon)
    ⟨hs, heq.trans hseq⟩

/-- The over-temperature source's level rises: it asserts where it was not live (R327, R335). -/
theorem State.raiseLevel_temp : let t := s.raiseLevel (.dev 4) 0 raw
    EventsKept s t ∧ t.live (.dev 4) = true ∧ (s.live (.dev 4) = false → t.dg (.FC_SRC_STICKY 4) = 1) := by
  unfold State.raiseLevel
  cases hlive : s.live (.dev 4) with
  | true => exact ⟨.refl s, hlive, nofun⟩
  | false =>
    have hk : TempKept ((s.setLive (.dev 4) true).countSrc (.dev 4) 0) ((s.setLive (.dev 4) true).assertSrc (.dev 4) 0 raw) :=
      TempKept.assertSrc_dev
    refine ⟨(DevOnly.eventsKept ?_).andKept hk, ?_, fun _ => ?_⟩
    · exact State.setLive_dev.trans State.countSrc_dev
    · calc (State.assertSrc _ (.dev 4) 0 raw).live (.dev 4)
        _ = ((s.setLive (.dev 4) true).countSrc (.dev 4) 0).live (.dev 4) := by
          simp only [State.live, hk.dev (.FC_LIVE_BITS (4 / 32)) rfl]
        _ = (s.setLive (.dev 4) true).live (.dev 4) := State.live_countSrc_dev
        _ = true := State.live_setLive_dev
    · exact (hk.dev (.FC_SRC_STICKY 4) rfl).trans State.dg_sticky_countSrc_dev

end

/-! ### A measurement -/

/-- What holds of a channel after its own step, and is kept by the others' steps, holds of every channel at the end. -/
theorem State.forCh_forall {P : Ch → State → Prop} {g : State → Ch → State} (hset : ∀ x c, P c (g x c))
    (hkeep : ∀ x c d, P d x → P d (g x c)) (s : State) (c : Ch) : P c (s.forCh g) := by
  have h : ∀ (l : List Ch) (s : State), P c s ∨ c ∈ l → P c (l.foldl g s) := fun l => by
    induction l with
    | nil => exact fun s h => h.elim id nofun
    | cons d l ih =>
      refine fun s h => ih _ ?_
      rcases h with h | h
      · exact .inl (hkeep s d c h)
      · rcases List.mem_cons.mp h with rfl | h
        · exact .inl (hset s c)
        · exact .inr h
  exact h _ s (.inr (List.mem_finRange c))

section
variable {s : State} {q : Int} {bit raw : Nat} {max : Int}

/-- An event to every powered channel (R155) changes no more than a field of each. -/
theorem State.sysEvtAll_frame :
    (s.sysEvtAll bit).power = s.power ∧ (s.sysEvtAll bit).chans = s.chans ∧ (s.sysEvtAll bit).otp = s.otp ∧
      ∀ f, (s.sysEvtAll bit).dg f = s.dg f := by
  refine State.forCh_inv (fun t => t.power = s.power ∧ t.chans = s.chans ∧ t.otp = s.otp ∧ ∀ f, t.dg f = s.dg f) s _
    ⟨rfl, rfl, rfl, fun _ => rfl⟩ fun x c hx => ?_
  unfold State.sysEvt
  split
  · split <;> simpa using hx
  · exact hx

theorem State.powered_of_chans {s t : State} (h : t.chans = s.chans) (c : Ch) : t.powered c = s.powered c := by
  simp only [State.powered, State.ch, h]

theorem State.powered_sysEvt (x : State) (c d : Ch) (bit : Nat) : (x.sysEvt c bit).powered d = x.powered d := by
  refine State.powered_of_chans ?_ d
  unfold State.sysEvt
  split
  · split <;> rfl
  · rfl

/-- An event that sets the field `f` of a powered channel sets it in every powered channel. -/
theorem State.sysEvtAll_sets {f : CFld} (hev : ∀ (x : State) (c : Ch), x.powered c = true → x.sysEvt c bit = x.cs c f 1)
    (hf : 1 % 2 ^ f.info.wid = 1) {c : Ch} (hc : s.powered c = true) : (s.sysEvtAll bit).cg c f = 1 := by
  refine State.forCh_forall (P := fun c t => t.powered c = true → t.cg c f = 1) (fun x c hon => ?_)
    (fun x c d hx hon => ?_) s c ((State.powered_of_chans State.sysEvtAll_frame.2.1 c).trans hc)
  · rw [hev x c (State.powered_sysEvt x c c bit ▸ hon), State.cg_cs, if_pos ⟨rfl, rfl⟩, hf]
  · have hd := hx (State.powered_sysEvt x c d bit ▸ hon)
    by_cases hc : x.powered c = true
    · simp [hev x c hc, hf, hd]
    · simpa [State.sysEvt, hc] using hd

theorem State.frame_roundFree (s : State) (num : Int) (den : Nat) :
    (s.roundFree num den).2.power = s.power ∧ (s.roundFree num den).2.chans = s.chans ∧
      (s.roundFree num den).2.otp = s.otp ∧ (s.roundFree num den).2.regs = s.regs := by
  unfold State.roundFree
  split <;> exact ⟨rfl, rfl, rfl, rfl⟩

/-- The measurement is taken and its mean shown (R295). -/
def State.takeTemp (s : State) (q : Int) : State × Nat :=
  let s := s.updPower fun p => { p with temps := (q :: p.temps).take 10 }
  let r := s.roundFree s.tempSum s.power.temps.length
  let raw := (r.1 % 65536).toNat
  (r.2.ds .PWR_TEMP_TEMP raw, raw)

/-- TEMP_HI and TEMP_OK (R295). -/
def State.tempEvents (s : State) : State :=
  if decide (s.otp.grade = 1) && s.tempAbove 500 && !s.power.hot then
    ((s.ds .PWR_EVT_TEMP_HI 1).sysEvtAll 3).updPower fun p => { p with hot := true }
  else if decide (s.otp.grade = 1) && !s.tempAbove 500 && s.power.hot then
    ((s.ds .PWR_EVT_TEMP_OK 1).sysEvtAll 4).updPower fun p => { p with hot := false }
  else s

/-- The over-temperature source's level. -/
def State.tempLevel (s : State) (max : Int) (raw : Nat) : State :=
  if s.tempAbove max then s.raiseLevel (.dev 4) 0 raw else s.fallLevel (.dev 4)

/-- A measurement is these three parts. -/
theorem execTempMeasure_eq (h : s.servicesUp = true) :
    execTempMeasure q s = .next ((s.takeTemp q).1.tempEvents.tempLevel
      (if (s.takeTemp q).1.otp.grade = 1 then 600 else 500) (s.takeTemp q).2) := by
  unfold execTempMeasure State.tempLevel
  rw [h]
  exact (apply_ite Host.Outcome.next ..).symm

theorem State.takeTemp_power : (s.takeTemp q).1.power = { s.power with temps := (q :: s.power.temps).take 10 } :=
  (State.frame_roundFree ..).1

theorem State.takeTemp_chans : (s.takeTemp q).1.chans = s.chans := (State.frame_roundFree ..).2.1

theorem State.takeTemp_otp : (s.takeTemp q).1.otp = s.otp := (State.frame_roundFree ..).2.2.1

theorem State.takeTemp_dg {f : DFld} (hf : f ≠ .PWR_TEMP_TEMP) : (s.takeTemp q).1.dg f = s.dg f := by
  simp only [State.takeTemp, State.dg_ds, if_neg hf]
  exact State.dg_of_regs (State.frame_roundFree ..).2.2.2 f

theorem State.takeTemp_above {m : Int} : (s.takeTemp q).1.tempAbove m =
    decide (m * ((q :: s.power.temps).take 10).length < ((q :: s.power.temps).take 10).sum) := by
  simp only [State.tempAbove, State.tempSum, State.takeTemp_power]

/-- Neither event: on an -E part, and where TEMP_HI is in force just where the mean is above 125 degrees. -/
theorem State.tempEvents_eq_self (h : s.otp.grade ≠ 1 ∨ s.power.hot = s.tempAbove 500) : s.tempEvents = s := by
  unfold State.tempEvents
  rcases h with h | h
  · simp [h]
  · cases ha : s.tempAbove 500 <;> simp [h, ha]

theorem State.power_updPower (s : State) (g : PowerSt → PowerSt) : (s.updPower g).power = g s.power := rfl

/-- The first mean above 125 degrees. -/
theorem State.tempEvents_hi (hg : s.otp.grade = 1) (hhot : s.power.hot = false) (ha : s.tempAbove 500 = true) :
    s.tempEvents.power.hot = true ∧ s.tempEvents.dg .PWR_EVT_TEMP_HI = 1 ∧
      ∀ c, s.powered c = true → s.tempEvents.cg c .SEQ_SYSEVT_TEMP_HI = 1 := by
  have h : s.tempEvents = ((s.ds .PWR_EVT_TEMP_HI 1).sysEvtAll 3).updPower fun p => { p with hot := true } := by
    simp [State.tempEvents, hg, hhot, ha]
  rw [h]
  refine ⟨by rw [State.power_updPower], ?_, fun c hc => ?_⟩
  · rw [State.dg_updPower, State.sysEvtAll_frame.2.2.2]
    simp [DFld.info]
  · rw [State.cg_updPower]
    exact State.sysEvtAll_sets (fun _ _ hon => by simp [State.sysEvt, hon]) rfl hc

/-- The first mean at 125 degrees or below. -/
theorem State.tempEvents_ok (hg : s.otp.grade = 1) (hhot : s.power.hot = true) (ha : s.tempAbove 500 = false) :
    s.tempEvents.power.hot = false ∧ s.tempEvents.dg .PWR_EVT_TEMP_OK = 1 ∧
      ∀ c, s.powered c = true → s.tempEvents.cg c .SEQ_SYSEVT_TEMP_OK = 1 := by
  have h : s.tempEvents = ((s.ds .PWR_EVT_TEMP_OK 1).sysEvtAll 4).updPower fun p => { p with hot := false } := by
    simp [State.tempEvents, hg, hhot, ha]
  rw [h]
  refine ⟨by rw [State.power_updPower], ?_, fun c hc => ?_⟩
  · rw [State.dg_updPower, State.sysEvtAll_frame.2.2.2]
    simp [DFld.info]
  · rw [State.cg_updPower]
    exact State.sysEvtAll_sets (fun _ _ hon => by simp [State.sysEvt, hon]) rfl hc

/-- The events leave the measurement, the channels and every device field but their own as they were. -/
theorem State.tempEvents_frame : s.tempEvents.power.temps = s.power.temps ∧ s.tempEvents.chans = s.chans ∧
    ∀ f, f ≠ .PWR_EVT_TEMP_HI → f ≠ .PWR_EVT_TEMP_OK → s.tempEvents.dg f = s.dg f := by
  have hset : ∀ f bit g, (∀ p : PowerSt, (g p).temps = p.temps) → f = .PWR_EVT_TEMP_HI ∨ f = .PWR_EVT_TEMP_OK →
      let t := ((s.ds f 1).sysEvtAll bit).updPower g
      t.power.temps = s.power.temps ∧ t.chans = s.chans ∧
        ∀ k, k ≠ .PWR_EVT_TEMP_HI → k ≠ .PWR_EVT_TEMP_OK → t.dg k = s.dg k := by
    intro f bit g hg hf
    obtain ⟨hpower, hchans, -, hdg⟩ := State.sysEvtAll_frame (s := s.ds f 1) (bit := bit)
    refine ⟨by rw [State.power_updPower, hg, hpower, State.power_ds],
      by rw [State.chans_updPower, hchans, State.chans_ds], fun k hhi hok => ?_⟩
    have hne : k ≠ f := by rintro rfl; exact hf.elim hhi hok
    rw [State.dg_updPower, hdg]
    simp [hne]
  unfold State.tempEvents
  split
  · exact hset _ _ _ (fun _ => rfl) (.inl rfl)
  · split
    · exact hset _ _ _ (fun _ => rfl) (.inr rfl)
    · exact ⟨rfl, rfl, fun _ _ _ => rfl⟩

theorem State.tempEvents_above {m : Int} : s.tempEvents.tempAbove m = s.tempAbove m :=
  congrArg (fun l : List Int => decide (m * l.length < l.sum)) State.tempEvents_frame.1

theorem State.tempEvents_live : s.tempEvents.live (.dev 4) = s.live (.dev 4) :=
  congrArg (Nat.testBit · 4) (State.tempEvents_frame.2.2 _ nofun nofun)

theorem State.tempLevel_of_above (h : s.tempAbove max = true) : s.tempLevel max raw = s.raiseLevel (.dev 4) 0 raw :=
  if_pos h

theorem State.tempLevel_of_not_above (h : s.tempAbove max = false) : s.tempLevel max raw = s.setLive (.dev 4) false :=
  if_neg (by simp [h])

theorem State.tempLevel_eventsKept : EventsKept s (s.tempLevel max raw) := by
  cases h : s.tempAbove max with
  | true => exact State.tempLevel_of_above h ▸ State.raiseLevel_temp.1
  | false => exact State.tempLevel_of_not_above h ▸ State.setLive_dev.eventsKept

end

/-- Settles O16. A measurement joins the last ten, tells its events, and then moves the over-temperature source's level,
whose assertion keeps what the events set. -/
theorem temperatureMeasurements : Obligations.TemperatureMeasurements := by
  intro s
  refine ⟨fun q hup => ⟨_, execTempMeasure_eq hup, ?_⟩, fun hhot => if_pos hhot⟩
  rw [State.takeTemp_otp]
  have hpow : (s.takeTemp q).1.power = _ := State.takeTemp_power
  have hchans : (s.takeTemp q).1.chans = s.chans := State.takeTemp_chans
  have hotp : (s.takeTemp q).1.otp = s.otp := State.takeTemp_otp
  have hdg : ∀ {f}, f ≠ .PWR_TEMP_TEMP → (s.takeTemp q).1.dg f = s.dg f := State.takeTemp_dg
  have habove : ∀ {m}, (s.takeTemp q).1.tempAbove m = _ := fun {m} => State.takeTemp_above
  generalize (s.takeTemp q).2 = raw
  generalize (s.takeTemp q).1 = x at *
  generalize (q :: s.power.temps).take 10 = l at *
  generalize hmax : (if s.otp.grade = 1 then (600 : Int) else 500) = max at *
  have hk : EventsKept x.tempEvents (x.tempEvents.tempLevel max raw) := State.tempLevel_eventsKept
  have hlow : l.sum ≤ 500 * l.length → x.tempAbove max = false := fun hle => by
    rw [habove, ← hmax]
    split <;> exact decide_eq_false (by omega)
  have hrises : max * l.length < l.sum → x.tempEvents.tempLevel max raw = x.tempEvents.raiseLevel (.dev 4) 0 raw :=
    fun hlt => State.tempLevel_of_above (State.tempEvents_above.trans (habove.trans (decide_eq_true hlt)))
  have hfalls : x.tempAbove max = false → x.tempEvents.tempLevel max raw = x.tempEvents.setLive (.dev 4) false :=
    fun h => State.tempLevel_of_not_above (State.tempEvents_above.trans h)
  have hset : DevOnly (·.ofSrc 4) x.tempEvents (x.tempEvents.setLive (.dev 4) false) := State.setLive_dev
  refine ⟨?_, fun hhot hle => ?_, fun hg hhot hlt => ?_, fun hg hhot hle => ?_, fun hg => ?_, fun hlt => ?_, fun hle => ?_⟩
  · rw [hk.temps, State.tempEvents_frame.1, hpow]
  · have hx : x.tempEvents = x := State.tempEvents_eq_self
      (.inr (by rw [habove, hpow, hhot]; exact (decide_eq_false (not_lt.mpr hle)).symm))
    rw [hfalls (hlow hle)]
    rw [hx] at hset ⊢
    exact ⟨by rw [hset.power, hpow, hhot], hset.chans.trans hchans, by rw [hset.power, hpow], State.live_setLive_dev⟩
  · obtain ⟨hon, hevt, hch⟩ := State.tempEvents_hi (s := x) (by rw [hotp, hg]) (by rw [hpow, hhot])
      (habove.trans (decide_eq_true hlt))
    refine ⟨hk.hot.trans hon, hk.hi.trans hevt, fun c hc => ?_⟩
    obtain ⟨hc', heq⟩ := hk.ch c hc
    exact heq.trans (hch c (State.powered_of_chans State.tempEvents_frame.2.1 c ▸ hc'))
  · obtain ⟨hoff, hevt, hch⟩ := State.tempEvents_ok (s := x) (by rw [hotp, hg]) (by rw [hpow, hhot])
      (habove.trans (decide_eq_false (not_lt.mpr hle)))
    refine ⟨hk.hot.trans hoff, hk.ok.trans hevt, fun c hc => ?_⟩
    rw [hfalls (hlow hle), hset.cg]
    exact hch c ((State.powered_of_chans hchans c).trans hc)
  · have hx : x.tempEvents = x := State.tempEvents_eq_self (.inl (by rwa [hotp]))
    rw [hx] at hk ⊢
    exact ⟨hk.hot.trans (by rw [hpow]), hk.hi.trans (hdg nofun), hk.ok.trans (hdg nofun)⟩
  · obtain ⟨-, hlive, hsticky⟩ := State.raiseLevel_temp (s := x.tempEvents) (raw := raw)
    have hwas : x.tempEvents.live (.dev 4) = s.live (.dev 4) :=
      State.tempEvents_live.trans (congrArg (Nat.testBit · 4) (hdg nofun))
    rw [hrises hlt]
    exact ⟨hlive, fun h => hsticky (hwas.trans h)⟩
  · rw [hfalls (habove.trans (decide_eq_false (not_lt.mpr hle)))]
    exact State.live_setLive_dev

end Sys2Proof.Machine
end

section
namespace Sys2Proof.Machine

/-! ### A received frame whose discard locks the part out

The frame is counted as accepted before its lookup; a reaction of class C3 to the uncorrectable CAM entry that the lookup
reads powers the channel off and so clears the counts, and the discard under CONTEXT is then taken from a resident count
of 0. -/

/-- A frame without an error of its own, whose lookup finds CAM entry 0 uncorrectable (R209). -/
def eccFrame : LineFrame :=
  { octets := List.replicate 60 0, fcsOk := true, lineErr := false, icvOk := true, ecc := some ⟨0, true, 0⟩, cws := 0
    early := false, mv := 0, badGroups := 0, commit := false }

/-- Channel 0 in UP with its context 0 in CAM entry 0, and its source k = 7 in class C3 (R329), as `eccFrame` arrives. -/
def eccLockout : State :=
  { State.reset with
    pending := [.ingressFrameReceive 0 eccFrame]
    regs := [(.dev (.CLK_CHEN_EN 0), 0x3FF), (.ch 0 .FLT_CLASS_CLASS, 3 * 4 ^ 7)]
    power := { State.reset.power with mode := .active, wake := none }
    chans := State.reset.chans.set 0
      { Chan.init with pst := .on, sub := .up, frame := { FrameSt.init with cam := [(0, 0)] } } }

theorem eccLockout_acctOk : eccLockout.acctOk := by
  delta State.acctOk Chan.acctOk Acct.balanced
  decide +kernel

/-- The ingress residents that a channel counts, and those that its queues hold. -/
def State.ingressResidents (s : State) (c : Ch) : Nat × Nat :=
  ((s.ch c).frame.inLive.resident, ((s.ch c).queue.ing.toList.map List.length).sum)

theorem State.acctOk.ingressResidents {s : State} (h : s.acctOk) (c : Ch) :
    (s.ingressResidents c).1 % m32 = (s.ingressResidents c).2 % m32 := by
  obtain ⟨-, -, -, -, -, hing⟩ := h c
  exact hing

/-- Locked out, the channel counts -1 residents, and its queues hold none. -/
theorem step_eccLockout :
    ∃ t, step eccLockout = .next t ∧ t.power.mode = .lockedOut ∧ t.ingressResidents 0 = (m32 - 1, 0) :=
  ⟨_, rfl, by decide +kernel⟩

/-- Refutes O54: with source k = 7 of a channel in class C3, a received frame whose lookup finds an uncorrectable word locks
the part out; the power-off clears the channel's counts, from which the frame's discard is then still taken. -/
theorem not_everyStepKeepsFrameAccounting : ¬ Obligations.EveryStepKeepsFrameAccounting := by
  rintro ⟨-, hstep⟩
  obtain ⟨t, ht, -, hres⟩ := step_eccLockout
  have h := (hstep _ t eccLockout_acctOk ht).ingressResidents 0
  rw [hres] at h
  exact absurd h (by decide)

end Sys2Proof.Machine
end

section
namespace Sys2Proof.Machine

/-! ### A maintenance request to a channel whose CHCTL clock is off -/

/-- Channel 0 powered and in IDLE with MAINT_REQ set, its CHCTL clock not enabled. -/
def maintUnclocked : State :=
  { State.reset with
    regs := [(.ch 0 .CHCTL_CTL_MAINT_REQ, 1)]
    power := { State.reset.power with mode := .active, wake := none }
    chans := State.reset.chans.set 0 { Chan.init with pst := .on, sub := .idle } }

/-- The entry waits for the clock: the channel stays in IDLE. -/
theorem exec_maintEntry_maintUnclocked :
    ∃ t, exec (.maintEntry 0) maintUnclocked = .next t ∧ (t.ch 0).sub = .idle :=
  ⟨_, rfl, by decide +kernel⟩

theorem maintUnclocked_forced_sub :
    (((maintUnclocked.forceStop 0 (some 0x05)).setSub 0 .maint).ch 0).sub = .maint := by decide +kernel

/-- Refutes O46: with MAINT_REQ 1 and the channel in IDLE, MAINT is not entered where the enable of the CHCTL block's clock
is 0. -/
theorem not_commandsOfLinkControl : ¬ Obligations.CommandsOfLinkControl := by
  intro h
  obtain ⟨-, -, -, hmaint, -⟩ := h maintUnclocked 0
  have hexec := hmaint (by decide +kernel) (by decide +kernel) (.inl (by decide +kernel))
  obtain ⟨t, ht, hsub⟩ := exec_maintEntry_maintUnclocked
  rw [hexec] at ht
  injection ht with ht
  rw [← ht, maintUnclocked_forced_sub] at hsub
  exact absurd hsub (by decide)

end Sys2Proof.Machine
end

section
namespace Sys2Proof.Machine

/-! ### Two records under one context index -/

/-- An untagged frame of zeros, without an error. -/
def zeroFrame : LineFrame :=
  { octets := List.replicate 60 0, fcsOk := true, lineErr := false, icvOk := true, ecc := none, cws := 0
    early := false, mv := 0, badGroups := 0, commit := false }

/-- A record of the egress key of all zeros, which no ingress frame matches. -/
def egressRecord : Ctx :=
  { key := ⟨0, 0, 0, 0, false, true⟩, handle := 0, cam := false, action := 0, tsClass := 0, msBypass := false, sc := 0
    maxSdu := 0
    meter := { cir := 0, eir := 0, cbs := 0, ebs := 0, cf := false, cm := false, dropYellow := false, markRedEn := false
               markRed := false, en := false, ct := 0, et := 0, last := 0 }
    frames := 0, octets := 0, yellow := 0, red := 0, drops := 0 }

/-- The record of `zeroFrame`'s key, whose stream filter passes one octet. -/
def filteredRecord : Ctx := { egressRecord with key := { egressRecord.key with egress := false }, maxSdu := 1 }

/-- Channel 0 in UP, its context store holding both records under index 0. -/
def twoRecords : State :=
  { State.reset with
    regs := [(.dev (.CLK_CHEN_EN 0), 0x3FF)]
    power := { State.reset.power with mode := .active, wake := none }
    chans := State.reset.chans.set 0
      { Chan.init with
        pst := .on, sub := .up
        frame := { FrameSt.init with ctxs := [(0, egressRecord), (0, filteredRecord)] } } }

/-- The stream filter reads the first record of the index, not the one that matched: no frame is discarded. -/
theorem exec_ingressFrameReceive_twoRecords :
    ∃ t, exec (.ingressFrameReceive 0 zeroFrame) twoRecords = .next t ∧
      (t.ch 0).frame.inLive ≠ (twoRecords.ch 0).frame.inLive.accept.discard 6 :=
  ⟨_, rfl, by decide +kernel⟩

/-- Refutes O53: where the context store holds two records under one index, a frame that the second matches is not discarded
by that record's MAX_SDU, since the stream filter reads the record by its index. -/
theorem not_framesMacsecAndTime : ¬ Obligations.FramesMacsecAndTime := by
  intro h
  obtain ⟨hch, -⟩ := h
  obtain ⟨hin, -⟩ := hch twoRecords 0
  obtain ⟨-, -, hgood⟩ := hin zeroFrame (by decide +kernel) (by decide +kernel)
  obtain ⟨-, hfits⟩ := hgood rfl (by decide +kernel) (by decide +kernel) (by decide +kernel)
  obtain ⟨hmatch, -⟩ := hfits (by decide +kernel) rfl (by decide +kernel)
  obtain ⟨-, hfilter, -⟩ := hmatch 0 filteredRecord (by decide +kernel)
  obtain ⟨t, ht, hlive, -⟩ := hfilter rfl (by decide) (by decide)
  obtain ⟨t', ht', hne⟩ := exec_ingressFrameReceive_twoRecords
  rw [ht] at ht'
  injection ht' with ht'
  exact hne (ht' ▸ hlive)

end Sys2Proof.Machine
end

section
namespace Sys2Proof.Machine

/-! ### The host's vote of a channel -/

theorem State.ch_cfgPut (s : State) (c d : Ch) (b : CBlk) (o : Nat) (g : State → State) :
    (s.cfgPut c b o g).ch d = (g s).ch d := by
  simp only [State.cfgPut]
  split <;> rfl

theorem State.cg_cfgPut (s : State) (c d : Ch) (b : CBlk) (o : Nat) (g : State → State) (f : CFld)
    (hf : f ≠ .tr b .REF_ARMED) : (s.cfgPut c b o g).cg d f = (g s).cg d f := by
  simp only [State.cfgPut]
  split
  · rfl
  · simp [hf]

/-- A plain write of CHPWR_VOTE, which holds no RWK field. -/
theorem State.landC_chpwr_vote (s : State) (c : Ch) (v : Nat) (p : Bool) (a : Nat) :
    s.landC c .chpwr .plain 0 v p a = s.cfgPut c .chpwr 0 fun s => s.voteWrite c v := by
  have hk : ((CFld.at .chpwr 0).any fun f => implFld c f && f.info.acc = .rwk) = false :=
    List.any_eq_false.mpr fun f hf => by
      have : ∀ f ∈ CFld.at .chpwr 0, f.info.acc ≠ .rwk := by decide +kernel
      simp [this f hf]
  simp [State.landC, State.aliasWord, hk]
  rfl

/-- A write that changes the host's bits has them take effect. -/
theorem State.voteWrite_changed (s : State) (c : Ch) (v : Nat) (h : v % 16 ≠ s.cg c .CHPWR_VOTE_HOST) :
    s.voteWrite c v = (s.cs c .CHPWR_VOTE_HOST (v % 16)).voteChanged c := by
  have hw : (CFld.info .CHPWR_VOTE_HOST).wid = 4 := rfl
  have hne : (s.cs c .CHPWR_VOTE_HOST (v % 16)).cg c .CHPWR_VOTE_HOST ≠ s.cg c .CHPWR_VOTE_HOST := by simpa [hw] using h
  rw [State.voteWrite, if_neg hne]

theorem State.upAllowed_of_busUp {s : State} {w : Bool} (hb : s.busUp w = true) (hm : s.power.mode = .active)
    (hc : s.power.chg = .none) : s.upAllowed = true := by
  simp only [State.busUp, State.servicesUp, Bool.and_eq_true] at hb
  simp [State.upAllowed, hm, hc, ModeChg.votes, hb.1.1.2]

/-- A vote that changed powers a domain up that is off and may be on. -/
theorem State.voteChanged_off (s : State) (c : Ch) (hv : s.voted c = true) (hu : s.upAllowed = true)
    (hp : (s.ch c).pst = .off) :
    s.voteChanged c = (s.updCh c fun x => { x with stuckOff := false }).updCh c fun x => { x with pst := .poweringUp } := by
  have hv' : (s.updCh c fun x => { x with stuckOff := false }).voted c = true := hv
  have hu' : (s.updCh c fun x => { x with stuckOff := false }).upAllowed = true := hu
  simp [State.voteChanged, State.evalVote, hv', State.voteUp, hu', hp]

/-- A vote withdrawn in Active outside a mode change drains a domain that is on. -/
theorem State.voteChanged_on (s : State) (c : Ch) (hv : s.voted c = false) (hm : s.power.mode = .active)
    (hc : s.power.chg = .none) (hp : (s.ch c).pst = .on) :
    s.voteChanged c = (s.updCh c fun x => { x with stuckOff := false }).startDrain c := by
  have hv' : (s.updCh c fun x => { x with stuckOff := false }).voted c = false := hv
  simp [State.voteChanged, State.evalVote, hv', hm, hc, ModeChg.votes, hp]

theorem State.startDrain_pst (s : State) (c : Ch) : ((s.startDrain c).ch c).pst = .draining := by
  simp only [State.startDrain, State.atBoundary]
  split <;> simp

theorem State.cg_startDrain (s : State) (c d : Ch) (f : CFld) : (s.startDrain c).cg d f = s.cg d f := by
  simp only [State.startDrain, State.atBoundary]
  split <;> rfl

/-- Port 17 is CHPWR's, and owns no register of it for writing. -/
theorem State.progOwns_chpwr (s : State) (c : Ch) (o : Nat) : s.progOwns c .chpwr o = false := by
  have hport : ∀ p, p < 18 → portBlk c p = some .chpwr → p = 17 := by
    intro p hp
    interval_cases p <;> simp [portBlk]
    all_goals split
    all_goals simp
  rw [State.progOwns, Bool.and_eq_false_iff]
  right
  refine List.any_eq_false.mpr fun p hp => ?_
  rw [Bool.and_eq_true, decide_eq_true_iff, decide_eq_true_iff]
  rintro ⟨hblk, hcause⟩
  obtain rfl := hport p (List.mem_range.mp hp) hblk
  simp only [State.pwrCause, portBlk, ownsFor, portOwns] at hcause
  split at hcause
  · omega
  · split at hcause
    all_goals simp at hcause

/-- A plain vote write from outside, with nothing posted before it. -/
theorem exec_chpwrVoteWrite_outside {s : State} {src : Src} {c : Ch} {v : Word} (ha : s.arrives src c .chpwr)
    (hp : (s.ch c).posted = []) :
    exec (.chpwrVoteWrite src c .plain v) s =
      .next ((s.cfgPut c .chpwr 0 fun s => s.voteWrite c v.toNat).reply 0) := by
  change execChpwrVoteWrite src c .plain v s = _
  rw [execChpwrVoteWrite, State.rowDo_outside s src c .chpwr 0 _ _ ha, State.landAll_nil s c hp, State.landC_chpwr_vote]

/-- Settles O17: the write sets the host's bits and then evaluates the votes; no port of the link program owns the
register. -/
theorem votesPowerAChannelUpAndDrainIt : Obligations.VotesPowerAChannelUpAndDrainIt := by
  have hw : (CFld.info .CHPWR_VOTE_HOST).wid = 4 := rfl
  intro s c v
  have hset : (s.cs c .CHPWR_VOTE_HOST (v.toNat % 16)).cg c .CHPWR_VOTE_HOST = v.toNat % 16 := by
    simp only [State.cg_cs, and_self, if_true, hw]
    omega
  refine ⟨fun src ha hp hm hc => ?_, fun op => ?_⟩
  · have hrun := exec_chpwrVoteWrite_outside (v := v) ha hp
    have hch := fun d => State.ch_cfgPut s c d .chpwr 0 fun s => s.voteWrite c v.toNat
    have hcg := State.cg_cfgPut s c c .chpwr 0 (fun s => s.voteWrite c v.toNat) .CHPWR_VOTE_HOST (by decide)
    refine ⟨fun h0 hv hoff => ⟨_, hrun, ?_⟩, fun h0 hv hcl hon => ⟨_, hrun, ?_⟩⟩ <;>
      rw [State.ch_reply, State.cg_reply, hch, hcg, State.voteWrite_changed s c _ (by omega)]
    · have hvoted : (s.cs c .CHPWR_VOTE_HOST (v.toNat % 16)).voted c = true := by simp [State.voted, hset, hv]
      have hup : (s.cs c .CHPWR_VOTE_HOST (v.toNat % 16)).upAllowed = true := State.upAllowed_of_busUp ha.2.1 hm hc
      rw [State.voteChanged_off _ c hvoted hup hoff]
      exact ⟨by simp, hset⟩
    · have hvoted : (s.cs c .CHPWR_VOTE_HOST (v.toNat % 16)).voted c = false := by simp [State.voted, hv, hcl]
      rw [State.voteChanged_on _ c hvoted hm hc hon, State.startDrain_pst, State.cg_startDrain]
      exact ⟨rfl, hset.trans hv⟩
  · change execChpwrVoteWrite .prog c op v s = _
    simp [execChpwrVoteWrite, State.rowDo, State.progDo, State.progOwns_chpwr, ok]

end Sys2Proof.Machine
end

section
namespace Sys2Proof.Machine

/-! ### What the credit messages of a channel leave alone

Freed and issued cells change the host's pairs and messages, and no more than two event fields of the host port. -/

/-- The two fields that a message toward the host can set, where it leaves L1 (R232). -/
def DFld.ofL1 : DFld → Bool
  | .HOST_EVT_L1_EXIT | .HOST_EVT_ACTIVE => true
  | _ => false

/-- From `s` to `t` no more than host-port state, the fields of `DFld.ofL1` and the count of free choices change. -/
structure Sends (s t : State) : Prop where
  chans : t.chans = s.chans
  power : t.power = s.power
  heart : t.heart = s.heart
  clock : t.clock = s.clock
  ul : s.host.ul = .active → t.host.ul = .active
  cg : ∀ d f, t.cg d f = s.cg d f
  dg : ∀ f, f.ofL1 = false → t.dg f = s.dg f

section
variable {s₀ s x t : State} {c : Ch}

theorem Sends.refl (s : State) : Sends s s := ⟨rfl, rfl, rfl, rfl, id, fun _ _ => rfl, fun _ _ => rfl⟩

theorem Sends.trans (hx : Sends s₀ x) (hy : Sends x t) : Sends s₀ t where
  chans := hy.chans.trans hx.chans
  power := hy.power.trans hx.power
  heart := hy.heart.trans hx.heart
  clock := hy.clock.trans hx.clock
  ul := hy.ul ∘ hx.ul
  cg d f := (hy.cg d f).trans (hx.cg d f)
  dg f hf := (hy.dg f hf).trans (hx.dg f hf)

theorem Sends.ch (h : Sends s t) (d : Ch) : t.ch d = s.ch d := by simp only [State.ch, h.chans]

theorem Sends.host {v : HostSt} (h : Sends s₀ s) (hv : s.host.ul = .active → v.ul = .active) :
    Sends s₀ { s with host := v } :=
  h.trans ⟨rfl, rfl, rfl, rfl, hv, fun _ _ => rfl, fun _ _ => rfl⟩

theorem Sends.ds {f v} (h : Sends s₀ s) (hf : f.ofL1 = true) : Sends s₀ (s.ds f v) :=
  h.trans ⟨rfl, rfl, rfl, rfl, id, fun _ _ => by simp, fun g hg => by
    have hne : g ≠ f := by rintro rfl; exact absurd (hf.symm.trans hg) nofun
    simp [hne]⟩

theorem Sends.updPair {k g} (h : Sends s₀ s) : Sends s₀ (s.updPair c k g) := h.host id

theorem Sends.send {m} (h : Sends s₀ s) : Sends s₀ (s.send m) := by
  unfold State.send
  split
  · exact (((h.ds rfl).host fun _ => rfl).ds rfl).host id
  · exact h.host id

theorem Sends.ite {p : Prop} {_ : Decidable p} (hx : Sends s₀ x) (ht : Sends s₀ t) : Sends s₀ (if p then x else t) := by
  split
  · exact hx
  · exact ht

theorem Sends.foldl {α : Type} {g : State → α → State} {l : List α} (h : Sends s₀ s)
    (hg : ∀ {x a}, Sends s₀ x → Sends s₀ (g x a)) : Sends s₀ (l.foldl g s) := by
  induction l generalizing s with
  | nil => exact h
  | cons a l ih => exact ih (hg h)

theorem Sends.announce {k} (h : Sends s₀ s) : Sends s₀ (s.announce c k) := h.updPair.send
theorem Sends.announceDue {k} (h : Sends s₀ s) : Sends s₀ (s.announceDue c k) := .ite h.announce h
theorem Sends.issueCls {k} (h : Sends s₀ s) : Sends s₀ (s.issueCls c k) := .ite h.updPair.announceDue h
theorem Sends.issue (h : Sends s₀ s) : Sends s₀ (s.issue c) := .ite h (h.foldl fun h => h.issueCls)
theorem Sends.trySync {k} (h : Sends s₀ s) : Sends s₀ (s.trySync c k) := .ite h.updPair.send h
theorem Sends.freeCells {k n} (h : Sends s₀ s) : Sends s₀ (s.freeCells c k n) := h.updPair.issue.trySync
theorem Sends.resync (h : Sends s₀ s) : Sends s₀ (s.resync c) := h.foldl fun h => h.updPair.trySync

end

/-! ### What an operation on one channel leaves alone -/

/-- From `s` to `t` no more than channel `c`, its fields of `p` and what `Sends` names change. -/
structure Local (c : Ch) (p : CFld → Bool) (s t : State) : Prop where
  power : t.power = s.power
  img : s.heart.img = none → t.heart.img = none
  clock : t.clock = s.clock
  ul : s.host.ul = .active → t.host.ul = .active
  ch : ∀ d, d ≠ c → t.ch d = s.ch d
  cg_other : ∀ d f, d ≠ c → t.cg d f = s.cg d f
  cg : ∀ f, p f = false → t.cg c f = s.cg c f
  dg : ∀ f, f.ofL1 = false → t.dg f = s.dg f

section
variable {s₀ s x t : State} {c : Ch} {p q : CFld → Bool}

theorem Local.refl (s : State) : Local c p s s :=
  ⟨rfl, id, rfl, id, fun _ _ => rfl, fun _ _ _ => rfl, fun _ _ => rfl, fun _ _ => rfl⟩

theorem Local.trans (hx : Local c p s₀ x) (hy : Local c p x t) : Local c p s₀ t where
  power := hy.power.trans hx.power
  img := hy.img ∘ hx.img
  clock := hy.clock.trans hx.clock
  ul := hy.ul ∘ hx.ul
  ch d hd := (hy.ch d hd).trans (hx.ch d hd)
  cg_other d f hd := (hy.cg_other d f hd).trans (hx.cg_other d f hd)
  cg f hf := (hy.cg f hf).trans (hx.cg f hf)
  dg f hf := (hy.dg f hf).trans (hx.dg f hf)

theorem Local.mono (h : Local c p s t) (hpq : ∀ f, q f = false → p f = false) : Local c q s t :=
  { h with cg := fun f hf => h.cg f (hpq f hf) }

theorem Sends.local (h : Sends s t) : Local c p s t :=
  ⟨h.power, fun hi => h.heart ▸ hi, h.clock, h.ul, fun d _ => h.ch d, fun d f _ => h.cg d f, fun f _ => h.cg c f, h.dg⟩

/-- What changes neither a field nor a channel. -/
theorem Local.frame (h : Local c p s₀ s) (hregs : t.regs = s.regs) (hchans : t.chans = s.chans) (hpower : t.power = s.power)
    (hheart : t.heart = s.heart) (hul : t.host.ul = s.host.ul)
    (hclock : t.clock = s.clock := by rfl) : Local c p s₀ t :=
  h.trans ⟨hpower, fun hi => hheart ▸ hi, hclock, fun hu => hul.trans hu, fun d _ => by simp only [State.ch, hchans],
    fun d f _ => State.cg_of_regs hregs d f, fun f _ => State.cg_of_regs hregs c f, fun f _ => State.dg_of_regs hregs f⟩

theorem Local.cs {f v} (h : Local c p s₀ s) (hf : p f = true) : Local c p s₀ (s.cs c f v) :=
  h.trans ⟨rfl, id, rfl, id, fun _ _ => rfl, fun d g hd => by simp [hd],
    fun g hg => by
      have hne : g ≠ f := by rintro rfl; exact absurd (hf.symm.trans hg) nofun
      simp [hne],
    fun _ _ => by simp⟩

theorem Local.cinc {f n} (h : Local c p s₀ s) (hf : p f = true) : Local c p s₀ (s.cinc c f n) := h.cs hf

theorem Local.updCh {g} (h : Local c p s₀ s) : Local c p s₀ (s.updCh c g) :=
  h.trans ⟨rfl, id, rfl, id, fun d hd => by simp [hd], fun _ _ _ => rfl, fun _ _ => rfl, fun _ _ => rfl⟩

theorem Local.ite {b : Prop} {_ : Decidable b} (hx : Local c p s₀ x) (ht : Local c p s₀ t) :
    Local c p s₀ (if b then x else t) := by
  split
  · exact hx
  · exact ht

theorem Local.ite_snd {α : Type} {b : Prop} {_ : Decidable b} {x y : α × State} (hx : Local c p s₀ x.2)
    (hy : Local c p s₀ y.2) : Local c p s₀ (if b then x else y).2 := by
  split
  · exact hx
  · exact hy

theorem Local.foldl {α : Type} {g : State → α → State} {l : List α} (h : Local c p s₀ s)
    (hg : ∀ {x a}, Local c p s₀ x → Local c p s₀ (g x a)) : Local c p s₀ (l.foldl g s) := by
  induction l generalizing s with
  | nil => exact h
  | cons a l ih => exact ih (hg h)

theorem Local.fresh (h : Local c p s₀ s) : Local c p s₀ { s with free := s.free + 1 } := h.frame rfl rfl rfl rfl rfl

theorem Local.roundFree {num den} (h : Local c p s₀ s) : Local c p s₀ (s.roundFree num den).2 := by
  unfold State.roundFree
  split
  · exact h
  · exact h.fresh

/-! Queues -/

theorem Local.updQ {g} (h : Local c p s₀ s) : Local c p s₀ (s.updQ c g) := h.updCh
theorem Local.updF {g} (h : Local c p s₀ s) : Local c p s₀ (s.updF c g) := h.updCh
theorem Local.atBoundary (h : Local c p s₀ s) : Local c p s₀ (s.atBoundary c) := .ite h.updQ h
theorem Local.freeCells {k n} (h : Local c p s₀ s) : Local c p s₀ (s.freeCells c k n) :=
  h.trans (Sends.refl s).freeCells.local
theorem Local.issue (h : Local c p s₀ s) : Local c p s₀ (s.issue c) := h.trans (Sends.refl s).issue.local
theorem Local.resync (h : Local c p s₀ s) : Local c p s₀ (s.resync c) := h.trans (Sends.refl s).resync.local

theorem Local.dropLine {r} (h : Local c p s₀ s) : Local c p s₀ (s.dropLine c r) := by
  unfold State.dropLine
  split
  · exact h
  · exact h.updQ.atBoundary.updF.freeCells

theorem Local.dropEgCls {k r} (h : Local c p s₀ s) : Local c p s₀ (s.dropEgCls c k r) := h.updQ.updF.freeCells

theorem Local.dropInCls {k g} (h : Local c p s₀ s) : Local c p s₀ (s.dropInCls c k g) := by
  unfold State.dropInCls
  exact h.updQ.updF

theorem Local.dropAll (h : Local c p s₀ s) : Local c p s₀ (s.dropAll c) :=
  h.dropLine.foldl fun h => h.dropEgCls.dropInCls

/-! Votes that take effect, but for a power-off -/

theorem Local.cancelDrain (h : Local c p s₀ s) : Local c p s₀ (s.cancelDrain c) := .ite h.updCh.issue h

theorem Local.voteUp (h : Local c p s₀ s) : Local c p s₀ (s.voteUp c) := by
  unfold State.voteUp
  split
  · exact .ite h.updCh h
  · exact h.cancelDrain
  all_goals exact h

theorem Local.startDrain (h : Local c p s₀ s) : Local c p s₀ (s.startDrain c) := h.updCh.atBoundary

end

end Sys2Proof.Machine
end

section
namespace Sys2Proof.Machine

/-! ### A change of mode, and the votes that take effect after it -/

section
variable {s₀ s : State} {c : Ch} {p : CFld → Bool}

theorem State.dg_blkOff {q : Blk → Bool} (f : DFld) (hf : q (.dev f.blk) = false) : (s.blkOff q).dg f = s.dg f := by
  refine State.rd_clearFields_of_not ?_
  split
  · rename_i heq; cases heq
  · rename_i b heq
    injection heq with hb
    rw [hb] at hf
    exact hf
  · rfl

theorem State.dbgPower_frame (s : State) :
    s.dbgPower.power = s.power ∧ s.dbgPower.chans = s.chans ∧ s.dbgPower.host = s.host ∧
      ∀ f, f.blk ≠ .debug → s.dbgPower.dg f = s.dg f := by
  unfold State.dbgPower
  split
  · exact ⟨rfl, rfl, rfl, fun _ _ => rfl⟩
  · refine ⟨rfl, rfl, rfl, fun f hf => ?_⟩
    have hblk : ((s.blkOff (· = .dev .debug)).dg f) = s.dg f := State.dg_blkOff f (by simpa using hf)
    have hclear : ∀ x : State, (x.clearFields fun f => match f with
        | .ch _ _ => false
        | .dev g => g.blk = .debug).dg f = x.dg f := fun x => State.rd_clearFields_of_not (by simpa using hf)
    exact (hclear _).trans hblk

theorem State.host_sysEvtAll (s : State) (bit : Nat) : (s.sysEvtAll bit).host = s.host := by
  refine State.forCh_inv (fun t => t.host = s.host) s _ rfl fun x d hx => ?_
  unfold State.sysEvt
  split
  · split <;> exact hx
  · exact hx

/-- The mode changes, with its two fields, an event of the powered channels and what PD37 loses. -/
theorem State.setMode_frame (s : State) (m : DevMode) :
    (s.setMode m).power = { s.power with mode := m } ∧ (s.setMode m).chans = s.chans ∧ (s.setMode m).host = s.host ∧
      ∀ f, f.blk ≠ .debug → f ≠ .PWR_MODE_STAT_PREV → f ≠ .PWR_EVT_MODE_CHG → (s.setMode m).dg f = s.dg f := by
  have key : ∀ x : State, ((x.sysEvtAll 5).dbgPower).power = x.power ∧ ((x.sysEvtAll 5).dbgPower).chans = x.chans ∧
      ((x.sysEvtAll 5).dbgPower).host = x.host ∧ ∀ f, f.blk ≠ .debug → ((x.sysEvtAll 5).dbgPower).dg f = x.dg f := by
    intro x
    obtain ⟨hpow, hch, hhost, hdg⟩ := State.dbgPower_frame (x.sysEvtAll 5)
    obtain ⟨hpow', hch', -, hdg'⟩ := State.sysEvtAll_frame (s := x) (bit := 5)
    exact ⟨hpow.trans hpow', hch.trans hch', hhost.trans (x.host_sysEvtAll 5), fun f hf => (hdg f hf).trans (hdg' f)⟩
  obtain ⟨hpow, hch, hhost, hdg⟩ := key ((({ s with power := { s.power with mode := m } } : State).ds
    .PWR_MODE_STAT_PREV s.power.mode.code).ds .PWR_EVT_MODE_CHG 1)
  refine ⟨hpow, hch, hhost, fun f hf h1 h2 => (hdg f hf).trans ?_⟩
  simp only [State.dg_ds, h1, h2, if_false]
  rfl

theorem State.ch_setMode (s : State) (m : DevMode) (c : Ch) : (s.setMode m).ch c = s.ch c := by
  simp only [State.ch, (State.setMode_frame s m).2.1]

/-- In Active outside a mode change a vote powers up, ends a drain, starts one, or stops a power-up: no domain powers off. -/
theorem Local.evalVote (h : Local c p s₀ s) (hm : s.power.mode = .active) : Local c p s₀ (s.evalVote c) := by
  unfold State.evalVote
  split
  · exact h.voteUp
  · split
    · exact h
    · exact h
    · exact h
    · exact h.updCh
    · rw [hm]
      exact .ite h.startDrain h

/-- Votes that take effect in Active leave the part's state and the device fields, and a link that is ACTIVE. -/
theorem State.evalVotes_frame (s : State) (hm : s.power.mode = .active) (hu : s.host.ul = .active) :
    s.evalVotes.power = s.power ∧ s.evalVotes.host.ul = .active ∧ ∀ f, f.ofL1 = false → s.evalVotes.dg f = s.dg f := by
  unfold State.evalVotes
  refine State.forCh_inv (fun t => t.power = s.power ∧ t.host.ul = .active ∧ ∀ f, f.ofL1 = false → t.dg f = s.dg f) s _
    ⟨rfl, hu, fun _ _ => rfl⟩ fun x c ⟨hpow, hul, hdg⟩ => ?_
  have hl : Local c (fun _ => false) x (x.evalVote c) := (Local.refl x).evalVote (hpow ▸ hm)
  exact ⟨hl.power.trans hpow, hl.ul hul, fun f hf => (hl.dg f hf).trans (hdg f hf)⟩

/-! ### The PLLs at the exit from Standby -/

theorem State.endDrvHold_frame (s : State) (c : Ch) :
    (s.endDrvHold c).regs = s.regs ∧ (s.endDrvHold c).power = s.power ∧ (s.endDrvHold c).host = s.host := by
  unfold State.endDrvHold
  split <;> exact ⟨rfl, rfl, rfl⟩

/-- The channel PLLs of the powered channels lock again, where the loops are closed. -/
theorem State.relock_frame (s : State) :
    s.relock.power = s.power ∧
      (∀ f, f ≠ .CLK_PLLSTAT_LOCK → f ≠ .CLK_LPLLSTAT_LOCK → s.relock.dg f = s.dg f) ∧
      (s.clock.coasting = false → s.relock.dg .CLK_PLLSTAT_LOCK = chMask s.powered % 2 ^ 32) := by
  unfold State.relock
  split
  next hc => exact ⟨rfl, fun _ _ _ => rfl, fun h => absurd (hc.symm.trans h) nofun⟩
  next =>
    extract_lets on s1
    have hloop : (s1.forCh fun s c => if s.powered c then s.endDrvHold c else s).regs = s1.regs ∧
        (s1.forCh fun s c => if s.powered c then s.endDrvHold c else s).power = s1.power := by
      refine State.forCh_inv (fun t => t.regs = s1.regs ∧ t.power = s1.power) s1 _ ⟨rfl, rfl⟩ fun x c ⟨hr, hp⟩ => ?_
      split
      · obtain ⟨hr', hp', -⟩ := State.endDrvHold_frame x c
        exact ⟨hr'.trans hr, hp'.trans hp⟩
      · exact ⟨hr, hp⟩
    obtain ⟨hregs, hpow⟩ := hloop
    refine ⟨hpow, fun f h1 h2 => ?_, fun _ => ?_⟩
    · rw [State.dg_of_regs hregs]
      simp [s1, h1, h2]
    · rw [State.dg_of_regs hregs]
      simp [s1, on]
      rfl

theorem testBit_foldl_mask (q : Ch → Bool) (l : List Ch) (hl : l.Pairwise (· < ·)) (m : Nat)
    (hm : ∀ c ∈ l, m < 2 ^ c.val) (c : Ch) :
    (l.foldl (fun m c => if q c then m + 2 ^ c.val else m) m).testBit c.val = (m.testBit c.val || (q c && decide (c ∈ l))) := by
  induction l generalizing m with
  | nil => simp
  | cons a l ih =>
    obtain ⟨ha, hl⟩ := List.pairwise_cons.mp hl
    have hlt : m < 2 ^ a.val := hm a (.head _)
    rw [List.foldl_cons]
    by_cases hq : q a = true
    · have hadd : m + 2 ^ a.val = 2 ^ a.val ||| m := by
        rw [Nat.add_comm]
        simpa using Nat.two_pow_add_eq_or_of_lt hlt 1
      have hbound : ∀ d ∈ l, m + 2 ^ a.val < 2 ^ d.val := fun d hd => by
        have : 2 ^ (a.val + 1) ≤ 2 ^ d.val := Nat.pow_le_pow_right (by omega) (ha d hd)
        omega
      rw [if_pos hq, ih hl _ hbound, hadd, Nat.testBit_or, Nat.testBit_two_pow]
      by_cases hca : c = a
      · subst hca; simp [hq]
      · have : ¬a.val = c.val := fun e => hca (Fin.ext e.symm)
        simp [this, hca]
    · rw [if_neg hq, ih hl _ fun d hd => hm d (.tail _ hd)]
      by_cases hca : c = a
      · subst hca; simp [hq]
      · simp [hca]

theorem testBit_chMask (q : Ch → Bool) (c : Ch) : (chMask q).testBit c.val = q c := by
  have h := testBit_foldl_mask q allCh (List.pairwise_lt_finRange 32) 0 (fun _ _ => Nat.two_pow_pos _) c
  simpa [chMask, allCh] using h

end

end Sys2Proof.Machine
end

section
namespace Sys2Proof.Machine

/-! ### Standby and Service -/

/-- Every pad is held: one that is not latches, and a held one stays as it is (R17). -/
def State.latchAll (s : State) : State := s.forCh fun s c => if (s.ch c).pad.held then s else s.padLatch c

theorem State.power_latchAll (s : State) : s.latchAll.power = s.power := by
  unfold State.latchAll
  refine State.forCh_inv (fun t => t.power = s.power) s _ rfl fun x c hx => ?_
  split <;> exact hx

theorem State.latchPad_held {s : State} {c : Ch} (h : (s.ch c).pad.held = true) :
    (if (s.ch c).pad.held then s else s.padLatch c) = s := if_pos h

theorem State.latchPad_ch_other (s : State) {c d : Ch} (hd : d ≠ c) :
    (if (s.ch c).pad.held then s else s.padLatch c).ch d = s.ch d := by
  split
  · rfl
  · simp [State.padLatch, hd]

theorem State.latchAll_held (s : State) (c : Ch) : (s.latchAll.ch c).pad.held = true := by
  unfold State.latchAll
  refine State.forCh_forall (P := fun c t => (t.ch c).pad.held = true) (fun x c => ?_) (fun x c d hx => ?_) s c
  · split
    next h => exact h
    next => simp [State.padLatch]
  · by_cases hd : d = c
    · subst hd
      rw [State.latchPad_held hx]
      exact hx
    · rw [State.latchPad_ch_other x hd]
      exact hx

theorem State.latchAll_ch_of_held (s : State) (c : Ch) (hc : (s.ch c).pad.held = true) : s.latchAll.ch c = s.ch c := by
  unfold State.latchAll
  refine State.forCh_inv (fun t => t.ch c = s.ch c) s _ rfl fun x d hx => ?_
  by_cases hd : c = d
  · subst hd
    rw [State.latchPad_held (hx ▸ hc)]
    exact hx
  · exact (State.latchPad_ch_other x hd).trans hx

theorem exec_standbyPrepDone_ready {s : State} (h : s.power.chg = .stbyPrep) :
    ∃ t, exec .standbyPrepDone s = .next t ∧ t.power.chg = .stbyReady ∧ t.dg .CLK_PLLSTAT_LOCK = 0 ∧
      t.dg .CLK_LPLLSTAT_LOCK = 0 ∧ t.heart = HeartSt.init := by
  change ∃ t, execStandbyPrepDone s = .next t ∧ _
  rw [execStandbyPrepDone, if_pos h]
  exact ⟨_, rfl, rfl, by simp, by simp, rfl⟩

theorem exec_hostL2Request_standby {s : State} (h : s.power.chg = .stbyReady) :
    ∃ t, exec .hostL2Request s = .next t ∧ t.power.mode = .standby ∧ t.power.chg = .none ∧ t.host.ul = .l2 ∧
      ∀ c, (t.ch c).pad.held = true ∧ ((s.ch c).pad.held = true → t.ch c = s.ch c) := by
  change ∃ t, execHostL2Request s = .next t ∧ _
  rw [execHostL2Request, if_pos h]
  have hpads : ∀ c, (s.latchAll.ch c).pad.held = true ∧ ((s.ch c).pad.held = true → s.latchAll.ch c = s.ch c) :=
    fun c => ⟨s.latchAll_held c, s.latchAll_ch_of_held c⟩
  rw [State.latchAll] at hpads
  generalize (s.forCh fun s c => if (s.ch c).pad.held then s else s.padLatch c) = x at hpads ⊢
  refine ⟨_, rfl, ?_⟩
  simp only [State.ch_setMode, State.setMode_frame, State.ch_updPower, State.host_updPower, State.power_updPower]
  exact ⟨trivial, trivial, trivial, hpads⟩

/-- The wake that ends Standby: the one recorded, or else the host's. -/
theorem State.dg_noteWake_cause (s : State) (w : Wake) :
    (s.noteWake w).dg .TAP_WAKECAUSE_CAUSE = w.cause % 2 ^ (DFld.info .TAP_WAKECAUSE_CAUSE).wid := by
  simp [State.noteWake]

theorem exec_standbyExit_active {s : State} (h : s.power.mode = .standby) :
    ∃ t, exec .standbyExit s = .next t ∧ t.power.mode = .active ∧ t.power.chg = .none ∧ t.power.wake = none ∧
      t.host.ul = .active ∧
      t.dg .TAP_WAKECAUSE_CAUSE =
        (match s.power.wake with | some w => w.cause | none => 5) % 2 ^ (DFld.info .TAP_WAKECAUSE_CAUSE).wid ∧
      (s.clock.coasting = false → ∀ c, (t.dg .CLK_PLLSTAT_LOCK).testBit c.val = s.powered c) := by
  change ∃ t, execStandbyExit s = .next t ∧ _
  rw [execStandbyExit]
  simp only [h]
  refine ⟨_, rfl, ?_⟩
  generalize hw : s.power.wake.getD ⟨5, 0, 0, s.now⟩ = w
  have hcause : w.cause = match s.power.wake with | some w => w.cause | none => 5 := by
    subst hw
    cases s.power.wake <;> rfl
  obtain ⟨hpow, hdg, hlock⟩ := (s.noteWake w).relock_frame
  generalize (s.noteWake w).relock = x at hpow hdg hlock
  have hmode := State.setMode_frame (x.leaveL2.updPower fun p => { p with chg := .none, wake := none }) .active
  generalize hy : (x.leaveL2.updPower fun p => { p with chg := .none, wake := none }).setMode .active = y at hmode
  obtain ⟨hypow, -, hyhost, hydg⟩ := hmode
  obtain ⟨htpow, htul, htdg⟩ := y.evalVotes_frame (by rw [hypow]) (by rw [hyhost]; rfl)
  have hleave : ∀ f, f ≠ .HOST_EVT_ACTIVE → f ≠ .HOST_EVT_L2_EXIT → x.leaveL2.dg f = x.dg f := by
    intro f h1 h2
    rw [State.leaveL2, State.hostActive, State.dg_ds, if_neg h1]
    exact (State.dg_of_regs (s := x.ds .HOST_EVT_L2_EXIT 1) rfl f).trans (by rw [State.dg_ds, if_neg h2])
  refine ⟨by rw [htpow, hypow], by rw [htpow, hypow, State.power_updPower], by rw [htpow, hypow, State.power_updPower], htul, ?_, fun hc c => ?_⟩
  · rw [htdg _ rfl, hydg _ (by decide) (by decide) (by decide), State.dg_updPower, hleave _ (by decide) (by decide),
      hdg _ (by decide) (by decide), State.dg_noteWake_cause, hcause]
  · rw [htdg _ rfl, hydg _ (by decide) (by decide) (by decide), State.dg_updPower, hleave _ (by decide) (by decide), hlock hc,
      Nat.testBit_mod_two_pow, decide_eq_true c.isLt, Bool.true_and, testBit_chMask]
    rfl

/-- Settles O11: each command is its arm with the guards that the hypotheses decide, and the exit is followed through the
locks, the mode and the votes. -/
theorem standbyAndServiceAreEntered : Obligations.StandbyAndServiceAreEntered := by
  intro s
  refine ⟨exec_standbyPrepDone_ready, exec_hostL2Request_standby, fun h => if_neg h, exec_standbyExit_active,
    fun h hoff => ?_⟩
  change ∃ t, execServiceEnter s = .next t ∧ _
  have hall : (allCh.all fun c => (s.ch c).pst = .off) = true := List.all_eq_true.mpr fun c _ => by simp [hoff c]
  rw [execServiceEnter, hall, h]
  refine ⟨_, rfl, ?_⟩
  rw [(State.setMode_frame _ _).1]
  exact ⟨rfl, rfl⟩

end Sys2Proof.Machine
end

section
namespace Sys2Proof.Machine

/-! ### What a change of sub-state does to its channel -/

/-- The fields of a channel that a change of its sub-state may write (R53, R70, R107, R140, R315, R322). -/
def CFld.bySub (f : CFld) : Bool :=
  match f with
  | .DSP_MSE_VALID => true
  | _ => match f.blk with
    | .chctl | .diag | .calg | .afe | .pcs => true
    | _ => false

/-- An operation on channel `c` that, of the channel, changes no more than diagnostics, spare resources and the fields of
`CFld.bySub`. -/
structure Moves (c : Ch) (s t : State) : Prop extends Local c CFld.bySub s t where
  ch_c : ∃ d g, t.ch c = { s.ch c with diag := d, graft := g }

section
variable {s₀ s x t : State} {c : Ch}

theorem Moves.refl (s : State) : Moves c s s := ⟨.refl s, _, _, rfl⟩

theorem Moves.cs {f v} (h : Moves c s₀ s) (hf : f.bySub = true) : Moves c s₀ (s.cs c f v) := ⟨h.toLocal.cs hf, h.ch_c⟩

theorem Moves.cinc {f n} (h : Moves c s₀ s) (hf : f.bySub = true) : Moves c s₀ (s.cinc c f n) := h.cs hf

theorem Moves.fresh (h : Moves c s₀ s) : Moves c s₀ { s with free := s.free + 1 } := ⟨h.toLocal.fresh, h.ch_c⟩

theorem Moves.roundFree {num den} (h : Moves c s₀ s) : Moves c s₀ (s.roundFree num den).2 := by
  unfold State.roundFree
  split
  · exact h
  · exact h.fresh

theorem Moves.updDiag {g} (h : Moves c s₀ s) : Moves c s₀ (s.updDiag c g) := by
  obtain ⟨d, r, hch⟩ := h.ch_c
  exact ⟨h.toLocal.updCh, g d, r, by simp [State.updDiag, hch]⟩

theorem Moves.updGraft {g} (h : Moves c s₀ s) : Moves c s₀ (s.updGraft c g) := by
  obtain ⟨d, r, hch⟩ := h.ch_c
  exact ⟨h.toLocal.updCh, d, g r, by simp [State.updGraft, hch]⟩

theorem Moves.ite {b : Prop} {_ : Decidable b} (hx : Moves c s₀ x) (ht : Moves c s₀ t) :
    Moves c s₀ (if b then x else t) := by
  split
  · exact hx
  · exact ht

theorem Moves.ite_snd {α : Type} {b : Prop} {_ : Decidable b} {x y : α × State} (hx : Moves c s₀ x.2)
    (hy : Moves c s₀ y.2) : Moves c s₀ (if b then x else y).2 := by
  split
  · exact hx
  · exact hy

theorem Moves.foldl {α : Type} {g : State → α → State} {l : List α} (h : Moves c s₀ s)
    (hg : ∀ {x a}, Moves c s₀ x → Moves c s₀ (g x a)) : Moves c s₀ (l.foldl g s) := by
  induction l generalizing s with
  | nil => exact h
  | cons a l ih => exact ih (hg h)

/-! Diagnostics -/

theorem Moves.predWarn {i v} (h : Moves c s₀ s) : Moves c s₀ (s.predWarn c i v) := by
  unfold State.predWarn
  exact .updDiag (.ite (h.cs rfl) h)

theorem Moves.predictions (h : Moves c s₀ s) : Moves c s₀ (s.predictions c) := by
  unfold State.predictions
  extract_lets log tl n s1 s2 pts target v f r s3
  have h1 : Moves c s₀ s1 := h.foldl fun h => .predWarn (h.cs rfl)
  have h2 : Moves c s₀ s2 := h1.cs rfl
  have h3 : Moves c s₀ s3 := .ite h2 (h2.roundFree.cs rfl)
  exact .predWarn (h3.cs rfl)

theorem Moves.trendClear (h : Moves c s₀ s) : Moves c s₀ (s.trendClear c) := by
  unfold State.trendClear
  extract_lets s1 s2 s3
  have h2 : Moves c s₀ s2 := (h.cs rfl |>.cs rfl).foldl fun h => h.cs rfl
  exact (h2.cs rfl |>.cs rfl).updDiag

theorem Moves.writeRecord {iv at' isrOk up gam} (h : Moves c s₀ s) :
    Moves c s₀ (s.writeRecord c iv at' isrOk up gam) := by
  refine .ite h.updDiag.trendClear ?_
  extract_lets f r m s1 snr rec s2 nx s3 s4
  have hr : Moves c s₀ r.2 := .ite_snd h.fresh h.roundFree
  have h1 : Moves c s₀ s1 := .ite_snd hr.fresh hr
  have h3 : Moves c s₀ s3 := h1.updDiag.cs rfl
  have h4 : Moves c s₀ s4 := .ite (h3.cs rfl) h3
  exact .ite h4 h4.predictions

theorem Moves.diagStop {status} (h : Moves c s₀ s) : Moves c s₀ (s.diagStop c status) := by
  unfold State.diagStop
  split
  · exact h
  · have hevt : (if status = 2 then CFld.DIAG_EVT_PARTNER_ACTIVE else .DIAG_EVT_ABORTED).bySub = true := by
      split <;> rfl
    have hend := fun r : Nat =>
      (h.cinc (f := .DIAG_RES_HDR_SEQ) (n := 1) rfl |>.cs (f := .DIAG_RES_HDR_KIND) (v := r) rfl |>.cs
        (f := .DIAG_RES_HDR_STATUS) (v := status) rfl |>.cs (f := .DIAG_RES_HDR_OA) (v := 3) rfl |>.cs
        (f := .DIAG_RES_HDR_NFEAT) (v := 0) rfl |>.cs (v := 1) hevt).updDiag (g := fun d => { d with run := .none })
    dsimp only
    split
    · exact (hend _).writeRecord
    · exact hend _

theorem Moves.diagMoved {o n} (h : Moves c s₀ s) : Moves c s₀ (s.diagMoved c o n) := by
  unfold State.diagMoved
  extract_lets live s1 s2 run
  have h1 : Moves c s₀ s1 := .ite h.updDiag h
  have h2 : Moves c s₀ s2 := .ite h1.updDiag h1
  clear_value s2
  cases n with
  | off => exact h2.updDiag
  | maint => exact h2.diagStop
  | quarantine => exact h2.diagStop
  | training => exact .ite h2.diagStop h2
  | idle => exact .ite h2.diagStop h2
  | up => exact .ite h2.diagStop h2
  | lpi => exact .ite h2.diagStop h2
  | sleep => exact .ite h2.diagStop h2

/-! Spare resources -/

theorem Moves.endCalCh {status} (h : Moves c s₀ s) : Moves c s₀ (s.endCalCh c status) := by
  unfold State.endCalCh
  split
  · have h3 := h.cs (f := .CALG_RES_STATUS) (v := status) rfl |>.cs (f := .CALG_RES_PRECOND) (v := 0) rfl |>.cs
      (f := .GRAFT_EVT_CAL_DONE) (v := 1) rfl
    exact .ite h.updGraft (.updGraft (.ite h3 (h3.cs rfl)))
  · exact h

theorem Moves.swapRecord (h : Moves c s₀ s) : Moves c s₀ (s.swapRecord c) := by
  unfold State.swapRecord
  split
  · exact .ite h.updGraft h
  · exact h

theorem Moves.swapDefer {supply} (h : Moves c s₀ s) : Moves c s₀ (s.swapDefer c supply) := by
  unfold State.swapDefer
  extract_lets s1
  have h1 : Moves c s₀ s1 := .ite (h.updGraft.cs rfl) h
  clear_value s1
  split
  · exact .ite (h1.updGraft.cs rfl) h1
  · exact h1

theorem Moves.swapMoved (h : Moves c s₀ s) : Moves c s₀ (s.swapMoved c) :=
  .ite h.updGraft (.ite h.swapRecord h.swapDefer)

end

section
variable {s₀ s : State} {c : Ch} {p : CFld → Bool}

/-- A move to sub-state `n`: the sub-state is set, and what goes with it follows. -/
theorem State.setSub_moves (s : State) (c : Ch) (n : SubState) :
    ∃ x, Moves c x (s.setSub c n) ∧ Local c CFld.bySub s x ∧ x.ch c = { s.ch c with sub := n } := by
  unfold State.setSub
  extract_lets o s1 live s2 s3
  split
  next h => exact ⟨s, .refl s, .refl s, h ▸ rfl⟩
  next =>
    have h1 : Local c CFld.bySub s s1 := ((Local.refl s).cs rfl |>.cs rfl).updCh
    have h2 : Moves c s1 s2 := .ite ((Moves.refl s1).cs rfl) (.refl s1)
    have h3 : Moves c s1 s3 := .swapMoved (.diagMoved (.ite h2.endCalCh h2))
    exact ⟨s1, .ite (h3.cs rfl |>.cs rfl |>.cs rfl |>.cs rfl) h3, h1,
      (State.ch_updCh _ _ _ _).trans (if_pos rfl)⟩

/-- Of the channel a change of sub-state leaves all but the sub-state, diagnostics and spare resources. -/
theorem State.ch_setSub (s : State) (c : Ch) (n : SubState) :
    ∃ d g, (s.setSub c n).ch c = { s.ch c with sub := n, diag := d, graft := g } := by
  obtain ⟨x, hm, -, hx⟩ := s.setSub_moves c n
  obtain ⟨d, g, hch⟩ := hm.ch_c
  exact ⟨d, g, by rw [hch, hx]⟩

theorem Local.setSub {n} (h : Local c p s₀ s) (hp : ∀ f, p f = false → f.bySub = false) : Local c p s₀ (s.setSub c n) := by
  obtain ⟨x, hm, hx, -⟩ := s.setSub_moves c n
  exact h.trans ((hx.trans hm.toLocal).mono hp)

end

end Sys2Proof.Machine
end

section
namespace Sys2Proof.Machine

/-! ### What ends with a link, and the forced stop -/

/-- The fields of a channel that the end of a link and a change of its sub-state may write. -/
def CFld.byEnd (f : CFld) : Bool :=
  match f with
  | .LPI_STAT_TX_LPI | .LPI_STAT_RX_LPI | .LPI_CTL_TX_REQ | .LPI_STAT_SLP_PHASE | .DSP_FRZHW_LPI | .LINK_SHIFTSTAT_PHASE => true
  | _ => f.bySub

theorem CFld.bySub_of_byEnd {f : CFld} (h : f.byEnd = false) : f.bySub = false := by
  unfold CFld.byEnd at h
  split at h
  all_goals simp_all

/-- Of the channel `x` a frame's end on the line leaves all but the queues' line and the frame counts. -/
structure Chan.LineEnded (x y : Chan) : Prop where
  rest : y = { x with queue := y.queue, frame := y.frame }
  line : y.queue.line = none
  ing : y.queue.ing = x.queue.ing
  eg : x.queue.line = none → y.queue.eg = x.queue.eg

theorem State.ch_freeCells (s : State) (c d : Ch) (k : Fin 8) (n : Nat) : (s.freeCells c k n).ch d = s.ch d :=
  (Sends.refl s).freeCells.ch d

theorem State.atBoundary_line (s : State) (c : Ch) :
    ∃ b, (s.atBoundary c).ch c = { s.ch c with queue := { (s.ch c).queue with drain := b } } := by
  unfold State.atBoundary
  split
  · exact ⟨true, by simp [State.updQ]⟩
  · exact ⟨_, rfl⟩

theorem State.dropLine_lineEnded (s : State) (c : Ch) (r : Nat) : Chan.LineEnded (s.ch c) ((s.dropLine c r).ch c) := by
  unfold State.dropLine
  split
  next h => exact ⟨rfl, h, rfl, fun _ => rfl⟩
  next l h =>
    extract_lets x
    have hx : x.ch c = { s.ch c with queue := (x.ch c).queue } := by simp [x, State.updQ]
    have hq : (x.ch c).queue.line = none ∧ (x.ch c).queue.ing = (s.ch c).queue.ing := by simp [x, State.updQ]
    obtain ⟨b, hb⟩ := x.atBoundary_line c
    clear_value x
    rw [State.ch_freeCells, State.acctEg, State.updF, State.ch_updCh, if_pos rfl, hb]
    exact ⟨by rw [hx], hq.1, hq.2, fun h' => absurd (h.symm.trans h') nofun⟩

/-- Of the channel `x` the end of its link leaves all but these parts. -/
structure Chan.Ended (x y : Chan) : Prop where
  rest : y = { x with lpi := y.lpi, link := y.link, line := y.line, queue := y.queue, frame := y.frame }
  ing : y.queue.ing = x.queue.ing
  eg : x.queue.line = none → y.queue.eg = x.queue.eg
  st : y.link.st = x.link.st
  sleep : y.lpi.sleep = none

theorem LinkSt.drop_st (l : LinkSt) : l.drop.st = l.st := by
  unfold LinkSt.drop
  split <;> rfl

theorem SegSt.drop_st (l : SegSt) : l.drop.st = l.st := by
  unfold SegSt.drop
  split <;> rfl

theorem State.endLine_ended (s : State) (c : Ch) : Chan.Ended (s.ch c) ((s.endLine c).ch c) := by
  unfold State.endLine
  extract_lets s1 s2 s3 s4 s5 n s6
  have h6 : s6.ch c = { s.ch c with lpi := (s6.ch c).lpi, link := (s6.ch c).link, line := (s6.ch c).line } := by
    simp [s6, s5, s4, s3, s2, s1, State.updLpi, State.setLpiMask, State.updLink]
  have hst : (s6.ch c).link.st = (s.ch c).link.st := by
    simp [s6, s5, s4, s3, s2, s1, State.updLpi, State.setLpiMask, State.updLink, LinkSt.drop_st]
  have hsleep : (s6.ch c).lpi.sleep = none := by
    simp [s6, s5, s4, s3, s2, s1, State.updLpi, State.setLpiMask, State.updLink]
  clear_value s6
  obtain ⟨hrest, -, hing, heg⟩ := s6.dropLine_lineEnded c 0
  have hqueue : (s6.ch c).queue = (s.ch c).queue := by rw [h6]
  refine ⟨?_, hing.trans (congrArg QueueSt.ing hqueue), fun h => ?_, ?_, ?_⟩
  · rw [hrest, h6]
  · exact (heg (hqueue ▸ h)).trans (congrArg QueueSt.eg hqueue)
  · rw [hrest]
    exact hst
  · rw [hrest]
    exact hsleep

theorem State.endLine_local (s : State) (c : Ch) : Local c CFld.byEnd s (s.endLine c) := by
  unfold State.endLine
  extract_lets s1 s2 s3 s4 s5 n s6
  have h3 : Local c CFld.byEnd s s3 := (((Local.refl s).cs rfl |>.cs rfl |>.cs rfl |>.cs rfl).updCh.cs rfl).updCh
  have h6 : Local c CFld.byEnd s s6 := ((h3.cs rfl).cs rfl |>.cs rfl).updCh
  exact h6.dropLine

/-- Of the channel `x` link control's entry to STOP leaves all but these parts. -/
structure Chan.Stopped (c : Ch) (x y : Chan) : Prop where
  rest : y = { x with seq := y.seq, link := y.link, seg := y.seg }
  link : isSeg c = false → y.link.st = .stop
  seg : isSeg c = true → y.seg.st = .stop

theorem State.toStop_stopped (s : State) (c : Ch) : Chan.Stopped c (s.ch c) ((s.toStop c).ch c) := by
  unfold State.toStop
  extract_lets x
  have hx : x.ch c = { s.ch c with seq := (x.ch c).seq } := by simp [x, State.polStop, State.updPol]
  clear_value x
  split
  next h =>
    rw [State.updSeg, State.ch_updCh, if_pos rfl]
    exact ⟨by rw [hx], fun h' => absurd (h.symm.trans h') nofun, fun _ => SegSt.drop_st _⟩
  next h =>
    rw [State.updLink, State.ch_updCh, if_pos rfl]
    exact ⟨by rw [hx], fun _ => LinkSt.drop_st _, fun h' => absurd h' h⟩

section
variable {s₀ s : State} {c : Ch} {p : CFld → Bool}

theorem Local.polStop (h : Local c p s₀ s) : Local c p s₀ (s.polStop c) := by
  unfold State.polStop
  exact h.updCh

theorem Local.toStop (h : Local c p s₀ s) : Local c p s₀ (s.toStop c) := by
  unfold State.toStop
  extract_lets x
  have hx : Local c p s₀ x := h.polStop
  exact .ite hx.updCh hx.updCh

theorem Local.noteLoss {k} (h : Local c (fun _ => true) s₀ s) : Local c (fun _ => true) s₀ (s.noteLoss c k) := by
  unfold State.noteLoss
  extract_lets x
  have hx : Local c (fun _ => true) s₀ x := h.updCh
  exact .ite (hx.cs rfl |>.cinc rfl |>.cs rfl) (hx.cs rfl |>.cs rfl |>.cinc rfl |>.cs rfl)

end

theorem State.ch_noteLoss (s : State) (c : Ch) (k : Nat) : ∃ d, (s.noteLoss c k).ch c = { s.ch c with diag := d } := by
  unfold State.noteLoss
  extract_lets x
  have hx : x.ch c = { s.ch c with diag := (x.ch c).diag } := by simp [x, State.updDiag]
  split
  · exact ⟨_, hx⟩
  · exact ⟨_, hx⟩

/-- A link loss records its cause. -/
theorem State.noteLoss_cause (s : State) (c : Ch) (k : Nat) :
    (isSeg c = false → (s.noteLoss c k).cg c .LINK_DROP_CAUSE = k % 2 ^ (CFld.info .LINK_DROP_CAUSE).wid) ∧
    (isSeg c = true → (s.noteLoss c k).cg c .SEG_DROP_CAUSE = k % 2 ^ (CFld.info .SEG_DROP_CAUSE).wid) := by
  unfold State.noteLoss
  constructor
  · intro h
    simp [h, State.cinc]
  · intro h
    simp [h, State.cinc]

/-- The forced stop: a link that was up is first recorded as lost where a cause is left. -/
theorem State.forceStop_eq (s : State) (c : Ch) (cause : Option Nat) :
    ∃ x, s.forceStop c cause = (x.endLine c).toStop c ∧
      (x = s ∧ (s.linkLive c = true → cause = none) ∨ ∃ k, s.linkLive c = true ∧ cause = some k ∧ x = s.noteLoss c k) := by
  unfold State.forceStop
  cases hlive : s.linkLive c <;> cases cause <;> exact ⟨_, rfl, by simp⟩

/-- Of the channel `x` a forced stop leaves all but these parts. -/
structure Chan.Forced (c : Ch) (x y : Chan) : Prop where
  rest : y = { x with
    diag := y.diag, lpi := y.lpi, link := y.link, seg := y.seg, seq := y.seq, line := y.line, queue := y.queue
    frame := y.frame }
  ing : y.queue.ing = x.queue.ing
  eg : x.queue.line = none → y.queue.eg = x.queue.eg
  link : isSeg c = false → y.link.st = .stop
  seg : isSeg c = true → y.seg.st = .stop

theorem State.forceStop_forced (s : State) (c : Ch) (cause : Option Nat) :
    Chan.Forced c (s.ch c) ((s.forceStop c cause).ch c) := by
  obtain ⟨x, heq, hx⟩ := s.forceStop_eq c cause
  have hdiag : ∃ d, x.ch c = { s.ch c with diag := d } := by
    rcases hx with ⟨rfl, -⟩ | ⟨k, -, -, rfl⟩
    · exact ⟨_, rfl⟩
    · exact s.ch_noteLoss c k
  obtain ⟨d, hd⟩ := hdiag
  have hend := x.endLine_ended c
  have hstop := (x.endLine c).toStop_stopped c
  rw [heq]
  refine ⟨?_, ?_, fun h => ?_, hstop.link, hstop.seg⟩
  · rw [hstop.rest, hend.rest, hd]
  · rw [hstop.rest, hend.ing, hd]
  · rw [hstop.rest, hend.eg (by rw [hd]; exact h), hd]

theorem Local.forceStop {s₀ s : State} {c : Ch} {cause : Option Nat} (h : Local c (fun _ => true) s₀ s) :
    Local c (fun _ => true) s₀ (s.forceStop c cause) := by
  obtain ⟨x, heq, hx⟩ := s.forceStop_eq c cause
  have hx' : Local c (fun _ => true) s₀ x := by
    rcases hx with ⟨rfl, -⟩ | ⟨k, -, -, rfl⟩
    · exact h
    · exact h.noteLoss
  rw [heq]
  exact (hx'.trans ((x.endLine_local c).mono nofun)).toStop

/-- A forced stop of a live link records the cause that is left. -/
theorem State.forceStop_cause (s : State) (c : Ch) (k : Nat) (h : s.linkLive c = true) :
    (isSeg c = false → (s.forceStop c (some k)).cg c .LINK_DROP_CAUSE = k % 2 ^ (CFld.info .LINK_DROP_CAUSE).wid) ∧
    (isSeg c = true → (s.forceStop c (some k)).cg c .SEG_DROP_CAUSE = k % 2 ^ (CFld.info .SEG_DROP_CAUSE).wid) := by
  obtain ⟨x, heq, hx⟩ := s.forceStop_eq c (some k)
  obtain rfl : x = s.noteLoss c k := by
    rcases hx with ⟨-, hx⟩ | ⟨k', -, hk, rfl⟩
    · exact absurd (hx h) nofun
    · injection hk with hk
      rw [hk]
  have hl : Local c CFld.byEnd (s.noteLoss c k) (s.forceStop c (some k)) :=
    heq ▸ ((s.noteLoss c k).endLine_local c).toStop
  obtain ⟨hlink, hseg⟩ := s.noteLoss_cause c k
  exact ⟨fun h => (hl.cg _ rfl).trans (hlink h), fun h => (hl.cg _ rfl).trans (hseg h)⟩

end Sys2Proof.Machine
end

section
namespace Sys2Proof.Machine

/-! ### A loop over the channels whose step changes one channel -/

/-- `t` agrees with `s` in the state of the part and in channel `c`. -/
structure Agrees (c : Ch) (s t : State) : Prop where
  power : t.power = s.power
  img : s.heart.img = none → t.heart.img = none
  ch : t.ch c = s.ch c
  cg : ∀ f, t.cg c f = s.cg c f

section
variable {s x t : State} {c : Ch}

theorem Agrees.refl (s : State) : Agrees c s s := ⟨rfl, id, rfl, fun _ => rfl⟩

theorem Agrees.trans (hx : Agrees c s x) (ht : Agrees c x t) : Agrees c s t :=
  ⟨ht.power.trans hx.power, ht.img ∘ hx.img, ht.ch.trans hx.ch, fun f => (ht.cg f).trans (hx.cg f)⟩

/-- What the loop makes of channel `c` is what its step makes of `c` where the state still agrees there. -/
theorem State.forCh_at {g : State → Ch → State} {s : State}
    (hpow : ∀ x d, x.power = s.power → (s.heart.img = none → x.heart.img = none) →
      (g x d).power = x.power ∧ (x.heart.img = none → (g x d).heart.img = none))
    (hother : ∀ x d e, x.power = s.power → (s.heart.img = none → x.heart.img = none) → e ≠ d → Agrees e x (g x d)) (c : Ch) :
    ∃ x, Agrees c s x ∧ Agrees c (g x c) (s.forCh g) := by
  have hskip : ∀ (l : List Ch) (y z : State), c ∉ l → Agrees c y z →
      (z.power = s.power ∧ (s.heart.img = none → z.heart.img = none)) → Agrees c y (l.foldl g z) := fun l y => by
    induction l with
    | nil => exact fun z _ hz _ => hz
    | cons d l ih =>
      intro z hc hz ⟨hzp, hzi⟩
      obtain ⟨hp, hi⟩ := hpow z d hzp hzi
      exact ih _ (fun h => hc (.tail _ h)) (hz.trans (hother z d c hzp hzi fun e => hc (e ▸ .head _)))
        ⟨hp.trans hzp, hi ∘ hzi⟩
  have hmain : ∀ (l : List Ch) (z : State), l.Nodup → c ∈ l → Agrees c s z →
      ∃ x, Agrees c s x ∧ Agrees c (g x c) (l.foldl g z) := fun l => by
    induction l with
    | nil => exact fun z _ hc => absurd hc nofun
    | cons d l ih =>
      intro z hl hc hz
      obtain ⟨hd, hl⟩ := List.nodup_cons.mp hl
      obtain ⟨hp, hi⟩ := hpow z d hz.power hz.img
      by_cases hcd : c = d
      · subst hcd
        exact ⟨z, hz, hskip l _ _ hd (.refl _) ⟨hp.trans hz.power, hi ∘ hz.img⟩⟩
      · exact ih _ hl ((List.mem_cons.mp hc).resolve_left hcd) (hz.trans (hother z d c hz.power hz.img hcd))
  exact hmain allCh s (List.nodup_finRange 32) (List.mem_finRange c) (.refl s)

theorem Local.agrees {p : CFld → Bool} {d : Ch} (h : Local d p s t) (hc : c ≠ d) : Agrees c s t :=
  ⟨h.power, h.img, h.ch c hc, fun f => h.cg_other c f hc⟩

/-- A loop of operations that each change one channel. -/
theorem State.forCh_local_at {g : State → Ch → State} {s : State}
    (hg : ∀ x d, x.power = s.power → Local d (fun _ => true) x (g x d)) (c : Ch) :
    ∃ x, Agrees c s x ∧ Agrees c (g x c) (s.forCh g) :=
  State.forCh_at (fun x d hx _ => ⟨(hg x d hx).power, (hg x d hx).img⟩) (fun x d _ hx _ he => (hg x d hx).agrees he) c

end

end Sys2Proof.Machine
end

section
namespace Sys2Proof.Machine

/-! ### Requests of a mode, but for Dormant -/

section
variable {s : State} {src : Src}

/-- A mode request is neither behind the gate nor configuration. -/
theorem State.writeRegD_modeReq (s : State) (v : Nat) (h : v % 8 ≠ 0) : s.writeRegD .pwr 4 v = s.modeReq (v % 8) := by
  simp [State.writeRegD, h]

theorem State.landD_modeReq (s : State) (v a : Nat) (h : v % 8 ≠ 0) : s.landD .pwr .plain 4 v a = s.modeReq (v % 8) := by
  rw [State.landD_plain s .pwr 4 v a (by decide +kernel) rfl, State.writeRegD_modeReq s v h]

theorem exec_modeRequest (ha : s.arrivesDev src .pwr) (v : Nat) (h : v % 8 ≠ 0) :
    s.devW src .pwr 4 v = .next ((s.modeReq (v % 8)).reply 0) := by
  rw [State.devW_outside s src .pwr 4 v (by decide +kernel) rfl ha, State.writeRegD_modeReq s v h]

/-- A channel that is brought to Standby. -/
theorem Local.padLatch {s₀ s : State} {c : Ch} {p : CFld → Bool} (h : Local c p s₀ s) : Local c p s₀ (s.padLatch c) := by
  unfold State.padLatch
  exact h.updCh

theorem State.ch_padLatch (s : State) (c : Ch) :
    ∃ b, (s.padLatch c).ch c = { s.ch c with pad := { (s.ch c).pad with held := true, term := b } } := by
  unfold State.padLatch
  exact ⟨_, (State.ch_updCh _ _ _ _).trans (if_pos rfl)⟩

theorem State.cg_padLatch (s : State) (c d : Ch) (f : CFld) : (s.padLatch c).cg d f = s.cg d f := by
  unfold State.padLatch
  exact State.cg_updCh _ _ _ _ _

theorem State.stbyCh_off {c : Ch} (h : s.powered c = false) : s.stbyCh c = s := by simp [State.stbyCh, h]

/-- A channel that may have a link is forced to STOP and IDLE. -/
theorem State.stbyCh_linked {c : Ch} (h : s.powered c = true) (hsub : (s.ch c).sub ∈ [.idle, .training, .up, .lpi]) :
    s.stbyCh c = ((s.forceStop c (some 0x07)).setSub c .idle).padLatch c := by
  simp only [List.mem_cons, List.not_mem_nil, or_false] at hsub
  rcases hsub with hsub | hsub | hsub | hsub <;> simp [State.stbyCh, h, hsub]

theorem State.stbyCh_unlinked {c : Ch} (h : s.powered c = true) (hsub : (s.ch c).sub ∉ [.idle, .training, .up, .lpi]) :
    s.stbyCh c = s.padLatch c := by
  simp only [List.mem_cons, List.not_mem_nil, or_false, not_or] at hsub
  obtain ⟨h1, h2, h3, h4⟩ := hsub
  cases hs : (s.ch c).sub <;> simp_all [State.stbyCh]

theorem State.stbyCh_local (s : State) (c : Ch) : Local c (fun _ => true) s (s.stbyCh c) := by
  unfold State.stbyCh
  extract_lets x
  have hstop : Local c (fun _ => true) s ((s.forceStop c (some 0x07)).setSub c .idle) :=
    (Local.refl s).forceStop.setSub nofun
  have hx : Local c (fun _ => true) s x := by
    unfold x
    split
    iterate 4 (next => exact hstop)
    iterate 4 (next => exact .refl s)
  exact .ite (.refl s) hx.padLatch

/-- What R301 step 2 makes of a channel. -/
structure StoodBy (c : Ch) (s t : State) : Prop where
  off : s.powered c = false → t.ch c = s.ch c
  held : s.powered c = true → (t.ch c).pad.held = true
  ing : (t.ch c).queue.ing = (s.ch c).queue.ing
  eg : (s.ch c).queue.line = none → (t.ch c).queue.eg = (s.ch c).queue.eg
  linked : s.powered c = true → (s.ch c).sub ∈ [.idle, .training, .up, .lpi] →
    (t.ch c).sub = .idle ∧ (isSeg c = false → (t.ch c).link.st = .stop) ∧ (isSeg c = true → (t.ch c).seg.st = .stop) ∧
      (s.linkLive c = true → isSeg c = false → t.cg c .LINK_DROP_CAUSE = 7) ∧
      (s.linkLive c = true → isSeg c = true → t.cg c .SEG_DROP_CAUSE = 7)
  unlinked : s.powered c = true → (s.ch c).sub ∈ [.maint, .quarantine, .sleep] →
    (t.ch c).sub = (s.ch c).sub ∧ t.cg c .LINK_DROP_CAUSE = s.cg c .LINK_DROP_CAUSE ∧
      t.cg c .SEG_DROP_CAUSE = s.cg c .SEG_DROP_CAUSE

theorem State.stbyCh_stoodBy (s : State) (c : Ch) : StoodBy c s (s.stbyCh c) := by
  by_cases hon : s.powered c = true
  case neg =>
    have hoff : s.powered c = false := by simpa using hon
    rw [State.stbyCh_off hoff]
    exact ⟨fun _ => rfl, fun h => absurd h hon, rfl, fun _ => rfl, fun h => absurd h hon, fun h => absurd h hon⟩
  have hnotoff : s.powered c ≠ false := by rw [hon]; nofun
  by_cases hsub : (s.ch c).sub ∈ [.idle, .training, .up, .lpi]
  · rw [State.stbyCh_linked hon hsub]
    have hf := s.forceStop_forced c (some 0x07)
    obtain ⟨d, g, hsetSub⟩ := (s.forceStop c (some 0x07)).ch_setSub c .idle
    have hl : Local c CFld.bySub (s.forceStop c (some 0x07)) ((s.forceStop c (some 0x07)).setSub c .idle) :=
      (Local.refl _).setSub fun _ => id
    obtain ⟨b, hpad⟩ := ((s.forceStop c (some 0x07)).setSub c .idle).ch_padLatch c
    have hcause := s.forceStop_cause c 0x07
    refine ⟨fun h => absurd h hnotoff, fun _ => ?_, ?_, fun h => ?_, fun _ _ => ⟨?_, fun h => ?_, fun h => ?_, fun hlive h => ?_,
      fun hlive h => ?_⟩, fun _ h => ?_⟩
    · rw [hpad]
    · rw [hpad, hsetSub]; exact hf.ing
    · rw [hpad, hsetSub]; exact hf.eg h
    · rw [hpad, hsetSub]
    · rw [hpad, hsetSub]; exact hf.link h
    · rw [hpad, hsetSub]; exact hf.seg h
    · exact (State.cg_padLatch _ _ _ _).trans ((hl.cg _ rfl).trans ((hcause hlive).1 h))
    · exact (State.cg_padLatch _ _ _ _).trans ((hl.cg _ rfl).trans ((hcause hlive).2 h))
    · simp only [List.mem_cons, List.not_mem_nil, or_false] at hsub h
      rcases hsub with hsub | hsub | hsub | hsub <;> simp [hsub] at h
  · rw [State.stbyCh_unlinked hon hsub]
    obtain ⟨b, hpad⟩ := s.ch_padLatch c
    exact ⟨fun h => absurd h hnotoff, fun _ => by rw [hpad], by rw [hpad], fun _ => by rw [hpad], fun _ h => absurd h hsub,
      fun _ _ => ⟨by rw [hpad], State.cg_padLatch _ _ _ _, State.cg_padLatch _ _ _ _⟩⟩

theorem StoodBy.congr {c : Ch} {s x y t : State} (h : StoodBy c x y) (hx : Agrees c s x) (ht : Agrees c y t) :
    StoodBy c s t := by
  have hpow : x.powered c = s.powered c := by simp only [State.powered, hx.ch]
  have hlive : x.linkLive c = s.linkLive c := by simp only [State.linkLive, hx.ch]
  obtain ⟨hoff, hheld, hing, heg, hlinked, hunlinked⟩ := h
  rw [hpow, hx.ch, ← ht.ch] at hoff
  rw [hpow, ← ht.ch] at hheld
  rw [hx.ch, ← ht.ch] at hing heg
  rw [hpow, hx.ch, hlive, ← ht.ch, ← ht.cg, ← ht.cg] at hlinked
  rw [hpow, hx.ch, hx.cg, hx.cg, ← ht.ch, ← ht.cg, ← ht.cg] at hunlinked
  exact ⟨hoff, hheld, hing, heg, hlinked, hunlinked⟩

theorem State.stbyAll_stoodBy (s : State) (c : Ch) : StoodBy c s (s.forCh fun s c => s.stbyCh c) := by
  obtain ⟨x, hx, ht⟩ := State.forCh_local_at (s := s) (fun x d _ => x.stbyCh_local d) c
  exact (x.stbyCh_stoodBy c).congr hx ht

theorem State.power_stbyAll (s : State) : (s.forCh fun s c => s.stbyCh c).power = s.power :=
  State.forCh_inv (fun t => t.power = s.power) s _ rfl fun x c hx => (x.stbyCh_local c).power.trans hx

/-- What a Service request does to a channel's domain. -/
def State.serviceCh (s : State) (c : Ch) : State :=
  match (s.ch c).pst with
  | .on => s.startDrain c
  | .poweringUp => s.updCh c fun x => { x with pst := .off }
  | .off | .draining | .poweringDown => s

theorem State.modeReq_service (hm : s.power.mode = .active) (hc : s.power.chg = .none) :
    s.modeReq 5 = (s.updPower fun p => { p with chg := .service }).forCh fun s c => s.serviceCh c := by
  simp only [State.modeReq, hm, hc]
  rfl

theorem State.serviceCh_local (s : State) (c : Ch) : Local c (fun _ => true) s (s.serviceCh c) := by
  unfold State.serviceCh
  split
  · exact (Local.refl s).startDrain
  · exact (Local.refl s).updCh
  all_goals exact .refl s

theorem State.serviceCh_pst (s : State) (c : Ch) :
    ((s.ch c).pst = .on → ((s.serviceCh c).ch c).pst = .draining) ∧
    ((s.ch c).pst = .poweringUp → ((s.serviceCh c).ch c).pst = .off) := by
  refine ⟨fun h => ?_, fun h => ?_⟩
  · simp only [State.serviceCh, h]
    exact s.startDrain_pst c
  · simp [State.serviceCh, h]

theorem State.modeReq_standby (hm : s.power.mode = .active) (hc : s.power.chg = .none) :
    s.modeReq 2 = (s.forCh fun s c => s.stbyCh c).updPower fun p => { p with chg := .stbyPrep } := by
  simp [State.modeReq, hm, hc]

/-- The requests that R301 and R18 do not take. -/
theorem State.modeReq_rej (v : Nat)
    (h : v = 2 ∧ (s.power.mode ≠ .active ∨ s.power.chg ≠ .none) ∨ v = 5 ∧ (s.power.mode ≠ .active ∨ s.power.chg ≠ .none) ∨
      v = 4 ∧ (s.power.mode ≠ .active ∨ s.power.chg = .none) ∨ v = 1 ∧ s.power.mode ≠ .active ∧ s.power.mode ≠ .standby) :
    s.modeReq v = s.ds .PWR_EVT_REQ_REJ 1 := by
  rcases h with ⟨rfl, h⟩ | ⟨rfl, h⟩ | ⟨rfl, h⟩ | ⟨rfl, h⟩ <;> cases hm : s.power.mode <;> simp_all [State.modeReq]

theorem exec_reqStandby_taken (ha : s.arrivesDev src .pwr) (hm : s.power.mode = .active) (hc : s.power.chg = .none) :
    ∃ t, exec (.reqStandby src) s = .next t ∧ t.power.chg = .stbyPrep ∧ t.power.mode = .active ∧ ∀ c, StoodBy c s t := by
  refine ⟨_, exec_modeRequest ha 2 (by decide), ?_⟩
  rw [State.modeReq_standby hm hc]
  have hpow := s.power_stbyAll
  have hall := s.stbyAll_stoodBy
  generalize (s.forCh fun s c => s.stbyCh c) = x at hpow hall ⊢
  refine ⟨rfl, by rw [State.power_reply, State.power_updPower, hpow]; exact hm, fun c => ?_⟩
  obtain ⟨hoff, hheld, hing, heg, hlinked, hunlinked⟩ := hall c
  exact ⟨hoff, hheld, hing, heg, hlinked, hunlinked⟩

theorem exec_reqService_taken (ha : s.arrivesDev src .pwr) (hm : s.power.mode = .active) (hc : s.power.chg = .none) :
    ∃ t, exec (.reqService src) s = .next t ∧ t.power.chg = .service ∧ t.power.mode = .active ∧
      ∀ c, ((s.ch c).pst = .on → (t.ch c).pst = .draining) ∧ ((s.ch c).pst = .poweringUp → (t.ch c).pst = .off) := by
  refine ⟨_, exec_modeRequest ha 5 (by decide), ?_⟩
  rw [State.modeReq_service hm hc]
  have hpow : ((s.updPower fun p => { p with chg := .service }).forCh fun s c => s.serviceCh c).power =
      { s.power with chg := .service } :=
    State.forCh_inv (fun t => t.power = { s.power with chg := .service }) _ _ rfl
      fun x c hx => (x.serviceCh_local c).power.trans hx
  rw [State.power_reply, hpow]
  refine ⟨rfl, hm, fun c => ?_⟩
  obtain ⟨x, hx, ht⟩ := State.forCh_local_at (s := s.updPower fun p => { p with chg := .service })
    (fun x d _ => x.serviceCh_local d) c
  have hpst := x.serviceCh_pst c
  rw [hx.ch, ← ht.ch] at hpst
  rw [State.ch_reply]
  exact hpst

end

end Sys2Proof.Machine
end

section
namespace Sys2Proof.Machine

/-! ### What the end of an operation, of a session and of a domain leaves alone

`Calm R` says of two states that the power manager's state, the clocks' state, the cause of the last reset and a closed KEYGATE stay, that
Heartwood takes up no image, and that `R` relates the channels before and after. -/

/-- The device fields that only a reset and KEYGATE itself write. -/
def DFld.byReset : DFld → Bool
  | .TAP_RSTCAUSE_KIND | .KEYGATE_OPEN => true
  | _ => false

structure Calm (R : Chan → Chan → Prop) (s t : State) : Prop where
  power : t.power = s.power
  img : s.heart.img = none → t.heart.img = none
  clock : t.clock = s.clock
  ch : ∀ d, R (s.ch d) (t.ch d)
  kind : t.dg .TAP_RSTCAUSE_KIND = s.dg .TAP_RSTCAUSE_KIND
  gate : s.dg .KEYGATE_OPEN = 0 → t.dg .KEYGATE_OPEN = 0

/-- As `Calm`, saying nothing of the channels. -/
abbrev CalmAny : State → State → Prop := Calm fun _ _ => True

section
variable {R : Chan → Chan → Prop} {s₀ s x y t : State} {c : Ch}

theorem Calm.refl (hR : ∀ x, R x x) (s : State) : Calm R s s := ⟨rfl, id, rfl, fun _ => hR _, rfl, id⟩

theorem Calm.any (h : Calm R s t) : CalmAny s t := ⟨h.power, h.img, h.clock, fun _ => trivial, h.kind, h.gate⟩

/-- A change that leaves the channels, the power manager and the two fields. -/
theorem Calm.step (h : Calm R s₀ s) (hpower : t.power = s.power) (himg : s.heart.img = none → t.heart.img = none)
    (hch : ∀ d, t.ch d = s.ch d) (hdg : ∀ f, f.byReset = true → t.dg f = s.dg f)
    (hclock : t.clock = s.clock := by rfl) : Calm R s₀ t where
  power := hpower.trans h.power
  img := himg ∘ h.img
  clock := hclock.trans h.clock
  ch d := hch d ▸ h.ch d
  kind := (hdg _ rfl).trans h.kind
  gate h0 := (hdg _ rfl).trans (h.gate h0)

theorem Calm.frame (h : Calm R s₀ s) (hregs : t.regs = s.regs) (hchans : t.chans = s.chans) (hpower : t.power = s.power)
    (himg : s.heart.img = none → t.heart.img = none := by exact id) (hclock : t.clock = s.clock := by rfl) : Calm R s₀ t :=
  h.step hpower himg (fun d => by simp only [State.ch, hchans]) (fun f _ => State.dg_of_regs hregs f) hclock

theorem Calm.host {v} (h : Calm R s₀ s) : Calm R s₀ { s with host := v } := h.frame rfl rfl rfl
theorem Calm.canopy {v} (h : Calm R s₀ s) : Calm R s₀ { s with canopy := v } := h.frame rfl rfl rfl
theorem Calm.integ {v} (h : Calm R s₀ s) : Calm R s₀ { s with integ := v } := h.frame rfl rfl rfl
theorem Calm.updOtp {g} (h : Calm R s₀ s) : Calm R s₀ (s.updOtp g) := h.frame rfl rfl rfl
theorem Calm.fresh (h : Calm R s₀ s) : Calm R s₀ { s with free := s.free + 1 } := h.frame rfl rfl rfl

theorem Calm.ds {f v} (h : Calm R s₀ s) (hf : f.byReset = false) : Calm R s₀ (s.ds f v) :=
  h.step rfl id (fun _ => rfl) fun g hg => by
    have hne : g ≠ f := by rintro rfl; exact absurd (hg.symm.trans hf) nofun
    simp [hne]

theorem Calm.dinc {f n} (h : Calm R s₀ s) (hf : f.byReset = false) : Calm R s₀ (s.dinc f n) := h.ds hf

/-- KEYGATE closes. -/
theorem Calm.shut (h : Calm R s₀ s) : Calm R s₀ (s.ds .KEYGATE_OPEN 0) :=
  ⟨h.power, h.img, h.clock, h.ch, (State.dg_ds _ _ _ _).trans h.kind, fun _ => by simp⟩

theorem Calm.cs {f v} (h : Calm R s₀ s) : Calm R s₀ (s.cs c f v) := h.step rfl id (fun _ => rfl) fun _ _ => State.dg_cs _ _ _ _ _

theorem Calm.cinc {f n} (h : Calm R s₀ s) : Calm R s₀ (s.cinc c f n) := h.cs

theorem Calm.voteBit {bit b} (h : Calm R s₀ s) : Calm R s₀ (s.voteBit c bit b) := h.cs

theorem Calm.clearFields {p} (h : Calm R s₀ s) (hp : ∀ f : DFld, f.byReset = true → p (.dev f) = false) :
    Calm R s₀ (s.clearFields p) :=
  h.step rfl id (fun _ => rfl) fun f hf => State.rd_clearFields_of_not (hp f hf)

theorem Calm.ite {b : Prop} {_ : Decidable b} (hx : Calm R s₀ x) (hy : Calm R s₀ y) : Calm R s₀ (if b then x else y) :=
  iteInduction (fun _ => hx) fun _ => hy

theorem Calm.foldl {α : Type} {g : State → α → State} {l : List α} (h : Calm R s₀ s)
    (hg : ∀ {x a}, Calm R s₀ x → Calm R s₀ (g x a)) : Calm R s₀ (l.foldl g s) :=
  List.foldlRecOn l g h fun _ hx _ _ => hg hx

theorem Calm.forCh {g : State → Ch → State} (h : Calm R s₀ s) (hg : ∀ {x c}, Calm R s₀ x → Calm R s₀ (g x c)) :
    Calm R s₀ (s.forCh g) := h.foldl hg

theorem DFld.byReset_iff {f : DFld} : f.byReset = true ↔ f = .TAP_RSTCAUSE_KIND ∨ f = .KEYGATE_OPEN := by
  unfold DFld.byReset
  split <;> simp_all

/-! Canopy's records -/

theorem Calm.setRecWord {j w v} (h : Calm R s₀ s) : Calm R s₀ (s.setRecWord j w v) := by
  unfold State.setRecWord
  split
  · exact h.cs
  · exact h.ds rfl

theorem Calm.pend {cl w0 w1 w2 w3} (h : Calm R s₀ s) : Calm R s₀ (s.pend cl w0 w1 w2 w3) :=
  .ite (.ite (h.ds rfl).canopy (h.ds rfl)) h

/-- The record of a device source. -/
theorem Calm.record_dev {i kind addr forced} (h : Calm R s₀ s) : Calm R s₀ (s.record (.dev i) kind addr forced).1 := by
  unfold State.record
  extract_lets cl dry t w0 s1
  have h1 : Calm R s₀ s1 := (h.dinc rfl |>.ds rfl |>.ds rfl).canopy
  clear_value s1
  split
  · exact h1.setRecWord.dinc rfl |>.ds rfl
  · have hfirst : ∀ a b d, Calm R s₀ (((((s1.setRecWord .dev 0 w0).setRecWord .dev 1 a).setRecWord .dev 2 b).setRecWord .dev 3
        d).dinc .FC_FIRSTCNT_COUNT) := fun a b d => h1.setRecWord.setRecWord.setRecWord.setRecWord.dinc rfl
    split
    · exact (h1.dinc rfl |>.ds rfl).pend
    · exact (hfirst _ _ _).canopy.pend

/-! Sessions -/

theorem Calm.blkOff {p} (h : Calm R s₀ s) : Calm R s₀ (s.blkOff p) := by
  unfold State.blkOff
  refine h.integ.clearFields fun f hf => ?_
  rcases DFld.byReset_iff.mp hf with rfl | rfl <;> rfl

theorem Calm.dbgPower (h : Calm R s₀ s) : Calm R s₀ s.dbgPower := by
  refine .ite h ?_
  extract_lets s1
  have h1 : Calm R s₀ s1 := h.blkOff.clearFields fun f hf => by rcases DFld.byReset_iff.mp hf with rfl | rfl <;> rfl
  clear_value s1
  exact h1.frame rfl rfl rfl

theorem Calm.dropNonce (h : Calm R s₀ s) : Calm R s₀ s.dropNonce :=
  (h.ds rfl).clearFields fun f hf => by rcases DFld.byReset_iff.mp hf with rfl | rfl <;> rfl

theorem Calm.closeSession {cause} (h : Calm R s₀ s) : Calm R s₀ (s.closeSession cause) := by
  unfold State.closeSession
  extract_lets mask s1 s2 s3 d j s4
  have h2 : Calm R s₀ s2 := h.ds rfl |>.ds rfl |>.ds rfl |>.ds rfl |>.ds rfl |>.ds rfl |>.ds rfl |>.ds rfl
  have h3 : Calm R s₀ s3 := h2.forCh fun h => h.voteBit
  have h4 : Calm R s₀ s4 := h3.frame rfl rfl rfl
  exact h4.record_dev

/-! What is staged -/

theorem Calm.updHeart {g} (h : Calm R s₀ s) (hg : ∀ x : HeartSt, x.img = none → (g x).img = none) :
    Calm R s₀ (s.updHeart g) := h.frame rfl rfl rfl (hg _)

theorem Calm.clearToken (h : Calm R s₀ s) : Calm R s₀ s.clearToken :=
  h.clearFields fun f hf => by rcases DFld.byReset_iff.mp hf with rfl | rfl <;> rfl

theorem Calm.clearStaging (h : Calm R s₀ s) : Calm R s₀ s.clearStaging := by
  have hdata : Calm R s₀ (s.updHeart fun h => { h with data := [] }) := h.updHeart fun _ => id
  exact hdata.clearFields fun f hf => by rcases DFld.byReset_iff.mp hf with rfl | rfl <;> rfl

theorem Calm.clearKeyHash (h : Calm R s₀ s) : Calm R s₀ s.clearKeyHash :=
  h.clearFields fun f hf => by rcases DFld.byReset_iff.mp hf with rfl | rfl <;> rfl

theorem Calm.clearAnonce (h : Calm R s₀ s) : Calm R s₀ s.clearAnonce :=
  h.clearFields fun f hf => by rcases DFld.byReset_iff.mp hf with rfl | rfl <;> rfl

theorem Calm.clearStaged (h : Calm R s₀ s) : Calm R s₀ s.clearStaged := by
  unfold State.clearStaged
  extract_lets s1
  have h1 : Calm R s₀ s1 := h.clearKeyHash
  clear_value s1
  split
  · exact h1.clearStaging.clearAnonce
  · exact h1.clearStaging.clearAnonce
  · exact h1.clearToken.clearStaging
  · exact .ite h1.clearToken.clearStaging.clearAnonce h1.clearToken.clearAnonce
  all_goals exact h1.clearToken.clearStaging.clearAnonce

/-! Operations that are cut -/

theorem Calm.lcStep {lc} (h : Calm R s₀ s) : Calm R s₀ (s.lcStep lc) := h.updOtp.ds rfl

theorem Calm.lcCut {op} (h : Calm R s₀ s) : Calm R s₀ (s.lcCut op) := by
  unfold State.lcCut
  split
  · exact h.fresh.updOtp.lcStep
  · exact h.lcStep
  · exact h

theorem Calm.rbCut {cnt v} (h : Calm R s₀ s) : Calm R s₀ (s.rbCut cnt v) := .ite (h.fresh.updOtp.ds rfl) h.fresh.updOtp

theorem Calm.heartRes {op status reason} (h : Calm R s₀ s) : Calm R s₀ (s.heartRes op status reason) :=
  .ite (h.ds rfl |>.ds rfl |>.ds rfl |>.ds rfl |>.ds rfl) (h.ds rfl |>.ds rfl |>.ds rfl |>.ds rfl)

/-! With the votes that a session takes with it -/

theorem Calm.endSession {cause} (hv : ∀ {x c}, Calm R s₀ x → Calm R s₀ (x.voteChanged c)) (h : Calm R s₀ s) :
    Calm R s₀ (s.endSession cause) := by
  unfold State.endSession
  exact .ite (.dbgPower (h.closeSession.forCh fun h => .ite (hv h) h)) h

theorem Calm.endHeart (hv : ∀ {x c}, Calm R s₀ x → Calm R s₀ (x.voteChanged c)) (h : Calm R s₀ s) :
    Calm R s₀ s.endHeart := by
  unfold State.endHeart
  refine Calm.updHeart (Calm.ds ?_ rfl) fun _ _ => rfl
  split
  · exact h.rbCut
  · exact .ite h.fresh.updOtp h.fresh
  · exact .ite (.ite (h.fresh.updOtp.endSession hv) h.fresh.updOtp) h.fresh
  · exact .ite ((h.fresh.updOtp.ds rfl).endSession hv) h.fresh
  · exact .ite (h.fresh.lcCut.endSession hv) h.fresh
  · exact .ite (h.fresh.lcCut.endSession hv) h.fresh
  all_goals exact h

theorem Calm.resetDebug (hv : ∀ {x c}, Calm R s₀ x → Calm R s₀ (x.voteChanged c)) (h : Calm R s₀ s) :
    Calm R s₀ s.resetDebug := (h.endSession hv).dropNonce.clearStaged.shut

theorem State.img_endHeart (s : State) : s.endHeart.heart.img = none := rfl

end

end Sys2Proof.Machine
end

section
namespace Sys2Proof.Machine

/-! ### A domain powers off -/

section
variable {s₀ s t : State} {c : Ch} {p : CFld → Bool}

theorem Calm.local (h : CalmAny s₀ s) (hl : Local c p s t) : CalmAny s₀ t :=
  ⟨hl.power.trans h.power, hl.img ∘ h.img, hl.clock.trans h.clock, fun _ => trivial, (hl.dg _ rfl).trans h.kind, fun h0 => (hl.dg _ rfl).trans (h.gate h0)⟩

theorem Calm.updCh {g} (h : CalmAny s₀ s) : CalmAny s₀ (s.updCh c g) := h.local (Local.refl (p := fun _ => true) s).updCh

theorem Calm.updSeq {g} (h : CalmAny s₀ s) : CalmAny s₀ (s.updSeq c g) := h.updCh
theorem Calm.updGraft {g} (h : CalmAny s₀ s) : CalmAny s₀ (s.updGraft c g) := h.updCh
theorem Calm.updQ {g} (h : CalmAny s₀ s) : CalmAny s₀ (s.updQ c g) := h.updCh

theorem Calm.resync (h : CalmAny s₀ s) : CalmAny s₀ (s.resync c) := h.local (Local.refl (p := fun _ => true) s).resync

theorem Calm.cancelDrain (h : CalmAny s₀ s) : CalmAny s₀ (s.cancelDrain c) :=
  h.local (Local.refl (p := fun _ => true) s).cancelDrain

theorem Calm.voteUp (h : CalmAny s₀ s) : CalmAny s₀ (s.voteUp c) := h.local (Local.refl (p := fun _ => true) s).voteUp

theorem Calm.startDrain (h : CalmAny s₀ s) : CalmAny s₀ (s.startDrain c) :=
  h.local (Local.refl (p := fun _ => true) s).startDrain

theorem Calm.forceStop {k} (h : CalmAny s₀ s) : CalmAny s₀ (s.forceStop c k) := h.local (Local.refl s).forceStop

theorem Calm.setSub {n} (h : CalmAny s₀ s) : CalmAny s₀ (s.setSub c n) :=
  h.local ((Local.refl (p := CFld.bySub) s).setSub fun _ => id)

theorem Calm.padLatch (h : CalmAny s₀ s) : CalmAny s₀ (s.padLatch c) :=
  h.local (Local.refl (p := fun _ => true) s).padLatch

theorem Calm.seqStop (h : CalmAny s₀ s) : CalmAny s₀ (s.seqStop c) := h.updSeq

theorem Calm.setLive_ch {k b} (h : CalmAny s₀ s) : CalmAny s₀ (s.setLive (.ch c k) b) := by
  unfold State.setLive
  dsimp -zeta only
  extract_lets was s1 s2
  have h1 : CalmAny s₀ s1 := h.cs
  have h2 : CalmAny s₀ s2 := .ite h1.cs h1
  exact .ite (.ite h2 h2.cs) h1

/-! What lies outside the channel -/

/-- An operation that, of the other channels, changes nothing. -/
structure Apart (c : Ch) (s t : State) : Prop where
  power : t.power = s.power
  img : s.heart.img = none → t.heart.img = none
  ch : ∀ e, e ≠ c → t.ch e = s.ch e
  cg : ∀ e f, e ≠ c → t.cg e f = s.cg e f

theorem Apart.refl (s : State) : Apart c s s := ⟨rfl, id, fun _ _ => rfl, fun _ _ _ => rfl⟩

theorem Apart.trans {x : State} (hx : Apart c s x) (ht : Apart c x t) : Apart c s t :=
  ⟨ht.power.trans hx.power, ht.img ∘ hx.img, fun e he => (ht.ch e he).trans (hx.ch e he),
    fun e f he => (ht.cg e f he).trans (hx.cg e f he)⟩

theorem Apart.agrees {e : Ch} (h : Apart c s t) (he : e ≠ c) : Agrees e s t :=
  ⟨h.power, h.img, h.ch e he, fun f => h.cg e f he⟩

theorem Apart.local (h : Apart c s₀ s) (hl : Local c p s t) : Apart c s₀ t :=
  h.trans ⟨hl.power, hl.img, hl.ch, hl.cg_other⟩

theorem Apart.updCh {g} (h : Apart c s₀ s) : Apart c s₀ (s.updCh c g) :=
  h.local (Local.refl (p := fun _ => true) s).updCh

theorem Apart.seqStop (h : Apart c s₀ s) : Apart c s₀ (s.seqStop c) := by
  unfold State.seqStop State.updSeq
  exact h.updCh

theorem Apart.cs {f v} (h : Apart c s₀ s) : Apart c s₀ (s.cs c f v) :=
  h.local ((Local.refl (p := fun _ => true) s).cs rfl)

theorem Apart.ds {f v} (h : Apart c s₀ s) : Apart c s₀ (s.ds f v) :=
  h.trans ⟨rfl, id, fun _ _ => rfl, fun _ _ _ => by simp⟩

theorem Apart.ite {b : Prop} {_ : Decidable b} {x y : State} (hx : Apart c s₀ x) (hy : Apart c s₀ y) :
    Apart c s₀ (if b then x else y) := iteInduction (fun _ => hx) fun _ => hy

theorem Apart.foldl {α : Type} {g : State → α → State} {l : List α} (h : Apart c s₀ s)
    (hg : ∀ {x a}, Apart c s₀ x → Apart c s₀ (g x a)) : Apart c s₀ (l.foldl g s) :=
  List.foldlRecOn l g h fun _ hx _ _ => hg hx

theorem Apart.clearFields {q} (h : Apart c s₀ s) (hq : ∀ e f, e ≠ c → q (.ch e f) = false) :
    Apart c s₀ (s.clearFields q) :=
  h.trans ⟨rfl, id, fun _ _ => rfl, fun e f he => State.rd_clearFields_of_not (hq e f he)⟩

theorem Apart.integ {v} (h : Apart c s₀ s) : Apart c s₀ { s with integ := v } :=
  h.trans ⟨rfl, id, fun _ _ => rfl, fun _ _ _ => rfl⟩

theorem Apart.setLive {k b} (h : Apart c s₀ s) : Apart c s₀ (s.setLive (.ch c k) b) := by
  unfold State.setLive
  dsimp -zeta only
  extract_lets was s1 s2
  have h1 : Apart c s₀ s1 := h.cs
  have h2 : Apart c s₀ s2 := .ite h1.cs h1
  exact .ite (.ite h2 h2.cs) h1

theorem Apart.blkOff (h : Apart c s₀ s) : Apart c s₀ (s.blkOff (inDomain c)) := by
  unfold State.blkOff
  refine h.integ.clearFields fun e f he => ?_
  split
  next heq =>
    injection heq with he' _
    simp [inDomain, ← he', he]
  next heq => cases heq
  next => rfl

theorem Apart.zeroKeys (h : Apart c s₀ s) : Apart c s₀ (s.zeroKeys c) := by
  unfold State.zeroKeys
  refine h.updCh.clearFields fun e f he => ?_
  split <;> simp_all

theorem Apart.loseE {b} (h : Apart c s₀ s) : Apart c s₀ (s.loseE c b) := by
  unfold State.loseE
  exact (h.zeroKeys.clearFields fun e f he => by simp [he]).updCh

theorem Apart.loseF (h : Apart c s₀ s) : Apart c s₀ (s.loseF c) := by
  unfold State.loseF
  exact (h.clearFields fun e f he => by simp [he]).updCh

/-- Without an image being loaded Heartwood goes on with nothing. -/
theorem State.feed_idle (h : s.heart.img = none) : s.feed = s := by
  unfold State.feed
  rw [h]

/-- A load that the power-off abandons (R348, R355), with no image accepted. -/
theorem State.abandonLoad_idle (c : Ch) (h : s.heart.img = none) :
    (s.abandonLoad c).power = s.power ∧ (s.abandonLoad c).heart.img = none ∧
      (∃ q, (s.abandonLoad c).ch c = { s.ch c with seq := q }) ∧ Apart c s (s.abandonLoad c) := by
  unfold State.abandonLoad
  extract_lets l x
  split
  · exact ⟨rfl, h, ⟨_, rfl⟩, .refl s⟩
  · have hx : Apart c s x := ((Apart.refl s).updCh.cs).cs
    have hch : ∃ q, x.ch c = { s.ch c with seq := q } := 
      ⟨(x.ch c).seq, by simp [x, State.updSeq, State.voteBit]⟩
    have himg : x.heart.img = none := h
    clear_value x
    split
    · rw [State.feed_idle (by exact himg)]
      exact ⟨hx.power, himg, hch, hx.trans ⟨rfl, fun _ => himg, fun _ _ => rfl, fun _ _ _ => rfl⟩⟩
    · exact ⟨hx.power, himg, hch, hx⟩

theorem State.ch_setLive (s : State) (c d : Ch) (k : Fin 12) (b : Bool) : (s.setLive (.ch c k) b).ch d = s.ch d := by
  unfold State.setLive
  dsimp only
  split_ifs <;> rfl

theorem State.ch_foldl_setLive (c d : Ch) (l : List (Fin 12)) (s : State) :
    (l.foldl (fun s k => s.setLive (.ch c k) false) s).ch d = s.ch d := by
  induction l generalizing s with
  | nil => rfl
  | cons k l ih => exact (ih _).trans (s.ch_setLive c d k false)

theorem State.pad_loseF (s : State) (c : Ch) : ((s.loseF c).ch c).pad = (s.ch c).pad := by simp [State.loseF]

theorem State.pad_loseE (s : State) (c : Ch) (b : Bool) : ((s.loseE c b).ch c).pad = (s.ch c).pad := by
  simp [State.loseE, State.zeroKeys, State.updF]

/-- Step 5 of R298, with no image accepted: the domain is off, and its pads stay held. -/
theorem State.powerOff_idle (c : Ch) (h : s.heart.img = none) :
    Apart c s (s.powerOff c) ∧ ((s.powerOff c).ch c).pst = .off ∧
      ((s.powerOff c).ch c).pad.held = (s.ch c).pad.held := by
  have hsend := (Sends.refl s).resync (c := c)
  unfold State.powerOff
  extract_lets s1 s2 s3 s4 s5 s6 s7 s8
  have h1 : Apart c s s1 := (((Apart.refl s).local (Local.refl (p := fun _ => true) s).resync).cs).loseF
  have h2 : Apart c s s2 := h1.loseE.updCh
  have h4 : Apart c s s4 := h2.blkOff.foldl fun h => h.setLive
  have h6 : Apart c s s6 := h4.setLive.updCh
  have h8 : Apart c s s8 := .ite h6.ds.ds h6.ds
  have hpad1 : (s1.ch c).pad = (s.ch c).pad := (State.pad_loseF _ c).trans (by rw [State.voteBit, State.ch_cs, hsend.ch])
  have hpad2 : (s2.ch c).pad = (s.ch c).pad := by
    rw [← hpad1, ← s1.pad_loseE c false]
    simp [s2, State.updGraft]
  have hpad5 : (s5.ch c).pad = (s.ch c).pad := by
    have h5 : s5.ch c = s2.ch c :=
      (State.ch_setLive _ _ _ _ _).trans ((State.ch_foldl_setLive c c _ s3).trans (by simp [s3, State.blkOff, State.ch]))
    rw [h5, hpad2]
  have hc6 : (s6.ch c).pst = .off ∧ (s6.ch c).pad.held = (s5.ch c).pad.held := by simp [s6]
  have hc8 : s8.ch c = s6.ch c := by
    unfold s8
    split <;> rfl
  obtain ⟨-, -, ⟨q, hq⟩, hapart⟩ := State.abandonLoad_idle (s := s8.cs c .CHPWR_EVT_OFF 1) c (h8.img h)
  refine ⟨h8.cs.trans hapart, ?_, ?_⟩
  · rw [hq, State.ch_cs, hc8]
    exact hc6.1
  · rw [hq, State.ch_cs, hc8, ← hpad5]
    exact hc6.2

/-! Steps 1 to 4 of R298 -/

theorem Sends.foldl_send {α : Type} (m : α → OutMsg) (l : List α) (s : State) :
    Sends s (l.foldl (fun s a => s.send (m a)) s) := (Sends.refl s).foldl fun h => h.send

theorem Local.answerFlush (h : Local c (fun _ => true) s₀ s) : Local c (fun _ => true) s₀ (s.answerFlush c) := by
  unfold State.answerFlush
  extract_lets q x
  have hx : Local c (fun _ => true) s₀ (x.cs c .Q_EVT_FLUSH_DONE 1) := h.updQ.cs rfl
  exact .ite h (hx.trans (Sends.foldl_send _ _ _).local)

theorem State.posted_answerFlush (s : State) (c : Ch) : ((s.answerFlush c).ch c).posted = (s.ch c).posted := by
  unfold State.answerFlush
  extract_lets q x
  split
  · rfl
  · rw [(Sends.foldl_send _ _ _).ch]
    simp [x, State.updQ]

theorem State.posted_dropEgCls (s : State) (c : Ch) (k : Fin 8) (r : Nat) :
    ((s.dropEgCls c k r).ch c).posted = (s.ch c).posted := by
  unfold State.dropEgCls
  rw [State.ch_freeCells]
  simp [State.acctEg, State.updF, State.updQ]

theorem State.posted_dropInCls (s : State) (c : Ch) (k : Fin 8) (g : InFrame → Bool) :
    ((s.dropInCls c k g).ch c).posted = (s.ch c).posted := by
  simp [State.dropInCls, State.acctIn, State.updF, State.updQ]

theorem State.posted_dropAll (s : State) (c : Ch) : ((s.dropAll c).ch c).posted = (s.ch c).posted := by
  have hclasses : ∀ (l : List (Fin 8)) (x : State),
      ((l.foldl (fun s k => (s.dropEgCls c k rFlush).dropInCls c k fun _ => true) x).ch c).posted = (x.ch c).posted :=
    fun l => by
      induction l with
      | nil => exact fun _ => rfl
      | cons k l ih => exact fun x => (ih _).trans ((State.posted_dropInCls _ _ _ _).trans (State.posted_dropEgCls _ _ _ _))
  unfold State.dropAll
  extract_lets x
  rw [hclasses, show x.ch c = (s.dropLine c rFlush).ch c from rfl, (s.dropLine_lineEnded c rFlush).rest]

/-- Until step 5 the domain is on its way off with its pads held, and what is posted to it waits. -/
theorem State.offBegin_frame (s : State) (c : Ch) :
    Apart c s (s.offBegin c) ∧ ((s.offBegin c).ch c).pst = .poweringDown ∧ ((s.offBegin c).ch c).pad.held = true ∧
      ((s.offBegin c).ch c).posted = (s.ch c).posted := by
  have hflush : Local c (fun _ => true) s (((s.forceStop c none).dropAll c).answerFlush c) :=
    (Local.refl s).forceStop.dropAll.answerFlush
  have hx := (Apart.refl s).local (hflush.setSub (n := .off) nofun)
  obtain ⟨d, g, hset⟩ := (((s.forceStop c none).dropAll c).answerFlush c).ch_setSub c .off
  have hposted : (((((s.forceStop c none).dropAll c).answerFlush c).setSub c .off).ch c).posted = (s.ch c).posted := by
    have hstop : ((s.forceStop c none).ch c).posted = (s.ch c).posted := by rw [(s.forceStop_forced c none).rest]
    rw [hset, ← hstop, ← (s.forceStop c none).posted_dropAll c]
    dsimp only
    exact ((s.forceStop c none).dropAll c).posted_answerFlush c
  unfold State.offBegin
  generalize (((s.forceStop c none).dropAll c).answerFlush c).setSub c .off = x at hx hposted ⊢
  dsimp only
  have hy : Apart c s (((x.seqStop c).zeroKeys c).padLatch c) :=
    hx.seqStop.zeroKeys.local (Local.refl (p := fun _ => true) _).padLatch
  obtain ⟨b, hb⟩ := ((x.seqStop c).zeroKeys c).ch_padLatch c
  have hpad : ((((x.seqStop c).zeroKeys c).padLatch c).ch c).pad.held = true ∧
      ((((x.seqStop c).zeroKeys c).padLatch c).ch c).posted = (x.ch c).posted := by
    rw [hb]
    simp [State.seqStop, State.updSeq, State.zeroKeys, State.updF]
  rw [State.ch_updCh, if_pos rfl]
  exact ⟨hy.updCh, rfl, hpad.1, hpad.2.trans hposted⟩

/-- A domain powers off at once where nothing is posted to it, and else waits for what is (R402). -/
theorem State.offNow_idle (c : Ch) (h : s.heart.img = none) :
    Apart c s (s.offNow c) ∧ ((s.offNow c).ch c).pad.held = true ∧
      (((s.ch c).posted = [] → ((s.offNow c).ch c).pst = .off) ∧
        (((s.offNow c).ch c).pst = .off ∨ ((s.offNow c).ch c).pst = .poweringDown)) := by
  obtain ⟨hapart, hpst, hpad, hposted⟩ := s.offBegin_frame c
  unfold State.offNow
  generalize s.offBegin c = x at hapart hpst hpad hposted ⊢
  dsimp only
  split
  · obtain ⟨ho, hpo, hpad'⟩ := State.powerOff_idle c (hapart.img h)
    exact ⟨hapart.trans ho, hpad'.trans hpad, fun _ => hpo, .inl hpo⟩
  next hwait => exact ⟨hapart, hpad, fun h => absurd (by simp [hposted, h]) hwait, .inr hpst⟩

theorem State.domainOff_idle (c : Ch) (h : s.heart.img = none) (hpad : (s.ch c).pad.held = true) :
    Apart c s (s.domainOff c) ∧ ((s.domainOff c).ch c).pad.held = true ∧
      ((s.ch c).posted = [] → (s.ch c).pst ≠ .poweringDown → ((s.domainOff c).ch c).pst = .off) ∧
      (((s.domainOff c).ch c).pst = .off ∨ ((s.domainOff c).ch c).pst = .poweringDown) := by
  obtain ⟨hoff, hheld, hempty, hpst⟩ := State.offNow_idle (s := s) c h
  unfold State.domainOff
  split
  next => exact ⟨hoff, hheld, fun h _ => hempty h, hpst⟩
  next => exact ⟨hoff, hheld, fun h _ => hempty h, hpst⟩
  next => exact ⟨(Apart.refl s).updCh, by simpa using hpad, fun _ _ => by simp, .inl (by simp)⟩
  next hp => exact ⟨.refl s, hpad, fun _ _ => hp, .inl hp⟩
  next hp => exact ⟨.refl s, hpad, fun _ h => absurd hp h, .inr hp⟩

end

end Sys2Proof.Machine
end

section
namespace Sys2Proof.Machine

/-! ### The commit point of Dormant entry -/

section
variable {s₀ s t : State} {c : Ch}

theorem Calm.dropAll (h : CalmAny s₀ s) : CalmAny s₀ (s.dropAll c) := h.local (Local.refl (p := fun _ => true) s).dropAll

theorem Calm.answerFlush (h : CalmAny s₀ s) : CalmAny s₀ (s.answerFlush c) := h.local (Local.refl s).answerFlush

theorem Calm.zeroKeys (h : CalmAny s₀ s) : CalmAny s₀ (s.zeroKeys c) := by
  unfold State.zeroKeys
  exact Calm.clearFields (Calm.updCh h) fun _ _ => rfl

theorem Calm.loseE {b} (h : CalmAny s₀ s) : CalmAny s₀ (s.loseE c b) := by
  unfold State.loseE
  exact Calm.updCh (Calm.clearFields h.zeroKeys fun _ _ => rfl)

theorem Calm.loseF (h : CalmAny s₀ s) : CalmAny s₀ (s.loseF c) := by
  unfold State.loseF
  exact Calm.updCh (Calm.clearFields h fun _ _ => rfl)

theorem Calm.startLoad {l} (h : CalmAny s₀ s) : CalmAny s₀ (s.startLoad c l) := by
  unfold State.startLoad
  exact h.updSeq

theorem Calm.feed (h : CalmAny s₀ s) : CalmAny s₀ s.feed := by
  unfold State.feed
  split
  · exact h
  · exact .ite h.voteBit.voteUp.startLoad h.voteBit.voteUp
  · exact h.heartRes.clearStaging.updHeart fun _ _ => rfl

theorem Calm.abandonLoad (h : CalmAny s₀ s) : CalmAny s₀ (s.abandonLoad c) := by
  unfold State.abandonLoad
  extract_lets l x
  have hx : CalmAny s₀ x := h.updSeq.voteBit.cs
  have htodo : CalmAny s₀ (x.updHeart fun h => { h with todo := h.todo.drop 1 }) := hx.updHeart fun _ => id
  exact .ite h (.ite htodo.feed hx)

theorem Calm.offBegin (h : CalmAny s₀ s) : CalmAny s₀ (s.offBegin c) := by
  unfold State.offBegin
  exact Calm.updCh h.forceStop.dropAll.answerFlush.setSub.seqStop.zeroKeys.padLatch

theorem Calm.powerOff (h : CalmAny s₀ s) : CalmAny s₀ (s.powerOff c) := by
  unfold State.powerOff
  extract_lets s1 s2 s3 s4 s5 s6 s7 s8
  have h3 : CalmAny s₀ s3 := (h.resync.voteBit.loseF.loseE.updGraft).blkOff
  have h4 : CalmAny s₀ s4 := h3.foldl fun h => h.setLive_ch
  have h7 : CalmAny s₀ s7 := (Calm.updCh h4.setLive_ch).ds rfl
  have h8 : CalmAny s₀ s8 := .ite (h7.ds rfl) h7
  exact h8.cs.abandonLoad

theorem Calm.offNow (h : CalmAny s₀ s) : CalmAny s₀ (s.offNow c) := by
  unfold State.offNow
  exact .ite h.offBegin.powerOff h.offBegin

theorem Calm.domainOff (h : CalmAny s₀ s) : CalmAny s₀ (s.domainOff c) := by
  unfold State.domainOff
  split
  · exact h.offNow
  · exact h.offNow
  · exact h.updCh
  all_goals exact h

theorem Calm.evalVote (h : CalmAny s₀ s) : CalmAny s₀ (s.evalVote c) := by
  unfold State.evalVote
  refine .ite h.voteUp ?_
  split
  · exact h
  · exact h
  · exact h
  · exact h.updCh
  · split
    · exact .ite h.startDrain h
    iterate 4 (next => exact h.offNow)
    iterate 3 (next => exact h)

theorem Calm.voteChanged (h : CalmAny s₀ s) : CalmAny s₀ (s.voteChanged c) := (Calm.updCh h).evalVote

/-- What waits to land in a channel stays, and its domain is on its way off only if it was. -/
def Chan.StaysUp (x y : Chan) : Prop := y.posted = x.posted ∧ (x.pst ≠ .poweringDown → y.pst ≠ .poweringDown)

theorem Chan.StaysUp.trans {x y z : Chan} (h : x.StaysUp y) (h' : y.StaysUp z) : x.StaysUp z :=
  ⟨h'.1.trans h.1, fun hx => h'.2 (h.2 hx)⟩

theorem Calm.staysUp (h : Calm Chan.StaysUp s₀ s) (hl : Local c (fun _ => true) s t) (hc : (s.ch c).StaysUp (t.ch c)) :
    Calm Chan.StaysUp s₀ t where
  power := hl.power.trans h.power
  img := hl.img ∘ h.img
  clock := hl.clock.trans h.clock
  ch d := by
    by_cases hd : d = c
    · subst hd; exact (h.ch d).trans hc
    · rw [hl.ch d hd]; exact h.ch d
  kind := (hl.dg _ rfl).trans h.kind
  gate h0 := (hl.dg _ rfl).trans (h.gate h0)

theorem State.voteUp_staysUp (s : State) (c : Ch) : (s.ch c).StaysUp ((s.voteUp c).ch c) := by
  unfold State.voteUp
  split
  · split
    · exact ⟨by simp, fun _ => by simp⟩
    · exact ⟨rfl, id⟩
  · unfold State.cancelDrain
    split
    · rw [(Sends.refl _).issue.ch]
      exact ⟨by simp, fun _ => by simp⟩
    · exact ⟨rfl, id⟩
  all_goals exact ⟨rfl, id⟩

theorem State.startDrain_staysUp (s : State) (c : Ch) : (s.ch c).StaysUp ((s.startDrain c).ch c) := by
  refine ⟨?_, fun _ => by rw [s.startDrain_pst]; nofun⟩
  obtain ⟨b, hb⟩ := (s.updCh c fun x => { x with pst := .draining }).atBoundary_line c
  rw [State.startDrain, hb]
  simp

/-- In Active and Standby no vote powers a domain off (R298, R301). -/
theorem Calm.voteChanged_staysUp (hm : s₀.power.mode = .active ∨ s₀.power.mode = .standby) (h : Calm Chan.StaysUp s₀ s) :
    Calm Chan.StaysUp s₀ (s.voteChanged c) := by
  have h1 : Calm Chan.StaysUp s₀ (s.updCh c fun x => { x with stuckOff := false }) :=
    h.staysUp (c := c) (Local.refl s).updCh ⟨by simp, by simp⟩
  unfold State.voteChanged
  generalize (s.updCh c fun x => { x with stuckOff := false }) = x at h1
  unfold State.evalVote
  refine .ite (h1.staysUp (Local.refl x).voteUp (x.voteUp_staysUp c)) ?_
  split
  · exact h1
  · exact h1
  · exact h1
  · exact h1.staysUp (c := c) (Local.refl x).updCh ⟨by simp, by simp⟩
  · have hx : x.power.mode = .active ∨ x.power.mode = .standby := h1.power ▸ hm
    rcases hx with hx | hx <;> rw [hx]
    · exact .ite (h1.staysUp (Local.refl x).startDrain (x.startDrain_staysUp c)) h1
    · exact h1

/-- Every pad latches (R302 step 3). -/
theorem State.padLatchAll_frame (s : State) :
    CalmAny s (s.forCh fun s c => s.padLatch c) ∧ ∀ c, ((s.forCh fun s c => s.padLatch c).ch c).pad.held = true ∧
      ((s.forCh fun s c => s.padLatch c).ch c).posted = (s.ch c).posted ∧
      ((s.forCh fun s c => s.padLatch c).ch c).pst = (s.ch c).pst := by
  refine ⟨Calm.forCh (Calm.refl (fun _ => trivial) s) fun h => h.padLatch, fun c => ?_⟩
  obtain ⟨x, hx, ht⟩ := State.forCh_local_at (s := s) (fun x d _ => (Local.refl x).padLatch) c
  obtain ⟨b, hb⟩ := x.ch_padLatch c
  rw [ht.ch, hb, hx.ch]
  exact ⟨rfl, rfl, rfl⟩

/-- Every domain goes off, with no image accepted and every pad held (R302 step 3). -/
theorem State.domainOffAll_frame (himg : s.heart.img = none) (hpad : ∀ c, (s.ch c).pad.held = true) :
    CalmAny s (s.forCh fun s c => s.domainOff c) ∧ ∀ c, ((s.forCh fun s c => s.domainOff c).ch c).pad.held = true ∧
      ((s.ch c).posted = [] → (s.ch c).pst ≠ .poweringDown → ((s.forCh fun s c => s.domainOff c).ch c).pst = .off) ∧
      (((s.forCh fun s c => s.domainOff c).ch c).pst = .off ∨
        ((s.forCh fun s c => s.domainOff c).ch c).pst = .poweringDown) := by
  refine ⟨Calm.forCh (Calm.refl (fun _ => trivial) s) fun h => h.domainOff, fun c => ?_⟩
  have hapart : ∀ (x : State) (d : Ch), x.heart.img = none → Apart d x (x.domainOff d) := fun x d hx => by
    unfold State.domainOff
    split
    · exact (State.offNow_idle d hx).1
    · exact (State.offNow_idle d hx).1
    · exact (Apart.refl x).updCh
    all_goals exact .refl x
  obtain ⟨x, hx, ht⟩ := State.forCh_at (g := fun s c => s.domainOff c) (s := s)
    (fun x d _ hi => ⟨(hapart x d (hi himg)).power, (hapart x d (hi himg)).img⟩)
    (fun x d e _ hi he => (hapart x d (hi himg)).agrees he) c
  obtain ⟨-, hheld, hoff, hpst⟩ := State.domainOff_idle (s := x) c (hx.img himg) (by rw [hx.ch]; exact hpad c)
  rw [hx.ch] at hoff
  rw [ht.ch]
  exact ⟨hheld, hoff, hpst⟩

theorem State.commitDormant_frame (hm : s.power.mode = .active ∨ s.power.mode = .standby) :
    s.commitDormant.power.mode = .dormant ∧ s.commitDormant.power.chg = .dormantEntry ∧
      s.commitDormant.power.wake = none ∧ s.commitDormant.dg .KEYGATE_OPEN = 0 ∧
      ∀ c, (s.commitDormant.ch c).pad.held = true ∧
        ((s.ch c).posted = [] → (s.ch c).pst ≠ .poweringDown → (s.commitDormant.ch c).pst = .off) ∧
        ((s.commitDormant.ch c).pst = .off ∨ (s.commitDormant.ch c).pst = .poweringDown) := by
  have hv : ∀ {x c}, Calm Chan.StaysUp s x → Calm Chan.StaysUp s (x.voteChanged c) := Calm.voteChanged_staysUp hm
  have hheart : Calm Chan.StaysUp s s.endHeart := (Calm.refl (fun _ => ⟨rfl, id⟩) s).endHeart hv
  have hrest : Calm Chan.StaysUp s.endHeart ((s.endHeart.endSession 4).dropNonce) := by
    have hv' : ∀ {x c}, Calm Chan.StaysUp s.endHeart x → Calm Chan.StaysUp s.endHeart (x.voteChanged c) :=
      Calm.voteChanged_staysUp (hheart.power ▸ hm)
    exact ((Calm.refl (fun _ => ⟨rfl, id⟩) s.endHeart).endSession hv').dropNonce
  have hch : ∀ c, (s.ch c).StaysUp (((s.endHeart.endSession 4).dropNonce).ch c) := fun c =>
    (hheart.ch c).trans (hrest.ch c)
  have himg := hrest.img s.img_endHeart
  unfold State.commitDormant
  dsimp only
  generalize (s.endHeart.endSession 4).dropNonce = x at himg hch ⊢
  have hshut : Calm Chan.StaysUp x (x.ds .KEYGATE_OPEN 0) := (Calm.refl (fun _ => ⟨rfl, id⟩) x).shut
  have hgate : (x.ds .KEYGATE_OPEN 0).dg .KEYGATE_OPEN = 0 := by simp
  generalize x.ds .KEYGATE_OPEN 0 = w at hshut hgate ⊢
  have hhost : Calm Chan.StaysUp w { w with host := { w.host with ul := .reset } } :=
    (Calm.refl (fun _ => ⟨rfl, id⟩) w).host
  generalize ({ w with host := { w.host with ul := .reset } } : State) = v at hhost ⊢
  obtain ⟨hlatch, hpads⟩ := v.padLatchAll_frame
  generalize v.forCh (fun s c => s.padLatch c) = y at hlatch hpads ⊢
  have hwaits : ∀ c, (s.ch c).StaysUp (v.ch c) := fun c => ((hch c).trans (hshut.ch c)).trans (hhost.ch c)
  obtain ⟨hoff, hoffs⟩ :=
    State.domainOffAll_frame (hlatch.img (hhost.img (hshut.img himg))) fun c => (hpads c).1
  have hgate' := hoff.gate (hlatch.gate (hhost.gate hgate))
  generalize y.forCh (fun s c => s.domainOff c) = z at hoff hoffs hgate' ⊢
  have hgate'' : (z.updPower fun p => { p with chg := .dormantEntry, wake := none }).dg .KEYGATE_OPEN = 0 := by
    exact (State.dg_of_regs rfl _).trans hgate'
  obtain ⟨hpow, -, -, hdg⟩ := State.setMode_frame (z.updPower fun p => { p with chg := .dormantEntry, wake := none }) .dormant
  have hshut' := hdg .KEYGATE_OPEN (by decide) (by decide) (by decide)
  refine ⟨by rw [hpow], by rw [hpow, State.power_updPower], by rw [hpow, State.power_updPower],
    by rw [hshut', hgate''], fun c => ?_⟩
  obtain ⟨hheld, hempty, hpst⟩ := hoffs c
  obtain ⟨-, hposted, hsame⟩ := hpads c
  rw [State.ch_setMode, State.ch_updPower]
  exact ⟨hheld, fun hp hd => hempty (hposted.trans ((hwaits c).1.trans hp)) (hsame ▸ (hwaits c).2 hd), hpst⟩

/-- Settles O10: Standby and Service are loops over the channels, each of which stays within its own; Dormant entry is
followed through the end of Heartwood's operation and of the session, which in these modes power no domain off. -/
theorem modeRequestsMoveThePart : Obligations.ModeRequestsMoveThePart := by
  intro s src ha
  have hdormant : ∀ wake, exec (.reqDormant src wake) s =
      .next (({ ({ s with cyc := { CycSt.none with wake := wake } } : State).modeReq 1 with cyc := CycSt.none }).reply 0) :=
    fun wake => by
      change execReqDormant src wake s = _
      rw [execReqDormant, State.devDo_outside s src .pwr _ ha, State.inCyc, State.landD_modeReq _ 1 _ (by decide)]
  refine ⟨fun hm hc => ⟨?_, exec_reqService_taken ha hm hc, ?_⟩, fun h => ⟨?_, ?_⟩, fun hm => ?_, fun hm hc => ?_,
    fun hm hc => ?_, fun wake h1 h2 => ?_, fun wake hm hw => ?_, fun hm hw => ?_⟩
  · obtain ⟨t, ht, hchg, hmode, hall⟩ := exec_reqStandby_taken ha hm hc
    refine ⟨t, ht, hchg, hmode, fun c => ?_⟩
    obtain ⟨hoff, hheld, hing, heg, hlinked, hunlinked⟩ := hall c
    exact ⟨hoff, fun hp => ⟨hheld hp, hing, heg, hlinked hp, hunlinked hp⟩⟩
  · exact (exec_modeRequest ha 4 (by decide)).trans (by rw [State.modeReq_rej 4 (by simp [hc])])
  · exact (exec_modeRequest ha 2 (by decide)).trans (by rw [State.modeReq_rej 2 (by simp [h])])
  · exact (exec_modeRequest ha 5 (by decide)).trans (by rw [State.modeReq_rej 5 (by simp [h])])
  · exact (exec_modeRequest ha 4 (by decide)).trans (by rw [State.modeReq_rej 4 (by simp [hm])])
  · refine (exec_modeRequest ha 4 (by decide)).trans ?_
    simp [State.modeReq, hm, hc, State.updPower]
  · refine (exec_modeRequest ha 4 (by decide)).trans ?_
    simp [State.modeReq, hm, hc, State.updPower]
  · rw [hdormant, State.modeReq_rej 1 (by simp [h1, h2])]
    rfl
  · have hreq : ({ s with cyc := { CycSt.none with wake := wake } } : State).modeReq 1 =
        ({ s with cyc := { CycSt.none with wake := wake } } : State).ds .TAP_STAT_SLEEP_ABORTED_WAKE 1 := by
      rcases hm with hm | hm <;> rcases hw with hw | hw <;> simp [State.modeReq, State.dormantReq, State.wakeHeld, hm, hw]
    rw [hdormant, hreq]
    rfl
  · have hreq : ({ s with cyc := { CycSt.none with wake := false } } : State).modeReq 1 =
        ({ s with cyc := { CycSt.none with wake := false } } : State).commitDormant := by
      rcases hm with hm | hm <;> simp [State.modeReq, State.dormantReq, State.wakeHeld, hm, hw]
    refine ⟨_, hdormant false, ?_⟩
    rw [hreq]
    have h := State.commitDormant_frame (s := { s with cyc := { CycSt.none with wake := false } }) hm
    generalize State.commitDormant _ = y at h
    exact h

end

end Sys2Proof.Machine
end

section
namespace Sys2Proof.Machine

/-! ### The rules of the spare-resource state -/

section
variable {s : State} {c : Ch}

theorem State.updGraft_updGraft (g h : GraftSt → GraftSt) :
    (s.updGraft c g).updGraft c h = s.updGraft c fun x => h (g x) := by
  simp [State.updGraft, State.updCh]

theorem State.updGraft_congr {g h : GraftSt → GraftSt} (he : g (s.ch c).graft = h (s.ch c).graft) :
    s.updGraft c g = s.updGraft c h :=
  congrArg (fun y => { s with chans := s.chans.set c.val { s.ch c with graft := y } }) he

/-- A flag that was set reads 1. -/
theorem State.cg_cs_flag (f : CFld) (hf : f.info.wid = 1) : (s.cs c f 1).cg c f = 1 := by simp [hf]

/-- A quotient with its rounding left open is one of the two neighbours of the exact one, and only a free choice is
taken. -/
theorem State.roundFree_near (num den : Nat) (hd : 0 < den) :
    (s.roundFree num den).1.toNat * den < num + den ∧ num / den ≤ (s.roundFree num den).1.toNat := by
  have hdiv := Nat.div_add_mod num den
  have hmod := Nat.mod_lt num hd
  have hcast : (num : Int) / (den : Int) = ((num / den : Nat) : Int) := rfl
  unfold State.roundFree
  split
  case isTrue =>
    rw [hcast, Int.toNat_natCast, Nat.mul_comm]
    omega
  case isFalse hne =>
    have hup : (s.fresh 1).1 ≤ 1 := by
      have := Nat.mod_lt (Config.freeValue s.free).toNat (y := 2 ^ 1) (by decide)
      simp only [State.fresh]
      omega
    have hpos : 0 < num % den := Nat.pos_of_ne_zero fun h0 => hne (by exact_mod_cast h0)
    dsimp only
    rw [hcast, ← Int.natCast_add, Int.toNat_natCast, Nat.add_mul, Nat.mul_comm]
    have : (s.fresh 1).1 * den ≤ den := by simpa using Nat.mul_le_mul_right den hup
    omega

theorem State.roundFree_snd (num : Int) (den : Nat) : ∃ k, (s.roundFree num den).2 = { s with free := k } := by
  unfold State.roundFree
  split
  · exact ⟨s.free, rfl⟩
  · exact ⟨s.free + 1, rfl⟩

/-- A wear index as it is taken from a quotient (R318). -/
theorem State.wearIndex_near (num den : Nat) (hd : 0 < den) :
    (min 1023 (s.roundFree num den).1.toNat = 1023 ∨ min 1023 (s.roundFree num den).1.toNat * den < num + den) ∧
      min 1023 (num / den) ≤ min 1023 (s.roundFree num den).1.toNat := by
  obtain ⟨hlt, hle⟩ := s.roundFree_near num den hd
  refine ⟨?_, by omega⟩
  rcases Nat.le_total 1023 (s.roundFree num den).1.toNat with h | h
  · exact .inl (Nat.min_eq_left h)
  · rw [Nat.min_eq_right h]
    exact .inr hlt

/-! ### What a measurement shows (R318) -/

variable {m : WearMeas}

theorem State.wearOf_uncorr (hp : 3 ≤ m.pool.val) (hu : m.uncorr = true) : (s.wearOf c m).1 = (1023, 4) := by
  unfold State.wearOf
  split
  iterate 3 (next h => omega)
  next => simp [hu]

theorem State.wearOf_ecc (hp : 3 ≤ m.pool.val) (hu : m.uncorr = false) : (s.wearOf c m).1 =
    (min 1023 (s.roundFree (1000 * m.corr : Nat) (max 1 (s.cg c .GRAFT_CTL_ECC_N))).1.toNat, 3) := by
  unfold State.wearOf
  split
  iterate 3 (next h => omega)
  next => simp [hu]

theorem State.wearOf_drift (hp : m.pool.val = 0) (hs : m.fFac ≤ m.fNow) : (s.wearOf c m).1 =
    (min 1023 (s.roundFree (1000 * s.drift c m.elem : Nat) 6144).1.toNat, 1) := by
  have hslow : m.fFac - m.fNow = 0 := Nat.sub_eq_zero_of_le hs
  simp [State.wearOf, hp, hslow]

theorem State.wearOf_ring (hp : m.pool.val = 1 ∨ m.pool.val = 2) : (s.wearOf c m).1 =
    (min 1023 (s.roundFree (100000 * (m.fFac - m.fNow) : Nat) (3 * max 1 m.fFac)).1.toNat, 2) := by
  rcases hp with hp | hp <;> simp [State.wearOf, hp]

theorem State.wearOf_snd : ∃ k, (s.wearOf c m).2 = { s with free := k } := by
  unfold State.wearOf
  dsimp only
  split
  · split
    · exact State.roundFree_snd _ _
    · exact State.roundFree_snd _ _
  · exact State.roundFree_snd _ _
  · exact State.roundFree_snd _ _
  · split
    · exact ⟨s.free, rfl⟩
    · exact State.roundFree_snd _ _

/-! ### A swap that is due, and the requests that wait (R319, R320) -/

/-- The swap of an approved element, before its commit point. -/
def Swap.due (pool elem reason : Nat) (recording : Bool) : Swap := ⟨pool, elem, reason, true, recording, false, false⟩

theorem State.swapDue_starts {p e r : Nat} (hleft : s.poolLeft c p ≠ 0) (hsub : swapSub (s.ch c).sub = true)
    (hfree : s.swapFree c = true) :
    s.swapDue c p e r = s.updGraft c fun g => { g with swap := some (Swap.due p e r true) } := by
  have hrun : (s.ch c).graft.run = none ∧ s.power.warn = [] := by simpa [State.swapFree] using hfree
  simp [State.swapDue, hleft, State.swapRecord, State.swapFree, hsub, hrun, State.updGraft_updGraft, Swap.due]

theorem State.swapDue_defers {p e r : Nat} (hleft : s.poolLeft c p ≠ 0)
    (hno : swapSub (s.ch c).sub = false ∨ s.swapFree c = false) :
    s.swapDue c p e r = (s.updGraft c fun g => { g with swap := some (Swap.due p e r false) }).cs c .GRAFT_EVT_DEFER 1 := by
  have hcond : (swapSub (s.ch c).sub && s.swapFree c) = false := by rcases hno with h | h <;> simp [h]
  have hsame : (s.updGraft c fun g => { g with swap := some (Swap.due p e r false) }).swapFree c = s.swapFree c := by
    simp [State.swapFree]
  rw [State.swapDue, if_neg hleft]
  dsimp only
  rw [if_neg]
  · rfl
  · change ¬(swapSub (((s.updGraft c fun g => { g with swap := some (Swap.due p e r false) }).ch c).sub) &&
      (s.updGraft c fun g => { g with swap := some (Swap.due p e r false) }).swapFree c) = true
    rw [hsame, State.ch_updGraft, if_pos rfl, hcond]
    exact Bool.false_ne_true

theorem State.swapDue_exhausted {p e r : Nat} (hleft : s.poolLeft c p = 0) (hex : (p, e) ∈ (s.ch c).graft.exhausted) :
    s.swapDue c p e r = (s.cs c .GRAFT_EVT_EXHAUST 1).updGraft c fun g => { g with swap := none } := by
  simp [State.swapDue, hleft, hex]

/-- Nothing triggers beside a swap that runs. -/
theorem State.trigger_running {w : Swap} (hw : (s.ch c).graft.swap = some w) (hr : w.running = true) (n : Nat) :
    s.trigger c n = s := by
  cases n with
  | zero => rfl
  | succ n => simp [State.trigger, hw, hr]

/-- A request that waits for approval. -/
def Wear.ask (w : Wear) : Swap := ⟨w.pool, w.elem, w.reason, false, false, false, false⟩

theorem State.triggers_none (hn : s.nextTrig c = none) (hs : (s.ch c).graft.swap = none) : s.triggers c = s := by
  simp [State.triggers, State.trigger, hn, hs]

theorem State.triggers_ask {w : Wear} (hn : s.nextTrig c = some w) (hs : (s.ch c).graft.swap = none)
    (hr : (s.ch c).graft.run = none) (hp : s.policy c ≠ 1) :
    s.triggers c = (s.cs c .GRAFT_EVT_REQ 1).updGraft c fun g => { g with swap := some w.ask } := by
  simp only [State.triggers, State.trigger, hr, hs, hn]
  have : (s.cs c .GRAFT_EVT_REQ 1).policy c = s.policy c := by simp [State.policy]
  simp [this, hp, Wear.ask]

theorem State.triggers_start {w : Wear} (hn : s.nextTrig c = some w) (hs : (s.ch c).graft.swap = none)
    (hr : (s.ch c).graft.run = none) (hp : s.policy c = 1) :
    s.triggers c = ((s.cs c .GRAFT_EVT_REQ 1).swapDue c w.pool w.elem w.reason).trigger c (s.ch c).graft.wear.length := by
  simp only [State.triggers, State.trigger, hr, hs, hn]
  have : (s.cs c .GRAFT_EVT_REQ 1).policy c = s.policy c := by simp [State.policy]
  simp [this, hp]

/-- Outside policy 1 the waiting elements at most put one request. -/
theorem State.triggers_offers (hp : s.policy c ≠ 1) : s.triggers c = s ∨ ∃ w, s.nextTrig c = some w ∧
    (s.ch c).graft.swap = none ∧
    s.triggers c = (s.cs c .GRAFT_EVT_REQ 1).updGraft c fun g => { g with swap := some w.ask } := by
  rcases hr : (s.ch c).graft.run with _ | r
  case some => exact .inl (by simp [State.triggers, State.trigger, hr])
  rcases hs : (s.ch c).graft.swap with _ | w
  case some => exact .inl (by simp [State.triggers, State.trigger, hr, hs, hp])
  rcases hn : s.nextTrig c with _ | w
  · exact .inl (State.triggers_none hn hs)
  · exact .inr ⟨w, rfl, rfl, State.triggers_ask hn hs hr hp⟩

/-- A fold that at each step keeps what it has or takes the element finds no other. -/
theorem foldl_pick_mem {α : Type} {f : Option α → α → Option α} (hf : ∀ b x, f b x = b ∨ f b x = some x) (l : List α)
    (b : Option α) {v : α} (h : l.foldl f b = some v) : v ∈ l ∨ b = some v := by
  induction l generalizing b with
  | nil => exact .inr h
  | cons x l ih =>
    rcases ih _ h with hm | hm
    · exact .inl (List.mem_cons_of_mem _ hm)
    · rcases hf b x with he | he
      · exact .inr (he ▸ hm)
      · cases he.symm.trans hm
        exact .inl List.mem_cons_self

theorem State.nextTrig_not_denied {w : Wear} (h : s.nextTrig c = some w) : (w.pool, w.elem) ∉ (s.ch c).graft.denied := by
  have hpick : ∀ (b : Option Wear) (w : Wear), (match b with
      | none => some w
      | some v => if w.pool < v.pool || (w.pool = v.pool && w.elem < v.elem) then some w else b) = b ∨ (match b with
      | none => some w
      | some v => if w.pool < v.pool || (w.pool = v.pool && w.elem < v.elem) then some w else b) = some w := by
    intro b w
    cases b with
    | none => exact .inr rfl
    | some v => exact (ite_eq_or_eq _ _ _).symm
  rcases foldl_pick_mem hpick _ none h with hm | hm
  · simp only [List.mem_filter, Bool.and_eq_true, Bool.not_eq_true', List.contains_eq_mem, decide_eq_false_iff_not] at hm
    exact hm.2.1.2
  · cases hm

end

end Sys2Proof.Machine
end

section
namespace Sys2Proof.Machine

/-! ### A measured element triggers (R318, R319) -/

section
variable {s : State} {c : Ch} {m : WearMeas}

/-- The wear of the element measured. -/
def shownWear (m : WearMeas) (r : Nat × Nat) : Wear := ⟨m.pool.val, m.elem, r.1, r.2⟩

/-- The channel has only this element's wear on record. -/
def State.worn (s : State) (c : Ch) (m : WearMeas) : State :=
  (s.wearOf c m).2.updGraft c fun g => { g with wear := [shownWear m (s.wearOf c m).1] }

theorem exec_wearUpdate_one (hon : s.powered c = true) (hw : (s.ch c).graft.wear = []) (hi : 0 < (s.wearOf c m).1.1) :
    exec (.wearUpdate c [m]) s = .next ((s.worn c m).triggers c) := by
  have hwear : ((s.wearOf c m).2.ch c).graft.wear = [] := by
    obtain ⟨k, hk⟩ := s.wearOf_snd (c := c) (m := m)
    rw [hk]
    exact hw
  have hworn : ((s.wearOf c m).2.updGraft c fun g =>
      let rest := g.wear.filter fun w => !(w.pool = m.pool.val && w.elem = m.elem)
      { g with wear := if (s.wearOf c m).1.1 = 0 then rest else
        ⟨m.pool.val, m.elem, (s.wearOf c m).1.1, (s.wearOf c m).1.2⟩ :: rest }) = s.worn c m := by
    refine State.updGraft_congr ?_
    dsimp only
    rw [hwear, if_neg (by omega)]
    rfl
  change execWearUpdate c [m] s = _
  rw [execWearUpdate, if_neg (by simp [hon])]
  exact congrArg (fun x : State => ok (x.triggers c)) hworn

theorem State.worn_frame (s : State) (c : Ch) (m : WearMeas) :
    (s.worn c m).ch c = { s.ch c with graft := { (s.ch c).graft with wear := [shownWear m (s.wearOf c m).1] } } ∧
      (s.worn c m).otp = s.otp ∧ (s.worn c m).power = s.power ∧ ∀ f, (s.worn c m).cg c f = s.cg c f := by
  obtain ⟨k, hk⟩ := s.wearOf_snd (c := c) (m := m)
  rw [State.worn, State.ch_updGraft, if_pos rfl]
  generalize (s.wearOf c m).1 = r
  rw [hk]
  exact ⟨rfl, rfl, rfl, fun f => rfl⟩

/-- Nothing but its index keeps the element from triggering. -/
structure Replaceable (s : State) (c : Ch) (m : WearMeas) : Prop where
  retired : s.retired c m.pool.val m.elem = false
  working : s.working c m.pool.val m.elem = true
  denied : (m.pool.val, m.elem) ∉ (s.ch c).graft.denied
  exhausted : (m.pool.val, m.elem) ∉ (s.ch c).graft.exhausted

theorem State.nextTrig_worn (hf : Replaceable s c m) : (s.worn c m).nextTrig c =
    if s.trig c ≤ (s.wearOf c m).1.1 then some (shownWear m (s.wearOf c m).1) else none := by
  obtain ⟨hch, hotp, -, hcg⟩ := s.worn_frame c m
  have htrig : (s.worn c m).trig c = s.trig c := by simp only [State.trig, hcg]
  have hret : (s.worn c m).retired c m.pool.val m.elem = false := by
    rw [State.retired, hotp]
    exact hf.retired
  have hwork : (s.worn c m).working c m.pool.val m.elem = true := by
    rw [State.working, hch]
    exact hf.working
  simp only [State.nextTrig, htrig, hch, shownWear]
  by_cases h : s.trig c ≤ (s.wearOf c m).1.1 <;>
    simp [h, hret, hwork, hf.denied, hf.exhausted]

variable (hon : s.powered c = true) (hw : (s.ch c).graft.wear = []) (hi : 0 < (s.wearOf c m).1.1)
  (hrun : (s.ch c).graft.run = none) (hswap : (s.ch c).graft.swap = none) (hf : Replaceable s c m)
include hon hw hi hrun hswap hf

omit hrun in
theorem exec_wearUpdate_low (hlow : (s.wearOf c m).1.1 < s.trig c) :
    exec (.wearUpdate c [m]) s = .next (s.worn c m) := by
  obtain ⟨hch, -⟩ := s.worn_frame c m
  rw [exec_wearUpdate_one hon hw hi, State.triggers_none]
  · rw [State.nextTrig_worn hf, if_neg (by omega)]
  · rw [hch]
    exact hswap

theorem exec_wearUpdate_ask (hhigh : s.trig c ≤ (s.wearOf c m).1.1) (hp : s.policy c ≠ 1) :
    ∃ t, exec (.wearUpdate c [m]) s = .next t ∧ t.cg c .GRAFT_EVT_REQ = 1 ∧
      (t.ch c).graft.swap = some (shownWear m (s.wearOf c m).1).ask := by
  obtain ⟨hch, -, -, hcg⟩ := s.worn_frame c m
  have hpol : (s.worn c m).policy c = s.policy c := by simp only [State.policy, hcg]
  refine ⟨_, exec_wearUpdate_one hon hw hi, ?_⟩
  rw [State.triggers_ask (by rw [State.nextTrig_worn hf, if_pos hhigh]) (by rw [hch]; exact hswap)
    (by rw [hch]; exact hrun) (hpol ▸ hp)]
  exact ⟨(State.cg_updGraft ..).trans (State.cg_cs_flag _ rfl), by simp⟩

theorem exec_wearUpdate_auto (hhigh : s.trig c ≤ (s.wearOf c m).1.1) (hp : s.policy c = 1)
    (hleft : s.poolLeft c m.pool.val ≠ 0) :
    ∃ t, exec (.wearUpdate c [m]) s = .next t ∧ t.cg c .GRAFT_EVT_REQ = 1 ∧
      (swapSub (s.ch c).sub = true → s.power.warn = [] →
        (t.ch c).graft.swap = some (Swap.due m.pool.val m.elem (s.wearOf c m).1.2 true)) ∧
      (swapSub (s.ch c).sub = false ∨ s.power.warn ≠ [] → t.cg c .GRAFT_EVT_DEFER = 1 ∧
        (t.ch c).graft.swap = some (Swap.due m.pool.val m.elem (s.wearOf c m).1.2 false)) := by
  obtain ⟨hch, hotp, hpow, hcg⟩ := s.worn_frame c m
  have hpol : (s.worn c m).policy c = s.policy c := by simp only [State.policy, hcg]
  have hstart := State.triggers_start (s := s.worn c m) (c := c) (by rw [State.nextTrig_worn hf, if_pos hhigh])
    (by rw [hch]; exact hswap) (by rw [hch]; exact hrun) (hpol.trans hp)
  have hsub : (((s.worn c m).cs c .GRAFT_EVT_REQ 1).ch c).sub = (s.ch c).sub := by
    rw [State.ch_cs, hch]
  have hleft' : ((s.worn c m).cs c .GRAFT_EVT_REQ 1).poolLeft c m.pool.val ≠ 0 := by
    rw [State.poolLeft, State.poolUsed, State.otp_cs, hotp]
    exact hleft
  have hfree : ((s.worn c m).cs c .GRAFT_EVT_REQ 1).swapFree c = s.power.warn.isEmpty := by
    rw [State.swapFree, State.ch_cs, hch, State.power_cs, hpow, hrun]
    rfl
  have hreq : ((s.worn c m).cs c .GRAFT_EVT_REQ 1).cg c .GRAFT_EVT_REQ = 1 := State.cg_cs_flag _ rfl
  refine ⟨_, exec_wearUpdate_one hon hw hi, ?_⟩
  rw [hstart]
  generalize (s.worn c m).cs c .GRAFT_EVT_REQ 1 = x at hsub hleft' hfree hreq
  by_cases hno : swapSub (s.ch c).sub = true ∧ s.power.warn = []
  · rw [shownWear, State.swapDue_starts hleft' (hsub ▸ hno.1) (by simp [hfree, hno.2]),
      State.trigger_running (w := Swap.due m.pool.val m.elem (s.wearOf c m).1.2 true) (by simp) rfl]
    exact ⟨by simp [hreq], fun _ _ => by simp, fun h => by simp [hno] at h⟩
  · have hno' : swapSub (x.ch c).sub = false ∨ x.swapFree c = false := by
      rw [hsub, hfree]
      by_cases h : swapSub (s.ch c).sub = true
      · exact .inr (by simpa using fun e => hno ⟨h, e⟩)
      · exact .inl (by simpa using h)
    rw [shownWear, State.swapDue_defers hleft' hno',
      State.trigger_running (w := Swap.due m.pool.val m.elem (s.wearOf c m).1.2 false) (by simp) rfl]
    exact ⟨by simp [hreq], fun h1 h2 => absurd ⟨h1, h2⟩ hno, fun _ => ⟨State.cg_cs_flag _ rfl, by simp⟩⟩

end

end Sys2Proof.Machine
end

section
namespace Sys2Proof.Machine

section
variable {s : State} {c : Ch}

/-! ### The command bits of `GRAFT_CMD` (R319) -/

/-- A write of the command register from outside, with nothing posted before it. -/
theorem State.rowW_graftCmd {src : Src} (ha : s.arrives src c .calg) (hp : (s.ch c).posted = []) (v : Nat) :
    s.rowW src c .calg 0x44 v = .next ((s.graftCmd c v).reply 0) := by
  rw [State.rowW_outside s src c .calg 0x44 v (by decide) (by decide) ha, State.landAll_nil s c hp]
  rfl

theorem exec_approve {src : Src} (ha : s.arrives src c .calg) (hp : (s.ch c).posted = []) :
    exec (.approve src c) s = .next ((s.approve c).reply 0) := by
  change execApprove src c s = _
  rw [execApprove, State.rowW_graftCmd ha hp]
  simp [State.graftCmd, Nat.testBit]

theorem exec_deny {src : Src} (ha : s.arrives src c .calg) (hp : (s.ch c).posted = []) :
    exec (.deny src c) s = .next ((s.deny c).reply 0) := by
  change execDeny src c s = _
  rw [execDeny, State.rowW_graftCmd ha hp]
  simp [State.graftCmd, Nat.testBit]

theorem exec_swap {src : Src} {v : Word} (ha : s.arrives src c .calg) (hp : (s.ch c).posted = []) :
    exec (.swap src c v) s = .next ((s.swapCmd c (bits v.toNat 11 8) (bits v.toNat 27 12)).reply 0) := by
  change execSwap src c v s = _
  rw [execSwap, State.rowW_graftCmd ha hp]
  have h0 : (v.toNat / 8 * 8 + 4).testBit 0 = false := by rw [Nat.testBit_zero]; simp; omega
  have h1 : (v.toNat / 8 * 8 + 4).testBit 1 = false := by simp only [Nat.testBit_succ, Nat.testBit_zero]; simp; omega
  have h2 : (v.toNat / 8 * 8 + 4).testBit 2 = true := by simp only [Nat.testBit_succ, Nat.testBit_zero]; simp; omega
  have hpool : bits (v.toNat / 8 * 8 + 4) 11 8 = bits v.toNat 11 8 := by simp only [bits]; omega
  have helem : bits (v.toNat / 8 * 8 + 4) 27 12 = bits v.toNat 27 12 := by simp only [bits]; omega
  simp [State.graftCmd, h0, h1, h2, hpool, helem]

/-- A swap that starts lets nothing else trigger. -/
theorem State.triggers_swapDue_starts {p e r : Nat} (hleft : s.poolLeft c p ≠ 0) (hsub : swapSub (s.ch c).sub = true)
    (hfree : s.swapFree c = true) :
    (s.swapDue c p e r).triggers c = s.updGraft c fun g => { g with swap := some (Swap.due p e r true) } := by
  rw [State.swapDue_starts hleft hsub hfree]
  exact State.trigger_running (w := Swap.due p e r true) (by simp) rfl _

theorem State.triggers_swapDue_defers {p e r : Nat} (hleft : s.poolLeft c p ≠ 0)
    (hno : swapSub (s.ch c).sub = false ∨ s.swapFree c = false) : (s.swapDue c p e r).triggers c =
      (s.updGraft c fun g => { g with swap := some (Swap.due p e r false) }).cs c .GRAFT_EVT_DEFER 1 := by
  rw [State.swapDue_defers hleft hno]
  exact State.trigger_running (w := Swap.due p e r false) (by simp) rfl _

theorem State.approve_waiting {w : Swap} (hp : s.policy c = 2) (hw : (s.ch c).graft.swap = some w)
    (hr : w.running = false) : s.approve c = (s.swapDue c w.pool w.elem w.reason).triggers c := by
  simp [State.approve, hw, hp, hr]

/-- Approval and denial need policy 2 and a request that waits. -/
theorem State.command_rejected (h : s.policy c ≠ 2 ∨ (s.ch c).graft.swap = none ∨
    ∃ w, (s.ch c).graft.swap = some w ∧ w.running = true) :
    s.approve c = s.cs c .GRAFT_EVT_CMD_REJ 1 ∧ s.deny c = s.cs c .GRAFT_EVT_CMD_REJ 1 := by
  rcases h with h | h | ⟨w, h, hr⟩
  · rcases hw : (s.ch c).graft.swap with _ | w <;> simp [State.approve, State.deny, hw, h]
  · simp [State.approve, State.deny, h]
  · simp [State.approve, State.deny, h, hr]

/-- Where the waiting elements do more than nothing, they leave the other flags, the denied elements and OTP alone. -/
theorem State.triggers_keeps (hp : s.policy c ≠ 1) :
    (∀ f, f ≠ .GRAFT_EVT_REQ → (s.triggers c).cg c f = s.cg c f) ∧ (s.triggers c).otp = s.otp ∧
      ((s.triggers c).ch c).graft.denied = (s.ch c).graft.denied := by
  rcases s.triggers_offers hp with h | ⟨w, -, -, h⟩
  · rw [h]
    exact ⟨fun _ _ => rfl, rfl, rfl⟩
  · rw [h]
    exact ⟨fun f hf => by simp [hf], rfl, by simp⟩

theorem State.approve_exhausted {w : Swap} (hp : s.policy c = 2) (hw : (s.ch c).graft.swap = some w)
    (hr : w.running = false) (hleft : s.poolLeft c w.pool = 0) (hex : (w.pool, w.elem) ∈ (s.ch c).graft.exhausted) :
    (s.approve c).cg c .GRAFT_EVT_EXHAUST = 1 ∧ (s.approve c).otp = s.otp := by
  rw [State.approve_waiting hp hw hr, State.swapDue_exhausted hleft hex]
  have hpol : ((s.cs c .GRAFT_EVT_EXHAUST 1).updGraft c fun g => { g with swap := none }).policy c ≠ 1 := by
    have : ((s.cs c .GRAFT_EVT_EXHAUST 1).updGraft c fun g => { g with swap := none }).policy c = s.policy c := by
      simp [State.policy]
    omega
  obtain ⟨hcg, hotp, -⟩ := State.triggers_keeps hpol
  exact ⟨(hcg _ (by decide)).trans (State.cg_cs_flag _ rfl), hotp⟩

theorem State.deny_waiting {w : Swap} (hp : s.policy c = 2) (hw : (s.ch c).graft.swap = some w)
    (hr : w.running = false) :
    (s.deny c).cg c .GRAFT_EVT_DENIED = 1 ∧ (s.deny c).otp = s.otp ∧
      ((s.deny c).ch c).graft.denied = (w.pool, w.elem) :: (s.ch c).graft.denied ∧
      ∀ v, ((s.deny c).ch c).graft.swap = some v → (v.pool, v.elem) ≠ (w.pool, w.elem) := by
  have hdeny : s.deny c = ((s.updGraft c fun g => { g with swap := none, denied := (w.pool, w.elem) :: g.denied }).cs c
      .GRAFT_EVT_DENIED 1).triggers c := by
    simp [State.deny, hw, hp, hr]
  have hflag : ((s.updGraft c fun g => { g with swap := none, denied := (w.pool, w.elem) :: g.denied }).cs c
      .GRAFT_EVT_DENIED 1).cg c .GRAFT_EVT_DENIED = 1 := State.cg_cs_flag _ rfl
  have hden : (((s.updGraft c fun g => { g with swap := none, denied := (w.pool, w.elem) :: g.denied }).cs c
      .GRAFT_EVT_DENIED 1).ch c).graft = { (s.ch c).graft with
        swap := none, denied := (w.pool, w.elem) :: (s.ch c).graft.denied } := by simp
  have hpol : ((s.updGraft c fun g => { g with swap := none, denied := (w.pool, w.elem) :: g.denied }).cs c
      .GRAFT_EVT_DENIED 1).policy c ≠ 1 := by simp [State.policy] at hp ⊢; omega
  rw [hdeny]
  have hotp' : ((s.updGraft c fun g => { g with swap := none, denied := (w.pool, w.elem) :: g.denied }).cs c
      .GRAFT_EVT_DENIED 1).otp = s.otp := rfl
  generalize (s.updGraft c fun g => { g with swap := none, denied := (w.pool, w.elem) :: g.denied }).cs c
      .GRAFT_EVT_DENIED 1 = x at hflag hden hpol hotp' ⊢
  obtain ⟨hcg, hotp, hsame⟩ := State.triggers_keeps hpol
  refine ⟨(hcg _ (by decide)).trans hflag, hotp.trans hotp', by rw [hsame, hden], fun v hv => ?_⟩
  rcases x.triggers_offers hpol with h | ⟨u, hu, -, h⟩
  · rw [h, hden] at hv
    cases hv
  · rw [h, State.ch_updGraft, if_pos rfl] at hv
    have hno := State.nextTrig_not_denied hu
    rw [hden] at hno
    cases hv
    exact fun he => hno (he ▸ List.mem_cons_self)

theorem State.swapCmd_rejected {p e : Nat} (h : s.working c p e = false ∨ s.retired c p e = true ∨ s.swapRuns c = true) :
    s.swapCmd c p e = s.cs c .GRAFT_EVT_CMD_REJ 1 := by
  rcases h with h | h | h <;> simp [State.swapCmd, h]

theorem State.swapCmd_taken {p e : Nat} (hw : s.working c p e = true) (hr : s.retired c p e = false)
    (hs : s.swapRuns c = false) : s.swapCmd c p e = (s.swapDue c p e 5).triggers c := by
  simp [State.swapCmd, hw, hr, hs]

/-! ### The record and the switch (R321, R324) -/

/-- The record that names the lowest unused spare. -/
def State.spareRecord (s : State) (c : Ch) (w : Swap) : Subst := ⟨w.pool, poolBase c w.pool + s.poolUsed c w.pool, w.elem⟩

theorem State.addRecord_frame (s : State) (c : Ch) (w : Swap) :
    (s.addRecord c w.pool w.elem).otp.subst[c.val] = s.otp.subst[c.val] ++ [s.spareRecord c w] ∧
      (∀ d, d ≠ c → (s.addRecord c w.pool w.elem).otp.subst[d.val] = s.otp.subst[d.val]) ∧
      (s.addRecord c w.pool w.elem).poolUsed c w.pool = s.poolUsed c w.pool + 1 ∧
      ∀ p, p ≠ w.pool → (s.addRecord c w.pool w.elem).poolUsed c p = s.poolUsed c p := by
  have hsame : (s.addRecord c w.pool w.elem).otp.subst[c.val] = s.otp.subst[c.val] ++ [s.spareRecord c w] := by
    simp [State.addRecord, State.spareRecord]
  refine ⟨hsame, fun d hd => ?_, ?_, fun p hp => ?_⟩
  · have : (c : Nat) ≠ d := fun h => hd (Fin.ext h.symm)
    simp [State.addRecord, this]
  · rw [State.poolUsed, hsame]
    simp [State.poolUsed, State.spareRecord]
  · rw [State.poolUsed, hsame]
    simp [State.poolUsed, State.spareRecord, hp.symm]

theorem execGraftRecordDone_swap {w : Swap} (hq : (s.ch c).graft.request = some w) (hr : w.recording = true)
    (hrep : (s.ch c).graft.rep = none) : execGraftRecordDone c none s = .next ((s.addRecord c w.pool w.elem).updGraft c
      fun g => { g with swap := some { w with recording := false, committed := true } }) := by
  have hrep' : ((s.addRecord c w.pool w.elem).ch c).graft.rep = none := hrep
  simp [execGraftRecordDone, hq, hr, hrep', ok]

theorem execGraftRecordDone_row {w : Swap} (hq : (s.ch c).graft.request = some w) (hr : w.recording = true)
    (hrep : (s.ch c).graft.rep.isSome = true) {x : Nat × Nat} {l : List (Nat × Nat)} (hl : (s.ch c).graft.bistRows = x :: l)
    (hp : s.policy c ≠ 0) (hend : (s.ch c).graft.bistEnd = 0) (hx : s.poolLeft c x.1 ≠ 0) (hxw : x.1 ≠ w.pool) :
    execGraftRecordDone c none s = .next ((((s.addRecord c w.pool w.elem).updGraft c fun g => { g with
      subst := (s.addRecord c w.pool w.elem).otp.subst[c.val], rep := none }).cinc c .CALG_BIST_REPAIRED).updGraft c
      fun g => { g with bistRows := l, rep := some (Swap.due x.1 x.2 6 true) }) := by
  have hch : (s.addRecord c w.pool w.elem).ch c = s.ch c := rfl
  have hpol : ∀ g, (((s.addRecord c w.pool w.elem).updGraft c g).cinc c .CALG_BIST_REPAIRED).policy c = s.policy c :=
    fun g => by
      have : (s.addRecord c w.pool w.elem).cg c .GRAFT_CTL_POLICY = s.cg c .GRAFT_CTL_POLICY := rfl
      simp [State.policy, State.cinc, this]
  have hleft : ∀ g, (((s.addRecord c w.pool w.elem).updGraft c g).cinc c .CALG_BIST_REPAIRED).poolLeft c x.1 ≠ 0 :=
    fun g => by
      obtain ⟨-, -, -, hused⟩ := s.addRecord_frame c w
      change poolBuilt c x.1 - (s.addRecord c w.pool w.elem).poolUsed c x.1 ≠ 0
      rw [hused _ hxw]
      exact hx
  have hrow : ∀ t : State, t.policy c ≠ 0 → t.poolLeft c x.1 ≠ 0 → (t.ch c).graft.bistEnd = 0 →
      t.bistNext c (x :: l) = t.updGraft c fun g => { g with bistRows := l, rep := some (Swap.due x.1 x.2 6 true) } :=
    fun t h1 h2 h3 => by
      obtain ⟨p, e⟩ := x
      simp [State.bistNext, h1, h2, h3, Swap.due]
  have hrun : execGraftRecordDone c none s = .next ((((s.addRecord c w.pool w.elem).updGraft c fun g => { g with
      subst := (s.addRecord c w.pool w.elem).otp.subst[c.val], rep := none }).cinc c .CALG_BIST_REPAIRED).bistNext c
        (x :: l)) := by
    simp [execGraftRecordDone, hq, hr, hrep, hch, hl, ok, State.cinc]
  rw [hrun, hrow _ (by rw [hpol]; exact hp) (hleft _)]
  simp [State.cinc, hch, hend]

/-! ### The service-life estimate (R323) -/

/-- The choice that the estimate makes at each pool. -/
def lessLife (q : Nat → Nat) (b : Option (Nat × Nat)) (p : Nat) : Option (Nat × Nat) :=
  match b with
  | none => some (q p, p)
  | some v => if q p < v.1 then some (q p, p) else b

/-- The fold finds the first of the elements with the least value. -/
theorem foldl_lessLife (q : Nat → Nat) (l : List Nat) (hs : l.Pairwise (· < ·)) (hne : l ≠ []) :
    ∃ p ∈ l, l.foldl (lessLife q) none = some (q p, p) ∧ (∀ x ∈ l, q p ≤ q x) ∧ ∀ x ∈ l, x < p → q p < q x := by
  induction l using List.reverseRecOn with
  | nil => exact absurd rfl hne
  | append_singleton l y ih =>
    rw [List.foldl_append]
    by_cases hl : l = []
    · subst hl
      exact ⟨y, by simp, rfl, by simp, by simp⟩
    · obtain ⟨hpl, -, hy⟩ := List.pairwise_append.mp hs
      obtain ⟨p, hp, hf, hle, hlt⟩ := ih hpl hl
      rw [hf]
      by_cases hless : q y < q p
      · refine ⟨y, by simp, by simp [lessLife, hless], fun x hx => ?_, fun x hx hxy => ?_⟩ <;>
          rcases List.mem_append.mp hx with hx | hx
        · exact (hless.trans_le (hle x hx)).le
        · simp_all
        · exact hless.trans_le (hle x hx)
        · simp_all
      · refine ⟨p, by simp [hp], by simp [lessLife, hless], fun x hx => ?_, fun x hx hxy => ?_⟩ <;>
          rcases List.mem_append.mp hx with hx | hx
        · exact hle x hx
        · rw [List.mem_singleton.mp hx]
          exact Nat.le_of_not_lt hless
        · exact hlt x hx hxy
        · have := hy p hp y (List.mem_singleton_self y)
          rw [List.mem_singleton.mp hx] at hxy
          omega

/-- The pools with spares built. -/
def builtPools (c : Ch) : List Nat := pools.filter fun p => poolBuilt c p ≠ 0

theorem mem_builtPools {c : Ch} {p : Nat} : p ∈ builtPools c ↔ p < 5 ∧ poolBuilt c p ≠ 0 := by
  simp only [builtPools, pools, List.mem_filter, List.mem_cons, List.not_mem_nil, or_false, decide_eq_true_iff]
  constructor
  · rintro ⟨h, hb⟩
    exact ⟨by omega, hb⟩
  · rintro ⟨h, hb⟩
    exact ⟨by omega, hb⟩

theorem builtPools_ne_nil (c : Ch) : builtPools c ≠ [] := by
  have h : 3 ∈ builtPools c := by
    rw [mem_builtPools]
    refine ⟨by decide, ?_⟩
    rcases hc : classOf c <;> simp [poolBuilt, hc]
  exact List.ne_nil_of_mem h

theorem State.lifeOf_le (s : State) (c : Ch) (p : Nat) : s.lifeOf c p ≤ 0xFFFF := by
  unfold State.lifeOf
  dsimp only
  split
  · exact Nat.le_refl _
  · exact (Nat.min_le_right ..).trans (by decide)

theorem State.lifeOf_cs (s : State) (c : Ch) {f : CFld} {v : Nat} (hf : f ≠ .GRAFT_CTL_TRIG) (p : Nat) :
    (s.cs c f v).lifeOf c p = s.lifeOf c p := by
  have htrig : (s.cs c f v).trig c = s.trig c := by simp [State.trig, hf.symm]
  have hwear : (s.cs c f v).poolWear c p = s.poolWear c p := rfl
  have hleft : (s.cs c f v).poolLeft c p = s.poolLeft c p := rfl
  unfold State.lifeOf
  rw [htrig, hwear, hleft]
  rfl

/-- Each pool's wear joins its samples. -/
def State.sampled (s : State) (c : Ch) : State :=
  s.updGraft c fun g => { g with hist := g.hist.mapFinIdx fun i l _ => (s.poolWear c i :: l).take 16 }

/-- The estimate is recorded. -/
def State.lifeShown (s : State) (c : Ch) (l p : Nat) : State := (s.cs c .GRAFT_LIFE_HOURS l).cs c .GRAFT_LIFE_POOL p

theorem exec_lifeEstimate (hon : s.powered c = true) : ∃ p ∈ builtPools c,
    exec (.lifeEstimate c) s = .next (if s.cg c .GRAFT_LIFEWARN_HRS ≤ s.cg c .GRAFT_LIFE_HOURS &&
        (s.sampled c).lifeOf c p < s.cg c .GRAFT_LIFEWARN_HRS then
      ((s.sampled c).lifeShown c ((s.sampled c).lifeOf c p) p).cs c .GRAFT_EVT_LIFE_WARN 1
      else (s.sampled c).lifeShown c ((s.sampled c).lifeOf c p) p) ∧
    (∀ x ∈ builtPools c, (s.sampled c).lifeOf c p ≤ (s.sampled c).lifeOf c x) ∧
    ∀ x ∈ builtPools c, x < p → (s.sampled c).lifeOf c p < (s.sampled c).lifeOf c x := by
  obtain ⟨p, hp, hf, hle, hlt⟩ := foldl_lessLife ((s.sampled c).lifeOf c) (builtPools c)
    (List.Pairwise.filter _ (by decide)) (builtPools_ne_nil c)
  refine ⟨p, hp, ?_, hle, hlt⟩
  have hexec : execLifeEstimate c s = match (builtPools c).foldl (lessLife ((s.sampled c).lifeOf c)) none with
      | some (l, p) => ok (if (s.sampled c).cg c .GRAFT_LIFEWARN_HRS ≤ (s.sampled c).cg c .GRAFT_LIFE_HOURS &&
          l < (s.sampled c).cg c .GRAFT_LIFEWARN_HRS then ((s.sampled c).lifeShown c l p).cs c .GRAFT_EVT_LIFE_WARN 1
          else (s.sampled c).lifeShown c l p)
      | none => ok (s.sampled c) := by
    rw [execLifeEstimate, if_neg (by simp [hon])]
    rfl
  change execLifeEstimate c s = _
  rw [hexec, hf]
  rfl

theorem State.lifeShown_frame {x : State} (c : Ch) (p : Nat) (hp : p < 5) (warn : Bool) {t : State}
    (ht : t = if warn then (x.lifeShown c (x.lifeOf c p) p).cs c .GRAFT_EVT_LIFE_WARN 1
      else x.lifeShown c (x.lifeOf c p) p) :
    t.ch c = x.ch c ∧ t.cg c .GRAFT_LIFE_HOURS = x.lifeOf c p ∧ t.cg c .GRAFT_LIFE_POOL = p ∧
      (∀ q, t.lifeOf c q = x.lifeOf c q) ∧ (warn = true → t.cg c .GRAFT_EVT_LIFE_WARN = 1) := by
  have hw : (CFld.info .GRAFT_LIFE_HOURS).wid = 16 := rfl
  have hw' : (CFld.info .GRAFT_LIFE_POOL).wid = 3 := rfl
  have hle := x.lifeOf_le c p
  have hhours : (x.lifeShown c (x.lifeOf c p) p).cg c .GRAFT_LIFE_HOURS = x.lifeOf c p := by
    simp only [State.lifeShown, State.cg_cs, hw, reduceCtorEq, and_false, and_self, if_true, if_false]
    omega
  have hpool : (x.lifeShown c (x.lifeOf c p) p).cg c .GRAFT_LIFE_POOL = p := by
    simp only [State.lifeShown, State.cg_cs, hw', and_self, if_true]
    omega
  have hlife : ∀ q, (x.lifeShown c (x.lifeOf c p) p).lifeOf c q = x.lifeOf c q := fun q => by
    rw [State.lifeShown, State.lifeOf_cs _ _ (by decide), State.lifeOf_cs _ _ (by decide)]
  subst ht
  cases warn with
  | false => exact ⟨rfl, hhours, hpool, hlife, nofun⟩
  | true =>
    exact ⟨rfl, (by simpa using hhours), (by simpa using hpool),
      fun q => (State.lifeOf_cs _ _ (by decide) q).trans (hlife q), fun _ => State.cg_cs_flag _ rfl⟩

end

/-- Settles O58: a swap that is due lets nothing else trigger, and outside policy 1 a trigger only asks. -/
theorem graftReplacesElements : Obligations.GraftReplacesElements := by
  intro s c
  refine ⟨fun hon => ⟨?_, fun m => ⟨fun hp hu => ?_, fun hp hu => ?_, fun hp hs => ?_, fun hp => ?_,
    fun hw hi hrun hswap hret hwork hden hex => ⟨fun hlow => ?_, fun hhigh hpol => ?_, fun hhigh hpol hleft => ?_⟩⟩⟩,
    fun src ha hpost => ⟨fun h => ?_, fun w hpol hw hr => ⟨fun hl hsub hfree => ?_, fun hl hno => ?_, fun hl hx => ?_, ?_⟩,
      fun v => ⟨fun h => ?_, fun hwork hret hs hl => ⟨fun hsub hfree => ?_, fun hno => ?_⟩⟩⟩,
    fun w hq => ⟨fun hr bad => ?_, fun hr a => ?_, fun hr hrep => ?_, fun hr hrep hrows hpol hend hall => ?_⟩,
    fun w hw => ⟨fun hcom => ?_, fun r hcom hon hfind => ?_⟩, fun hon => ?_, fun p hp => ?_⟩
  · change execWearUpdate c [] s = _
    simp [execWearUpdate, hon, ok]
  · rw [State.wearOf_uncorr hp hu]
    exact ⟨rfl, rfl⟩
  · rw [State.wearOf_ecc hp hu]
    exact ⟨rfl, State.wearIndex_near _ _ (by omega)⟩
  · rw [State.wearOf_drift hp hs]
    exact ⟨rfl, State.wearIndex_near _ _ (by omega)⟩
  · rw [State.wearOf_ring hp]
    exact ⟨rfl, State.wearIndex_near _ _ (by omega)⟩
  · refine ⟨_, exec_wearUpdate_low hon hw hi hswap ⟨hret, hwork, hden, hex⟩ hlow, ?_⟩
    obtain ⟨hch, -⟩ := s.worn_frame c m
    rw [hch]
    rfl
  · exact exec_wearUpdate_ask hon hw hi hrun hswap ⟨hret, hwork, hden, hex⟩ hhigh hpol
  · exact exec_wearUpdate_auto hon hw hi hrun hswap ⟨hret, hwork, hden, hex⟩ hhigh hpol hleft
  · obtain ⟨happ, hdeny⟩ := State.command_rejected h
    rw [exec_approve ha hpost, exec_deny ha hpost, happ, hdeny]
    exact ⟨rfl, rfl⟩
  · rw [exec_approve ha hpost, State.approve_waiting hpol hw hr, State.triggers_swapDue_starts hl hsub hfree]
    rfl
  · rw [exec_approve ha hpost, State.approve_waiting hpol hw hr, State.triggers_swapDue_defers hl hno]
    rfl
  · exact ⟨_, exec_approve ha hpost, State.approve_exhausted hpol hw hr hl hx⟩
  · exact ⟨_, exec_deny ha hpost, State.deny_waiting hpol hw hr⟩
  · rw [exec_swap ha hpost, State.swapCmd_rejected h]
  · rw [exec_swap ha hpost, State.swapCmd_taken hwork hret hs, State.triggers_swapDue_starts hl hsub hfree]
    rfl
  · rw [exec_swap ha hpost, State.swapCmd_taken hwork hret hs, State.triggers_swapDue_defers hl hno]
    rfl
  · change execGraftRecordDone c bad s = _
    simp [execGraftRecordDone, hq, hr, ok]
  · change execGraftRecordDone c (some a) s = _
    simp [execGraftRecordDone, hq, hr, ok]
  · obtain ⟨hadd, hother, hused, hsame⟩ := s.addRecord_frame c w
    refine ⟨_, execGraftRecordDone_swap hq hr hrep, hadd, hother, hused, hsame, ?_, rfl⟩
    rw [State.ch_updGraft, if_pos rfl]
    rfl
  · obtain ⟨x, l, hl⟩ := List.exists_cons_of_ne_nil hrows
    obtain ⟨hleft, hne⟩ := hall x (hl ▸ List.mem_cons_self)
    obtain ⟨hadd, -⟩ := s.addRecord_frame c w
    have hwid : (CFld.info .CALG_BIST_REPAIRED).wid = 8 := rfl
    have hcg : (s.addRecord c w.pool w.elem).cg c .CALG_BIST_REPAIRED = s.cg c .CALG_BIST_REPAIRED := rfl
    have hch : (s.addRecord c w.pool w.elem).ch c = s.ch c := rfl
    refine ⟨_, execGraftRecordDone_row hq hr hrep hl hpol hend hleft hne, ?_, ?_, ?_, ?_, ?_, ?_⟩
    · exact hadd
    · simp [State.cinc, hwid, hcg]
    · simp [State.cinc]
    · simp [State.cinc, hl]
    · simp [State.cinc, hch]
    · simp [State.cinc, hl, Swap.due]
  · change execGraftSwitch c s = _
    simp only [execGraftSwitch, hw, hcom]
    split <;> rfl
  · change execGraftSwitch c s = _
    simp only [execGraftSwitch, hw, hcom, hfind, hon]
    rfl
  · obtain ⟨p, hp, hrun, hle, hlt⟩ := exec_lifeEstimate hon
    obtain ⟨hp5, hbuilt⟩ := mem_builtPools.mp hp
    obtain ⟨hch, hhours, hpool, hlife, hwarn⟩ := State.lifeShown_frame (x := s.sampled c) c p hp5 _ rfl
    refine ⟨_, hrun, fun q => ?_, ?_, ?_, fun q hq hb => ?_, fun q hq hb => ?_, fun hhrs hfall => hwarn ?_⟩
    · rw [hch, State.sampled, State.ch_updGraft, if_pos rfl]
      simp
    · rw [hpool]
      exact hbuilt
    · rw [hhours, hpool, hlife]
    · rw [hhours, hlife]
      exact hle q (mem_builtPools.mpr ⟨hq, hb⟩)
    · rw [hpool] at hq
      rw [hhours, hlife]
      exact hlt q (mem_builtPools.mpr ⟨by omega, hb⟩) hq
    · rw [hhours] at hfall
      simp [hhrs, hfall]
  · have hshort : ((s.ch c).graft.hist.toList.getD p []).reverse.length < 8 := by rw [List.length_reverse]; exact hp
    unfold State.lifeOf
    dsimp only
    rw [if_pos (by simp only [hshort, decide_true, Bool.true_or])]

end Sys2Proof.Machine
end

section
namespace Sys2Proof

/-! ### The messages that are built (R98, R149) -/

/-- The base-256 digits of a built message. -/
theorem LinkMsg.toNat_build (id tid target active reason f : Nat) :
    (LinkMsg.build id tid target active reason f).bits.toNat = 0xF1A4 + id % 256 * 65536 + tid % 256 * 16777216 +
      (target % 16 + active % 16 * 16) * 4294967296 + reason % 256 * 1099511627776 + f % 65536 * 281474976710656 := by
  simp only [LinkMsg.build, BitVec.toNat_ofNat, Nat.reducePow]
  omega

variable (id tid target active reason f : Nat)

theorem LinkMsg.is_build (h : id < 256) : (LinkMsg.build id tid target active reason f).is id = true := by
  simp only [LinkMsg.is, LinkMsg.id, LinkMsg.oct, LinkMsg.toNat_build, Nat.reducePow, Bool.and_eq_true,
    decide_eq_true_iff]
  omega

theorem LinkMsg.tid_build : (LinkMsg.build id tid target active reason f).tid = tid % 256 := by
  simp only [LinkMsg.tid, LinkMsg.oct, LinkMsg.toNat_build, Nat.reducePow]
  omega

theorem LinkMsg.reason_build : (LinkMsg.build id tid target active reason f).reason = reason % 256 := by
  simp only [LinkMsg.reason, LinkMsg.oct, LinkMsg.toNat_build, Nat.reducePow]
  omega

theorem LinkMsg.f_build : (LinkMsg.build id tid target active reason f).f = f % 65536 := by
  simp only [LinkMsg.f, LinkMsg.oct, LinkMsg.toNat_build, Nat.reducePow]
  omega

theorem LinkMsg.tid_mod (m : LinkMsg) : m.tid % 256 = m.tid := Nat.mod_mod _ _

end Sys2Proof

namespace Sys2Proof.Machine

section
variable {s₀ s t x : State} {c : Ch}

/-! ### A channel that starts training -/

/-- The fields of a channel that the start of an attempt may write. -/
def CFld.byStart (f : CFld) : Bool :=
  match f with
  | .LPI_STAT_SLP_PHASE => true
  | _ => f.bySub || decide (f.blk = .link)

/-- The low-power state of channel `c`, and its fields but those of `CFld.byStart`, stay. -/
structure LpiKept (c : Ch) (s t : State) : Prop where
  lpi : (t.ch c).lpi = (s.ch c).lpi
  cg : ∀ f, f.byStart = false → t.cg c f = s.cg c f

theorem LpiKept.refl (s : State) : LpiKept c s s := ⟨rfl, fun _ _ => rfl⟩

theorem LpiKept.cs {f v} (h : LpiKept c s₀ s) (hf : f.byStart = true) : LpiKept c s₀ (s.cs c f v) :=
  ⟨h.lpi, fun g hg => by rw [State.cg_cs, if_neg (fun e => by simp [e.2, hf] at hg), h.cg g hg]⟩

theorem LpiKept.ds {f v} (h : LpiKept c s₀ s) : LpiKept c s₀ (s.ds f v) :=
  ⟨h.lpi, fun g hg => (State.cg_ds ..).trans (h.cg g hg)⟩

theorem LpiKept.updLink {g} (h : LpiKept c s₀ s) : LpiKept c s₀ (s.updLink c g) :=
  ⟨by rw [State.ch_updLink, if_pos rfl]; exact h.lpi, h.cg⟩

theorem LpiKept.updLine {g} (h : LpiKept c s₀ s) : LpiKept c s₀ (s.updLine c g) :=
  ⟨by rw [State.ch_updLine, if_pos rfl]; exact h.lpi, h.cg⟩

theorem LpiKept.updDsp {g} (h : LpiKept c s₀ s) : LpiKept c s₀ (s.updDsp c g) :=
  ⟨by rw [State.ch_updDsp, if_pos rfl]; exact h.lpi, h.cg⟩

theorem LpiKept.updRx {g} (h : LpiKept c s₀ s) : LpiKept c s₀ (s.updRx c g) :=
  ⟨by rw [State.ch_updRx, if_pos rfl]; exact h.lpi, h.cg⟩

theorem LpiKept.fresh {w} (h : LpiKept c s₀ s) : LpiKept c s₀ (s.fresh w).2 := ⟨h.lpi, h.cg⟩

theorem LpiKept.ite {p : Prop} {_ : Decidable p} (hx : LpiKept c s₀ x) (ht : LpiKept c s₀ t) :
    LpiKept c s₀ (if p then x else t) := by
  split
  · exact hx
  · exact ht

theorem LpiKept.setSub {n} (h : LpiKept c s₀ s) : LpiKept c s₀ (s.setSub c n) := by
  obtain ⟨d, g, hch⟩ := s.ch_setSub c n
  have hloc : Local c CFld.bySub s (s.setSub c n) := (Local.refl s).setSub fun _ => id
  refine ⟨by rw [hch]; exact h.lpi, fun f hf => (hloc.cg f ?_).trans (h.cg f hf)⟩
  unfold CFld.byStart at hf
  split at hf
  · cases hf
  · exact (Bool.or_eq_false_iff.mp hf).1

theorem LpiKept.toTraining (h : LpiKept c s₀ s) : LpiKept c s₀ (s.toTraining c) := .ite h h.setSub.updRx

theorem State.toTraining_sub (s : State) (c : Ch) : ((s.toTraining c).ch c).sub = .training := by
  unfold State.toTraining
  split
  next h => exact h
  next =>
    obtain ⟨d, g, hch⟩ := s.ch_setSub c .training
    rw [State.ch_updRx, if_pos rfl, hch]

theorem LpiKept.noPartner (h : LpiKept c s₀ s) : LpiKept c s₀ (s.noPartner c) := (h.cs rfl).cs rfl

theorem LpiKept.takeRoot {typ} (h : LpiKept c s₀ s) : LpiKept c s₀ (s.takeRoot c typ) := .ite h.updLink h.updLink.ds

theorem LpiKept.enterTrain {typ m} (h : LpiKept c s₀ s) : LpiKept c s₀ (s.enterTrain c typ m) :=
  .toTraining ((h.cs rfl).cs rfl).takeRoot.updLink.updLine.updDsp

theorem LpiKept.enterForced (h : LpiKept c s₀ s) : LpiKept c s₀ (s.enterForced c) := h.noPartner.updLink.enterTrain

theorem LpiKept.enterAn (h : LpiKept c s₀ s) : LpiKept c s₀ (s.enterAn c) :=
  .toTraining (((h.cs rfl).cs rfl).cs rfl).noPartner.fresh.updLink

/-- What follows the start of an attempt out of SLEEP (R152). -/
def State.leftSleep (s : State) (c : Ch) : State :=
  ((s.cs c .LPI_STAT_SLP_PHASE 0).updLink c fun l => { l with restart := false }).updLpi c fun l => { l with fromSleep := true }

theorem LpiKept.leftSleep (h : LpiKept c s t) (hsub : (t.ch c).sub = .training) :
    ((t.leftSleep c).ch c).sub = .training ∧ ((t.leftSleep c).ch c).lpi = { (s.ch c).lpi with fromSleep := true } ∧
      (t.leftSleep c).cg c .LPI_STAT_SLP_PHASE = 0 ∧ ∀ f, f.byStart = false → (t.leftSleep c).cg c f = s.cg c f := by
  refine ⟨by simp [State.leftSleep, hsub], by simp [State.leftSleep, h.lpi], by simp [State.leftSleep], fun f hf => ?_⟩
  rw [State.leftSleep, State.cg_updLpi, State.cg_updLink]
  exact (h.cs rfl).cg f hf

/-- The start as link control makes it (R84, R152). -/
theorem State.wakeStart_frame (s : State) (c : Ch) :
    ((s.wakeStart c).ch c).sub = .training ∧
      ((s.wakeStart c).ch c).lpi = { (s.ch c).lpi with waking := false, fromSleep := true } ∧
      (s.wakeStart c).cg c .LPI_STAT_SLP_PHASE = 0 ∧
      ∀ f, f.byStart = false → (s.wakeStart c).cg c f = s.cg c f := by
  have hlpi : ((s.updLpi c fun l => { l with waking := false }).ch c).lpi = { (s.ch c).lpi with waking := false } := by simp
  have hcg : ∀ f, (s.updLpi c fun l => { l with waking := false }).cg c f = s.cg c f := fun _ => rfl
  have hwake : s.wakeStart c = (if (s.updLpi c fun l => { l with waking := false }).cb c .LINK_CTL_AN_EN then
      (s.updLpi c fun l => { l with waking := false }).enterAn c
      else (s.updLpi c fun l => { l with waking := false }).enterForced c).leftSleep c := rfl
  rw [hwake]
  generalize s.updLpi c (fun l => { l with waking := false }) = y at hlpi hcg
  have hkept : LpiKept c y (if y.cb c .LINK_CTL_AN_EN then y.enterAn c else y.enterForced c) :=
    .ite (LpiKept.refl y).enterAn (LpiKept.refl y).enterForced
  have hsub : ((if y.cb c .LINK_CTL_AN_EN then y.enterAn c else y.enterForced c).ch c).sub = .training := by
    split
    · exact State.toTraining_sub ..
    · exact State.toTraining_sub ..
  obtain ⟨h1, h2, h3, h4⟩ := hkept.leftSleep hsub
  exact ⟨h1, by rw [h2, hlpi], h3, fun f hf => (h4 f hf).trans (hcg f)⟩

end

end Sys2Proof.Machine
end

section
namespace Sys2Proof.Machine

@[simp] theorem LinkSt.drop_msg (l : LinkSt) : l.drop.msg = l.msg := by unfold LinkSt.drop; split <;> rfl
@[simp] theorem LinkSt.drop_carry (l : LinkSt) : l.drop.carry = l.carry := by unfold LinkSt.drop; split <;> rfl
@[simp] theorem LinkSt.drop_master (l : LinkSt) : l.drop.master = l.master := by unfold LinkSt.drop; split <;> rfl

section
variable {s : State} {c : Ch}

/-! ### The registers of low-power idle (R144, R150 to R154) -/

theorem exec_txReq {src : Src} {v : Word} (ha : s.arrives src c .lpi) (hp : (s.ch c).posted = []) (hseg : isSeg c = false) :
    exec (.txReq src c v) s = .next ((s.txReq c (v.toNat.testBit 0)).reply 0) := by
  change s.rowW src c .lpi 0 v.toNat = _
  rw [State.rowW_outside s src c .lpi 0 _ (by decide) (by decide) ha, State.landAll_nil s c hp]
  simp [State.writeReg, hseg]

theorem exec_sleep {src : Src} (ha : s.arrives src c .lpi) (hp : (s.ch c).posted = []) (hseg : isSeg c = false) :
    exec (.sleep src c) s = .next ((s.sleepCmd c).reply 0) := by
  change s.rowW src c .lpi 4 1 = _
  rw [State.rowW_outside s src c .lpi 4 _ (by decide) (by decide) ha, State.landAll_nil s c hp]
  simp [State.writeReg, State.lpiCmd, hseg, Nat.testBit]

theorem exec_wake {src : Src} (ha : s.arrives src c .lpi) (hp : (s.ch c).posted = []) (hseg : isSeg c = false) :
    exec (.wake src c) s = .next ((s.wakeCmd c).reply 0) := by
  change s.rowW src c .lpi 4 2 = _
  rw [State.rowW_outside s src c .lpi 4 _ (by decide) (by decide) ha, State.landAll_nil s c hp]
  simp [State.writeReg, State.lpiCmd, hseg, Nat.testBit]

theorem exec_padRelease {src : Src} {latch : Bool} (ha : s.arrives src c .lpi) (hp : (s.ch c).posted = []) :
    exec (.padRelease src c latch) s = .next ((if latch then s.lpiRej c else s.padRelease c).reply 0) := by
  change s.rowDo src c .lpi 4 4 (fun s _ => if latch then s.lpiRej c else s.lpiCmd c 4) = _
  rw [State.rowDo_outside s src c .lpi 4 _ _ ha, State.landAll_nil s c hp]
  have hcmd : s.lpiCmd c 4 = s.padRelease c := by
    unfold State.lpiCmd
    split <;> simp [Nat.testBit]
  rw [hcmd]

/-! ### The sleep transaction (R150) -/

theorem State.sendSleep_frame (s : State) (c : Ch) (id reason f : Nat) :
    ((s.sendSleep c id reason f).ch c).lpi = (s.ch c).lpi ∧ ∀ x, (s.sendSleep c id reason f).cg c x = s.cg c x := by
  unfold State.sendSleep
  split
  · exact ⟨by simp [State.say, State.sayOnce], fun _ => rfl⟩
  · exact ⟨rfl, fun _ => rfl⟩

theorem State.sleepBegin_frame (s : State) (c : Ch) (init : Bool) (tid phase : Nat) (hp : phase < 8) :
    ((s.sleepBegin c init tid phase).ch c).lpi.sleep = some ⟨init, tid, none⟩ ∧
      (s.sleepBegin c init tid phase).cg c .LPI_STAT_SLP_PHASE = phase := by
  have hw : (CFld.info .LPI_STAT_SLP_PHASE).wid = 3 := rfl
  exact ⟨by simp [State.sleepBegin], by simp [State.sleepBegin, hw]; omega⟩

theorem State.sleepCmd_taken (h1 : (s.ch c).sub = .up) (h2 : (s.ch c).link.st = .up) (h3 : s.sleepAble c = true)
    (h4 : (s.ch c).lpi.sleep = none) : (s.sleepCmd c).cg c .LPI_STAT_SLP_PHASE = 1 ∧
      ∃ n, ((s.sleepCmd c).ch c).lpi.sleep = some ⟨true, n, none⟩ := by
  unfold State.sleepCmd
  rw [if_pos (by simp [h1, h2, h3, h4])]
  split
  · obtain ⟨hs, hp⟩ := s.sleepBegin_frame c true 0 1 (by decide)
    exact ⟨hp, 0, by simp [State.sendTc10, hs]⟩
  · obtain ⟨hs, hp⟩ := (s.fresh 8).2.sleepBegin_frame c true (s.fresh 8).1 1 (by decide)
    obtain ⟨hl, hcg⟩ := ((s.fresh 8).2.sleepBegin c true (s.fresh 8).1 1).sendSleep_frame c 0x20 0 0
    exact ⟨(hcg _).trans hp, _, by rw [hl, hs]⟩

theorem State.sleepCmd_rejected (h : (s.ch c).sub ≠ .up ∨ (s.ch c).link.st ≠ .up ∨ s.sleepAble c = false ∨
    (s.ch c).lpi.sleep.isSome = true) : s.sleepCmd c = s.cs c .LPI_EVT_CMD_REJ 1 := by
  unfold State.sleepCmd
  rw [if_neg]
  · rfl
  · rcases h with h | h | h | h
    · simp [h]
    · simp [h]
    · simp [h]
    · obtain ⟨x, hx⟩ := Option.isSome_iff_exists.mp h
      simp [hx]

/-- The end of a transaction without sleep (R150). -/
theorem State.sleepFail_frame (s : State) (c : Ch) (reason : Nat) :
    ((s.sleepFail c reason).ch c).lpi = { (s.ch c).lpi with sleep := none } ∧
      ((s.sleepFail c reason).ch c).link.msg = none ∧ (s.sleepFail c reason).cg c .LPI_EVT_SLEEP_FAIL = 1 ∧
      (s.sleepFail c reason).cg c .LPI_STAT_SLP_PHASE = 0 ∧ (s.sleepFail c reason).cg c .LPI_SLPCFG_REASON = reason % 16 := by
  have hw : (CFld.info .LPI_SLPCFG_REASON).wid = 4 := rfl
  have hw' : (CFld.info .LPI_EVT_SLEEP_FAIL).wid = 1 := rfl
  refine ⟨?_, ?_, ?_, ?_, ?_⟩ <;> simp [State.sleepFail, State.hush, hw, hw']

/-- The part's own cancel (R150). -/
theorem State.sleepCancel_frame (s : State) (c : Ch) (reason : Nat) :
    ((s.sleepCancel c reason).ch c).lpi.sleep = none ∧ (s.sleepCancel c reason).cg c .LPI_EVT_SLEEP_FAIL = 1 ∧
      (s.sleepCancel c reason).cg c .LPI_STAT_SLP_PHASE = 0 ∧
      (s.sleepCancel c reason).cg c .LPI_SLPCFG_REASON = reason % 16 := by
  obtain ⟨hl, -, hf, hp, hr⟩ := State.sleepFail_frame
    (if tc10Type (s.cg c .PCS_CTL_TYPE) then s else s.sendSleep c 0x24 reason 0) c reason
  exact ⟨congrArg LpiSt.sleep hl, hf, hp, hr⟩

theorem State.wakeCmd_signal (hs : (s.ch c).sub = .sleep) (hw : (s.ch c).lpi.waking = false) :
    ((s.wakeCmd c).ch c).lpi.waking = true ∧ ((s.wakeCmd c).ch c).sub = .sleep ∧ (s.wakeCmd c).regs = s.regs := by
  unfold State.wakeCmd
  dsimp only
  rw [if_pos (by simp [hs, hw])]
  split
  · exact ⟨by simp, by simp [State.sendTc10, hs], rfl⟩
  · exact ⟨by simp, by simp [hs], rfl⟩

theorem State.wakeCmd_cancels (hs : (s.ch c).sub ≠ .sleep) (ho : s.sleepOpen c = true) :
    s.wakeCmd c = s.sleepCancel c 6 := by
  simp [State.wakeCmd, hs, ho]

theorem State.wakeCmd_rejected (hs : (s.ch c).sub ≠ .sleep) (ho : s.sleepOpen c = false) :
    s.wakeCmd c = s.cs c .LPI_EVT_CMD_REJ 1 := by
  simp [State.wakeCmd, hs, ho, State.lpiRej]

/-! ### The directions of low-power idle (R144 to R146) -/

/-- The sub-state follows the directions, and their fields stay. -/
theorem State.lpiSub_frame (s : State) (c : Ch) :
    ((s.lpiSub c).ch c).sub = (if s.cb c .LPI_STAT_TX_LPI || s.cb c .LPI_STAT_RX_LPI then .lpi else .up) ∧
      ((s.lpiSub c).ch c).lpi = (s.ch c).lpi ∧ ∀ f, f.bySub = false → (s.lpiSub c).cg c f = s.cg c f := by
  have hset : ∀ n, ((s.setSub c n).ch c).sub = n ∧ ((s.setSub c n).ch c).lpi = (s.ch c).lpi ∧
      ∀ f, f.bySub = false → (s.setSub c n).cg c f = s.cg c f := fun n => by
    obtain ⟨d, g, hch⟩ := s.ch_setSub c n
    exact ⟨by rw [hch], by rw [hch], ((Local.refl s).setSub fun _ => id).cg⟩
  unfold State.lpiSub
  split
  · exact hset .lpi
  · exact hset .up

theorem exec_lpiTxEnter (hl : s.linkIn c .up = true) (hc : s.clocked c .lpi = true) (ha : s.lpiAble c = true)
    (hreq : s.cb c .LPI_CTL_TX_REQ = true) (htx : s.cb c .LPI_STAT_TX_LPI = false) (he : s.egEmpty c = true) :
    ∃ t, exec (.lpiTxEnter c) s = .next t ∧ t.cg c .LPI_STAT_TX_LPI = 1 ∧ t.cg c .LPI_EVT_TX_ENTER = 1 ∧
      (t.ch c).sub = .lpi ∧ t.cg c .LPI_TXCNT_COUNT = (s.cg c .LPI_TXCNT_COUNT + 1) % m32 := by
  have hw : (CFld.info .LPI_STAT_TX_LPI).wid = 1 := rfl
  have hw2 : (CFld.info .LPI_EVT_TX_ENTER).wid = 1 := rfl
  have hw3 : (CFld.info .LPI_TXCNT_COUNT).wid = 32 := rfl
  have hrun : exec (.lpiTxEnter c) s = execLpiTxEnter c s := rfl
  rw [hrun, execLpiTxEnter, if_pos (by rw [hl, hc, ha, hreq, htx, he]; rfl)]
  refine ⟨_, rfl, ?_⟩
  obtain ⟨hsub, -, hcg⟩ := State.lpiSub_frame ((((s.cs c .LPI_STAT_TX_LPI 1).cs c .LPI_EVT_TX_ENTER 1).cinc c
    .LPI_TXCNT_COUNT).updLpi c fun l => { l with
      sleepFr := some ((((s.cs c .LPI_STAT_TX_LPI 1).cs c .LPI_EVT_TX_ENTER 1).cinc c .LPI_TXCNT_COUNT).wholeFr c), exitAt := none }) c
  refine ⟨?_, ?_, ?_, ?_⟩
  · rw [hcg _ rfl]
    simp [State.cinc, hw]
  · rw [hcg _ rfl]
    simp [State.cinc, hw2]
  · rw [hsub]
    simp [State.cinc, hw]
  · rw [hcg _ rfl]
    simp [State.cinc, hw3, m32]

theorem exec_lpiRxEnter (hl : s.linkIn c .up = true) (hc : s.clocked c .lpi = true) (ha : s.lpiAble c = true)
    (hrx : s.cb c .LPI_STAT_RX_LPI = false) :
    ∃ t, exec (.lpiRxEnter c) s = .next t ∧ t.cg c .LPI_STAT_RX_LPI = 1 ∧ t.cg c .LPI_EVT_RX_ENTER = 1 ∧
      (t.ch c).sub = .lpi ∧ (t.ch c).lpi.rxQuiet = true ∧ t.cg c .DSP_FRZHW_LPI = 0x7F := by
  have hw : (CFld.info .LPI_STAT_RX_LPI).wid = 1 := rfl
  have hw2 : (CFld.info .LPI_EVT_RX_ENTER).wid = 1 := rfl
  have hw3 : (CFld.info .DSP_FRZHW_LPI).wid = 8 := rfl
  have hrun : exec (.lpiRxEnter c) s = execLpiRxEnter c s := rfl
  rw [hrun, execLpiRxEnter, if_pos (by rw [hl, hc, ha, hrx]; rfl)]
  refine ⟨_, rfl, ?_⟩
  obtain ⟨hsub, hlpi, hcg⟩ := State.lpiSub_frame ((((s.cs c .LPI_STAT_RX_LPI 1).cs c .LPI_EVT_RX_ENTER 1).updLpi c fun l =>
    { l with rxQuiet := true, refHit := false, refMiss := 0 }).setLpiMask c) c
  refine ⟨?_, ?_, ?_, ?_, ?_⟩
  · rw [hcg _ rfl]
    simp [State.setLpiMask, hw]
  · rw [hcg _ rfl]
    simp [State.setLpiMask, hw2]
  · rw [hsub]
    simp [State.setLpiMask, hw]
  · rw [hlpi]
    simp [State.setLpiMask]
  · rw [hcg _ rfl]
    simp [State.setLpiMask, State.lpiMask, hw, hw3]

theorem exec_lpiRxExit (hc : s.clocked c .lpi = true) (hrx : s.cb c .LPI_STAT_RX_LPI = true) :
    ∃ t, exec (.lpiRxExit c) s = .next t ∧ t.cg c .LPI_STAT_RX_LPI = 0 ∧ t.cg c .LPI_EVT_RX_EXIT = 1 ∧
      (t.ch c).lpi.rxQuiet = false ∧ (t.ch c).sub = if s.cb c .LPI_STAT_TX_LPI then .lpi else .up := by
  have hw2 : (CFld.info .LPI_EVT_RX_EXIT).wid = 1 := rfl
  have hrun : exec (.lpiRxExit c) s = execLpiRxExit c s := rfl
  rw [hrun, execLpiRxExit, if_pos (by rw [hc, hrx]; rfl)]
  refine ⟨_, rfl, ?_⟩
  obtain ⟨hsub, hlpi, hcg⟩ := State.lpiSub_frame ((((s.cs c .LPI_STAT_RX_LPI 0).cs c .LPI_EVT_RX_EXIT 1).updLpi c fun l =>
    { l with rxQuiet := false }).setLpiMask c) c
  refine ⟨?_, ?_, ?_, ?_⟩
  · rw [hcg _ rfl]
    simp [State.setLpiMask]
  · rw [hcg _ rfl]
    simp [State.setLpiMask, hw2]
  · rw [hlpi]
    simp [State.setLpiMask]
  · rw [hsub]
    simp [State.setLpiMask]

/-! ### A vendor handshake (R149, R150) -/

/-- What a message sent changes. -/
theorem State.say_frame (s : State) (c : Ch) (m : LinkMsg) :
    ((s.say c m).ch c).link.carry = (s.ch c).link.carry ++ [m] ∧ ((s.say c m).ch c).link.msg = some m ∧
      ((s.say c m).ch c).link.master = (s.ch c).link.master := by
  simp [State.say, State.sayOnce]

/-- An answer of the running transaction. -/
def State.sleepAnswer (s : State) (c : Ch) (id tid f : Nat) : LinkMsg := s.sleepMsg c id tid 0 f

theorem State.nakSleep_frame (s : State) (c : Ch) (m : LinkMsg) (reason : Nat) (hr : reason < 16) :
    (s.nakSleep c m reason).cg c .LPI_SLPCFG_REASON = reason ∧
      ((s.nakSleep c m reason).ch c).lpi = (s.ch c).lpi ∧
      ∃ r, ((s.nakSleep c m reason).ch c).link.carry = (s.ch c).link.carry ++ [r] ∧ r.is 0x22 = true ∧ r.tid = m.tid ∧
        r.reason = reason := by
  have hw : (CFld.info .LPI_SLPCFG_REASON).wid = 4 := rfl
  refine ⟨?_, by simp [State.nakSleep, State.sayOnce], (s.cs c .LPI_SLPCFG_REASON reason).sleepMsg c 0x22 m.tid reason 0,
    by simp [State.nakSleep, State.sayOnce], LinkMsg.is_build _ _ _ _ _ _ (by decide), (LinkMsg.tid_build ..).trans m.tid_mod,
    (LinkMsg.reason_build ..).trans (by omega)⟩
  simp only [State.nakSleep, State.sayOnce, State.cg_updLink, State.cg_cs, and_self, if_true, hw]
  omega

/-- A transaction begun by the partner, with its acknowledgement sent. -/
theorem State.ackSleep_frame (s : State) (c : Ch) (m : LinkMsg) : ∃ a : LinkMsg, a.is 0x21 = true ∧ a.tid = m.tid ∧
    (((s.sleepBegin c false m.tid 2).sendSleep c 0x21 0 0).ch c).lpi.sleep = some ⟨false, m.tid, none⟩ ∧
    ((s.sleepBegin c false m.tid 2).sendSleep c 0x21 0 0).cg c .LPI_STAT_SLP_PHASE = 2 ∧
    (((s.sleepBegin c false m.tid 2).sendSleep c 0x21 0 0).ch c).link.carry = (s.ch c).link.carry ++ [a] ∧
    (((s.sleepBegin c false m.tid 2).sendSleep c 0x21 0 0).ch c).link.msg = some a ∧
    (((s.sleepBegin c false m.tid 2).sendSleep c 0x21 0 0).ch c).link.master = (s.ch c).link.master := by
  obtain ⟨hs, hp⟩ := s.sleepBegin_frame c false m.tid 2 (by decide)
  obtain ⟨hl, hcg⟩ := (s.sleepBegin c false m.tid 2).sendSleep_frame c 0x21 0 0
  have hlink : ((s.sleepBegin c false m.tid 2).ch c).link = (s.ch c).link := by simp [State.sleepBegin]
  have hsay : (s.sleepBegin c false m.tid 2).sendSleep c 0x21 0 0 = (s.sleepBegin c false m.tid 2).say c
      ((s.sleepBegin c false m.tid 2).sleepMsg c 0x21 m.tid 0 0) := by
    simp only [State.sendSleep, hs]
  obtain ⟨h1, h2, h3⟩ := (s.sleepBegin c false m.tid 2).say_frame c
    ((s.sleepBegin c false m.tid 2).sleepMsg c 0x21 m.tid 0 0)
  refine ⟨(s.sleepBegin c false m.tid 2).sleepMsg c 0x21 m.tid 0 0, LinkMsg.is_build _ _ _ _ _ _ (by decide),
    (LinkMsg.tid_build ..).trans m.tid_mod, by rw [hl, hs], by rw [hcg, hp], ?_, ?_, ?_⟩ <;> rw [hsay]
  · rw [h1, hlink]
  · exact h2
  · rw [h3, hlink]

/-- The master's commit point. -/
theorem State.sendGo_frame {x : SleepSt} (hx : (s.ch c).lpi.sleep = some x) : ∃ r : LinkMsg, r.is 0x23 = true ∧
    ((s.sendGo c).ch c).lpi.sleep = some { x with go := some r.f } ∧ (s.sendGo c).cg c .LPI_STAT_SLP_PHASE = 3 ∧
    ((s.sendGo c).ch c).link.carry = (s.ch c).link.carry ++ [r] ∧ ((s.sendGo c).ch c).link.msg = some r := by
  have hw : (CFld.info .LPI_STAT_SLP_PHASE).wid = 3 := rfl
  unfold State.sendGo
  generalize hf : (s.txFr c + max (s.cg c .LPI_SLPCFG_LEAD) (leadMin (s.cg c .PCS_CTL_TYPE))) % 65536 = f
  have hsay : s.sendSleep c 0x23 0 f = s.say c (s.sleepMsg c 0x23 x.tid 0 f) := by simp only [State.sendSleep, hx]
  have hrf : (s.sleepMsg c 0x23 x.tid 0 f).f = f := (LinkMsg.f_build ..).trans (by omega)
  have hlpi : ((s.say c (s.sleepMsg c 0x23 x.tid 0 f)).ch c).lpi = (s.ch c).lpi := by simp [State.say, State.sayOnce]
  obtain ⟨h1, h2, -⟩ := s.say_frame c (s.sleepMsg c 0x23 x.tid 0 f)
  refine ⟨s.sleepMsg c 0x23 x.tid 0 f, LinkMsg.is_build _ _ _ _ _ _ (by decide), ?_, ?_, ?_, ?_⟩ <;> dsimp only <;> rw [hsay]
  · simp [State.updSleep, hlpi, hx, hrf]
  · simp [hw]
  · simp [State.updSleep, h1]
  · simp [State.updSleep, h2]

/-- Outside transmit LPI there is nothing to leave. -/
theorem State.txExit_idle (htx : s.cb c .LPI_STAT_TX_LPI = false) : s.txExit c = s := by
  unfold State.txExit
  rw [if_pos (by rw [htx]; rfl)]

/-- A request is judged with transmit LPI left (R149). -/
theorem State.takeSlpReq_of_tx (m : LinkMsg) (htx : s.cb c .LPI_STAT_TX_LPI = false) (hst : (s.ch c).link.st = .up) :
    s.takeSlpReq c m = if s.lpiWaking c then s.nakSleep c m 4
      else if s.cb c .LPI_SLPCFG_ACCEPT then
        if (((s.sleepBegin c false m.tid 2).sendSleep c 0x21 0 0).ch c).link.master then
          ((s.sleepBegin c false m.tid 2).sendSleep c 0x21 0 0).sendGo c
        else (s.sleepBegin c false m.tid 2).sendSleep c 0x21 0 0
      else s.nakSleep c m 1 := by
  unfold State.takeSlpReq
  rw [State.txExit_idle htx]
  cases hwk : s.lpiWaking c <;> cases hac : s.cb c .LPI_SLPCFG_ACCEPT <;> simp [hst, hac, -State.cb_cg]
end

end Sys2Proof.Machine
end

section
namespace Sys2Proof.Machine

section
variable {s : State} {c : Ch} {m : LinkMsg}

/-! ### What arrives of the partner's handshake (R149, R150) -/

theorem State.acted_frame (s : State) (c : Ch) (id : Nat) (m : LinkMsg) :
    ((s.acted c id m).ch c).lpi = (s.ch c).lpi ∧ ((s.acted c id m).ch c).link.carry = (s.ch c).link.carry ∧
      ((s.acted c id m).ch c).link.master = (s.ch c).link.master ∧ ((s.acted c id m).ch c).link.st = (s.ch c).link.st ∧
      (s.acted c id m).lpiWaking c = s.lpiWaking c := by
  have hlpi : ((s.acted c id m).ch c).lpi = (s.ch c).lpi := by simp [State.acted]
  have hfr : (s.acted c id m).txFr c = s.txFr c := by simp [State.acted, State.txFr]
  have hwaking : (s.acted c id m).lpiWaking c = s.lpiWaking c := by
    unfold State.lpiWaking
    rw [hlpi, hfr]
    rfl
  exact ⟨hlpi, by simp [State.acted], by simp [State.acted], by simp [State.acted, LinkSt.drop_st], hwaking⟩

theorem exec_slpReqReceive (hl : s.slpLive c = true) (hh : s.heard c 0x20 m = false) (hs : (s.ch c).lpi.sleep = none) :
    exec (.slpReqReceive c m) s = .next ((s.acted c 0x20 m).takeSlpReq c m) := by
  obtain ⟨hlpi, -⟩ := s.acted_frame c 0x20 m
  have hs' : ((s.acted c 0x20 m).ch c).lpi.sleep = none := by rw [hlpi, hs]
  change execSlpReqReceive c m s = _
  rw [execSlpReqReceive, if_neg (by rw [hl, hh]; decide)]
  dsimp only
  rw [hs']
  rfl

/-- What the responder does with a request (R149). -/
theorem State.takeSlpReq_frame (hs : (s.ch c).lpi.sleep = none) (htx : s.cb c .LPI_STAT_TX_LPI = false)
    (hst : (s.ch c).link.st = .up) :
    (s.lpiWaking c = true → (s.takeSlpReq c m).cg c .LPI_SLPCFG_REASON = 4 ∧ ((s.takeSlpReq c m).ch c).lpi.sleep = none ∧
      ∃ r, ((s.takeSlpReq c m).ch c).link.carry = (s.ch c).link.carry ++ [r] ∧ r.is 0x22 = true ∧ r.tid = m.tid ∧
        r.reason = 4) ∧
    (s.lpiWaking c = false → s.cb c .LPI_SLPCFG_ACCEPT = false → (s.takeSlpReq c m).cg c .LPI_SLPCFG_REASON = 1 ∧
      ((s.takeSlpReq c m).ch c).lpi.sleep = none ∧ ∃ r, ((s.takeSlpReq c m).ch c).link.carry = (s.ch c).link.carry ++ [r] ∧
        r.is 0x22 = true ∧ r.tid = m.tid ∧ r.reason = 1) ∧
    (s.lpiWaking c = false → s.cb c .LPI_SLPCFG_ACCEPT = true → (s.ch c).link.master = false → ∃ r,
      ((s.takeSlpReq c m).ch c).lpi.sleep = some ⟨false, m.tid, none⟩ ∧ (s.takeSlpReq c m).cg c .LPI_STAT_SLP_PHASE = 2 ∧
        ((s.takeSlpReq c m).ch c).link.msg = some r ∧ r.is 0x21 = true ∧ r.tid = m.tid) ∧
    (s.lpiWaking c = false → s.cb c .LPI_SLPCFG_ACCEPT = true → (s.ch c).link.master = true → ∃ a r : LinkMsg,
      ((s.takeSlpReq c m).ch c).lpi.sleep = some ⟨false, m.tid, some r.f⟩ ∧
        (s.takeSlpReq c m).cg c .LPI_STAT_SLP_PHASE = 3 ∧
        ((s.takeSlpReq c m).ch c).link.carry = (s.ch c).link.carry ++ [a, r] ∧ a.is 0x21 = true ∧ r.is 0x23 = true ∧
        ((s.takeSlpReq c m).ch c).link.msg = some r) := by
  rw [State.takeSlpReq_of_tx m htx hst]
  refine ⟨fun hw => ?_, fun hw hac => ?_, fun hw hac hm => ?_, fun hw hac hm => ?_⟩
  · rw [if_pos hw]
    obtain ⟨h1, h2, h3⟩ := s.nakSleep_frame c m 4 (by decide)
    exact ⟨h1, by rw [h2, hs], h3⟩
  · rw [if_neg (by simp [hw]), if_neg (by rw [hac]; exact Bool.false_ne_true)]
    obtain ⟨h1, h2, h3⟩ := s.nakSleep_frame c m 1 (by decide)
    exact ⟨h1, by rw [h2, hs], h3⟩
  · obtain ⟨a, hid, htid, hsl, hph, -, hmsg, hma⟩ := s.ackSleep_frame c m
    rw [if_neg (by simp [hw]), if_pos hac, if_neg (by rw [hma, hm]; exact Bool.false_ne_true)]
    exact ⟨a, hsl, hph, hmsg, hid, htid⟩
  · obtain ⟨a, hid, -, hsl, -, hcar, -, hma⟩ := s.ackSleep_frame c m
    rw [if_neg (by simp [hw]), if_pos hac, if_pos (hma.trans hm)]
    obtain ⟨r, hr, hsl', hph, hcar', hmsg⟩ := State.sendGo_frame hsl
    exact ⟨a, r, hsl', hph, by rw [hcar', hcar, List.append_assoc]; rfl, hid, hr, hmsg⟩

/-! ### Entry to SLEEP (R22, R150) -/

theorem State.countWake_frame (x : State) (c : Ch) : (x.countWake c).ch c = x.ch c ∧
    (x.countWake c).cg c .LPI_EVT_WAKE_LINE = 1 ∧
    (x.countWake c).cg c .LPI_WAKECNT_COUNT = (x.cg c .LPI_WAKECNT_COUNT + 1) % m32 ∧
    ∀ f, f ≠ .LPI_EVT_WAKE_LINE → f ≠ .LPI_WAKECNT_COUNT → (x.countWake c).cg c f = x.cg c f := by
  have hw : (CFld.info .LPI_EVT_WAKE_LINE).wid = 1 := rfl
  have hw2 : (CFld.info .LPI_WAKECNT_COUNT).wid = 32 := rfl
  have heq : x.countWake c = (({ x with mgmt := { x.mgmt with
      ports := x.mgmt.ports.set c.val { x.mgmt.ports[c.val] with wakeLine := true } } } : State).cinc c
        .LPI_WAKECNT_COUNT).cs c .LPI_EVT_WAKE_LINE 1 := rfl
  rw [heq]
  generalize ({ x.mgmt with ports := x.mgmt.ports.set c.val { x.mgmt.ports[c.val] with wakeLine := true } } : MgmtSt) = v
  have hcg : ∀ f, ({ x with mgmt := v } : State).cg c f = x.cg c f := fun _ => rfl
  have hch : ({ x with mgmt := v } : State).ch c = x.ch c := rfl
  generalize ({ x with mgmt := v } : State) = y at hcg hch
  exact ⟨hch, by simp [hw], by simp [State.cinc, hw2, hcg, m32], fun f h1 h2 => by simp [State.cinc, h1, h2, hcg]⟩

/-- What a wake in the cycle of the entry does (R22). -/
theorem State.sleepAborted_frame (s : State) (c : Ch) (w : CycWake) :
    (s.sleepAborted c w).cg c .LPI_EVT_SLEEP_ABORTED_WAKE = 1 ∧ ((s.sleepAborted c w).ch c).lpi.sleep = none ∧
      (s.sleepAborted c w).cg c .LPI_STAT_SLP_PHASE = 0 ∧ ((s.sleepAborted c w).ch c).sub = (s.ch c).sub ∧
      (s.sleepAborted c w).cg c .PCS_CTL_TYPE = s.cg c .PCS_CTL_TYPE ∧
      (w = .line → (s.sleepAborted c w).cg c .LPI_EVT_WAKE_LINE = 1 ∧
        (s.sleepAborted c w).cg c .LPI_WAKECNT_COUNT = (s.cg c .LPI_WAKECNT_COUNT + 1) % m32) := by
  have hw : (CFld.info .LPI_EVT_SLEEP_ABORTED_WAKE).wid = 1 := rfl
  cases w with
  | command => simp [State.sleepAborted, State.hush, hw]
  | line =>
    have hcmd : (s.sleepAborted c .line) = (s.sleepAborted c .command).countWake c := rfl
    obtain ⟨hch, hl, hn, hcg⟩ := (s.sleepAborted c .command).countWake_frame c
    rw [hcmd, hch, hcg _ (by decide) (by decide), hcg _ (by decide) (by decide), hcg _ (by decide) (by decide)]
    have hcount : (s.sleepAborted c .command).cg c .LPI_WAKECNT_COUNT = s.cg c .LPI_WAKECNT_COUNT := by
      simp [State.sleepAborted, State.hush]
    refine ⟨?_, ?_, ?_, ?_, ?_, fun _ => ⟨hl, by rw [hn, hcount]⟩⟩ <;> simp [State.sleepAborted, State.hush, hw]

/-- An aborted sleep of a TC10 type whose driver had stopped starts training. -/
theorem State.restart_frame (s : State) (c : Ch) :
    (((((s.updDiag c fun d => { d with iv := { d.iv with up := false } }).endLine c).toStop c).wakeStart c).ch c).sub =
        .training ∧
      (((((s.updDiag c fun d => { d with iv := { d.iv with up := false } }).endLine c).toStop c).wakeStart c).ch c).lpi.sleep =
        none ∧
      ((((s.updDiag c fun d => { d with iv := { d.iv with up := false } }).endLine c).toStop c).wakeStart c).cg c
        .LPI_STAT_SLP_PHASE = 0 ∧
      ∀ f, f.byStart = false → f.byEnd = false →
        ((((s.updDiag c fun d => { d with iv := { d.iv with up := false } }).endLine c).toStop c).wakeStart c).cg c f =
          s.cg c f := by
  have hloc : Local c CFld.byEnd s (((s.updDiag c fun d => { d with iv := { d.iv with up := false } }).endLine c).toStop c) :=
    Local.toStop ((Local.refl s).updCh.trans (State.endLine_local _ c))
  have hsleep : ((((s.updDiag c fun d => { d with iv := { d.iv with up := false } }).endLine c).toStop c).ch c).lpi.sleep = none := by
    rw [(State.toStop_stopped _ c).rest]
    exact (State.endLine_ended _ c).sleep
  generalize ((s.updDiag c fun d => { d with iv := { d.iv with up := false } }).endLine c).toStop c = x at hloc hsleep
  obtain ⟨hsub, hlpi, hph, hcg⟩ := x.wakeStart_frame c
  exact ⟨hsub, by rw [hlpi]; exact hsleep, hph, fun f hf he => (hcg f hf).trans (hloc.cg f he)⟩

theorem exec_sleepEnter_wake (hd : s.sleepDue c = true) (w : CycWake) : ∃ t, exec (.sleepEnter c (some w) none) s = .next t ∧
    t.cg c .LPI_EVT_SLEEP_ABORTED_WAKE = 1 ∧ (t.ch c).lpi.sleep = none ∧ t.cg c .LPI_STAT_SLP_PHASE = 0 ∧
      (w = .line → t.cg c .LPI_EVT_WAKE_LINE = 1 ∧ t.cg c .LPI_WAKECNT_COUNT = (s.cg c .LPI_WAKECNT_COUNT + 1) % m32) ∧
      (tc10Type (s.cg c .PCS_CTL_TYPE) = false → (t.ch c).sub = (s.ch c).sub) ∧
      ((t.ch c).sub = (s.ch c).sub ∨ (t.ch c).sub = .training) := by
  obtain ⟨hab, hsl, hph, hsub, htyp, hline⟩ := s.sleepAborted_frame c w
  have hrun : exec (.sleepEnter c (some w) none) s = (if tc10Type ((s.sleepAborted c w).cg c .PCS_CTL_TYPE) then
      if ((s.sleepAborted c w).fresh 1).1 = 1 then
        .next ((((((s.sleepAborted c w).fresh 1).2.updDiag c fun d => { d with iv := { d.iv with up := false } }).endLine
          c).toStop c).wakeStart c)
      else .next ((s.sleepAborted c w).fresh 1).2
    else .next (s.sleepAborted c w)) := by
    change execSleepEnter c (some w) none s = _
    rw [execSleepEnter, if_neg (by rw [hd]; decide)]
    rfl
  rw [hrun, htyp]
  split
  next htc =>
    split
    next =>
      obtain ⟨h1, h2, h3, h4⟩ := ((s.sleepAborted c w).fresh 1).2.restart_frame c
      exact ⟨_, rfl, (h4 _ rfl rfl).trans hab, h2, h3,
        fun hw => ⟨(h4 _ rfl rfl).trans (hline hw).1, (h4 _ rfl rfl).trans (hline hw).2⟩,
        fun h => absurd (htc.symm.trans h) nofun, .inr h1⟩
    next => exact ⟨_, rfl, hab, hsl, hph, hline, fun _ => hsub, .inl hsub⟩
  next => exact ⟨_, rfl, hab, hsl, hph, hline, fun _ => hsub, .inl hsub⟩

theorem exec_sleepEnter_sleeps (hd : s.sleepDue c = true) : ∃ t, exec (.sleepEnter c none none) s = .next t ∧
    (t.ch c).sub = .sleep ∧ t.cg c .LPI_EVT_SLEEP_DONE = 1 ∧ t.cg c .LPI_STAT_SLP_PHASE = 4 ∧
      (isSeg c = false → (t.ch c).link.st = .stop) := by
  have hw : (CFld.info .LPI_EVT_SLEEP_DONE).wid = 1 := rfl
  have hw2 : (CFld.info .LPI_STAT_SLP_PHASE).wid = 3 := rfl
  have hrun : exec (.sleepEnter c none none) s = .next ((((((((s.updDiag c fun d =>
      { d with iv := { d.iv with up := false } }).endLine c).toStop c).setSub c .sleep).updLpi c fun l =>
        { l with waking := false }).cs c .LPI_STAT_SLP_PHASE 4)).cs c .LPI_EVT_SLEEP_DONE 1) := by
    change execSleepEnter c none none s = _
    rw [execSleepEnter, if_neg (by rw [hd]; decide)]
    rfl
  have hstop := State.toStop_stopped ((s.updDiag c fun d => { d with iv := { d.iv with up := false } }).endLine c) c
  refine ⟨_, hrun, ?_⟩
  generalize ((s.updDiag c fun d => { d with iv := { d.iv with up := false } }).endLine c).toStop c = x at hstop
  obtain ⟨d, g, hch⟩ := x.ch_setSub c .sleep
  exact ⟨by simp [hch], by simp [hw], by simp [hw2], fun h => by simp [hch, hstop.link h]⟩

end

/-- Settles O51: a change of sub-state, the end of a link and the start of an attempt each leave the fields of LPI that
the commands set. -/
theorem lowPowerIdleSleepAndWake : Obligations.LowPowerIdleSleepAndWake := by
  intro s c
  refine ⟨fun src ha hp => ⟨fun hseg => ⟨fun v hst hb => ?_, fun v hst => ?_, fun h1 h2 h3 h4 => ?_, fun h => ?_⟩,
      fun hseg => ⟨fun hs hw => ?_, fun hs ho => ?_, fun hs ho => ?_⟩, fun h1 h2 h3 => ?_, fun latch h => ?_⟩,
    fun hl hc hab => ⟨fun hreq htx he => ?_, fun hrx => ?_⟩,
    fun hc => ⟨fun hrx => ?_, fun htx => ⟨fun hq => ?_, fun hq => ?_, fun b hq => ?_⟩, fun h7 => ?_,
      fun hrx h7 hq hhit hmiss => ?_, fun hseg hus he => ?_, fun hr ho => ?_,
      fun hd => ⟨?_, fun w => ?_, fun k => ⟨?_, fun w => ?_⟩⟩, fun hr hs hw => ?_, fun _ => ?_, fun hr hs hseg hm => ?_⟩,
    fun hen hm => ?_, fun hen hm hoff => ?_, fun m => ⟨fun hl hh hs htx hst => ?_, fun ho hph => ⟨fun hma => ?_, fun hma => ?_⟩,
      fun ho hph => ?_, fun x hx ho hg hma => ?_, fun x hx ho hg => ?_⟩,
    fun hseg hr hl htc => ⟨fun htx hac => ?_, fun hs htx hac => ?_, fun hs hph => ⟨?_, ?_⟩⟩⟩
  · rw [exec_txReq ha hp hseg, hb]
    simp [State.txReq, hst]
  · rw [exec_txReq ha hp hseg]
    simp [State.txReq, hst, State.lpiRej]
  · exact ⟨_, exec_sleep ha hp hseg, State.sleepCmd_taken h1 h2 h3 h4⟩
  · rw [exec_sleep ha hp hseg, State.sleepCmd_rejected h]
  · exact ⟨_, exec_wake ha hp hseg, State.wakeCmd_signal hs hw⟩
  · obtain ⟨h1, h2, -, h4⟩ := s.sleepCancel_frame c 6
    exact ⟨_, exec_wake ha hp hseg, by rw [State.wakeCmd_cancels hs ho]; exact ⟨h1, h2, h4⟩⟩
  · rw [exec_wake ha hp hseg, State.wakeCmd_rejected hs ho]
  · rw [exec_padRelease ha hp]
    simp [State.padRelease, h1, h2, h3]
  · rw [exec_padRelease ha hp]
    rcases h with h | h | h <;> simp [State.padRelease, State.lpiRej, h]
  · exact exec_lpiTxEnter hl hc hab hreq htx he
  · exact exec_lpiRxEnter hl hc hab hrx
  · exact exec_lpiRxExit hc hrx
  · change execLpiRefresh c false true s = _
    rw [execLpiRefresh, if_neg (by rw [hc]; decide), if_neg Bool.false_ne_true, if_neg (by rw [htx, hq]; decide)]
    rfl
  · change execLpiRefresh c false false s = _
    rw [execLpiRefresh, if_neg (by rw [hc]; decide), if_neg Bool.false_ne_true, if_neg (by rw [htx, hq]; decide)]
    rfl
  · change execLpiRefresh c false b s = _
    rw [execLpiRefresh, if_neg (by rw [hc]; decide), if_neg Bool.false_ne_true, if_pos (by rw [htx, hq]; decide)]
    rfl
  · simp [State.quietOk, h7]
  · change execLpiRefresh c true false s = _
    rw [execLpiRefresh, if_neg (by rw [hc]; decide), if_pos rfl, if_neg (by rw [hrx]; decide), if_neg Bool.false_ne_true]
    simp [hq, h7, hhit, hmiss, ok]
  · change ∃ t, execLpiIdleExpire c s = .next t ∧ _
    rw [execLpiIdleExpire, if_pos (by simp [hseg, hc, hus, he])]
    exact ⟨_, rfl, State.cg_cs_flag _ rfl, by simp⟩
  · obtain ⟨h1, h2, h3, -⟩ := (s.fresh 4).2.sleepCancel_frame c (s.fresh 4).1
    change ∃ t, execSleepRspTimeout c s = .next t ∧ _
    rw [execSleepRspTimeout, if_pos (by rw [hr, ho]; rfl)]
    exact ⟨_, rfl, h1, h2, h3⟩
  · exact exec_sleepEnter_sleeps hd
  · exact exec_sleepEnter_wake hd w
  · change execSleepEnter c none (some k) s = _
    rw [execSleepEnter, if_neg (by rw [hd]; decide)]
    rfl
  · change execSleepEnter c (some w) (some k) s = _
    rw [execSleepEnter, if_neg (by rw [hd]; decide)]
    rfl
  · change execWakeSignalEnd c s = _
    simp [execWakeSignalEnd, hr, hs, hw, ok]
  · obtain ⟨hsub, hlpi, -⟩ := s.wakeStart_frame c
    exact ⟨hsub, by rw [hlpi]⟩
  · change execLineWakeQualify c s = _
    simp [execLineWakeQualify, hm, hr, hs, hseg, ok]
  · change execLineWakeQualify c s = _
    rcases hm with hm | hm <;> simp [execLineWakeQualify, hm, hen, ok]
  · have hdown : s.lpiRuns c = false := by
      simp [State.lpiRuns, State.clocked, State.running, State.powered, hoff]
    change execLineWakeQualify c s = _
    simp [execLineWakeQualify, hm, hen, hoff, hdown, ok]
  · obtain ⟨hlpi, hcar, hma, hst', hwk⟩ := s.acted_frame c 0x20 m
    have h := State.takeSlpReq_frame (s := s.acted c 0x20 m) (c := c) (m := m) (by rw [hlpi, hs]) htx (hst'.trans hst)
    rw [hcar, hma, hwk] at h
    obtain ⟨hbusy, hno, hslave, hmaster⟩ := h
    rw [exec_slpReqReceive hl hh hs]
    refine ⟨fun hw => ⟨_, rfl, hbusy hw⟩, fun hw hac => ?_, fun hw hac hm => ?_, fun hw hac hm => ?_⟩
    · obtain ⟨h1, h2, r, h3⟩ := hno hw hac
      exact ⟨_, r, rfl, h1, h2, h3⟩
    · obtain ⟨r, hr⟩ := hslave hw hac hm
      exact ⟨_, r, rfl, hr⟩
    · obtain ⟨a, r, hr⟩ := hmaster hw hac hm
      exact ⟨_, a, r, rfl, hr⟩
  · obtain ⟨-, -, hm, -⟩ := s.acted_frame c 0x21 m
    have hma' : (((s.acted c 0x21 m).cs c .LPI_STAT_SLP_PHASE 2).ch c).link.master = true := hm.trans hma
    change execSlpAckReceive c m s = _
    rw [execSlpAckReceive, if_pos (by simp [ho, hph])]
    dsimp only
    rw [if_pos hma']
    rfl
  · obtain ⟨-, -, hm, -⟩ := s.acted_frame c 0x21 m
    have hma' : (((s.acted c 0x21 m).cs c .LPI_STAT_SLP_PHASE 2).ch c).link.master = false := hm.trans hma
    change execSlpAckReceive c m s = _
    rw [execSlpAckReceive, if_pos (by simp [ho, hph])]
    dsimp only
    rw [if_neg (by rw [hma']; exact Bool.false_ne_true)]
    rfl
  · obtain ⟨h1, h2, -⟩ := (s.acted c 0x22 m).sleepCancel_frame c m.reason
    change ∃ t, execSlpNakReceive c m s = .next t ∧ _
    rw [execSlpNakReceive, if_pos (by simp [ho, hph])]
    exact ⟨_, rfl, h1, h2⟩
  · have hw : (CFld.info .LPI_STAT_SLP_PHASE).wid = 3 := rfl
    obtain ⟨hlpi, -⟩ := s.acted_frame c 0x23 m
    have hopen : s.sleepOpen c = true := by simp [State.sleepOpen, hx, hg]
    change ∃ t, execSlpGoReceive c m s = .next t ∧ _
    rw [execSlpGoReceive, if_pos (by simp [ho, hopen, hma])]
    exact ⟨_, rfl, by simp [State.updSleep, hlpi, hx], by simp [hw]⟩
  · have hopen : s.sleepOpen c = true := by simp [State.sleepOpen, hx, hg]
    obtain ⟨hlpi, hmsg, hf, -⟩ := (s.acted c 0x24 m).sleepFail_frame c m.reason
    change ∃ t, execSlpCancelReceive c m s = .next t ∧ _
    rw [execSlpCancelReceive, if_pos (by simp [ho, hopen])]
    exact ⟨_, rfl, congrArg LpiSt.sleep hlpi, hf, hmsg⟩
  · change execTc10MessageReceive c .sleepReq s = _
    simp [execTc10MessageReceive, hseg, hr, hl, htc, State.txExit_idle htx, hac, -State.cb_cg, ok]
  · have hlpi : ((s.sendTc10 c .sleepAck).ch c).lpi.sleep = none := by simp [State.sendTc10, hs]
    change execTc10MessageReceive c .sleepReq s = _
    simp [execTc10MessageReceive, hseg, hr, hl, htc, State.txExit_idle htx, hac, hlpi, State.sleepFence, -State.cb_cg, ok]
  · change execTc10MessageReceive c .sleepAck s = _
    simp [execTc10MessageReceive, hseg, hr, hl, htc, hs, hph, ok]
  · obtain ⟨hlpi, -, hf, -⟩ := (s.fresh 4).2.sleepFail_frame c (s.fresh 4).1
    have hrun : execTc10MessageReceive c .sleepRej s = .next ((s.fresh 4).2.sleepFail c (s.fresh 4).1) := by
      simp [execTc10MessageReceive, hseg, hr, hl, htc, hs, hph, ok]
    exact ⟨_, hrun, congrArg LpiSt.sleep hlpi, hf⟩

end Sys2Proof.Machine
end

section
namespace Sys2Proof.Machine

/-! ### Accesses that fall in a cycle (R256, R258, R261) -/

section
variable {s : State} {a : Access}

/-- A cycle that no command leaves open. -/
theorem State.cyc_closed (h : s.cyc = CycSt.none) : { s with cyc := CycSt.none } = s := by rw [← h]

/-- What a cycle leaves, from its effect. -/
theorem State.inCyc_eq {k : CycSt} {g : State → State} {x : State} (h : g { s with cyc := k } = x) :
    s.inCyc k g = { x with cyc := CycSt.none } := by rw [State.inCyc, h]

theorem State.inCyc_congr {k : CycSt} {g g' : State → State} (h : g { s with cyc := k } = g' { s with cyc := k }) :
    s.inCyc k g = s.inCyc k g' := State.inCyc_eq h

/-- An access of another source than the program takes its turn alone. -/
theorem inTurn_one (h : a.src ≠ .prog) : inTurn [a] = [a] := by
  have hsrc : ([Src.sideband, .mdio, .debug, .prog].flatMap fun r => [a].filter fun a => a.src = r) = [a] := by
    cases hs : a.src <;> simp_all
  unfold inTurn
  rw [hsrc]
  cases hc : isCommit a <;> simp [hc]

/-- No access asks for a mode and for a reset. -/
theorem turns_one (s : State) (a : Access) : s.turns [a] = s.access a := by
  unfold State.turns
  cases hm : asksMode a with
  | false => simp [hm]
  | true =>
    have hno : s.resetTaken [a] = false := by simp [State.resetTaken, hm]
    rw [hno]
    rfl

/-- The cycle in which nothing but the access falls. -/
def CycSt.alone (gate : Bool) : CycSt := ⟨some gate, false, false, false, false, false, false⟩

theorem exec_registerWrite_one (h : a.src ≠ .prog) :
    exec (.registerWrite a Along.none) s = .next (s.inCyc (CycSt.alone (s.db .KEYGATE_OPEN)) fun s => s.access a) := by
  have hrun : exec (.registerWrite a Along.none) s = .next (s.inCyc (CycSt.alone (s.db .KEYGATE_OPEN)) fun s =>
      s.turns (inTurn [a])) := rfl
  rw [hrun, inTurn_one h]
  simp only [turns_one]

/-- The cycle of one access as it begins. -/
def State.opened (s : State) : State := { s with cyc := CycSt.alone (s.db .KEYGATE_OPEN) }

theorem exec_registerWrite_eq {x : State} (h : a.src ≠ .prog) (hx : s.opened.access a = x) :
    exec (.registerWrite a Along.none) s = .next { x with cyc := CycSt.none } := by
  rw [exec_registerWrite_one h]
  exact congrArg Host.Outcome.next (State.inCyc_eq hx)

/-- An access of another source than the program is a write by address, or ends in a bus error. -/
theorem State.access_size (h : a.src ≠ .prog) (hs : a.size ≠ 4) : s.access a = s.busError := by
  cases hsrc : a.src <;> simp_all [State.access]

theorem State.access_write (h : a.src ≠ .prog) (hs : a.size = 4) (hr : a.rd = false) :
    s.access a = s.busWrite a.src a.addr.toNat a.v := by
  cases hsrc : a.src <;> simp_all [State.access]

theorem State.busWrite_error {src : Src} {n : Nat} {v : Word}
    (h : s.busUp true = false ∨ n % 4 ≠ 0 ∨ s.srcOk src (tgtAt n) = false) : s.busWrite src n v = s.busError := by
  unfold State.busWrite
  rw [if_pos (by rcases h with h | h | h <;> simp [h])]

/-- A write that is answered: its effect on the block, or its way into the buffer. -/
theorem State.busWrite_taken {src : Src} {n : Nat} {v : Word} (hb : s.busUp true = true) (hn : n % 4 = 0)
    (hs : s.srcOk src (tgtAt n) = true) :
    ((tgtAt n).win = none → s.busWrite src n v = (s.landAt (tgtAt n) v n).reply 0) ∧
      ∀ c : Ch, (tgtAt n).win = some c → s.busWrite src n v = s.post c ⟨src, n % 0x100000, v, none⟩ := by
  have hgo : ¬(!s.busUp true || decide (n % 4 ≠ 0) || !s.srcOk src (tgtAt n)) = true := by simp [hb, hn, hs]
  refine ⟨fun hw => ?_, fun c hw => ?_⟩ <;> unfold State.busWrite <;> dsimp only <;> rw [if_neg hgo, hw]

/-! What the buffer does (R258, R402) -/

variable {c : Ch} {p : Posted}

theorem State.post_closed (h : (s.ch c).closing = true) : s.post c p = s.busError := by simp [State.post, h]

theorem State.post_room (h : (s.ch c).closing = false) (hl : (s.ch c).posted.length < 4) :
    s.post c p = (s.updCh c fun x => { x with posted := x.posted ++ [p] }).reply 0 := by
  unfold State.post
  rw [if_neg (by simp [h]), if_neg (by omega)]

theorem State.post_full (h : (s.ch c).closing = false) (hl : 4 ≤ (s.ch c).posted.length) :
    (s.post c p).chans = s.chans ∧ (s.post c p).bus = ⟨0, false⟩ ∧
      ∀ d : Ch, ((s.post c p).dg .INTEG_WPOVF_OVF).testBit d.val =
        (decide (d = c) || (s.dg .INTEG_WPOVF_OVF).testBit d.val) := by
  have hw : (DFld.info .INTEG_WPOVF_OVF).wid = 32 := rfl
  have hbit : ∀ x : State, x.chans = s.chans → x.dg .INTEG_WPOVF_OVF = s.dg .INTEG_WPOVF_OVF →
      let t := (x.ds .INTEG_WPOVF_OVF (x.dg .INTEG_WPOVF_OVF ||| 2 ^ c.val)).reply 0
      t.chans = s.chans ∧ t.bus = ⟨0, false⟩ ∧ ∀ d : Ch, (t.dg .INTEG_WPOVF_OVF).testBit d.val =
        (decide (d = c) || (s.dg .INTEG_WPOVF_OVF).testBit d.val) := fun x hch hdg => by
    refine ⟨hch, rfl, fun d => ?_⟩
    have hd : d.val < 32 := d.isLt
    rw [State.dg_reply, State.dg_ds, if_pos rfl, hw,
      hdg, Nat.testBit_mod_two_pow, Nat.testBit_or, Nat.testBit_two_pow]
    simp [hd, Fin.ext_iff, eq_comm, Bool.or_comm]
  unfold State.post
  rw [if_neg (by simp [h]), if_pos hl]
  dsimp only
  split
  · split
    · exact hbit _ rfl (State.dg_cs _ _ _ _ _)
    · exact hbit _ rfl rfl
  all_goals exact hbit _ rfl rfl

/-! Several sources in one cycle (R261) -/

/-- Three accesses that are no commit take their turns in the order of their sources. -/
theorem inTurn_three {l : List Access} {a b d : Access} (hp : l.Perm [a, b, d]) (ha : a.src = .sideband) (hb : b.src = .mdio)
    (hd : d.src = .debug) (hc : ∀ x ∈ [a, b, d], isCommit x = false) : inTurn l = [a, b, d] := by
  have hside : (l.filter fun a => a.src = .sideband) = [a] :=
    List.perm_singleton.mp ((hp.filter _).trans (by simp [ha, hb, hd]))
  have hmdio : (l.filter fun a => a.src = .mdio) = [b] :=
    List.perm_singleton.mp ((hp.filter _).trans (by simp [ha, hb, hd]))
  have hdebug : (l.filter fun a => a.src = .debug) = [d] :=
    List.perm_singleton.mp ((hp.filter _).trans (by simp [ha, hb, hd]))
  have hprog : (l.filter fun a => a.src = .prog) = [] :=
    List.perm_nil.mp ((hp.filter _).trans (by simp [ha, hb, hd]))
  have hsrc : ([Src.sideband, .mdio, .debug, .prog].flatMap fun r => l.filter fun a => a.src = r) = [a, b, d] := by
    simp only [List.flatMap_cons, List.flatMap_nil, hside, hmdio, hdebug, hprog]
    rfl
  unfold inTurn
  rw [hsrc]
  simp [hc a (by simp), hc b (by simp), hc d (by simp)]

/-- Where none asks for a reset, none is taken. -/
theorem State.resetTaken_none (s : State) (l : List Access) (h : ∀ x ∈ l, asksReset x = false) :
    s.resetTaken l = false := by
  have hfold : ∀ (l : List Access) (r : State × Bool), (∀ x ∈ l, asksReset x = false) → r.2 = false →
      (l.foldl (fun (r : State × Bool) a => (r.1.access a, r.2 ||
        (asksReset a && r.1.direct a && r.1.gateOpen && r.1.resettable && !r.1.outranked r.1.cyc.toSafe))) r).2 = false := by
    intro l
    induction l with
    | nil => exact fun r _ hr => hr
    | cons x l ih =>
      intro r hx hr
      exact ih _ (fun y hy => hx y (List.mem_cons_of_mem _ hy)) (by simp [hr, hx x List.mem_cons_self])
  exact hfold _ (s, false) (fun x hx => h x (List.mem_filter.mp hx).1) rfl

/-! A posted write lands (R258, R402) -/

theorem State.landOne_taken {l : List Posted} (hp : (s.ch c).posted = p :: l) (hd : s.domOk c = true)
    (honly : p.only = none) {t : State}
    (ht : t = (s.updCh c fun x => { x with posted := l }).landAt (winTgt c p.off) p.v (winAddr c p.off))
    (hoff : (t.ch c).offDue = false) : s.landOne c = t := by
  have hland : (s.updCh c fun x => { x with posted := l }).landPosted c p = t := by
    rw [ht, State.landPosted, honly]
  unfold State.landOne State.landHead
  rw [hp]
  dsimp only
  rw [if_pos (by simp [hd]), hland, if_neg (by simp [hoff])]

theorem exec_postedWriteLand_one {l : List Posted} (hs : s.servicesUp = true) (hp : (s.ch c).posted = p :: l) :
    exec (.postedWriteLand c Along.none) s = .next (s.inCyc (CycSt.alone (s.db .KEYGATE_OPEN)) fun s => s.landOne c) := by
  have hleave : s.leaves c [] = false := by simp [State.leaves]
  have hpair : ∀ x : State, x.cmdPair c p [] = none := fun x => by
    unfold State.cmdPair
    split
    · simp
    · rfl
  change execPostedWriteLand c Along.none s = _
  unfold execPostedWriteLand
  rw [hs, hp]
  change ok (s.cycle { Along.none with leave := Along.none.leave || s.leaves c [] } _ fun s => match s.cmdPair c p [] with
      | some (b, a) => (s.landHead c fun p s => s.cmdBoth c b p.v.toNat a.v.toNat).turns ([].filter (· ≠ a))
      | none => (s.landOne c).turns []) = _
  simp only [hleave, hpair]
  rfl

/-! A write that is judged at landing (R260) -/

theorem State.busLand_taken {src : Src} {n : Nat} {v : Word} (hb : s.busUp true = true) (hn : n % 4 = 0)
    (hs : s.srcOk src (tgtAt n) = true) :
    ((tgtAt n).win = none → s.busLand src n v = (s.landAt (tgtAt n) v n).reply 0) ∧
      ∀ c : Ch, (tgtAt n).win = some c → (s.ch c).closing = false →
        s.busLand src n v = ((s.landAll c).landAt (tgtAt n) v n).reply 0 := by
  have hgo : ¬(!s.busUp true || decide (n % 4 ≠ 0) || !s.srcOk src (tgtAt n)) = true := by simp [hb, hn, hs]
  refine ⟨fun hw => ?_, fun c hw hc => ?_⟩
  · unfold State.busLand
    dsimp only
    rw [if_neg hgo, hw]
  · unfold State.busLand
    dsimp only
    rw [if_neg hgo, hw]
    exact if_neg (by simp [hc])

theorem State.anyLand_outside {src : Src} (h : src ≠ .prog) (n : Nat) (v : Word) : s.anyLand src n v = s.busLand src n v := by
  cases src
  case prog => exact absurd rfl h
  all_goals rfl

end

end Sys2Proof.Machine
end

section
namespace Sys2Proof.Machine

/-! ### The cause of the last reset stays -/

section
variable {s₀ s : State} {c : Ch}

theorem Calm.sysEvt {bit} (h : CalmAny s₀ s) : CalmAny s₀ (s.sysEvt c bit) := by
  unfold State.sysEvt
  split
  · split
    iterate 8 exact h.cs
    exact h
  · exact h

theorem Calm.sysEvtAll {bit} (h : CalmAny s₀ s) : CalmAny s₀ (s.sysEvtAll bit) := h.forCh fun h => h.sysEvt

theorem Calm.setLive_dev {i b} (h : CalmAny s₀ s) : CalmAny s₀ (s.setLive (.dev i) b) := by
  unfold State.setLive
  dsimp -zeta only
  extract_lets was s1 s2
  have h1 : CalmAny s₀ s1 := h.ds rfl
  have h2 : CalmAny s₀ s2 := .ite (h1.ds rfl) h1
  exact .ite (.ite h2 (h2.ds rfl)) h1

theorem Calm.countSrc_ch {k kind} (h : CalmAny s₀ s) : CalmAny s₀ (s.countSrc (.ch c k) kind) := by
  unfold State.countSrc
  exact Calm.updCh h.cinc.cs.cs

theorem Calm.ite_fst {α : Type} {p : Prop} {_ : Decidable p} {a b : State × α} (ha : CalmAny s₀ a.1) (hb : CalmAny s₀ b.1) :
    CalmAny s₀ (if p then a else b).1 :=
  iteInduction (motive := fun r : State × α => CalmAny s₀ r.1) (fun _ => ha) fun _ => hb

theorem Calm.fst {α : Type} {a : α} (h : CalmAny s₀ s) : CalmAny s₀ (s, a).1 := h

/-- The record of a channel source. -/
theorem Calm.record_ch {k kind addr forced} (h : CalmAny s₀ s) : CalmAny s₀ (s.record (.ch c k) kind addr forced).1 := by
  unfold State.record
  extract_lets cl dry t w0 s1
  have h1 : CalmAny s₀ s1 := h.countSrc_ch
  clear_value s1
  split
  · exact h1.setRecWord.cinc.cs
  · refine .ite_fst (.fst (.sysEvt (.pend ?_))) (.fst (.sysEvt (.pend ?_)))
    · exact h1.cinc.cs
    · exact Calm.updCh h1.setRecWord.setRecWord.setRecWord.setRecWord.cinc

theorem Calm.seqQHalt (h : CalmAny s₀ s) : CalmAny s₀ (s.seqQHalt c) := by
  unfold State.seqQHalt
  split
  · exact h.updSeq.cs
  · exact h.updSeq.cs
  all_goals exact h

theorem Calm.toQuarantine (h : CalmAny s₀ s) : CalmAny s₀ (s.toQuarantine c) := by
  unfold State.toQuarantine
  exact h.forceStop.setSub.seqQHalt

theorem Calm.beginReset (h : CalmAny s₀ s) : CalmAny s₀ (s.beginReset c) := by
  unfold State.beginReset
  have hx : CalmAny s₀ (s.abandonLoad c).resetDebug := h.abandonLoad.resetDebug fun h => h.voteChanged
  exact .ite hx.voteChanged (Calm.updCh hx.forceStop.dropAll.answerFlush.resync.padLatch.setSub.seqStop)

end

section
variable (s : State) (c : Ch)

theorem Calm.self : CalmAny s s := .refl (fun _ => trivial) s

theorem State.kind_forCh {g : State → Ch → State}
    (hg : ∀ x c, (g x c).dg .TAP_RSTCAUSE_KIND = x.dg .TAP_RSTCAUSE_KIND) :
    (s.forCh g).dg .TAP_RSTCAUSE_KIND = s.dg .TAP_RSTCAUSE_KIND :=
  State.forCh_inv (fun t => t.dg .TAP_RSTCAUSE_KIND = s.dg .TAP_RSTCAUSE_KIND) s g rfl fun x c hx => (hg x c).trans hx

theorem State.kind_ds {f : DFld} {v : Nat} (hf : .TAP_RSTCAUSE_KIND ≠ f) :
    (s.ds f v).dg .TAP_RSTCAUSE_KIND = s.dg .TAP_RSTCAUSE_KIND := by simp [hf]

theorem State.kind_setMode (m : DevMode) : (s.setMode m).dg .TAP_RSTCAUSE_KIND = s.dg .TAP_RSTCAUSE_KIND :=
  (s.setMode_frame m).2.2.2 _ (by decide) (by decide) (by decide)

theorem State.kind_lockOut : s.lockOut.dg .TAP_RSTCAUSE_KIND = s.dg .TAP_RSTCAUSE_KIND := by
  have hend : CalmAny s ((s.endHeart).endSession 5) :=
    ((Calm.self s).endHeart fun h => h.voteChanged).endSession fun h => h.voteChanged
  have hoff : CalmAny s (((s.endHeart).endSession 5).forCh fun s c => s.domainOff c) := hend.forCh fun h => h.domainOff
  unfold State.lockOut
  dsimp only
  generalize ((s.endHeart).endSession 5).forCh (fun s c => s.domainOff c) = x at hoff
  exact (State.kind_setMode _ _).trans ((State.dg_of_regs rfl _).trans hoff.kind)

theorem State.kind_reportLoss (addr : Nat) : (s.reportLoss c addr).dg .TAP_RSTCAUSE_KIND = s.dg .TAP_RSTCAUSE_KIND := by
  have hr : CalmAny s (s.record (.ch c 4) 0 addr).1 := (Calm.self s).record_ch
  unfold State.reportLoss
  extract_lets cl r
  have hr' : CalmAny s r.1 := hr
  clear_value r
  split
  · exact hr'.kind
  · split
    · exact (State.kind_lockOut _).trans hr'.kind
    · split
      · exact hr'.voteBit.cancelDrain.beginReset.kind
      · exact hr'.kind

theorem State.kind_quarantine : (s.quarantine c).dg .TAP_RSTCAUSE_KIND = s.dg .TAP_RSTCAUSE_KIND := by
  unfold State.quarantine
  split
  · rfl
  · have hq : CalmAny s (((s.voteBit c 7 true).cancelDrain c).toQuarantine c) := (Calm.self s).voteBit.cancelDrain.toQuarantine
    dsimp only
    split
    · exact (State.kind_reportLoss _ _ _).trans hq.kind
    · exact hq.kind

theorem State.kind_leaveL2 : s.leaveL2.dg .TAP_RSTCAUSE_KIND = s.dg .TAP_RSTCAUSE_KIND := by
  have h : CalmAny s s.leaveL2 := Calm.ds (Calm.host ((Calm.self s).ds rfl)) rfl
  exact h.kind

theorem State.kind_enterSafe : s.enterSafe.dg .TAP_RSTCAUSE_KIND = s.dg .TAP_RSTCAUSE_KIND := by
  unfold State.enterSafe
  extract_lets s1 s2 src s3 s4
  have h1 : s1.dg .TAP_RSTCAUSE_KIND = s.dg .TAP_RSTCAUSE_KIND := by
    unfold s1
    split
    · exact s.kind_leaveL2
    · rfl
  have h2 : s2.dg .TAP_RSTCAUSE_KIND = s1.dg .TAP_RSTCAUSE_KIND := by
    unfold s2
    split
    · exact s1.relock_frame.2.1 _ (by decide) (by decide)
    · rfl
  have h4 : s4.dg .TAP_RSTCAUSE_KIND = s2.dg .TAP_RSTCAUSE_KIND := State.kind_forCh s3 fun x c => x.kind_quarantine c
  have h := h4.trans (h2.trans h1)
  clear_value s4
  have hsafe : ((s4.setMode .safe).forCh fun s c =>
      if (s.cg c .CHPWR_VOTE_CLIENTS).testBit 3 then s.cancelDrain c else s).dg .TAP_RSTCAUSE_KIND =
        s.dg .TAP_RSTCAUSE_KIND :=
    (State.kind_forCh _ fun x c => (Calm.ite (Calm.self x).cancelDrain (Calm.self x)).kind).trans
      ((State.kind_setMode _ _).trans h)
  split
  · exact h
  all_goals exact hsafe

theorem State.kind_react_dev (i cl : Nat) :
    (s.react (.dev i) cl).dg .TAP_RSTCAUSE_KIND = s.dg .TAP_RSTCAUSE_KIND := by
  unfold State.react
  split
  · split
    iterate 2 (next => rfl)
    all_goals exact s.kind_lockOut
  · dsimp only
    split
    iterate 4 (next => exact s.kind_enterSafe)
    all_goals rfl
  · rfl

theorem State.kind_assertSrc_dev (i kind addr : Nat) :
    (s.assertSrc (.dev i) kind addr).dg .TAP_RSTCAUSE_KIND = s.dg .TAP_RSTCAUSE_KIND := by
  have hr : CalmAny s (s.record (.dev i) kind addr false).1 := (Calm.self s).record_dev
  unfold State.assertSrc
  extract_lets cl dry r
  have hr' : CalmAny s r.1 := hr
  clear_value r
  split
  · exact hr'.kind
  · exact (State.kind_react_dev _ _ _).trans hr'.kind

theorem State.kind_raiseLevel_dev (i kind addr : Nat) :
    (s.raiseLevel (.dev i) kind addr).dg .TAP_RSTCAUSE_KIND = s.dg .TAP_RSTCAUSE_KIND := by
  unfold State.raiseLevel
  split
  · rfl
  · exact (State.kind_assertSrc_dev _ _ _ _).trans (Calm.self s).setLive_dev.kind

/-! ### The reference at the entry to Boot (R276, R284) -/

theorem State.kind_refDown : s.refDown.dg .TAP_RSTCAUSE_KIND = s.dg .TAP_RSTCAUSE_KIND := by
  unfold State.refDown
  extract_lets s1 khz s2 s3 src s4 s5
  have h1 : CalmAny s s1 := ((Calm.self s).ds rfl).ds rfl
  have h3 : CalmAny s s3 := Calm.sysEvtAll (Calm.ds (s := khz.2) h1.fresh rfl)
  clear_value s3
  have h4 : s4.dg .TAP_RSTCAUSE_KIND = s3.dg .TAP_RSTCAUSE_KIND := State.dg_of_regs (s := s3) (t := s4) rfl _
  clear_value s4
  have h5 : CalmAny s4 s5 := (((Calm.self s4).ds rfl).ds rfl).ds rfl
  have h : s5.dg .TAP_RSTCAUSE_KIND = s.dg .TAP_RSTCAUSE_KIND := h5.kind.trans (h4.trans h3.kind)
  clear_value s5
  exact (s5.kind_forCh fun x c => State.dg_updCh ..).trans h

/-- A reference that the choice finds is taken, and the part's state stays. -/
theorem State.takeRef_chosen (h : s.refChoice.isSome = true) :
    s.takeRef.dg .TAP_RSTCAUSE_KIND = s.dg .TAP_RSTCAUSE_KIND ∧ s.takeRef.power = s.power := by
  obtain ⟨r, hr⟩ := Option.isSome_iff_exists.mp h
  unfold State.takeRef
  rw [hr]
  dsimp only
  have h1 : CalmAny s ((s.ds .CLK_REFSTAT_ACTIVE (refCode r)).ds .CLK_REFSTAT_REF_LOST 0) := ((Calm.self s).ds rfl).ds rfl
  generalize (s.ds .CLK_REFSTAT_ACTIVE (refCode r)).ds .CLK_REFSTAT_REF_LOST 0 = x at h1 ⊢
  have h2 : ({ x with clock := { x.clock with coasting := false } } : State).power = s.power ∧
      ({ x with clock := { x.clock with coasting := false } } : State).dg .TAP_RSTCAUSE_KIND = s.dg .TAP_RSTCAUSE_KIND :=
    ⟨h1.power, (State.dg_of_regs rfl _).trans h1.kind⟩
  generalize ({ x with clock := { x.clock with coasting := false } } : State) = y at h2 ⊢
  have h3 : CalmAny y ((if (decide (s.refInUse = some r) && !s.db .CLK_REFSTAT_REF_LOST) = true then y
      else y.ds .CLK_REFSTAT_SPLL_LOCK 0).fallLevel (.dev 2)) :=
    Calm.setLive_dev (.ite (Calm.self y) ((Calm.self y).ds rfl))
  exact ⟨h3.kind.trans h2.2, h3.power.trans h2.1⟩

theorem State.kind_takeRef : s.takeRef.dg .TAP_RSTCAUSE_KIND = s.dg .TAP_RSTCAUSE_KIND := by
  cases h : s.refChoice with
  | some r => exact (s.takeRef_chosen (by rw [h]; rfl)).1
  | none =>
    unfold State.takeRef
    rw [h]
    dsimp only
    split
    · split
      · exact s.kind_ds (by decide)
      · exact (State.kind_refDown _).trans (s.kind_ds (by decide))
    · rfl

theorem State.kind_bootSrc (lost : Option RefIn) (i : Nat) :
    (s.bootSrc lost i).dg .TAP_RSTCAUSE_KIND = s.dg .TAP_RSTCAUSE_KIND := by
  unfold State.bootSrc
  split
  · exact s.kind_assertSrc_dev _ _ _
  · split
    · exact s.kind_raiseLevel_dev _ _ _
    · rfl
  · exact s.kind_assertSrc_dev _ _ _

theorem State.kind_startBoot : s.startBoot.dg .TAP_RSTCAUSE_KIND = s.dg .TAP_RSTCAUSE_KIND := by
  unfold State.startBoot
  extract_lets lost x kind due
  have hx : x.dg .TAP_RSTCAUSE_KIND = s.dg .TAP_RSTCAUSE_KIND := s.kind_takeRef
  exact List.foldlRecOn (motive := fun t : State => t.dg .TAP_RSTCAUSE_KIND = s.dg .TAP_RSTCAUSE_KIND) _ _ hx
    fun t ht i _ => (t.kind_bootSrc lost i).trans ht

/-- After a soft reset, with a reference to choose, nothing asserts at the entry to Boot. -/
theorem State.startBoot_quiet (hk : s.dg .TAP_RSTCAUSE_KIND = 3) (h : s.refChoice.isSome = true) :
    s.startBoot.power = s.power := by
  obtain ⟨hkind, hpow⟩ := s.takeRef_chosen h
  have hlost : s.refMissed = none := by simp [State.refMissed, h]
  unfold State.startBoot
  dsimp only
  rw [hlost, hkind.trans hk]
  simpa [byClass] using hpow

theorem State.enterBoot_frame : s.enterBoot.dg .TAP_RSTCAUSE_KIND = s.dg .TAP_RSTCAUSE_KIND ∧
    (s.dg .TAP_RSTCAUSE_KIND = 3 → s.clock.okA = true → s.clock.okB = true → s.enterBoot.power.mode = s.power.mode) := by
  unfold State.enterBoot
  have hsame : ({ s with power := { s.power with held := [] } } : State).dg .TAP_RSTCAUSE_KIND = s.dg .TAP_RSTCAUSE_KIND ∧
      ({ s with power := { s.power with held := [] } } : State).power.mode = s.power.mode ∧
      ({ s with power := { s.power with held := [] } } : State).clock = s.clock := ⟨rfl, rfl, rfl⟩
  generalize ({ s with power := { s.power with held := [] } } : State) = x at hsame
  obtain ⟨hkind, hmode, hclock⟩ := hsame
  dsimp only
  split
  · exact ⟨hkind, fun _ _ _ => hmode⟩
  · refine ⟨x.kind_startBoot.trans hkind, fun hk ha hb => ?_⟩
    have hchoice : x.refChoice.isSome = true := by
      unfold State.refChoice
      rw [hclock, ha, hb]
      split <;> rfl
    rw [x.startBoot_quiet (hkind.trans hk) hchoice, hmode]

/-! ### The warm reset (R304) -/

section
variable {s₀ s : State} {c : Ch}

theorem Calm.dropLine {r} (h : CalmAny s₀ s) : CalmAny s₀ (s.dropLine c r) :=
  h.local (Local.refl (p := fun _ => true) s).dropLine

theorem Calm.dropEgCls {k r} (h : CalmAny s₀ s) : CalmAny s₀ (s.dropEgCls c k r) :=
  h.local (Local.refl (p := fun _ => true) s).dropEgCls

theorem Calm.dropInCls {k g} (h : CalmAny s₀ s) : CalmAny s₀ (s.dropInCls c k g) :=
  h.local (Local.refl (p := fun _ => true) s).dropInCls

theorem Calm.plcaBack (h : CalmAny s₀ s) : CalmAny s₀ (s.plcaBack c) := by
  unfold State.plcaBack
  exact .ite (Calm.cs (Calm.updCh h)) h

theorem Calm.hostPortReset {e} (h : CalmAny s₀ s) : CalmAny s₀ (s.hostPortReset e) := by
  unfold State.hostPortReset
  extract_lets s1 s2 s3 pairs
  have hdown : CalmAny s₀ (s.linkDown e) := Calm.ds h.host rfl
  have h1 : CalmAny s₀ s1 := (hdown.resetDebug fun h => h.voteChanged).ds rfl
  have h2 : CalmAny s₀ s2 := h1.forCh fun {x d} hx => by
    refine Calm.foldl ?_ fun h => h.dropEgCls.dropInCls
    split
    · exact .ite hx hx.dropLine.plcaBack
    · exact hx
  have h3 : CalmAny s₀ s3 := h2.forCh fun h => h.updQ
  have h4 : CalmAny s₀ { s3 with host := { s3.host with tod := [], pairs := pairs } } := h3.host
  exact h4.forCh fun h => h.resync

theorem Calm.allOff (h : CalmAny s₀ s) : CalmAny s₀ s.allOff := by
  unfold State.allOff
  refine h.forCh fun h => Calm.updCh ?_
  exact .ite (Calm.updQ h).offBegin.powerOff (.ite (Calm.updQ h).powerOff (Calm.updQ h))

end

/-- The host link is in reset (R304). -/
def State.hostHeld (s : State) : State := { s with host := { s.host with ul := .reset, width32 := false } }

theorem State.hostHeld_frame : s.hostHeld.regs = s.regs ∧ s.hostHeld.power = s.power ∧ s.hostHeld.clock = s.clock :=
  ⟨rfl, rfl, rfl⟩

/-- What a warm reset clears beside fields, and the host port's reset (R248, R304). -/
def State.restarted (s : State) : State := (s.clearUnits.hostPortReset false).hostHeld

theorem State.clearUnits_frame : s.clearUnits.regs = s.regs ∧ s.clearUnits.power.mode = s.power.mode ∧
    s.clearUnits.clock.okA = s.clock.okA ∧ s.clearUnits.clock.okB = s.clock.okB := ⟨rfl, rfl, rfl, rfl⟩

theorem State.restarted_frame : s.restarted.dg .TAP_RSTCAUSE_KIND = s.dg .TAP_RSTCAUSE_KIND ∧
    s.restarted.power.mode = s.power.mode ∧ s.restarted.clock.okA = s.clock.okA ∧ s.restarted.clock.okB = s.clock.okB := by
  obtain ⟨hregs, hmode, ha, hb⟩ := s.clearUnits_frame
  have hport : CalmAny s.clearUnits (s.clearUnits.hostPortReset false) := (Calm.self _).hostPortReset
  obtain ⟨hregs', hpow, hclock⟩ := (s.clearUnits.hostPortReset false).hostHeld_frame
  rw [State.restarted, State.dg_of_regs hregs', hpow, hclock, hport.kind, hport.power, hport.clock, State.dg_of_regs hregs]
  exact ⟨rfl, hmode, ha, hb⟩

/-- The cause that a soft reset records. -/
theorem State.softCause_frame : ((s.ds .KEYGATE_OPEN 0).ds .TAP_RSTCAUSE_KIND 3).dg .TAP_RSTCAUSE_KIND = 3 ∧
    ((s.ds .KEYGATE_OPEN 0).ds .TAP_RSTCAUSE_KIND 3).power = s.power ∧
    ((s.ds .KEYGATE_OPEN 0).ds .TAP_RSTCAUSE_KIND 3).clock = s.clock := by
  have hw : (DFld.info .TAP_RSTCAUSE_KIND).wid = 4 := rfl
  simp [hw]

/-- Up to its entry to Boot a soft reset leaves the mode and the clock inputs, and records its cause. -/
theorem State.warmReset_soft : ∃ x : State, s.warmReset .soft = (if s.power.mode = .boot then x else x.setMode .boot).enterBoot ∧
    x.dg .TAP_RSTCAUSE_KIND = 3 ∧ x.power.mode = s.power.mode ∧
      x.clock.okA = s.clock.okA ∧ x.clock.okB = s.clock.okB := by
  have hdown : CalmAny s (s.linkDown false) := Calm.ds (Calm.self s).host rfl
  have h1 : CalmAny s ((s.linkDown false).endHeart.resetDebug).allOff :=
    ((hdown.endHeart fun h => h.voteChanged).resetDebug fun h => h.voteChanged).allOff
  have heq : ∃ p, s.warmReset .soft = (if s.power.mode = .boot then
      (((((s.linkDown false).endHeart.resetDebug.allOff).clearFields p).ds .KEYGATE_OPEN 0).ds .TAP_RSTCAUSE_KIND 3).restarted
      else ((((((s.linkDown false).endHeart.resetDebug.allOff).clearFields p).ds .KEYGATE_OPEN 0).ds .TAP_RSTCAUSE_KIND 3).restarted).setMode .boot).enterBoot := by
    unfold State.warmReset
    dsimp only [RstKind.code]
    rw [if_neg (by decide : ¬RstKind.soft = RstKind.supply)]
    exact ⟨_, rfl⟩
  obtain ⟨p, heq⟩ := heq
  refine ⟨_, heq, ?_⟩
  generalize (s.linkDown false).endHeart.resetDebug.allOff = y at h1
  obtain ⟨hkind, hpow, hclock⟩ := (y.clearFields p).softCause_frame
  generalize ((y.clearFields p).ds .KEYGATE_OPEN 0).ds .TAP_RSTCAUSE_KIND 3 = z at hkind hpow hclock
  obtain ⟨hk, hm, ha, hb⟩ := z.restarted_frame
  have hpow' : (y.clearFields p).power = s.power := h1.power
  have hclock' : (y.clearFields p).clock = s.clock := h1.clock
  exact ⟨hk.trans hkind, by rw [hm, hpow, hpow'], by rw [ha, hclock, hclock'], by rw [hb, hclock, hclock']⟩

theorem State.clock_setMode (m : DevMode) : (s.setMode m).clock = s.clock := by
  have h : ∀ (x : State) (v : Nat), (((x.ds .PWR_MODE_STAT_PREV v).ds .PWR_EVT_MODE_CHG 1).sysEvtAll 5).dbgPower.clock =
      x.clock := fun x v => (Calm.dbgPower (Calm.sysEvtAll (((Calm.self x).ds rfl).ds rfl))).clock
  unfold State.setMode
  dsimp only
  rw [h]

theorem State.softReset_frame (hr : s.resettable = true) (ho : s.cyc.toSafe = false) :
    s.softReset.dg .TAP_RSTCAUSE_KIND = 3 ∧
      (s.clock.okA = true → s.clock.okB = true → s.softReset.power.mode = .boot) := by
  obtain ⟨x, hx, hkind, hmode, ha, hb⟩ := s.warmReset_soft
  have htaken : s.softReset = s.warmReset .soft := by simp [State.softReset, State.outranked, hr, ho]
  have hboot : ∀ y : State, y.dg .TAP_RSTCAUSE_KIND = 3 → y.clock = x.clock → y.power.mode = .boot →
      y.enterBoot.dg .TAP_RSTCAUSE_KIND = 3 ∧
        (s.clock.okA = true → s.clock.okB = true → y.enterBoot.power.mode = .boot) := fun y hk hc hm => by
    obtain ⟨hkind', hmode'⟩ := y.enterBoot_frame
    exact ⟨hkind'.trans hk, fun h1 h2 => (hmode' hk (by rw [hc, ha, h1]) (by rw [hc, hb, h2])).trans hm⟩
  rw [htaken, hx]
  split
  next hm => exact hboot x hkind rfl (hmode.trans hm)
  next =>
    have hclock := x.clock_setMode .boot
    have hpow : (x.setMode .boot).power.mode = .boot := by rw [(x.setMode_frame .boot).1]
    exact hboot _ ((x.kind_setMode .boot).trans hkind) hclock hpow

end

end Sys2Proof.Machine
end

section
namespace Sys2Proof.Machine

/-! ### A soft reset beside a mode request (R19, R261, R304) -/

section
variable (s : State)

/-- A write of `PWR_CMD` with SOFTRST lands through the open gate. -/
theorem State.landD_softReset (v a : Nat) (hv : v.testBit 0 = true) (hg : s.gateOpen = true) :
    ∃ x : State, s.landD .pwr .plain 8 v a = x ∧
      (x = s.shutGate.softReset ∨ x = s.shutGate.softReset.ds (.tr .pwr .REF_ARMED) 0) := by
  have hk : ((DFld.at .pwr 8).any fun f => decide (f.info.acc = .rwk)) = true := by decide +kernel
  have hw : s.shutGate.writeRegD .pwr 8 v = s.shutGate.softReset := by simp [State.writeRegD, hv]
  have hland : s.landD .pwr .plain 8 v a = if s.shutGate.softReset.cfgWordD .pwr 8 = s.shutGate.cfgWordD .pwr 8 then
      s.shutGate.softReset else s.shutGate.softReset.ds (.tr .pwr .REF_ARMED) 0 := by
    have halias : s.aliasWordD (DFld.at .pwr 8) .plain v = some v := rfl
    have himg : imgArea .pwr 8 = false := rfl
    unfold State.landD
    dsimp only
    rw [himg, halias, if_neg Bool.false_ne_true]
    dsimp only
    rw [if_pos hk, State.guard_open _ _ _ hg, hw]
  refine ⟨_, rfl, ?_⟩
  rw [hland]
  exact ite_eq_or_eq _ _ _

/-- The mode request that arrives over the sideband and the soft reset of the debug port. -/
def modeReqAt (v : Word) : Access := ⟨.sideband, false, BitVec.ofNat 32 (devAddr .pwr 4), v, 4⟩

@[inherit_doc modeReqAt]
def softResetAt (w : Word) : Access := ⟨.debug, false, BitVec.ofNat 32 (devAddr .pwr 8), w, 4⟩

theorem tgtAt_modeReqAt (v : Word) : tgtAt (modeReqAt v).addr.toNat = .dev .pwr .plain 4 :=
  (by decide : tgtAt (BitVec.ofNat 32 (devAddr .pwr 4)).toNat = .dev .pwr .plain 4)

theorem tgtAt_softResetAt (w : Word) : tgtAt (softResetAt w).addr.toNat = .dev .pwr .plain 8 :=
  (by decide : tgtAt (BitVec.ofNat 32 (devAddr .pwr 8)).toNat = .dev .pwr .plain 8)

theorem asksMode_modeReqAt (v : Word) : asksMode (modeReqAt v) = true := by
  unfold asksMode
  rw [tgtAt_modeReqAt]
  rfl

theorem asksMode_softResetAt (w : Word) : asksMode (softResetAt w) = false := by
  unfold asksMode
  rw [tgtAt_softResetAt]
  rfl

theorem asksReset_softResetAt (w : Word) : asksReset (softResetAt w) = w.toNat.testBit 0 := by
  unfold asksReset
  rw [tgtAt_softResetAt]
  rfl

theorem isCommit_modeReqAt (v : Word) : isCommit (modeReqAt v) = false :=
  (by decide : (!false && decide ((BitVec.ofNat 32 (devAddr .pwr 4)).toNat = devAddr .integ 0x1C)) = false)

theorem isCommit_softResetAt (w : Word) : isCommit (softResetAt w) = false :=
  (by decide : (!false && decide ((BitVec.ofNat 32 (devAddr .pwr 8)).toNat = devAddr .integ 0x1C)) = false)

theorem inTurn_modeReq_softReset (v w : Word) : inTurn [modeReqAt v, softResetAt w] = [modeReqAt v, softResetAt w] := by
  have hsrc : ([Src.sideband, .mdio, .debug, .prog].flatMap fun r =>
      [modeReqAt v, softResetAt w].filter fun a => a.src = r) = [modeReqAt v, softResetAt w] := by
    simp [modeReqAt, softResetAt]
  unfold inTurn
  rw [hsrc]
  simp [isCommit_modeReqAt, isCommit_softResetAt]

/-- The mode request is discarded beside the reset, which is taken. -/
theorem State.turns_modeReq_softReset (v w : Word) (hb : s.busUp true = true) (hw : w.toNat.testBit 0 = true)
    (hg : s.gateOpen = true) (hr : s.resettable = true) (ho : s.cyc.toSafe = false) :
    s.turns [modeReqAt v, softResetAt w] = (s.landD .pwr .plain 8 w.toNat (devAddr .pwr 8)).reply 0 := by
  have hdirect : s.direct (softResetAt w) = true := by
    unfold State.direct
    rw [tgtAt_softResetAt]
    have haddr : devAddr .pwr 8 % 4 = 0 := by decide
    simp [haddr, softResetAt, hb, State.srcOk, State.tgtOk, State.devOk, Tgt.win]
  have htaken : s.resetTaken [modeReqAt v, softResetAt w] = true := by
    simp [State.resetTaken, asksMode_modeReqAt, asksMode_softResetAt, asksReset_softResetAt, hw, hdirect, hg, hr,
      State.outranked, ho]
  have hwrite : s.access (softResetAt w) = (s.landD .pwr .plain 8 w.toNat (devAddr .pwr 8)).reply 0 := by
    have haddr : (softResetAt w).addr.toNat = devAddr .pwr 8 := (by decide : (BitVec.ofNat 32 (devAddr .pwr 8)).toNat = _)
    have htgt := tgtAt_softResetAt w
    rw [haddr] at htgt
    have hland := (State.busWrite_taken (s := s) (src := .debug) (v := w) hb (by decide : devAddr .pwr 8 % 4 = 0)
      (by rw [htgt]; rfl)).1 (by rw [htgt]; rfl)
    rw [State.access_write (by simp [softResetAt]) rfl rfl, haddr]
    rw [htgt] at hland
    exact hland
  unfold State.turns
  rw [htaken]
  simp [asksMode_modeReqAt, asksMode_softResetAt, hwrite]

/-- What the reset leads to, in a cycle of its own. -/
theorem exec_modeReq_softReset (v w : Word) (hb : s.busUp true = true) (hw : w.toNat.testBit 0 = true)
    (hg : s.db .KEYGATE_OPEN = true) (hr : s.resettable = true) :
    ∃ t, exec (.registerWrite (modeReqAt v) ⟨[softResetAt w], [], false, false, false, false, false, false⟩) s = .next t ∧
      t.dg .TAP_RSTCAUSE_KIND = 3 ∧ (s.clock.okA = true → s.clock.okB = true → t.power.mode = .boot) := by
  have hrun : exec (.registerWrite (modeReqAt v) ⟨[softResetAt w], [], false, false, false, false, false, false⟩) s =
      .next (s.inCyc (CycSt.alone (s.db .KEYGATE_OPEN)) fun s => s.turns (inTurn [modeReqAt v, softResetAt w])) := rfl
  obtain ⟨x, hx, hsoft⟩ := s.opened.landD_softReset w.toNat (devAddr .pwr 8) hw hg
  have hturns : s.opened.turns (inTurn [modeReqAt v, softResetAt w]) = x.reply 0 := by
    rw [inTurn_modeReq_softReset, s.opened.turns_modeReq_softReset v w hb hw hg hr rfl, hx]
  obtain ⟨hkind, hmode⟩ := State.softReset_frame (s := s.opened.shutGate) hr rfl
  refine ⟨_, hrun.trans (congrArg Host.Outcome.next (State.inCyc_eq hturns)), ?_⟩
  generalize s.opened.shutGate.softReset = y at hsoft hkind hmode
  have hall : x.dg .TAP_RSTCAUSE_KIND = 3 ∧ (s.clock.okA = true → s.clock.okB = true → x.power.mode = .boot) := by
    rcases hsoft with rfl | rfl
    · exact ⟨hkind, hmode⟩
    · exact ⟨(y.kind_ds (by decide)).trans hkind, hmode⟩
  exact ⟨(State.dg_of_regs (s := x) rfl _).trans hall.1, hall.2⟩

end

/-- Settles O40: an access alone is its own turn; the soft reset keeps the cause it recorded and, with a reference to
choose, asserts nothing at the entry to Boot. -/
theorem accessesByAddress : Obligations.AccessesByAddress := by
  refine ⟨fun s a hsrc hcyc => ⟨fun h => ?_, fun hsize hrd hup hal hok => ⟨fun hwin => ?_, fun c hwin => ⟨fun hc => ?_,
    fun hc hl => ?_, fun hc hl => ?_⟩⟩⟩, fun s a b d ha hb hd hall x y z hperm => ?_,
    fun s v w hcyc hup hok hgate hres hw => ?_, fun s c p l hup hp hdom hoff honly t ht hoff' => ?_, fun s src a v hsrc hup => ?_⟩
  · have herr : s.opened.access a = s.opened.busError := by
      rcases h with h | ⟨hrd, h⟩
      · exact State.access_size hsrc h
      · by_cases hsize : a.size = 4
        · exact (State.access_write hsrc hsize hrd).trans (State.busWrite_error h)
        · exact State.access_size hsrc hsize
    rw [exec_registerWrite_eq hsrc herr]
    exact congrArg Host.Outcome.next (State.cyc_closed (s := s.busError) hcyc)
  · rw [exec_registerWrite_eq hsrc ((State.access_write hsrc hsize hrd).trans
      ((State.busWrite_taken (s := s.opened) hup hal hok).1 hwin))]
    rfl
  · rw [exec_registerWrite_eq hsrc ((State.access_write hsrc hsize hrd).trans
      (((State.busWrite_taken (s := s.opened) hup hal hok).2 c hwin).trans (State.post_closed hc)))]
    exact congrArg Host.Outcome.next (State.cyc_closed (s := s.busError) hcyc)
  · rw [exec_registerWrite_eq hsrc ((State.access_write hsrc hsize hrd).trans
      (((State.busWrite_taken (s := s.opened) hup hal hok).2 c hwin).trans (State.post_room hc hl)))]
    exact congrArg Host.Outcome.next (State.cyc_closed (s := (s.updCh c fun x => { x with
      posted := x.posted ++ [⟨a.src, a.addr.toNat % 0x100000, a.v, none⟩] }).reply 0) hcyc)
  · obtain ⟨hch, hbus, hovf⟩ := State.post_full (s := s.opened) (c := c)
      (p := ⟨a.src, a.addr.toNat % 0x100000, a.v, none⟩) hc hl
    exact ⟨_, exec_registerWrite_eq hsrc ((State.access_write hsrc hsize hrd).trans
      ((State.busWrite_taken (s := s.opened) hup hal hok).2 c hwin)), hch, hbus, hovf⟩
  · have hcommit : ∀ x ∈ [a, b, d], isCommit x = false := fun x hx => by simp [isCommit, (hall x hx).1]
    have hturn := inTurn_three hperm ha hb hd hcommit
    have hrun : exec (.registerWrite x ⟨[y, z], [], false, false, false, false, false, false⟩) s =
        .next (s.inCyc (CycSt.alone (s.db .KEYGATE_OPEN)) fun s => s.turns (inTurn [x, y, z])) := rfl
    rw [hrun, hturn]
    refine congrArg Host.Outcome.next (State.inCyc_congr ?_)
    rw [State.turns, State.resetTaken_none _ _ fun x hx => (hall x hx).2]
    rfl
  · exact exec_modeReq_softReset s v w hup hw hgate hres
  · rw [exec_postedWriteLand_one hup hp]
    exact congrArg Host.Outcome.next (State.inCyc_eq
      (State.landOne_taken (s := { s with cyc := CycSt.alone (s.db .KEYGATE_OPEN) }) hp hdom honly ht hoff'))
  · have hlands : ∀ (i : Instr) (n : Nat), exec i s = .next (s.anyLand src n v) → n % 4 = 0 →
        s.srcOk src (tgtAt n) = true →
        ((tgtAt n).win = none → exec i s = .next ((s.landAt (tgtAt n) v n).reply 0)) ∧
        ∀ c : Ch, (tgtAt n).win = some c → (s.ch c).closing = false →
          exec i s = .next (((s.landAll c).landAt (tgtAt n) v n).reply 0) := fun i n hi hn hok => by
      rw [hi, State.anyLand_outside hsrc]
      obtain ⟨hdev, hwin⟩ := State.busLand_taken (v := v) hup hn hok
      exact ⟨fun h => by rw [hdev h], fun c h hc => by rw [hwin c h hc]⟩
    exact ⟨hlands _ _ rfl, hlands _ _ rfl, hlands _ _ rfl, hlands _ _ rfl⟩

end Sys2Proof.Machine
end

section
namespace Sys2Proof.Machine

/-! ### A write of a configuration register, in a cycle that may leave MAINT (R53, R256, R271) -/

section
variable {s : State} {c : Ch}

/-- The state in a cycle in which the channel leaves MAINT where `leave` says so. -/
def State.leaving (s : State) (leave : Bool) : State := { s with cyc := { CycSt.none with leave := leave } }

theorem State.cg_leaving (leave : Bool) (d : Ch) (f : CFld) : (s.leaving leave).cg d f = s.cg d f := rfl

theorem State.inMaint_leaving (leave : Bool) :
    (s.leaving leave).inMaint c = (decide ((s.ch c).sub = .maint) && !leave) := rfl

theorem State.inMaint_leaving_eq_true {leave : Bool} (hm : (s.ch c).sub = .maint) (hl : leave = false) :
    (s.leaving leave).inMaint c = true := by
  rw [State.inMaint_leaving, hl, hm]
  rfl

theorem State.inMaint_leaving_eq_false {leave : Bool} (h : (s.ch c).sub ≠ .maint ∨ leave = true) :
    (s.leaving leave).inMaint c = false := by
  rw [State.inMaint_leaving]
  rcases h with h | h <;> simp [h]

/-- Beside the effect of its register a plain write past no gate may only disarm the block's comparison (R271). -/
theorem State.cg_landC_plain {b : CBlk} {o : Nat} (v a : Nat) (p : Bool) (hk : ∀ f ∈ CFld.at b o, f.info.acc ≠ .rwk)
    {f : CFld} (hf : f ≠ .tr b .REF_ARMED) : (s.landC c b .plain o v p a).cg c f = (s.writeReg c b o v p).cg c f := by
  have hno : ((CFld.at b o).any fun f => implFld c f && decide (f.info.acc = .rwk)) = false :=
    List.any_eq_false.mpr fun f hf => by simp [hk f hf]
  have hput : s.landC c b .plain o v p a = s.cfgPut c b o fun s => s.writeReg c b o v p := by
    simp [State.landC, State.aliasWord, hno]
  rw [hput, State.cfgPut]
  split
  · rfl
  · rw [State.cg_cs, if_neg fun h => hf h.2]

/-- A taken write from outside, with what falls in its cycle, shows in the fields what its register does. -/
theorem State.rowDo_leaving {src : Src} {b : CBlk} (o v a : Nat) (leave : Bool) (ha : s.arrives src c b)
    (hp : (s.ch c).posted = []) (hk : ∀ f ∈ CFld.at b o, f.info.acc ≠ .rwk) :
    ∃ t, s.rowDo src c b o v (fun s p => s.inCyc { CycSt.none with leave := leave } fun s => s.landC c b .plain o v p a) =
      .next t ∧ ∀ f, f ≠ .tr b .REF_ARMED → t.cg c f = ((s.leaving leave).writeReg c b o v false).cg c f := by
  refine ⟨_, State.rowDo_outside s src c b o v _ ha, fun f hf => ?_⟩
  rw [State.landAll_nil s c hp, ← State.cg_landC_plain (s := s.leaving leave) v a false hk hf]
  rfl

/-! ### Loopbacks (R53, R54, R68) -/

theorem State.regs_clearEc (s : State) (c : Ch) : (s.clearEc c).regs = s.regs := by
  have hfold : ∀ (l : List Nat) (x : State), (l.foldl (fun s e => s.acquire c e) x).regs = x.regs := fun l => by
    induction l with
    | nil => exact fun _ => rfl
    | cons e l ih => exact fun x => ih _
  exact hfold _ _

theorem State.cg_loopWrite {m : Nat} {f : CFld} (h1 : f ≠ .AFE_CTL_LOOP) (h2 : f ≠ .AFE_STAT_LOOP_REJ) :
    (s.loopWrite c m).cg c f = s.cg c f := by
  unfold State.loopWrite
  split
  · simp [h1]
  · split
    · simp [State.afeRej, h2]
    · dsimp only
      split
      · rw [State.cg_of_regs (State.regs_clearEc _ c)]
        simp [h1]
      · simp [h1]

theorem State.loopWrite_off : (s.loopWrite c 0).cg c .AFE_CTL_LOOP = 0 := by
  simp [State.loopWrite]

theorem State.loopWrite_on {m : Nat} (hm : m = 1 ∨ m = 2) (hi : s.inMaint c = true) (hl : s.cb c .PCS_CTL_PCS_LOOP = false) :
    (s.loopWrite c m).cg c .AFE_CTL_LOOP = m ∧
      (s.loopWrite c m).cg c .AFE_STAT_LOOP_REJ = s.cg c .AFE_STAT_LOOP_REJ := by
  have hw : (CFld.info .AFE_CTL_LOOP).wid = 2 := rfl
  have hregs : (s.loopWrite c m).regs = (s.cs c .AFE_CTL_LOOP m).regs := by
    unfold State.loopWrite
    rw [if_neg (by omega), if_neg (by rw [hi, hl]; simp; omega)]
    dsimp only
    split
    · exact State.regs_clearEc _ c
    · rfl
  rw [State.cg_of_regs hregs, State.cg_of_regs hregs]
  refine ⟨?_, by simp⟩
  rcases hm with rfl | rfl <;> simp [hw]

theorem State.loopWrite_rejected {m : Nat} (h : m = 3 ∨ m ≠ 0 ∧ (s.inMaint c = false ∨ s.cb c .PCS_CTL_PCS_LOOP = true)) :
    s.loopWrite c m = s.cs c .AFE_STAT_LOOP_REJ 1 := by
  unfold State.loopWrite
  rw [if_neg (by omega), if_pos]
  · rfl
  · rcases h with h | ⟨-, h | h⟩ <;> rw [h] <;> simp

/-- Up to its LOOP field a write of `AFE_CTL` sets the three fields before it. -/
theorem State.afeCtl_eq (s : State) (c : Ch) (v : Nat) : ∃ y : State, s.afeCtl c v = y.loopWrite c (bits v 5 4) ∧
    y.inMaint c = s.inMaint c ∧ y.cg c .AFE_CTL_ADC_EN = bits v 7 7 ∧ y.cg c .AFE_CTL_HYB_EN = bits v 6 6 ∧
    y.cg c .AFE_CTL_DRV_MODE = (if v % 4 = 3 then s.cg c .AFE_CTL_DRV_MODE else v % 4) ∧
    ∀ f, f ≠ .AFE_CTL_ADC_EN → f ≠ .AFE_CTL_HYB_EN → f ≠ .AFE_CTL_DRV_MODE → y.cg c f = s.cg c f := by
  have hw1 : (CFld.info .AFE_CTL_ADC_EN).wid = 1 := rfl
  have hw2 : (CFld.info .AFE_CTL_HYB_EN).wid = 1 := rfl
  have hw3 : (CFld.info .AFE_CTL_DRV_MODE).wid = 2 := rfl
  unfold State.afeCtl
  extract_lets on s1 n s2 s3
  have h1 : s1.inMaint c = s.inMaint c ∧ s1.cg c .AFE_CTL_ADC_EN = bits v 7 7 ∧ s1.cg c .AFE_CTL_HYB_EN = bits v 6 6 ∧
      ∀ f, f ≠ .AFE_CTL_ADC_EN → f ≠ .AFE_CTL_HYB_EN → s1.cg c f = s.cg c f := by
    refine ⟨rfl, ?_, ?_, fun f hf hf' => ?_⟩
    · simp [s1, hw1, bits]
    · simp [s1, hw2, bits]
    · simp [s1, hf, hf']
  have h2 : s2.inMaint c = s1.inMaint c ∧ s2.regs = s1.regs := by
    unfold s2
    split
    · exact ⟨by simp [State.inMaint], rfl⟩
    · exact ⟨rfl, rfl⟩
  obtain ⟨hm, ha, hh, hf⟩ := h1
  obtain ⟨hm', hregs⟩ := h2
  refine ⟨s3, rfl, ?_⟩
  unfold s3
  split
  next h3 =>
    refine ⟨hm'.trans hm, ?_, ?_, ?_, fun f h h' _ => ?_⟩ <;> rw [State.cg_of_regs hregs]
    · exact ha
    · exact hh
    · exact hf _ nofun nofun
    · exact hf f h h'
  next h3 =>
    refine ⟨hm'.trans hm, ?_, ?_, ?_, fun f h h' h'' => ?_⟩
    · simp [State.cg_of_regs hregs, ha]
    · simp [State.cg_of_regs hregs, hh]
    · simp [hw3]
    · simp [State.cg_of_regs hregs, hf f h h', h'']

/-! ### The PCS loopback, the scrambler bypass and the test modes (R53, R55) -/

theorem State.cg_pcsLoop {b : Bool} {f : CFld} (h1 : f ≠ .PCS_CTL_PCS_LOOP) (h2 : f ≠ .PCS_STAT_LOOP_REJ) :
    (s.pcsLoop c b).cg c f = s.cg c f := by
  unfold State.pcsLoop
  split
  · simp [h1]
  · split
    · simp [State.pcsRej, h2]
    · simp [h1]

theorem State.inMaint_pcsLoop {b : Bool} : (s.pcsLoop c b).inMaint c = s.inMaint c := by
  unfold State.pcsLoop
  split
  · rfl
  · split <;> rfl

theorem State.cg_scrBypass {b : Bool} {f : CFld} (h1 : f ≠ .PCS_CTL_SCR_BYPASS) (h2 : f ≠ .PCS_STAT_LOOP_REJ) :
    (s.scrBypass c b).cg c f = s.cg c f := by
  unfold State.scrBypass
  split
  · simp [h1]
  · split
    · simp [State.pcsRej, h2]
    · simp [h1]

/-- What was turned away before stays recorded. -/
theorem State.scrBypass_keeps_rej {b : Bool} (h : s.cg c .PCS_STAT_LOOP_REJ = 1) :
    (s.scrBypass c b).cg c .PCS_STAT_LOOP_REJ = 1 := by
  unfold State.scrBypass
  split
  · simpa using h
  · split
    · exact State.cg_cs_flag _ rfl
    · simpa using h

theorem State.pcsLoop_off : (s.pcsLoop c false).cg c .PCS_CTL_PCS_LOOP = 0 := by simp [State.pcsLoop]

theorem State.pcsLoop_on (hi : s.inMaint c = true) (hl : s.cg c .AFE_CTL_LOOP = 0) :
    (s.pcsLoop c true).cg c .PCS_CTL_PCS_LOOP = 1 := by
  have heq : s.pcsLoop c true = s.cs c .PCS_CTL_PCS_LOOP 1 := by simp [State.pcsLoop, hi, hl]
  rw [heq]
  exact State.cg_cs_flag _ rfl

theorem State.pcsLoop_rejected (h : s.inMaint c = false ∨ s.cg c .AFE_CTL_LOOP ≠ 0) :
    s.pcsLoop c true = s.cs c .PCS_STAT_LOOP_REJ 1 := by
  rcases h with h | h <;> simp [State.pcsLoop, State.pcsRej, h]

theorem State.scrBypass_off : (s.scrBypass c false).cg c .PCS_CTL_SCR_BYPASS = 0 := by simp [State.scrBypass]

theorem State.scrBypass_on (hi : s.inMaint c = true) : (s.scrBypass c true).cg c .PCS_CTL_SCR_BYPASS = 1 := by
  have heq : s.scrBypass c true = s.cs c .PCS_CTL_SCR_BYPASS 1 := by simp [State.scrBypass, hi]
  rw [heq]
  exact State.cg_cs_flag _ rfl

theorem State.scrBypass_rejected (h : s.inMaint c = false) : s.scrBypass c true = s.cs c .PCS_STAT_LOOP_REJ 1 := by
  simp [State.scrBypass, State.pcsRej, h]

/-- The SH fields of a register go to the shadows (R262). -/
theorem State.regs_putSh (s : State) (c : Ch) (b : CBlk) (o v : Nat) : (s.putSh c b o v).regs = s.regs := by
  have hfold : ∀ (l : List CFld) (x : State), (∀ f ∈ l, f.info.acc = .sh) →
      (l.foldl (fun s f => s.putC c v f) x).regs = x.regs := fun l => by
    induction l with
    | nil => exact fun _ _ => rfl
    | cons f l ih =>
      intro x hl
      have hput : (x.putC c v f).regs = x.regs := by
        unfold State.putC
        rw [hl f List.mem_cons_self]
        exact ite_eq_or_eq _ _ _ |>.elim (congrArg State.regs) (congrArg State.regs)
      exact (ih _ fun g hg => hl g (List.mem_cons_of_mem _ hg)).trans hput
  exact hfold _ _ fun f hf => by simpa using (List.mem_filter.mp hf).2

theorem State.testMode_off {v : Nat} (h : v % 16 = 0) : (s.testMode c v).cg c .PCS_TESTMODE_MODE = 0 := by
  simp [State.testMode, h]

theorem State.testMode_on {v : Nat} (h : v % 16 ≠ 0) (hi : s.inMaint c = true)
    (ht : testModeOf (s.cg c .PCS_CTL_TYPE) (v % 16) = true) : (s.testMode c v).cg c .PCS_TESTMODE_MODE = v % 16 := by
  have hw : (CFld.info .PCS_TESTMODE_MODE).wid = 4 := rfl
  simp [State.testMode, h, hi, ht, hw]

theorem State.testMode_rejected {v : Nat} (h : v % 16 ≠ 0)
    (hr : s.inMaint c = false ∨ testModeOf (s.cg c .PCS_CTL_TYPE) (v % 16) = false) :
    s.testMode c v = s.cs c .PCS_STAT_LOOP_REJ 1 := by
  rcases hr with hr | hr <;> simp [State.testMode, State.pcsRej, h, hr]

/-! ### Saturation (R50) -/

/-- A block that ends without an event. -/
theorem exec_satBlockEnd_below {n : Nat} (hc : s.clocked c .afe = true) (ha : s.cb c .AFE_CTL_ADC_EN = true)
    (hn : (s.ch c).line.satN = 0 ∨ n < (s.ch c).line.satN) :
    exec (.satBlockEnd c n) s = .next (s.updLine c fun l => { l with satN := s.cg c .AFE_SATCFG_SAT_N }) := by
  change execSatBlockEnd c n s = _
  rw [execSatBlockEnd, if_neg (by rw [hc, ha]; decide)]
  dsimp only
  rw [if_neg (by simp; omega)]
  rfl

/-- A block that ends with one. -/
theorem exec_satBlockEnd_event {n : Nat} (hc : s.clocked c .afe = true) (ha : s.cb c .AFE_CTL_ADC_EN = true)
    (h0 : (s.ch c).line.satN ≠ 0) (hn : (s.ch c).line.satN ≤ n) :
    exec (.satBlockEnd c n) s = .next ((s.satEvent c).updLine c fun l =>
      { l with satN := (s.satEvent c).cg c .AFE_SATCFG_SAT_N }) := by
  change execSatBlockEnd c n s = _
  rw [execSatBlockEnd, if_neg (by rw [hc, ha]; decide)]
  dsimp only
  rw [if_pos (by simp [h0, hn])]
  rfl

/-- The fields that an event writes before anything is asserted. -/
def State.satNoted (s : State) (c : Ch) : State := (s.cinc c .AFE_SATCNT_SAT_EVENTS).cs c .AFE_STAT_SAT 1

theorem State.satNoted_frame (s : State) (c : Ch) : (s.satNoted c).cg c .AFE_STAT_SAT = 1 ∧
    (s.satNoted c).cg c .AFE_SATCNT_SAT_EVENTS = (s.cg c .AFE_SATCNT_SAT_EVENTS + 1) % m32 ∧
    (s.satNoted c).cg c .AFE_SATCFG_SAT_FAULT = s.cg c .AFE_SATCFG_SAT_FAULT := by
  have hw : (CFld.info .AFE_SATCNT_SAT_EVENTS).wid = 32 := rfl
  exact ⟨State.cg_cs_flag _ rfl, by simp [State.satNoted, State.cinc, hw, m32], by simp [State.satNoted, State.cinc]⟩

/-- With SAT_FAULT 0 an event is noted and asserts nothing. -/
theorem State.satEvent_unwatched (hf : s.cg c .AFE_SATCFG_SAT_FAULT = 0) : (s.satEvent c).regs = (s.satNoted c).regs := by
  obtain ⟨-, -, hfault⟩ := s.satNoted_frame c
  rw [hf] at hfault
  unfold State.satEvent
  extract_lets x w f hit y
  have hhit : hit = false := by
    have h0 : f = 0 := hfault
    simp only [hit, h0, ne_eq, not_true_eq_false, decide_false, Bool.false_and]
  rw [if_neg (by rw [hhit]; exact Bool.false_ne_true)]
  rfl

/-- The event that brings the open window to SAT_FAULT. -/
theorem State.satEvent_asserts {b k : Nat} (hw : (s.ch c).line.satWin = some (b, k, false)) (hnow : s.now < b + 25000)
    (h0 : s.cg c .AFE_SATCFG_SAT_FAULT ≠ 0) (hk : s.cg c .AFE_SATCFG_SAT_FAULT ≤ k + 1) :
    s.satEvent c = (((s.satNoted c).updLine c fun l => { l with satWin := some (b, k + 1, true) }).assertSrc
      (.ch c 0) 0 0) := by
  obtain ⟨-, -, hfault⟩ := s.satNoted_frame c
  unfold State.satEvent
  extract_lets x w f hit y
  have hwin : w = (b, k + 1, false) := by
    have hx : (x.ch c).line.satWin = some (b, k, false) := hw
    have hx' : x.now < b + 25000 := hnow
    simp only [w, hx, hx', if_true]
  have hhit : hit = true := by
    have hf : f = s.cg c .AFE_SATCFG_SAT_FAULT := hfault
    simp only [hit, hf, hwin, h0, hk, ne_eq, not_false_eq_true, decide_true, Bool.not_false, Bool.and_self]
  rw [if_pos hhit]
  simp only [y, hhit, hwin, Bool.or_true]
  rfl

/-! ### The writes of the line interface, and the end of a sample block -/

theorem exec_afeCtlWrite {src : Src} {v : Word} (ha : s.arrives src c .afe) (hp : (s.ch c).posted = []) (leave : Bool) :
    ∃ t, exec (.afeCtlWrite src c v leave) s = .next t ∧ t.cg c .AFE_CTL_ADC_EN = bits v.toNat 7 7 ∧
      t.cg c .AFE_CTL_HYB_EN = bits v.toNat 6 6 ∧ (v.toNat % 4 ≠ 3 → t.cg c .AFE_CTL_DRV_MODE = v.toNat % 4) ∧
      (v.toNat % 4 = 3 → t.cg c .AFE_CTL_DRV_MODE = s.cg c .AFE_CTL_DRV_MODE) ∧
      (bits v.toNat 5 4 = 0 → t.cg c .AFE_CTL_LOOP = 0) ∧
      (bits v.toNat 5 4 = 1 ∨ bits v.toNat 5 4 = 2 → (s.ch c).sub = .maint → leave = false →
        s.cb c .PCS_CTL_PCS_LOOP = false →
        t.cg c .AFE_CTL_LOOP = bits v.toNat 5 4 ∧ t.cg c .AFE_STAT_LOOP_REJ = s.cg c .AFE_STAT_LOOP_REJ) ∧
      (bits v.toNat 5 4 = 3 ∨ bits v.toNat 5 4 ≠ 0 ∧
          ((s.ch c).sub ≠ .maint ∨ leave = true ∨ s.cb c .PCS_CTL_PCS_LOOP = true) →
        t.cg c .AFE_CTL_LOOP = s.cg c .AFE_CTL_LOOP ∧ t.cg c .AFE_STAT_LOOP_REJ = 1) := by
  obtain ⟨t, ht, hcg⟩ := State.rowDo_leaving 0 v.toNat (chanAddr c .afe 0) leave ha hp (by decide)
  obtain ⟨y, hy, hmaint, hadc, hhyb, hdrv, hrest⟩ := (s.leaving leave).afeCtl_eq c v.toNat
  have hreg : (s.leaving leave).writeReg c .afe 0 v.toNat false = y.loopWrite c (bits v.toNat 5 4) := hy
  rw [hreg] at hcg
  have hkeep : ∀ f, f ≠ .AFE_CTL_LOOP → f ≠ .AFE_STAT_LOOP_REJ → f ≠ .tr .afe .REF_ARMED → t.cg c f = y.cg c f :=
    fun f h1 h2 h3 => (hcg f h3).trans (State.cg_loopWrite h1 h2)
  have hloop : y.cg c .AFE_CTL_LOOP = s.cg c .AFE_CTL_LOOP := hrest _ (by nofun) (by nofun) (by nofun)
  have hrej : y.cg c .AFE_STAT_LOOP_REJ = s.cg c .AFE_STAT_LOOP_REJ := hrest _ (by nofun) (by nofun) (by nofun)
  have hpcs : y.cb c .PCS_CTL_PCS_LOOP = s.cb c .PCS_CTL_PCS_LOOP := by
    rw [State.cb_cg, State.cb_cg, hrest _ (by nofun) (by nofun) (by nofun), State.cg_leaving]
  refine ⟨t, ht, ?_, ?_, fun h => ?_, fun h => ?_, fun hm => ?_, fun hm hsub hl hoff => ?_, fun hm => ?_⟩
  · rw [hkeep _ (by nofun) (by nofun) (by nofun), hadc]
  · rw [hkeep _ (by nofun) (by nofun) (by nofun), hhyb]
  · rw [hkeep _ (by nofun) (by nofun) (by nofun), hdrv, if_neg h]
  · rw [hkeep _ (by nofun) (by nofun) (by nofun), hdrv, if_pos h, State.cg_leaving]
  · rw [hcg _ (by nofun), hm]
    exact State.loopWrite_off
  · obtain ⟨hon, hsame⟩ := State.loopWrite_on hm (hmaint.trans (State.inMaint_leaving_eq_true hsub hl)) (hpcs.trans hoff)
    exact ⟨(hcg _ (by nofun)).trans hon, (hcg _ (by nofun)).trans (hsame.trans hrej)⟩
  · have hturned := State.loopWrite_rejected (s := y) (c := c) <| hm.imp_right fun ⟨h0, h⟩ => ⟨h0,
      (or_assoc.mpr h).imp (fun h => hmaint.trans (State.inMaint_leaving_eq_false h)) hpcs.trans⟩
    rw [hturned] at hcg
    rw [hcg _ (by nofun), hcg _ (by nofun), ← hloop]
    exact ⟨by simp, State.cg_cs_flag _ rfl⟩

theorem exec_pcsCtlWrite {src : Src} {v : Word} {leave : Bool} (ha : s.arrives src c .pcs) (hp : (s.ch c).posted = []) :
    ∃ t, exec (.pcsCtlWrite src c v leave) s = .next t ∧ t.cg c .PCS_CTL_TYPE = s.cg c .PCS_CTL_TYPE ∧
      (v.toNat.testBit 10 = false → t.cg c .PCS_CTL_PCS_LOOP = 0) ∧
      (v.toNat.testBit 10 = true → (s.ch c).sub = .maint → leave = false → s.cg c .AFE_CTL_LOOP = 0 →
        t.cg c .PCS_CTL_PCS_LOOP = 1) ∧
      (v.toNat.testBit 10 = true → (s.ch c).sub ≠ .maint ∨ leave = true ∨ s.cg c .AFE_CTL_LOOP ≠ 0 →
        t.cg c .PCS_CTL_PCS_LOOP = s.cg c .PCS_CTL_PCS_LOOP ∧ t.cg c .PCS_STAT_LOOP_REJ = 1) ∧
      (v.toNat.testBit 11 = false → t.cg c .PCS_CTL_SCR_BYPASS = 0) ∧
      (v.toNat.testBit 11 = true → (s.ch c).sub = .maint → leave = false → t.cg c .PCS_CTL_SCR_BYPASS = 1) ∧
      (v.toNat.testBit 11 = true → (s.ch c).sub ≠ .maint ∨ leave = true →
        t.cg c .PCS_CTL_SCR_BYPASS = s.cg c .PCS_CTL_SCR_BYPASS ∧ t.cg c .PCS_STAT_LOOP_REJ = 1) := by
  obtain ⟨t, ht, hcg⟩ := State.rowDo_leaving 0 v.toNat (chanAddr c .pcs 0) leave ha hp (by decide)
  have hreg : ∀ f, f ≠ .tr .pcs .REF_ARMED →
      t.cg c f = (((s.leaving leave).pcsLoop c (v.toNat.testBit 10)).scrBypass c (v.toNat.testBit 11)).cg c f :=
    fun f hf => (hcg f hf).trans (State.cg_of_regs (State.regs_putSh _ c .pcs 0 v.toNat) c f)
  refine ⟨t, ht, ?_, fun h => ?_, fun h hsub hl hoff => ?_, fun h hr => ?_, fun h => ?_, fun h hsub hl => ?_, fun h hr => ?_⟩
  · rw [hreg _ (by nofun), State.cg_scrBypass (by nofun) (by nofun), State.cg_pcsLoop (by nofun) (by nofun),
      State.cg_leaving]
  · rw [hreg _ (by nofun), State.cg_scrBypass (by nofun) (by nofun), h, State.pcsLoop_off]
  · rw [hreg _ (by nofun), State.cg_scrBypass (by nofun) (by nofun), h,
      State.pcsLoop_on (State.inMaint_leaving_eq_true hsub hl) hoff]
  · have hturned := State.pcsLoop_rejected (s := s.leaving leave) (c := c) <|
      (or_assoc.mpr hr).imp State.inMaint_leaving_eq_false id
    rw [hreg _ (by nofun), hreg _ (by nofun), State.cg_scrBypass (by nofun) (by nofun), h, hturned]
    exact ⟨by simp [State.cg_leaving], State.scrBypass_keeps_rej (State.cg_cs_flag _ rfl)⟩
  · rw [hreg _ (by nofun), h, State.scrBypass_off]
  · rw [hreg _ (by nofun), h, State.scrBypass_on (State.inMaint_pcsLoop.trans (State.inMaint_leaving_eq_true hsub hl))]
  · have hturned := State.scrBypass_rejected (s := (s.leaving leave).pcsLoop c (v.toNat.testBit 10)) (c := c) <|
      State.inMaint_pcsLoop.trans (State.inMaint_leaving_eq_false hr)
    rw [hreg _ (by nofun), hreg _ (by nofun), h, hturned]
    exact ⟨by simp [State.cg_pcsLoop, State.cg_leaving], State.cg_cs_flag _ rfl⟩

theorem exec_pcsTestmodeWrite {src : Src} {v : Word} {leave : Bool} (ha : s.arrives src c .pcs)
    (hp : (s.ch c).posted = []) : ∃ t, exec (.pcsTestmodeWrite src c v leave) s = .next t ∧
      (v.toNat % 16 = 0 → t.cg c .PCS_TESTMODE_MODE = 0) ∧
      (v.toNat % 16 ≠ 0 → (s.ch c).sub = .maint → leave = false →
        testModeOf (s.cg c .PCS_CTL_TYPE) (v.toNat % 16) = true → t.cg c .PCS_TESTMODE_MODE = v.toNat % 16) ∧
      (v.toNat % 16 ≠ 0 →
        (s.ch c).sub ≠ .maint ∨ leave = true ∨ testModeOf (s.cg c .PCS_CTL_TYPE) (v.toNat % 16) = false →
        t.cg c .PCS_TESTMODE_MODE = s.cg c .PCS_TESTMODE_MODE ∧ t.cg c .PCS_STAT_LOOP_REJ = 1) := by
  obtain ⟨t, ht, hcg⟩ := State.rowDo_leaving 0x20 v.toNat (chanAddr c .pcs 0x20) leave ha hp (by decide)
  have hreg : (s.leaving leave).writeReg c .pcs 0x20 v.toNat false = (s.leaving leave).testMode c v.toNat := rfl
  rw [hreg] at hcg
  refine ⟨t, ht, fun h => ?_, fun h hsub hl htype => ?_, fun h hr => ?_⟩
  · rw [hcg _ (by nofun), State.testMode_off h]
  · rw [hcg _ (by nofun), State.testMode_on h (State.inMaint_leaving_eq_true hsub hl) htype]
  · have hturned := State.testMode_rejected (s := s.leaving leave) (c := c) h <|
      (or_assoc.mpr hr).imp State.inMaint_leaving_eq_false id
    rw [hcg _ (by nofun), hcg _ (by nofun), hturned]
    exact ⟨by simp [State.cg_leaving], State.cg_cs_flag _ rfl⟩

theorem exec_satBlockEnd_unwatched {n : Nat} (hclk : s.clocked c .afe = true) (hadc : s.cb c .AFE_CTL_ADC_EN = true)
    (h0 : (s.ch c).line.satN ≠ 0) (hn : (s.ch c).line.satN ≤ n) (hf : s.cg c .AFE_SATCFG_SAT_FAULT = 0) :
    ∃ t, exec (.satBlockEnd c n) s = .next t ∧ t.cg c .AFE_STAT_SAT = 1 ∧
      t.cg c .AFE_SATCNT_SAT_EVENTS = (s.cg c .AFE_SATCNT_SAT_EVENTS + 1) % m32 := by
  obtain ⟨hsat, hcnt, -⟩ := s.satNoted_frame c
  have hregs := State.satEvent_unwatched hf
  refine ⟨_, exec_satBlockEnd_event hclk hadc h0 hn, ?_, ?_⟩
  · rw [State.cg_updLine, State.cg_of_regs hregs, hsat]
  · rw [State.cg_updLine, State.cg_of_regs hregs, hcnt]

end

/-- Settles O42: a write shows in the fields what its register does in the cycle, and a sample block is judged by SAT_N
before its window. -/
theorem loopbacksTestModesAndSaturation : Obligations.LoopbacksTestModesAndSaturation := by
  refine fun s c => ⟨fun src v ha hp => exec_afeCtlWrite ha hp,
    fun src v leave ha hp => ⟨exec_pcsCtlWrite ha hp, exec_pcsTestmodeWrite ha hp⟩,
    fun n hclk hadc => ⟨exec_satBlockEnd_below hclk hadc, fun h0 hn => ⟨exec_satBlockEnd_unwatched hclk hadc h0 hn,
      fun b k hw hnow hf0 hfk => ?_⟩⟩⟩
  rw [exec_satBlockEnd_event hclk hadc h0 hn, State.satEvent_asserts hw hnow hf0 hfk]
  rfl

end Sys2Proof.Machine
end

section
namespace Sys2Proof.Machine

/-! ### The OAM field that is sent (R44, R98) -/

/-- The octets of an OAM field before its CRC. -/
theorem oamField_eq (sfc : BitVec 16) (flags : Byte) (msg : List Byte) : ∃ body : List Byte,
    oamField sfc flags msg = (sfc.setWidth 8 :: (sfc >>> 8).setWidth 8 :: flags :: body) ++
      leBytes (crc32c (sfc.setWidth 8 :: (sfc >>> 8).setWidth 8 :: flags :: body)) ∧
    (msg.length ≤ 116 → body.length = 121) := by
  refine ⟨BitVec.ofNat 8 msg.length :: (msg ++ (List.replicate (116 - msg.length) 0 ++ List.replicate 4 0)), ?_, fun h => ?_⟩
  · simp [oamField]
  · simp only [List.length_cons, List.length_append, List.length_replicate]
    omega

theorem oamOk_oamField (sfc : BitVec 16) (flags : Byte) {msg : List Byte} (h : msg.length ≤ 116) :
    oamOk (oamField sfc flags msg) = true := by
  obtain ⟨body, heq, hlen⟩ := oamField_eq sfc flags msg
  have h124 : (sfc.setWidth 8 :: (sfc >>> 8).setWidth 8 :: flags :: body).length = 124 := by
    simp only [List.length_cons, hlen h]
  rw [heq]
  generalize sfc.setWidth 8 :: (sfc >>> 8).setWidth 8 :: flags :: body = l at h124
  rw [oamOk, List.take_left' h124, List.drop_left' h124, List.length_append, h124]
  simp [leBytes]

/-- A count's low octet, and its high one. -/
theorem oam_count (n : Nat) : (BitVec.ofNat 16 n).setWidth 8 = BitVec.ofNat 8 n ∧
    (BitVec.ofNat 16 n >>> 8).setWidth 8 = BitVec.ofNat 8 (n / 256) := by
  constructor <;> apply BitVec.eq_of_toNat_eq
  · simp only [BitVec.toNat_setWidth, BitVec.toNat_ofNat, Nat.reducePow]
    omega
  · simp only [BitVec.toNat_setWidth, BitVec.toNat_ushiftRight, BitVec.toNat_ofNat, Nat.shiftRight_eq_div_pow, Nat.reducePow]
    omega

section
variable {s : State} {c : Ch}

theorem State.oamOut_eq (s : State) (c : Ch) : ∃ msg : List Byte, msg.length ≤ 116 ∧
    s.oamOut c = oamField (BitVec.ofNat 16 (s.txFr c)) (BitVec.ofNat 8 (s.oamFlags c (s.ch c).link.onAir)) msg := by
  refine ⟨_, ?_, rfl⟩
  split
  · simp [LinkMsg.octets]
  · exact Nat.zero_le _

@[simp] theorem LinkSt.drop_onAir (l : LinkSt) : l.drop.onAir = l.onAir := by unfold LinkSt.drop; split <;> rfl

theorem State.oamFrame_carries (ho : s.oamOpen c = true) : ((s.oamFrame c).ch c).link.onAir = (s.ch c).link.nextMsg ∧
    ((s.oamFrame c).ch c).link.carry = (s.ch c).link.carry.tail := by
  unfold State.oamFrame
  rw [if_pos ho]
  exact ⟨by simp, by simp⟩

/-! ### A received codeword (R41, R51, R52) -/

/-- Without a shift there is none to complete. -/
theorem State.shiftQualify_idle (h : (s.ch c).link.shift = none) : s.shiftQualify c = s := by
  have hrun : s.shiftRun c = none := by
    unfold State.shiftRun
    split
    · exact h
    · rfl
  unfold State.shiftQualify
  rw [hrun]

theorem State.updLine_congr {g h : LineSt → LineSt} (he : g (s.ch c).line = h (s.ch c).line) :
    s.updLine c g = s.updLine c h :=
  congrArg (fun y => { s with chans := s.chans.set c.val { s.ch c with line := y } }) he

/-- A codeword is counted, and outside XT50 a frame with it. -/
def State.cwCounted (s : State) (c : Ch) : State :=
  if (s.cinc c .PCS_FEC_CW_COUNT).rxType c = 7 then s.cinc c .PCS_FEC_CW_COUNT
  else (s.cinc c .PCS_FEC_CW_COUNT).cinc c .PCS_FRCOUNT_RX_FR

/-- The counts of a codeword with `n` symbols corrected. -/
def State.cwCorrected (s : State) (c : Ch) (n : Nat) : State :=
  ((if n = 0 then s else (s.cinc c .PCS_FEC_CORRCW_COUNT).cinc c .PCS_FEC_CORRSYM_COUNT n).updLine c fun l =>
    { l with sinceUnc := min 144 (l.sinceUnc + 1) }).updDiag c fun d => { d with iv := { d.iv with corr := d.iv.corr + n } }

/-- The counts of an uncorrectable codeword. -/
def State.cwFailed (s : State) (c : Ch) : State :=
  ((s.cinc c .PCS_FEC_UNCORR_COUNT).updLine c fun l => { l with sinceUnc := 0 }).updDiag c fun d =>
    { d with iv := { d.iv with unc := d.iv.unc + 1 } }

theorem exec_fecCodewordDecode_corrected {n : Nat} (hr : s.fecRuns c = true) (hn : n ≤ fecLimit (s.rxType c)) :
    exec (.fecCodewordDecode c (some n)) s =
      .next ((((s.cwCounted c).cwCorrected c n).burst c false).shiftQualify c) := by
  change execFecCodewordDecode c (some n) s = _
  rw [execFecCodewordDecode, if_neg (by rw [hr]; decide)]
  have hfit : (some n).filter (fun n => decide (n ≤ fecLimit (s.rxType c))) = some n := by simp [hn]
  rw [hfit]
  rfl

theorem exec_fecCodewordDecode_failed (hr : s.fecRuns c = true) :
    exec (.fecCodewordDecode c none) s = .next ((((s.cwCounted c).cwFailed c).burst c true).shiftQualify c) := by
  change execFecCodewordDecode c none s = _
  rw [execFecCodewordDecode, if_neg (by rw [hr]; decide)]
  rfl

/-- More symbols in error than the code corrects make a codeword uncorrectable. -/
theorem exec_fecCodewordDecode_above {n : Nat} (hn : fecLimit (s.rxType c) < n) :
    exec (.fecCodewordDecode c (some n)) s = exec (.fecCodewordDecode c none) s := by
  change execFecCodewordDecode c (some n) s = execFecCodewordDecode c none s
  have hover : (some n).filter (fun n => decide (n ≤ fecLimit (s.rxType c))) = none := by simp [hn]
  unfold execFecCodewordDecode
  rw [hover]
  rfl

theorem State.cwCounted_frame (s : State) (c : Ch) : (s.cwCounted c).ch c = s.ch c ∧
    (s.cwCounted c).cg c .PCS_FEC_CW_COUNT = (s.cg c .PCS_FEC_CW_COUNT + 1) % m32 ∧
    ∀ f, f ≠ .PCS_FEC_CW_COUNT → f ≠ .PCS_FRCOUNT_RX_FR → (s.cwCounted c).cg c f = s.cg c f := by
  have hw : (CFld.info .PCS_FEC_CW_COUNT).wid = 32 := rfl
  unfold State.cwCounted
  split
  · refine ⟨by simp, ?_, fun f h _ => ?_⟩
    · simp [State.cinc, hw, m32]
    · simp [State.cinc, h]
  · refine ⟨by simp, ?_, fun f h h' => ?_⟩
    · simp [State.cinc, hw, m32]
    · simp [State.cinc, h, h']

theorem State.cwCorrected_frame (s : State) (c : Ch) (n : Nat) :
    ((s.cwCorrected c n).ch c).link = (s.ch c).link ∧
    ((s.cwCorrected c n).ch c).line = { (s.ch c).line with sinceUnc := min 144 ((s.ch c).line.sinceUnc + 1) } ∧
    (n ≠ 0 → (s.cwCorrected c n).cg c .PCS_FEC_CORRCW_COUNT = (s.cg c .PCS_FEC_CORRCW_COUNT + 1) % m32 ∧
      (s.cwCorrected c n).cg c .PCS_FEC_CORRSYM_COUNT = (s.cg c .PCS_FEC_CORRSYM_COUNT + n) % m32) ∧
    ∀ f, f ≠ .PCS_FEC_CORRCW_COUNT → f ≠ .PCS_FEC_CORRSYM_COUNT → (s.cwCorrected c n).cg c f = s.cg c f := by
  have hw : (CFld.info .PCS_FEC_CORRCW_COUNT).wid = 32 := rfl
  have hw' : (CFld.info .PCS_FEC_CORRSYM_COUNT).wid = 32 := rfl
  unfold State.cwCorrected
  by_cases hn : n = 0
  · rw [if_pos hn]
    exact ⟨by simp, by simp, fun h => absurd hn h, fun f _ _ => rfl⟩
  · rw [if_neg hn]
    refine ⟨by simp, by simp, fun _ => ⟨?_, ?_⟩, fun f h h' => ?_⟩
    · simp [State.cinc, hw, m32]
    · simp [State.cinc, hw', m32]
    · simp [State.cinc, h, h']

theorem State.cwFailed_frame (s : State) (c : Ch) : ((s.cwFailed c).ch c).link = (s.ch c).link ∧
    ((s.cwFailed c).ch c).line = { (s.ch c).line with sinceUnc := 0 } ∧
    (s.cwFailed c).cg c .PCS_FEC_UNCORR_COUNT = (s.cg c .PCS_FEC_UNCORR_COUNT + 1) % m32 ∧
    ∀ f, f ≠ .PCS_FEC_UNCORR_COUNT → (s.cwFailed c).cg c f = s.cg c f := by
  have hw : (CFld.info .PCS_FEC_UNCORR_COUNT).wid = 32 := rfl
  refine ⟨?_, ?_, ?_, fun f h => ?_⟩
  · simp [State.cwFailed]
  · simp [State.cwFailed]
  · simp [State.cwFailed, State.cinc, hw, m32]
  · simp [State.cwFailed, State.cinc, h]

/-- A codeword within the burst window is entered in it. -/
def State.inBurst (s : State) (c : Ch) (bad : Bool) : State :=
  s.updLine c fun l => { l with cw := l.cw + 1, unc := l.unc + b2n bad }

theorem State.inBurst_frame (s : State) (c : Ch) (bad : Bool) : ((s.inBurst c bad).ch c).link = (s.ch c).link ∧
    ((s.inBurst c bad).ch c).line =
      { (s.ch c).line with cw := (s.ch c).line.cw + 1, unc := (s.ch c).line.unc + b2n bad } := by
  simp [State.inBurst]

theorem State.burst_eq {bad : Bool} (h0 : (s.ch c).line.cw ≠ 0) (hw : (s.ch c).line.cw < (s.ch c).line.burstWin) :
    s.burst c bad = if (s.ch c).line.burstN ≠ 0 ∧ (s.ch c).line.burstN ≤ (s.ch c).line.unc + b2n bad ∧
        (s.ch c).line.burstDone = false then
      (((s.inBurst c bad).updLine c fun l => { l with burstDone := true }).cs c .PCS_STAT_FEC_BURST 1).assertSrc (.ch c 3) 0
        ((s.ch c).line.unc + b2n bad)
    else s.inBurst c bad := by
  obtain ⟨-, hline⟩ := s.inBurst_frame c bad
  unfold State.burst
  extract_lets w n x l y
  have hx : x = s.inBurst c bad := State.updLine_congr (if_neg (by simp; omega))
  have hl : l = { (s.ch c).line with cw := (s.ch c).line.cw + 1, unc := (s.ch c).line.unc + b2n bad } := by
    rw [← hline, ← hx]
  rw [hl]
  simp only [y, hx, Bool.and_eq_true, decide_eq_true_eq, Bool.not_eq_true', and_assoc]

theorem State.burst_below {bad : Bool} (h0 : (s.ch c).line.cw ≠ 0) (hw : (s.ch c).line.cw < (s.ch c).line.burstWin)
    (hn : (s.ch c).line.burstN = 0 ∨ (s.ch c).line.unc + b2n bad < (s.ch c).line.burstN ∨ (s.ch c).line.burstDone = true) :
    s.burst c bad = s.inBurst c bad := by
  rw [State.burst_eq h0 hw, if_neg]
  rintro ⟨h1, h2, h3⟩
  rcases hn with h | h | h
  · exact h1 h
  · omega
  · exact absurd (h3.symm.trans h) nofun

theorem exec_fecCodewordDecode_in_window {n : Nat} (hr : s.fecRuns c = true) (hsh : (s.ch c).link.shift = none)
    (h0 : (s.ch c).line.cw ≠ 0) (hwin : (s.ch c).line.cw < (s.ch c).line.burstWin) (hn : n ≤ fecLimit (s.rxType c))
    (hlow : (s.ch c).line.burstN = 0 ∨ (s.ch c).line.unc < (s.ch c).line.burstN ∨ (s.ch c).line.burstDone = true) :
    ∃ t, exec (.fecCodewordDecode c (some n)) s = .next t ∧
      t.cg c .PCS_FEC_CW_COUNT = (s.cg c .PCS_FEC_CW_COUNT + 1) % m32 ∧
      (n ≠ 0 → t.cg c .PCS_FEC_CORRCW_COUNT = (s.cg c .PCS_FEC_CORRCW_COUNT + 1) % m32 ∧
        t.cg c .PCS_FEC_CORRSYM_COUNT = (s.cg c .PCS_FEC_CORRSYM_COUNT + n) % m32) ∧
      t.cg c .PCS_FEC_UNCORR_COUNT = s.cg c .PCS_FEC_UNCORR_COUNT ∧
      (t.ch c).line = { (s.ch c).line with
        cw := (s.ch c).line.cw + 1, sinceUnc := min 144 ((s.ch c).line.sinceUnc + 1) } := by
  obtain ⟨hch, hcw, hcg⟩ := s.cwCounted_frame c
  obtain ⟨hlink, hline, hcorr, hcg'⟩ := (s.cwCounted c).cwCorrected_frame c n
  rw [hch] at hlink hline
  rw [exec_fecCodewordDecode_corrected hr hn]
  generalize (s.cwCounted c).cwCorrected c n = x at *
  obtain ⟨hlink', hline'⟩ := x.inBurst_frame c false
  rw [State.burst_below (by rw [hline]; exact h0) (by rw [hline]; exact hwin) (by rw [hline]; exact hlow),
    State.shiftQualify_idle (by rw [hlink', hlink]; exact hsh)]
  refine ⟨_, rfl, (hcg' _ (by nofun) (by nofun)).trans hcw, fun hn0 => ?_,
    (hcg' _ (by nofun) (by nofun)).trans (hcg _ (by nofun) (by nofun)), ?_⟩
  · obtain ⟨h1, h2⟩ := hcorr hn0
    exact ⟨h1.trans (by rw [hcg _ (by nofun) (by nofun)]), h2.trans (by rw [hcg _ (by nofun) (by nofun)])⟩
  · rw [hline', hline]
    rfl

theorem exec_fecCodewordDecode_lost (hr : s.fecRuns c = true) (hsh : (s.ch c).link.shift = none)
    (h0 : (s.ch c).line.cw ≠ 0) (hwin : (s.ch c).line.cw < (s.ch c).line.burstWin)
    (hlow : (s.ch c).line.burstN = 0 ∨ (s.ch c).line.unc + 1 < (s.ch c).line.burstN ∨ (s.ch c).line.burstDone = true) :
    ∃ t, exec (.fecCodewordDecode c none) s = .next t ∧
      t.cg c .PCS_FEC_CW_COUNT = (s.cg c .PCS_FEC_CW_COUNT + 1) % m32 ∧
      t.cg c .PCS_FEC_UNCORR_COUNT = (s.cg c .PCS_FEC_UNCORR_COUNT + 1) % m32 ∧
      (t.ch c).line = { (s.ch c).line with
        cw := (s.ch c).line.cw + 1, unc := (s.ch c).line.unc + 1, sinceUnc := 0 } := by
  obtain ⟨hch, hcw, hcg⟩ := s.cwCounted_frame c
  obtain ⟨hlink, hline, hunc, hcg'⟩ := (s.cwCounted c).cwFailed_frame c
  rw [hch] at hlink hline
  rw [exec_fecCodewordDecode_failed hr]
  generalize (s.cwCounted c).cwFailed c = x at *
  obtain ⟨hlink', hline'⟩ := x.inBurst_frame c true
  rw [State.burst_below (by rw [hline]; exact h0) (by rw [hline]; exact hwin) (by rw [hline]; exact hlow),
    State.shiftQualify_idle (by rw [hlink', hlink]; exact hsh)]
  refine ⟨_, rfl, (hcg' _ (by nofun)).trans hcw, hunc.trans (by rw [hcg _ (by nofun) (by nofun)]), ?_⟩
  rw [hline', hline]
  rfl

/-- The uncorrectable codeword that brings the window to BURST_N. -/
theorem exec_fecCodewordDecode_burst (hr : s.fecRuns c = true) (h0 : (s.ch c).line.cw ≠ 0)
    (hwin : (s.ch c).line.cw < (s.ch c).line.burstWin) (hN : (s.ch c).line.burstN ≠ 0)
    (hle : (s.ch c).line.burstN ≤ (s.ch c).line.unc + 1) (hdone : (s.ch c).line.burstDone = false) :
    ∃ t : State, exec (.fecCodewordDecode c none) s =
        .next ((t.assertSrc (.ch c 3) 0 ((s.ch c).line.unc + 1)).shiftQualify c) ∧
      t.cg c .PCS_STAT_FEC_BURST = 1 ∧ (t.ch c).line.burstDone = true := by
  obtain ⟨hch, -⟩ := s.cwCounted_frame c
  obtain ⟨-, hline, -⟩ := (s.cwCounted c).cwFailed_frame c
  rw [hch] at hline
  rw [exec_fecCodewordDecode_failed hr]
  generalize (s.cwCounted c).cwFailed c = x at *
  rw [State.burst_eq (by rw [hline]; exact h0) (by rw [hline]; exact hwin),
    if_pos (by rw [hline]; exact ⟨hN, hle, hdone⟩), hline]
  exact ⟨_, rfl, State.cg_cs_flag _ rfl, by simp⟩

/-! ### The alignment search (R43) -/

/-- A marker that was found is noted for LPI (R146). -/
def State.markerSeen (s : State) (c : Ch) : State := s.updLpi c fun l => { l with refHit := true }

theorem State.markerSeen_frame (s : State) (c : Ch) : ((s.markerSeen c).ch c).link = (s.ch c).link ∧
    ((s.markerSeen c).ch c).line = (s.ch c).line := by
  simp [State.markerSeen]

theorem exec_alignmentSearch_hit {n : Nat} (hx : s.xtRx c = true) (hq : s.cb c .LPI_STAT_RX_LPI = false) (hn : n ≤ 20) :
    exec (.alignmentSearch c n) s = .next (
      if s.cb c .PCS_STAT_ALIGNED then (s.markerSeen c).updLine c fun l => { l with miss := 0 }
      else if (s.ch c).line.hit then
        (((s.markerSeen c).updLine c fun l => { l with hit := false, miss := 0 }).cs c .PCS_STAT_ALIGNED 1).shiftQualify c
      else (s.markerSeen c).updLine c fun l => { l with hit := true }) := by
  change execAlignmentSearch c n s = _
  rw [execAlignmentSearch, if_neg (by rw [hx, hq]; simp)]
  have hal : (s.markerSeen c).cb c .PCS_STAT_ALIGNED = s.cb c .PCS_STAT_ALIGNED := rfl
  simp only [decide_eq_true hn, if_true, Bool.true_and]
  rw [← State.markerSeen, hal]
  cases s.cb c .PCS_STAT_ALIGNED <;> cases (s.ch c).line.hit <;> rfl

theorem exec_alignmentSearch_miss {n : Nat} (hx : s.xtRx c = true) (hq : s.cb c .LPI_STAT_RX_LPI = false) (hn : 20 < n) :
    exec (.alignmentSearch c n) s = .next (
      if s.cb c .PCS_STAT_ALIGNED then
        if (s.ch c).line.miss < 2 then s.updLine c fun l => { l with miss := l.miss + 1 }
        else ((s.updLine c fun l => { l with miss := 0, hit := false }).cs c .PCS_STAT_ALIGNED 0).critLoss c 0x20
      else s.updLine c fun l => { l with hit := false }) := by
  change execAlignmentSearch c n s = _
  rw [execAlignmentSearch, if_neg (by rw [hx, hq]; simp)]
  have hmiss : ((s.ch c).line.miss + 1 < 3) = ((s.ch c).line.miss < 2) := propext (by omega)
  simp only [decide_eq_false (Nat.not_le.mpr hn), Bool.false_eq_true, if_false, Bool.false_and, hmiss]
  split
  · split <;> rfl
  · rfl

/-! ### OAM and block lock (R44, R55) -/

theorem exec_oamFieldReceive_taken {o : List Byte} (hx : s.xtRx c = true) (ha : s.cb c .PCS_STAT_ALIGNED = true)
    (ho : oamOk o = true) (hs : (s.ch c).line.sinceUnc ≠ 0) :
    exec (.oamFieldReceive c o) s = .next ((s.updLine c fun l => { l with oam := o }).cs c .PCS_FRCOUNT_RX_FR
      ((o.getD 0 0).toNat + 256 * (o.getD 1 0).toNat)) := by
  change execOamFieldReceive c o s = _
  rw [execOamFieldReceive, if_pos (by rw [hx, ha, ho, decide_eq_true hs]; rfl)]
  rfl

theorem exec_oamFieldReceive_dropped {o : List Byte} (h : oamOk o = false ∨ (s.ch c).line.sinceUnc = 0) :
    exec (.oamFieldReceive c o) s = .next s := by
  change execOamFieldReceive c o s = _
  rw [execOamFieldReceive, if_neg]
  · rfl
  · rcases h with h | h <;> simp [h]

/-- Block lock and, in the IEEE FEC types, alignment as the receiver has them (R55). -/
theorem exec_blockLockChange {lock aligned : Bool} (hseg : isSeg c = false) (hc : s.clocked c .pcs = true)
    (hs : (s.ch c).link.shift = none) : ∃ t, exec (.blockLockChange c lock aligned) s = .next t ∧
      t.cg c .PCS_STAT_BLOCK_LOCK = b2n lock ∧
      t.cg c .PCS_STAT_ALIGNED = if 2 ≤ s.rxType c ∧ s.rxType c ≤ 6 then b2n aligned else s.cg c .PCS_STAT_ALIGNED := by
  have hw : (CFld.info .PCS_STAT_BLOCK_LOCK).wid = 1 := rfl
  have hw' : (CFld.info .PCS_STAT_ALIGNED).wid = 1 := rfl
  have hbit : ∀ b : Bool, b2n b % 2 = b2n b := by decide
  have hrun : exec (.blockLockChange c lock aligned) s = execBlockLockChange c lock aligned s := rfl
  rw [hrun, execBlockLockChange, if_neg (by rw [hseg, hc]; decide)]
  extract_lets typ x y z
  have hy : ∀ f, y.cg c f = x.cg c f := fun f => by unfold y; split <;> rfl
  have hys : (y.ch c).link.shift = none := by
    unfold y
    split
    · exact hs
    · simpa [x] using hs
  have hzs : (z.ch c).link.shift = none := by
    unfold z
    split
    · exact hys
    · exact hys
  refine ⟨z, congrArg Host.Outcome.next (State.shiftQualify_idle hzs), ?_⟩
  have htyp : typ = s.rxType c := rfl
  unfold z
  simp only [htyp, Bool.and_eq_true, decide_eq_true_eq]
  split
  · simp [hy, x, hw, hw', hbit]
  · simp [hy, x, hw, hbit]

end

/-- Settles O43: within the burst window a codeword is counted and then judged by the window's own figures, and each
position searched is a hit or a miss. -/
theorem codewordsAlignmentAndOam : Obligations.CodewordsAlignmentAndOam := by
  refine fun s c => ⟨fun hr hsh h0 hwin => ⟨fun n => exec_fecCodewordDecode_above,
      fun n hn => exec_fecCodewordDecode_in_window hr hsh h0 hwin hn,
      exec_fecCodewordDecode_lost hr hsh h0 hwin, exec_fecCodewordDecode_burst hr h0 hwin⟩, fun hclk hle => ?_,
    fun n hx hsh hq => ⟨fun hal hn hhit => ?_, fun hal hn => ?_, fun hal hn => ?_, fun hal hn hm => ?_, fun hal hn hm => ?_⟩,
    fun o hx hal => ⟨fun ho hs => ?_, exec_oamFieldReceive_dropped⟩, ?_, fun ho => ⟨fun m r hcar => ?_, fun hcar => ?_⟩,
    ⟨rfl, rfl, fun y h3 h6 => ?_⟩, fun lock aligned hseg hclk hsh => ?_⟩
  · change execFecBurstWindowEnd c s = _
    rw [execFecBurstWindowEnd, if_pos (by rw [hclk, decide_eq_true hle]; rfl)]
    rfl
  · obtain ⟨hlink, -⟩ := s.markerSeen_frame c
    rw [exec_alignmentSearch_hit hx hq hn, if_neg (by rw [hal]; exact Bool.false_ne_true), if_pos hhit,
      State.shiftQualify_idle (by simp [hlink, hsh])]
    exact ⟨_, rfl, State.cg_cs_flag _ rfl⟩
  · obtain ⟨-, hline⟩ := s.markerSeen_frame c
    rcases Nat.lt_or_ge 20 n with h | h
    · rw [exec_alignmentSearch_miss hx hq h, if_neg (by rw [hal]; exact Bool.false_ne_true)]
      exact ⟨_, rfl, rfl, by simp [Nat.not_le.mpr h]⟩
    · have hhit : (s.ch c).line.hit = false := hn.resolve_left (by omega)
      rw [exec_alignmentSearch_hit hx hq h, if_neg (by rw [hal]; exact Bool.false_ne_true),
        if_neg (by rw [hhit]; exact Bool.false_ne_true)]
      exact ⟨_, rfl, rfl, by simp [hline, h]⟩
  · obtain ⟨-, hline⟩ := s.markerSeen_frame c
    rw [exec_alignmentSearch_hit hx hq hn, if_pos hal]
    exact ⟨_, rfl, rfl, by simp [hline]⟩
  · rw [exec_alignmentSearch_miss hx hq hn, if_pos hal, if_pos hm]
  · rw [exec_alignmentSearch_miss hx hq hn, if_pos hal, if_neg (by omega)]
  · have hw : (CFld.info .PCS_FRCOUNT_RX_FR).wid = 16 := rfl
    exact ⟨_, exec_oamFieldReceive_taken hx hal ho hs, by simp, by simp [hw]⟩
  · obtain ⟨msg, hlen, hout⟩ := s.oamOut_eq c
    obtain ⟨body, hbody, -⟩ := oamField_eq (BitVec.ofNat 16 (s.txFr c))
      (BitVec.ofNat 8 (s.oamFlags c (s.ch c).link.onAir)) msg
    obtain ⟨hlow, hhigh⟩ := oam_count (s.txFr c)
    rw [hout]
    refine ⟨oamOk_oamField _ _ hlen, ?_, ?_⟩
    · rw [hbody]
      rfl
    · rw [hbody, hlow, hhigh]
      rfl
  · obtain ⟨hair, hcarry⟩ := State.oamFrame_carries ho
    exact ⟨by rw [hair, LinkSt.nextMsg, hcar]; rfl, by rw [hcarry, hcar]; rfl⟩
  · obtain ⟨hair, -⟩ := State.oamFrame_carries ho
    rw [hair, LinkSt.nextMsg, hcar]
    rfl
  · interval_cases y <;> rfl
  · obtain ⟨t, ht, hlock, hal⟩ := exec_blockLockChange hseg hclk hsh (lock := lock) (aligned := aligned)
    exact ⟨t, ht, hlock, fun h2 h6 => hal.trans (if_pos ⟨h2, h6⟩), fun h => hal.trans (if_neg (by omega))⟩

end Sys2Proof.Machine
end

section
namespace Sys2Proof.Machine

section
variable {s : State} {c : Ch}

/-! ### What link control's operations leave of a channel -/

/-- Only the latching-low copies may follow a change of link control. -/
theorem State.link_updLink (s : State) (c : Ch) (g : LinkSt → LinkSt) :
    ∃ a b, ((s.updLink c g).ch c).link = { g (s.ch c).link with llPma := a, llAn := b } := by
  rw [State.ch_updLink, if_pos rfl]
  unfold LinkSt.drop
  split
  · exact ⟨_, _, rfl⟩
  · exact ⟨_, _, rfl⟩

theorem State.linkIn_st {st : LState} (h : s.linkIn c st = true) : (s.ch c).link.st = st := by
  simp only [State.linkIn, Bool.and_eq_true, decide_eq_true_eq] at h
  exact h.2

/-- An attempt that ends leaves all fields but those of a link's end. -/
theorem State.toHoldoff_frame (s : State) (c : Ch) (restart : Bool) : ((s.toHoldoff c restart).ch c).link.st = .holdoff ∧
    ∀ f, f.byEnd = false → (s.toHoldoff c restart).cg c f = s.cg c f := by
  have hloc : Local c CFld.byEnd s (s.toHoldoff c restart) :=
    Local.setSub (s.endLine_local c).updCh fun _ => CFld.bySub_of_byEnd
  obtain ⟨d, g, hch⟩ := ((s.endLine c).updLink c fun l => { l with st := .holdoff, restart := restart }).ch_setSub c .idle
  obtain ⟨a, b, hlink⟩ := (s.endLine c).link_updLink c fun l => { l with st := .holdoff, restart := restart }
  refine ⟨?_, hloc.cg⟩
  unfold State.toHoldoff
  rw [hch, hlink]

theorem State.cg_polFail (s : State) (c : Ch) (f : CFld) : (s.polFail c).cg c f = s.cg c f := rfl

/-- A failure counts, sets its event and goes to HOLDOFF (R94). -/
theorem State.trainFail_frame (s : State) (c : Ch) {evt : CFld} (he : evt.byEnd = false) (hw : evt.info.wid = 1)
    (hne : evt ≠ .LINK_TRFAIL_COUNT) : ((s.trainFail c evt).ch c).link.st = .holdoff ∧ (s.trainFail c evt).cg c evt = 1 ∧
      (s.trainFail c evt).cg c .LINK_TRFAIL_COUNT = (s.cg c .LINK_TRFAIL_COUNT + 1) % m32 ∧
      ∀ f, f.byEnd = false → f ≠ evt → f ≠ .LINK_TRFAIL_COUNT → (s.trainFail c evt).cg c f = s.cg c f := by
  have hw' : (CFld.info .LINK_TRFAIL_COUNT).wid = 32 := rfl
  have hx : ∀ f, (((s.cs c evt 1).cinc c .LINK_TRFAIL_COUNT).polFail c).cg c f =
    ((s.cs c evt 1).cinc c .LINK_TRFAIL_COUNT).cg c f := State.cg_polFail _ c
  unfold State.trainFail
  generalize ((s.cs c evt 1).cinc c .LINK_TRFAIL_COUNT).polFail c = x at hx
  obtain ⟨hst, hcg⟩ := x.toHoldoff_frame c (s.ch c).link.restart
  refine ⟨hst, ?_, ?_, fun f hf h1 h2 => ?_⟩
  · rw [hcg _ he, hx]
    simp [State.cinc, hne, hw]
  · rw [hcg _ rfl, hx]
    simp [State.cinc, hne.symm, hw', m32]
  · rw [hcg _ hf, hx]
    simp [State.cinc, h1, h2]

theorem State.toTraining_frame (s : State) (c : Ch) : ((s.toTraining c).ch c).link = (s.ch c).link ∧
    ∀ f, f.bySub = false → (s.toTraining c).cg c f = s.cg c f := by
  unfold State.toTraining
  split
  · exact ⟨rfl, fun _ _ => rfl⟩
  · obtain ⟨d, g, hch⟩ := s.ch_setSub c .training
    have hloc : Local c CFld.bySub s (s.setSub c .training) := (Local.refl s).setSub fun _ => id
    exact ⟨by rw [State.ch_updRx, if_pos rfl, hch], hloc.cg⟩

theorem State.cg_takeRoot (s : State) (c : Ch) (typ : Nat) (f : CFld) : (s.takeRoot c typ).cg c f = s.cg c f := by
  unfold State.takeRoot
  dsimp only
  split
  · rfl
  · exact State.cg_ds ..

/-- Training begins with the type and role it is given (R86, R89). -/
theorem State.enterTrain_frame (s : State) (c : Ch) (typ : Nat) (master : Bool) (ht : typ < 16) :
    ((s.enterTrain c typ master).ch c).link.st = .train ∧ ((s.enterTrain c typ master).ch c).link.typ = typ ∧
      ((s.enterTrain c typ master).ch c).link.master = master ∧
      (s.enterTrain c typ master).cg c .LINK_ANSTAT_RESOLVED = typ ∧
      (s.enterTrain c typ master).cg c .LINK_ANSTAT_MASTER = b2n master ∧
      (s.enterTrain c typ master).cg c .LINK_ANSTAT_AN_DONE = s.cg c .LINK_ANSTAT_AN_DONE := by
  have hw : (CFld.info .LINK_ANSTAT_RESOLVED).wid = 4 := rfl
  have hw' : (CFld.info .LINK_ANSTAT_MASTER).wid = 1 := rfl
  have hbit : ∀ b : Bool, b2n b % 2 = b2n b := by decide
  unfold State.enterTrain
  extract_lets x hold y z
  obtain ⟨hlink, hcg⟩ := (z.updDsp c fun d => { d with actType := typ }).toTraining_frame c
  have hz : ((z.updDsp c fun d => { d with actType := typ }).ch c).link = (y.ch c).link := by simp [z]
  obtain ⟨a, b, hy⟩ : ∃ a b, (y.ch c).link = { (x.ch c).link with
      st := .train, typ := typ, master := master, opWait := hold, x := if typ = 7 && !hold then .silent else .none
      xiLast := 0, xiCount := 0, xiConf := 0, swCnt := 0, xiOut := 0, llPma := a, llAn := b } := x.link_updLink c _
  have hx : ∀ f, (z.updDsp c fun d => { d with actType := typ }).cg c f =
      ((s.cs c .LINK_ANSTAT_RESOLVED typ).cs c .LINK_ANSTAT_MASTER (b2n master)).cg c f := fun f => by
    simp only [z, y, x, State.cg_updDsp, State.cg_updLine, State.cg_updLink, State.cg_takeRoot]
  clear_value z
  rw [hlink, hz, hy]
  refine ⟨rfl, rfl, rfl, ?_, ?_, ?_⟩
  · rw [hcg _ rfl, hx]
    simp [hw]
    omega
  · rw [hcg _ rfl, hx]
    simp [hw', hbit]
  · rw [hcg _ rfl, hx]
    simp

/-! ### Negotiation (R85 to R88) -/

/-- Seeds that agree draw a free value, and nothing else changes. -/
theorem State.resolveRole_snd (s : State) (own lp ownSeed lpSeed : Nat) :
    ∃ k, (s.resolveRole own lp ownSeed lpSeed).2 = { s with free := k } := by
  unfold State.resolveRole
  split
  · exact ⟨s.free, rfl⟩
  · split
    · exact ⟨s.free, rfl⟩
    · split
      · exact ⟨s.free, rfl⟩
      · split
        · exact ⟨s.free, rfl⟩
        · exact ⟨s.free + 1, rfl⟩

theorem bestType_lt (m : Nat) : bestType m < 8 := by
  refine List.foldlRecOn (motive := fun b => b < 8) (List.range 7) _ (by decide) fun b hb i hi => ?_
  have := List.mem_range.mp hi
  split
  · omega
  · exact hb

/-- The types both ends may come up with, hot or not (R86, R38). -/
def State.commonTypes (s : State) (c : Ch) : Nat :=
  (if s.power.hot then (s.ch c).link.adv % 64 else (s.ch c).link.adv) &&& s.cg c .LINK_ANLP_TYPES

/-- What a resolution leads to; `k` counts the free values drawn by then. -/
theorem exec_anResolve_eq {role lp : Nat} {r : Option Bool} (h : s.linkIn c .an = true)
    (hb : (s.ch c).link.lpBase = some (role, lp))
    (hr : (s.resolveRole (s.ch c).link.role role (s.ch c).link.seed lp).1 = r) :
    ∃ k, exec (.anResolve c) s = .next (
      match r with
      | none => (({ s with free := k } : State).cs c .LINK_ANSTAT_MS_FAULT 1).trainFail c .LINK_EVT_AN_FAIL
      | some m =>
        if bestType (s.commonTypes c) = 0 then
          (({ s with free := k } : State).cs c .LINK_ANSTAT_NO_HCD 1).trainFail c .LINK_EVT_AN_FAIL
        else (({ s with free := k } : State).cs c .LINK_ANSTAT_AN_DONE 1).enterTrain c (bestType (s.commonTypes c)) m) := by
  obtain ⟨k, hk⟩ := s.resolveRole_snd (s.ch c).link.role role (s.ch c).link.seed lp
  refine ⟨k, ?_⟩
  change execAnResolve c s = _
  rw [execAnResolve, if_neg (by rw [h]; decide)]
  dsimp only
  rw [hb]
  dsimp only
  rw [hk, hr]
  cases r with
  | none => rfl
  | some m =>
    have htypes : bestType ((if s.power.hot then (s.ch c).link.adv % 64 else (s.ch c).link.adv) &&&
      ({ s with free := k } : State).cg c .LINK_ANLP_TYPES) = bestType (s.commonTypes c) := rfl
    dsimp only
    rw [htypes]
    split <;> rfl

section
variable {role lp : Nat} (h : s.linkIn c .an = true) (hb : (s.ch c).link.lpBase = some (role, lp))
include h hb

theorem exec_anResolve_fault (hr : (s.resolveRole (s.ch c).link.role role (s.ch c).link.seed lp).1 = none) :
    ∃ t, exec (.anResolve c) s = .next t ∧ (t.ch c).link.st = .holdoff ∧ t.cg c .LINK_ANSTAT_MS_FAULT = 1 ∧
      t.cg c .LINK_EVT_AN_FAIL = 1 ∧ t.cg c .LINK_TRFAIL_COUNT = (s.cg c .LINK_TRFAIL_COUNT + 1) % m32 := by
  obtain ⟨k, hexec⟩ := exec_anResolve_eq h hb hr
  dsimp only at hexec
  have hcnt₀ : ({ s with free := k } : State).cg c .LINK_TRFAIL_COUNT = s.cg c .LINK_TRFAIL_COUNT := rfl
  obtain ⟨hst, hevt, hcnt, hcg⟩ := (({ s with free := k } : State).cs c .LINK_ANSTAT_MS_FAULT 1).trainFail_frame c
    (evt := .LINK_EVT_AN_FAIL) rfl rfl nofun
  refine ⟨_, hexec, hst, ?_, hevt, ?_⟩
  · rw [hcg _ rfl (by nofun) (by nofun)]
    exact State.cg_cs_flag _ rfl
  · rw [hcnt, State.cg_cs, if_neg (by nofun), hcnt₀]

theorem exec_anResolve_noCommon
    (hr : (s.resolveRole (s.ch c).link.role role (s.ch c).link.seed lp).1.isSome = true)
    (hty : bestType (s.commonTypes c) = 0) :
    ∃ t, exec (.anResolve c) s = .next t ∧ (t.ch c).link.st = .holdoff ∧ t.cg c .LINK_ANSTAT_NO_HCD = 1 ∧
      t.cg c .LINK_EVT_AN_FAIL = 1 := by
  obtain ⟨m, hm⟩ := Option.isSome_iff_exists.mp hr
  obtain ⟨k, hexec⟩ := exec_anResolve_eq h hb hm
  dsimp only at hexec
  rw [if_pos hty] at hexec
  obtain ⟨hst, hevt, -, hcg⟩ := (({ s with free := k } : State).cs c .LINK_ANSTAT_NO_HCD 1).trainFail_frame c
    (evt := .LINK_EVT_AN_FAIL) rfl rfl nofun
  refine ⟨_, hexec, hst, ?_, hevt⟩
  rw [hcg _ rfl (by nofun) (by nofun)]
  exact State.cg_cs_flag _ rfl

theorem exec_anResolve_trains {m : Bool}
    (hr : (s.resolveRole (s.ch c).link.role role (s.ch c).link.seed lp).1 = some m)
    (hty : bestType (s.commonTypes c) ≠ 0) :
    ∃ t, exec (.anResolve c) s = .next t ∧ (t.ch c).link.st = .train ∧
      (t.ch c).link.typ = bestType (s.commonTypes c) ∧ (t.ch c).link.master = m ∧ t.cg c .LINK_ANSTAT_AN_DONE = 1 ∧
      t.cg c .LINK_ANSTAT_RESOLVED = bestType (s.commonTypes c) ∧ t.cg c .LINK_ANSTAT_MASTER = b2n m := by
  obtain ⟨k, hexec⟩ := exec_anResolve_eq h hb hr
  dsimp only at hexec
  rw [if_neg hty] at hexec
  obtain ⟨hst, htyp, hma, hres, hmas, hdone⟩ := (({ s with free := k } : State).cs c .LINK_ANSTAT_AN_DONE 1).enterTrain_frame
    c (bestType (s.commonTypes c)) m ((bestType_lt _).trans (by decide))
  refine ⟨_, hexec, hst, htyp, hma, ?_, hres, hmas⟩
  rw [hdone]
  exact State.cg_cs_flag _ rfl

end

theorem exec_anPageReceive_base (h : s.linkIn c .an = true) (types : BitVec 7) (eee : Bool) (role : Fin 4)
    (seed : BitVec 16) : ∃ t, exec (.anPageReceive c (.base types eee role seed)) s = .next t ∧
      t.cg c .LINK_ANLP_TYPES % 64 = types.toNat % 64 ∧ t.cg c .LINK_ANLP_EEE = b2n eee ∧
      (t.ch c).link.lpBase = some (role.val, seed.toNat) ∧ (t.ch c).link.st = .an := by
  have hw : (CFld.info .LINK_ANLP_TYPES).wid = 7 := rfl
  have hw' : (CFld.info .LINK_ANLP_EEE).wid = 1 := rfl
  have hbit : ∀ b : Bool, b2n b % 2 = b2n b := by decide
  have hrun : exec (.anPageReceive c (.base types eee role seed)) s = execAnPageReceive c (.base types eee role seed) s := rfl
  rw [hrun, execAnPageReceive, if_neg (by rw [h]; decide)]
  extract_lets t0 t x
  have ht : t % 64 = types.toNat % 64 := by
    unfold t t0
    split <;> omega
  obtain ⟨a, b, hlink⟩ := x.link_updLink c fun l => { l with lpBase := some (role.val, seed.toNat), lpOui := false }
  refine ⟨_, rfl, ?_, ?_, ?_, ?_⟩
  · simp only [State.cg_updLink, x, State.cg_cs, reduceCtorEq, and_false, and_self, if_true, if_false, hw]
    omega
  · simp [x, hw', hbit]
  · rw [hlink]
  · rw [hlink]
    exact State.linkIn_st (s := s) h

theorem exec_anPageReceive_oui (h : s.linkIn c .an = true) (oui : BitVec 24) :
    exec (.anPageReceive c (.ouiMessage oui)) s =
      .next (s.updLink c fun l => { l with lpOui := decide (oui = fjOui) }) := by
  change execAnPageReceive c (.ouiMessage oui) s = _
  rw [execAnPageReceive, if_neg (by rw [h]; decide)]
  rfl

/-- The capability word that follows the vendor's message page. -/
theorem exec_anPageReceive_cap (h : s.linkIn c .an = true) (code : Word) (ho : (s.ch c).link.lpOui = true) :
    ∃ t, exec (.anPageReceive c (.unformatted code)) s = .next t ∧
      t.cg c .LINK_LPCAP_CAP = code.toNat % 2 ^ (CFld.info .LINK_LPCAP_CAP).wid ∧ t.cg c .LINK_ANLP_LP_FJ = 1 ∧
      (t.cg c .LINK_ANLP_TYPES).testBit 6 = code.toNat.testBit 0 := by
  have hw : (CFld.info .LINK_ANLP_TYPES).wid = 7 := rfl
  have hw' : (CFld.info .LINK_ANLP_LP_FJ).wid = 1 := rfl
  have hrun : exec (.anPageReceive c (.unformatted code)) s = execAnPageReceive c (.unformatted code) s := rfl
  rw [hrun, execAnPageReceive, if_neg (by rw [h]; decide)]
  dsimp only
  rw [if_pos ho]
  refine ⟨_, rfl, by simp, by simp [hw'], ?_⟩
  simp only [State.cg_updLink, State.cg_cs, and_self, if_true, hw]
  rw [Nat.testBit_eq_decide_div_mod_eq, Nat.testBit_eq_decide_div_mod_eq]
  congr 1
  simp only [Nat.reducePow, Nat.div_one, eq_iff_iff]
  omega

theorem exec_anPageReceive_other (h : s.linkIn c .an = true) (code : Word) (ho : (s.ch c).link.lpOui = false) :
    exec (.anPageReceive c (.unformatted code)) s = .next s := by
  change execAnPageReceive c (.unformatted code) s = _
  rw [execAnPageReceive, if_neg (by rw [h]; decide)]
  dsimp only
  rw [if_neg (by rw [ho]; exact Bool.false_ne_true)]
  rfl

/-! ### Infofields (R91 to R93) -/

theorem State.toX_frame (s : State) (c : Ch) (x : XState) : (s.toX c x).regs = s.regs ∧ ((s.toX c x).ch c).link.x = x ∧
    ((s.toX c x).ch c).link.xiLast = (s.ch c).link.xiLast ∧ ((s.toX c x).ch c).link.xiCount = (s.ch c).link.xiCount ∧
    ((s.toX c x).ch c).link.xiConf = (s.ch c).link.xiConf := by
  obtain ⟨a, b, hlink⟩ := s.link_updLink c fun l => { l with x := x, swCnt := if x = .count then 15 else l.swCnt }
  unfold State.toX
  rw [hlink]
  exact ⟨rfl, rfl, rfl, rfl, rfl⟩

/-- A transition of the training table, or none. -/
theorem State.xEval_eq (s : State) (c : Ch) : s.xEval c = s ∨ ∃ x, s.xEval c = s.toX c x := by
  have hite : ∀ (p : Prop) {_ : Decidable p} (x : XState), (if p then s.toX c x else s) = s ∨
      ∃ y, (if p then s.toX c x else s) = s.toX c y := fun p _ x =>
    (ite_eq_or_eq p (s.toX c x) s).symm.imp_right fun h => ⟨x, h⟩
  unfold State.xEval
  dsimp only
  cases (s.ch c).link.x with
  | listen => exact hite _ _
  | send => exact hite _ _
  | coef => exact hite _ _
  | ready => exact hite _ _
  | silent => exact .inl rfl
  | count => exact .inl rfl
  | check => exact .inl rfl
  | none => exact .inl rfl

theorem State.setSh_frame (s : State) (c : Ch) (f : CFld) (v : Nat) : (s.setSh c f v).regs = s.regs ∧
    ((s.setSh c f v).ch c).link = (s.ch c).link ∧
    ∀ p, p ∈ ((s.setSh c f v).ch c).shadow ↔ p = (f, v % 2 ^ f.info.wid) ∨ p ∈ (s.ch c).shadow ∧ p.1 ≠ f := by
  refine ⟨rfl, by simp [State.setSh], fun p => ?_⟩
  simp [State.setSh]

/-- The pending shadow of field `f` is `v` (R262). -/
def Chan.Pending (x : Chan) (f : CFld) (v : Nat) : Prop :=
  (∀ p ∈ x.shadow, p.1 = f → p.2 = v) ∧ ∃ p ∈ x.shadow, p.1 = f

theorem State.setSh_pending (s : State) (c : Ch) (f : CFld) (v : Nat) :
    ((s.setSh c f v).ch c).Pending f (v % 2 ^ f.info.wid) := by
  obtain ⟨-, -, hmem⟩ := s.setSh_frame c f v
  refine ⟨fun p hp hpf => ?_, _, (hmem _).mpr (.inl rfl), rfl⟩
  rcases (hmem p).mp hp with rfl | ⟨-, hne⟩
  · rfl
  · exact absurd hpf hne

theorem Chan.Pending.setSh {f g : CFld} {v w : Nat} (h : (s.ch c).Pending f v) (hne : f ≠ g) :
    ((s.setSh c g w).ch c).Pending f v := by
  obtain ⟨-, -, hmem⟩ := s.setSh_frame c g w
  obtain ⟨hall, p, hp, hpf⟩ := h
  refine ⟨fun q hq hqf => ?_, p, (hmem p).mpr (.inr ⟨hp, by rw [hpf]; exact hne⟩), hpf⟩
  rcases (hmem q).mp hq with rfl | ⟨hq', -⟩
  · exact absurd hqf hne.symm
  · exact hall q hq' hqf

theorem State.xiApply_frame (s : State) (c : Ch) : (s.xiApply c).regs = s.regs ∧
    ((s.xiApply c).ch c).link = (s.ch c).link := by
  unfold State.xiApply
  extract_lets conf x
  have hx : x.regs = s.regs ∧ (x.ch c).link = (s.ch c).link := by
    unfold x
    split
    · refine ⟨rfl, ?_⟩
      rw [(State.setSh_frame _ c _ _).2.1, (State.setSh_frame _ c _ _).2.1, (State.setSh_frame _ c _ _).2.1]
    · exact ⟨rfl, rfl⟩
  obtain ⟨hregs, hlink⟩ := hx
  split
  · exact ⟨hregs, ((State.setSh_frame x c _ _).2.1).trans hlink⟩
  · exact ⟨hregs, hlink⟩

/-- The words of an infofield in the registers. -/
def State.xiNoted (s : State) (c : Ch) (v : Nat) : State :=
  (List.range 6).foldl (fun s k => s.cs c (.LINK_XINFO_BITS k) (v / 2 ^ (32 * k))) s

theorem State.xiNoted_frame (s : State) (c : Ch) (v : Nat) : (s.xiNoted c v).ch c = s.ch c ∧
    ∀ k < 6, (s.xiNoted c v).cg c (.LINK_XINFO_BITS k) = v / 2 ^ (32 * k) % m32 := by
  have hw : ∀ k, (CFld.info (.LINK_XINFO_BITS k)).wid = 32 := fun _ => rfl
  refine ⟨rfl, fun k hk => ?_⟩
  simp only [State.xiNoted, List.range_succ, List.range_zero, List.nil_append, List.cons_append, List.foldl_cons, List.foldl_nil]
  interval_cases k <;> simp [hw, m32]

/-- The partner's confirmed fields with an infofield `v` (R91). -/
def LinkSt.confirmed (l : LinkSt) (v : Nat) : Nat := if l.xiCount = 0 then l.xiConf else xiConfirm l.xiConf l.xiLast v

/-- What an infofield leaves before training goes on by it. -/
def State.xiTaken (s : State) (c : Ch) (v : Nat) : State :=
  ((s.xiNoted c v).updLink c fun l => { l with
    xiLast := v, xiCount := l.xiCount + 1, xiConf := (s.ch c).link.confirmed v }).xiApply c

theorem State.xiTaken_frame (s : State) (c : Ch) (v : Nat) : ((s.xiTaken c v).ch c).link.xiLast = v ∧
    ((s.xiTaken c v).ch c).link.xiCount = (s.ch c).link.xiCount + 1 ∧
    ((s.xiTaken c v).ch c).link.xiConf = (s.ch c).link.confirmed v ∧
    ∀ k < 6, (s.xiTaken c v).cg c (.LINK_XINFO_BITS k) = v / 2 ^ (32 * k) % m32 := by
  obtain ⟨hch, hcg⟩ := s.xiNoted_frame c v
  obtain ⟨a, b, hlink⟩ := (s.xiNoted c v).link_updLink c fun l => { l with
    xiLast := v, xiCount := l.xiCount + 1, xiConf := (s.ch c).link.confirmed v }
  rw [hch] at hlink
  obtain ⟨hregs, hlink'⟩ := ((s.xiNoted c v).updLink c fun l => { l with
    xiLast := v, xiCount := l.xiCount + 1, xiConf := (s.ch c).link.confirmed v }).xiApply_frame c
  unfold State.xiTaken
  rw [hlink', hlink]
  exact ⟨rfl, rfl, rfl, fun k hk => (State.cg_of_regs hregs c _).trans (hcg k hk)⟩

theorem exec_infofieldReceive_eq {v : BitVec 192} {crc : BitVec 16} (h : s.linkIn c .train = true)
    (hx : (s.ch c).link.x.hears = true) (hcrc : xiCrcOk v crc = true) :
    exec (.infofieldReceive c v crc) s = .next (
      if bits ((s.ch c).link.confirmed v.toNat) 2 0 ≠ bits (s.ch c).link.xiConf 2 0 ∧
          bits ((s.ch c).link.confirmed v.toNat) 2 0 < (s.ch c).link.x.istate then
        (s.xiTaken c v.toNat).toX c .send
      else (s.xiTaken c v.toNat).xEval c) := by
  change execInfofieldReceive c v crc s = _
  rw [execInfofieldReceive, if_neg (by rw [h, hx, hcrc]; decide)]
  have hch : ((s.xiNoted c v.toNat).ch c) = s.ch c := rfl
  have hconf : (if (s.ch c).link.xiCount = 0 then (s.ch c).link.xiConf
    else xiConfirm (s.ch c).link.xiConf (s.ch c).link.xiLast v.toNat) = (s.ch c).link.confirmed v.toNat := rfl
  dsimp only
  rw [← State.xiNoted, hch, hconf]
  simp only [Bool.and_eq_true, decide_eq_true_eq]
  split <;> rfl

theorem exec_infofieldReceive_dropped {v : BitVec 192} {crc : BitVec 16} (hcrc : xiCrcOk v crc = false) :
    exec (.infofieldReceive c v crc) s = .next s := by
  change execInfofieldReceive c v crc s = _
  rw [execInfofieldReceive, if_pos (by rw [hcrc, Bool.and_false]; rfl)]
  rfl

/-- However training goes on, the infofield stays recorded. -/
theorem State.xiTaken_then {t : State} {v : Nat} (h : t = s.xiTaken c v ∨ ∃ x, t = (s.xiTaken c v).toX c x) :
    (t.ch c).link.xiLast = v ∧ (t.ch c).link.xiCount = (s.ch c).link.xiCount + 1 ∧
      (t.ch c).link.xiConf = (s.ch c).link.confirmed v ∧
      ∀ k < 6, t.cg c (.LINK_XINFO_BITS k) = v / 2 ^ (32 * k) % m32 := by
  obtain ⟨h1, h2, h3, h4⟩ := s.xiTaken_frame c v
  rcases h with rfl | ⟨x, rfl⟩
  · exact ⟨h1, h2, h3, h4⟩
  · obtain ⟨hregs, -, hlast, hcount, hconf⟩ := (s.xiTaken c v).toX_frame c x
    exact ⟨hlast.trans h1, hcount.trans h2, hconf.trans h3, fun k hk => (State.cg_of_regs hregs c _).trans (h4 k hk)⟩

theorem exec_infofieldReceive_taken {v : BitVec 192} {crc : BitVec 16} (h : s.linkIn c .train = true)
    (hx : (s.ch c).link.x.hears = true) (hcrc : xiCrcOk v crc = true) :
    ∃ t, exec (.infofieldReceive c v crc) s = .next t ∧ (t.ch c).link.xiLast = v.toNat ∧
      (t.ch c).link.xiCount = (s.ch c).link.xiCount + 1 ∧ (t.ch c).link.xiConf = (s.ch c).link.confirmed v.toNat ∧
      (∀ k < 6, t.cg c (.LINK_XINFO_BITS k) = v.toNat / 2 ^ (32 * k) % m32) ∧
      (bits ((s.ch c).link.confirmed v.toNat) 2 0 ≠ bits (s.ch c).link.xiConf 2 0 →
        bits ((s.ch c).link.confirmed v.toNat) 2 0 < (s.ch c).link.x.istate → (t.ch c).link.x = .send) := by
  rw [exec_infofieldReceive_eq h hx hcrc]
  split
  next hfell =>
    obtain ⟨h1, h2, h3, h4⟩ := State.xiTaken_then (s := s) (c := c) (v := v.toNat) (.inr ⟨.send, rfl⟩)
    exact ⟨_, rfl, h1, h2, h3, h4, fun _ _ => ((s.xiTaken c v.toNat).toX_frame c .send).2.1⟩
  next hstays =>
    obtain ⟨h1, h2, h3, h4⟩ := State.xiTaken_then ((s.xiTaken c v.toNat).xEval_eq c)
    exact ⟨_, rfl, h1, h2, h3, h4, fun hne hlt => absurd ⟨hne, hlt⟩ hstays⟩

/-! ### Shadows that apply (R262) -/

/-- One shadow applies, and may disarm its block's comparison. -/
def State.putShadow (s : State) (c : Ch) (p : CFld × Nat) : State :=
  if p.1.info.crc && (s.cs c p.1 p.2).cg c p.1 ≠ s.cg c p.1 then (s.cs c p.1 p.2).cs c (.tr p.1.blk .REF_ARMED) 0
  else s.cs c p.1 p.2

theorem State.cg_putShadow (p : CFld × Nat) {f : CFld} (hf : ∀ b, f ≠ .tr b .REF_ARMED) :
    (s.putShadow c p).cg c f = if f = p.1 then p.2 % 2 ^ f.info.wid else s.cg c f := by
  have hcs : (s.cs c p.1 p.2).cg c f = if f = p.1 then p.2 % 2 ^ f.info.wid else s.cg c f := by
    rw [State.cg_cs]
    by_cases h : f = p.1 <;> simp [h]
  unfold State.putShadow
  split
  · rw [State.cg_cs, if_neg fun h => hf _ h.2, hcs]
  · exact hcs

/-- A field whose shadows all hold `v` holds it after they apply, if it did before or has one. -/
theorem State.cg_foldl_putShadow {f : CFld} {v : Nat} (hf : ∀ b, f ≠ .tr b .REF_ARMED) (l : List (CFld × Nat))
    (hall : ∀ p ∈ l, p.1 = f → p.2 = v) (hone : s.cg c f = v % 2 ^ f.info.wid ∨ ∃ p ∈ l, p.1 = f) :
    (l.foldl (fun s p => s.putShadow c p) s).cg c f = v % 2 ^ f.info.wid := by
  induction l generalizing s with
  | nil => exact hone.resolve_right (by simp)
  | cons p l ih =>
    refine ih (fun q hq => hall q (List.mem_cons_of_mem _ hq)) ?_
    rw [State.cg_putShadow p hf]
    by_cases h : f = p.1
    · rw [if_pos h, hall p List.mem_cons_self h.symm]
      exact .inl rfl
    · rw [if_neg h]
      refine hone.imp_right fun ⟨q, hq, hqf⟩ => ⟨q, ?_, hqf⟩
      exact (List.mem_cons.mp hq).resolve_left fun e => h (e ▸ hqf.symm)

theorem State.shApply_eq (s : State) (c : Ch) : s.shApply c =
    (((s.ch c).shadow.filter fun p => !(isWinSh p.1 || (s.ch c).link.keepsSh p.1)).foldl (fun s p => s.putShadow c p)
      (s.updCh c fun x => { x with
        shadow := x.shadow.filter fun p => isWinSh p.1 || (s.ch c).link.keepsSh p.1
        rx := { x.rx with winDue := x.rx.winDue || x.shadow.any fun p => isWinSh p.1 } })).applyTrims c := rfl

theorem State.ch_putShadow (p : CFld × Nat) : (s.putShadow c p).ch c = s.ch c := by
  unfold State.putShadow
  split <;> rfl

theorem State.ch_foldl_putShadow (l : List (CFld × Nat)) (s : State) :
    (l.foldl (fun s p => s.putShadow c p) s).ch c = s.ch c := by
  induction l generalizing s with
  | nil => rfl
  | cons p l ih => exact (ih _).trans (State.ch_putShadow p)

theorem State.link_shApply (s : State) (c : Ch) : ((s.shApply c).ch c).link = (s.ch c).link := by
  rw [State.shApply_eq, State.applyTrims, State.restoreD, State.ch_updGraft, if_pos rfl, State.ch_foldl_putShadow,
    State.updCh_same]

theorem State.cg_shApply {f : CFld} {v : Nat} (hf : ∀ b, f ≠ .tr b .REF_ARMED) (hwin : isWinSh f = false)
    (hkeep : (s.ch c).link.keepsSh f = false) (hall : ∀ p ∈ (s.ch c).shadow, p.1 = f → p.2 = v)
    (hone : s.cg c f = v % 2 ^ f.info.wid ∨ ∃ p ∈ (s.ch c).shadow, p.1 = f) :
    (s.shApply c).cg c f = v % 2 ^ f.info.wid := by
  rw [State.shApply_eq]
  refine State.cg_foldl_putShadow hf _ (fun p hp => hall p (List.mem_filter.mp hp).1) (hone.imp_right fun ⟨p, hp, hpf⟩ => ?_)
  exact ⟨p, List.mem_filter.mpr ⟨hp, by rw [hpf, hwin, hkeep]; rfl⟩, hpf⟩

theorem State.link_toData (s : State) (c : Ch) (typ fr : Nat) : ((s.toData c typ fr).ch c).link = (s.ch c).link := by
  rw [State.toData, State.ch_updLine, if_pos rfl, State.link_shApply, State.ch_cs]

theorem State.cg_toData {typ fr : Nat} (f : CFld) :
    (s.toData c typ fr).cg c f = ((s.cs c .PCS_CTL_TYPE typ).shApply c).cg c f := rfl

theorem LinkSt.keepsSh_type (l : LinkSt) : l.keepsSh .PCS_CTL_TYPE = false := by
  simp [LinkSt.keepsSh]

theorem LinkSt.keepsSh_of_typ {l : LinkSt} (h : l.typ ≠ 7) (f : CFld) : l.keepsSh f = false := by
  simp [LinkSt.keepsSh, h]

/-- The active type after a switch with no shadow of it. -/
theorem State.cg_toData_type {typ fr : Nat} (ht : typ < 16) (hno : ∀ p ∈ (s.ch c).shadow, p.1 ≠ .PCS_CTL_TYPE) :
    (s.toData c typ fr).cg c .PCS_CTL_TYPE = typ := by
  have hw : (CFld.info .PCS_CTL_TYPE).wid = 4 := rfl
  have happ := State.cg_shApply (s := s.cs c .PCS_CTL_TYPE typ) (c := c) (f := .PCS_CTL_TYPE) (v := typ) nofun rfl
    (LinkSt.keepsSh_type _) (fun p hp h => absurd h (hno p hp)) (.inl (by simp))
  rw [State.cg_toData, happ, hw]
  omega

/-! ### Training ends (R90, R93) -/

/-- The count of X_COUNT ends in X_CHECK (R93). -/
theorem State.enterCheck_frame (s : State) (c : Ch) : ((s.enterCheck c).ch c).link.x = .check ∧
    ((s.ch c).shadow = [] → (s.enterCheck c).cg c .PCS_CTL_TYPE = 7) := by
  obtain ⟨-, hx, -⟩ := s.toX_frame c .check
  have hsh : ((s.toX c .check).ch c).shadow = (s.ch c).shadow := by simp [State.toX]
  unfold State.enterCheck
  generalize s.toX c .check = x at hx hsh
  refine ⟨?_, fun h => ?_⟩
  · rw [State.ch_updLine, if_pos rfl, State.link_toData, hx]
  · rw [State.cg_updLine]
    exact State.cg_toData_type (by decide) (by simp [hsh, h])

theorem exec_infofieldSend_eq (h : s.linkIn c .train = true) (hx : (s.ch c).link.x.sends = true)
    (hne : (s.ch c).link.x ≠ .count) :
    exec (.infofieldSend c) s = .next (s.updLink c fun l => { l with xiOut := s.xiSend c }) := by
  obtain ⟨a, b, hlink⟩ := s.link_updLink c fun l => { l with xiOut := s.xiSend c }
  change execInfofieldSend c s = _
  rw [execInfofieldSend, if_neg (by rw [h, hx]; decide)]
  dsimp only
  rw [hlink, if_neg hne]
  rfl

theorem exec_infofieldSend_count (h : s.linkIn c .train = true) (hx : (s.ch c).link.x = .count)
    (hm : (s.ch c).link.master = true) :
    exec (.infofieldSend c) s = .next (
      if bits (s.xiSend c) 30 26 = 0 then (s.updLink c fun l => { l with xiOut := s.xiSend c }).enterCheck c
      else (s.updLink c fun l => { l with xiOut := s.xiSend c }).updLink c fun l => { l with swCnt := l.swCnt - 1 }) := by
  obtain ⟨a, b, hlink⟩ := s.link_updLink c fun l => { l with xiOut := s.xiSend c }
  change execInfofieldSend c s = _
  rw [execInfofieldSend, if_neg (by rw [h, hx]; decide)]
  dsimp only
  rw [hlink, if_pos hx, hm]
  simp only [Bool.true_or, Bool.true_and, decide_eq_true_eq]
  split <;> rfl

/-- The fields that data mode begins with (R55, R90). -/
def CFld.ofData (f : CFld) : Bool :=
  match f with
  | .PCS_CTL_TYPE | .PCS_CTL_TX_PRECODE | .PCS_CTL_RX_PRECODE => true
  | _ => false

/-- The active type and the precoders of channel `c` stay. -/
def DataKept (c : Ch) (s t : State) : Prop := ∀ f, f.ofData = true → t.cg c f = s.cg c f

section
variable {s₀ x t : State}

theorem DataKept.refl (s : State) : DataKept c s s := fun _ _ => rfl

theorem DataKept.frame (h : DataKept c s₀ s) (hregs : t.regs = s.regs) : DataKept c s₀ t :=
  fun f hf => (State.cg_of_regs hregs c f).trans (h f hf)

theorem DataKept.cs {f v} (h : DataKept c s₀ s) (hf : f.ofData = false) : DataKept c s₀ (s.cs c f v) := fun g hg => by
  have hne : g ≠ f := by rintro rfl; exact absurd (hf.symm.trans hg) nofun
  rw [State.cg_cs, if_neg fun e => hne e.2]
  exact h g hg

theorem DataKept.ite {p : Prop} {_ : Decidable p} (hx : DataKept c s₀ x) (ht : DataKept c s₀ t) :
    DataKept c s₀ (if p then x else t) := by
  split
  · exact hx
  · exact ht

theorem DataKept.updGraft {g} (h : DataKept c s₀ s) : DataKept c s₀ (s.updGraft c g) := h.frame rfl
theorem DataKept.updDiag {g} (h : DataKept c s₀ s) : DataKept c s₀ (s.updDiag c g) := h.frame rfl

theorem DataKept.endCalCh {k} (h : DataKept c s₀ s) : DataKept c s₀ (s.endCalCh c k) := by
  unfold State.endCalCh
  split
  · exact .ite h.updGraft (.updGraft (.ite (h.cs rfl |>.cs rfl |>.cs rfl) (h.cs rfl |>.cs rfl |>.cs rfl |>.cs rfl)))
  · exact h

/-- In UP the diagnostics go on. -/
theorem DataKept.diagMoved_up {o} (h : DataKept c s₀ s) : DataKept c s₀ (s.diagMoved c o .up) := by
  unfold State.diagMoved
  extract_lets live s1 s2 run
  have h2 : DataKept c s₀ s2 := .ite (.updDiag (.ite h.updDiag h)) (.ite h.updDiag h)
  have hlive : live .up = true := rfl
  rw [hlive]
  simpa using h2

theorem DataKept.swapRecord (h : DataKept c s₀ s) : DataKept c s₀ (s.swapRecord c) := by
  unfold State.swapRecord
  split
  · exact .ite h.updGraft h
  · exact h

theorem DataKept.swapDefer {b} (h : DataKept c s₀ s) : DataKept c s₀ (s.swapDefer c b) := by
  unfold State.swapDefer
  extract_lets s1
  have h1 : DataKept c s₀ s1 := .ite (h.updGraft.cs rfl) h
  split
  · exact .ite (h1.updGraft.cs rfl) h1
  · exact h1

theorem DataKept.setSub_up (h : DataKept c s₀ s) : DataKept c s₀ (s.setSub c .up) := by
  unfold State.setSub
  extract_lets o s1 live s2 s3
  have h0 : DataKept c s₀ ((s.cs c .CHCTL_STATE_PREV o.code).cs c .CHCTL_STATE_CHG 1) := h.cs rfl |>.cs rfl
  have h1 : DataKept c s₀ s1 := h0.frame rfl
  have h2 : DataKept c s₀ s2 := .ite (h1.cs rfl) h1
  have h4 : DataKept c s₀ (if o = .maint then s2.endCalCh c 3 else s2) := .ite h2.endCalCh h2
  have h3 : DataKept c s₀ s3 := .ite h4.diagMoved_up.updGraft (.ite h4.diagMoved_up.swapRecord h4.diagMoved_up.swapDefer)
  exact .ite h (.ite (h3.cs rfl |>.cs rfl |>.cs rfl |>.cs rfl) h3)

end

/-- Link control of a channel whose training is over, as it goes to UP. -/
def State.wentUp (s : State) (c : Ch) : State :=
  ((((s.updLink c fun l => { l with st := .up, x := .none, restart := false }).updLpi c fun p =>
    { p with fromSleep := false }).updPol c fun p => { p with fails := 0, up := true }).setSub c .up).cs c .LINK_EVT_UP 1

theorem State.wentUp_frame (s : State) (c : Ch) : ((s.wentUp c).ch c).link.st = .up ∧ ((s.wentUp c).ch c).sub = .up ∧
    (s.wentUp c).cg c .LINK_EVT_UP = 1 ∧ DataKept c s (s.wentUp c) := by
  obtain ⟨a, b, hlink⟩ := s.link_updLink c fun l => { l with st := .up, x := .none, restart := false }
  unfold State.wentUp
  generalize hy : (s.updLink c fun l => { l with st := .up, x := .none, restart := false }) = y at hlink
  have hz : (((y.updLpi c fun p => { p with fromSleep := false }).updPol c fun p => { p with fails := 0, up := true }).ch
      c).link = (y.ch c).link := by simp [State.updPol]
  have hkept : DataKept c s ((y.updLpi c fun p => { p with fromSleep := false }).updPol c fun p =>
    { p with fails := 0, up := true }) := (DataKept.refl s).frame (by rw [← hy]; rfl)
  generalize ((y.updLpi c fun p => { p with fromSleep := false }).updPol c fun p => { p with fails := 0, up := true }) = z at *
  obtain ⟨d, g, hch⟩ := z.ch_setSub c .up
  refine ⟨?_, ?_, State.cg_cs_flag _ rfl, hkept.setSub_up.cs rfl⟩
  · rw [State.ch_cs, hch]
    exact (congrArg LinkSt.st (hz.trans hlink))
  · rw [State.ch_cs, hch]

/-- What a channel switches to where training was of an IEEE type (R90). -/
def State.atData (s : State) (c : Ch) (r : Option (Fin 4)) (ack : Bool) : State :=
  (if 3 ≤ (s.ch c).link.typ then s.precoders c r ack else s).toData c (s.ch c).link.typ 0

theorem exec_linkUp_ieee {r : Option (Fin 4)} {ack : Bool} (h : s.linkIn c .train = true)
    (hw : (s.ch c).link.opWait = false) (ht : s.trainable c = true) (h7 : (s.ch c).link.typ ≠ 7) :
    exec (.linkUp c r ack) s = .next ((s.atData c r ack).wentUp c) := by
  change execLinkUp c r ack s = _
  rw [execLinkUp]
  dsimp only
  rw [if_neg (by rw [h, hw, ht]; decide), if_neg (by simp [h7]), if_neg h7]
  rfl

theorem exec_linkUp_xt50 {r : Option (Fin 4)} {ack : Bool} (h : s.linkIn c .train = true)
    (hw : (s.ch c).link.opWait = false) (ht : s.trainable c = true) (h7 : (s.ch c).link.typ = 7) :
    exec (.linkUp c r ack) s = .next (if s.checkOk c then s.wentUp c else s) := by
  change execLinkUp c r ack s = _
  rw [execLinkUp]
  dsimp only
  rw [if_neg (by rw [h, hw, ht]; decide), if_pos h7]
  cases hc : s.checkOk c
  · rw [if_pos (by simp [h7])]
    rfl
  · rw [if_neg (by simp)]
    rfl

theorem exec_linkUp_barred {r : Option (Fin 4)} {ack : Bool} (ht : s.trainable c = false) :
    exec (.linkUp c r ack) s = .next s := by
  change execLinkUp c r ack s = _
  rw [execLinkUp]
  dsimp only
  rw [if_pos (by simp [ht])]
  rfl

theorem State.precoders_frame (s : State) (c : Ch) (r : Option (Fin 4)) (ack : Bool) :
    (s.precoders c r ack).regs = s.regs ∧ ((s.precoders c r ack).ch c).link = (s.ch c).link ∧
    (∀ k, r = some k → ((s.precoders c r ack).ch c).Pending .PCS_CTL_TX_PRECODE k.val) ∧
    (ack = true → ((s.precoders c r ack).ch c).Pending .PCS_CTL_RX_PRECODE (s.cg c .LINK_XREQ_PRC % 4)) ∧
    ∀ p ∈ ((s.precoders c r ack).ch c).shadow,
      p.1 = .PCS_CTL_TX_PRECODE ∨ p.1 = .PCS_CTL_RX_PRECODE ∨ p ∈ (s.ch c).shadow := by
  unfold State.precoders
  extract_lets x
  have hx : x.regs = s.regs ∧ (x.ch c).link = (s.ch c).link ∧
      (∀ k, r = some k → (x.ch c).Pending .PCS_CTL_TX_PRECODE k.val) ∧
      ∀ p ∈ (x.ch c).shadow, p.1 = .PCS_CTL_TX_PRECODE ∨ p ∈ (s.ch c).shadow := by
    unfold x
    cases r with
    | none => exact ⟨rfl, rfl, nofun, fun p => .inr⟩
    | some r =>
      obtain ⟨hregs, hlink, hmem⟩ := s.setSh_frame c .PCS_CTL_TX_PRECODE r.val
      refine ⟨hregs, hlink, fun k hk => ?_, fun p hp => ((hmem p).mp hp).imp (congrArg Prod.fst) And.left⟩
      obtain rfl : r = k := Option.some.inj hk
      have hlt : r.val % 2 ^ (CFld.info .PCS_CTL_TX_PRECODE).wid = r.val := Nat.mod_eq_of_lt r.isLt
      have hpend := s.setSh_pending c .PCS_CTL_TX_PRECODE r.val
      rwa [hlt] at hpend
  obtain ⟨hregs, hlink, htx, hrest⟩ := hx
  cases ack with
  | false => exact ⟨hregs, hlink, htx, nofun, fun p hp => (hrest p hp).imp_right .inr⟩
  | true =>
    obtain ⟨hregs', hlink', hmem⟩ := x.setSh_frame c .PCS_CTL_RX_PRECODE (x.cg c .LINK_XREQ_PRC)
    refine ⟨hregs'.trans hregs, hlink'.trans hlink, fun k hk => (htx k hk).setSh nofun, fun _ => ?_, fun p hp => ?_⟩
    · rw [← State.cg_of_regs hregs]
      exact x.setSh_pending c .PCS_CTL_RX_PRECODE _
    · rcases (hmem p).mp hp with h | ⟨h, -⟩
      · exact .inr (.inl (congrArg Prod.fst h))
      · exact (hrest p h).imp_right .inr

/-- The type and the precoders that data mode begins with (R90). -/
theorem State.atData_frame {r : Option (Fin 4)} {ack : Bool} (h7 : (s.ch c).link.typ ≠ 7) :
    ((s.ch c).shadow = [] → (s.ch c).link.typ < 16 → (s.atData c r ack).cg c .PCS_CTL_TYPE = (s.ch c).link.typ) ∧
    (3 ≤ (s.ch c).link.typ →
      (∀ k, r = some k → (s.atData c r ack).cg c .PCS_CTL_TX_PRECODE = k.val) ∧
      (ack = true → (s.atData c r ack).cg c .PCS_CTL_RX_PRECODE = s.cg c .LINK_XREQ_PRC % 4)) := by
  have hw : (CFld.info .PCS_CTL_TX_PRECODE).wid = 2 := rfl
  have hw' : (CFld.info .PCS_CTL_RX_PRECODE).wid = 2 := rfl
  obtain ⟨hregs, hlink, htx, hrx, hrest⟩ := s.precoders_frame c r ack
  refine ⟨fun hsh ht => ?_, fun h3 => ⟨fun k hk => ?_, fun hack => ?_⟩⟩
  · unfold State.atData
    split
    · refine State.cg_toData_type ht fun p hp hpt => ?_
      rcases hrest p hp with h | h | h
      · cases hpt.symm.trans h
      · cases hpt.symm.trans h
      · rw [hsh] at h
        cases h
    · exact State.cg_toData_type ht (by simp [hsh])
  · obtain ⟨hall, hone⟩ := htx k hk
    have happ := State.cg_shApply (s := (s.precoders c r ack).cs c .PCS_CTL_TYPE (s.ch c).link.typ) (c := c)
      (f := .PCS_CTL_TX_PRECODE) nofun rfl (LinkSt.keepsSh_of_typ (by rw [State.ch_cs, hlink]; exact h7) _) hall (.inr hone)
    rw [State.atData, if_pos h3, State.cg_toData, happ, hw]
    omega
  · obtain ⟨hall, hone⟩ := hrx hack
    have happ := State.cg_shApply (s := (s.precoders c r ack).cs c .PCS_CTL_TYPE (s.ch c).link.typ) (c := c)
      (f := .PCS_CTL_RX_PRECODE) nofun rfl (LinkSt.keepsSh_of_typ (by rw [State.ch_cs, hlink]; exact h7) _) hall (.inr hone)
    rw [State.atData, if_pos h3, State.cg_toData, happ, hw']
    omega

/-- The cause that is recorded for a link monitor's FAIL (R128). -/
def MonFail.lossCause : MonFail → Nat
  | .blockLock => 0x10
  | .frameSync => 0x11
  | .other => 0x12

theorem exec_linkMonitorFail (hseg : isSeg c = false) (ht : s.cg c .PCS_CTL_TYPE ≠ 7) (why : MonFail) :
    exec (.linkMonitorFail c why) s = .next (s.critLoss c (MonFail.lossCause why)) := by
  change execLinkMonitorFail c why s = _
  unfold execLinkMonitorFail
  rw [if_pos (by rw [hseg, decide_eq_true ht]; rfl)]
  cases why <;> rfl

end

/-- Settles O47: each command of negotiation and training is one of its outcomes, whose fields the sub-state that goes with
it leaves. -/
theorem negotiationAndTraining : Obligations.NegotiationAndTraining := by
  refine fun s c => ⟨fun h => ⟨exec_anPageReceive_base h, exec_anPageReceive_oui h, exec_anPageReceive_cap h,
      exec_anPageReceive_other h, fun role lp hb => ⟨exec_anResolve_fault h hb, exec_anResolve_noCommon h hb,
        fun m => exec_anResolve_trains h hb⟩, ?_⟩,
    fun h => ⟨?_, fun hx => ?_, fun v crc => exec_infofieldReceive_dropped,
      fun v crc hx hcrc => exec_infofieldReceive_taken h hx hcrc, exec_infofieldSend_eq h,
      fun hx hm hsw => ?_, fun hx hm hsw => ?_,
      fun r ack hw => ⟨exec_linkUp_barred, fun ht => ⟨fun h7 => ?_, fun h7 hok => ?_, fun h7 hok => ?_⟩⟩⟩,
    fun hseg htyp => ?_⟩
  · change execAnTimeout c s = _
    rw [execAnTimeout, if_pos h]
    rfl
  · change execTrainTimeout c s = _
    rw [execTrainTimeout, if_pos h]
    rfl
  · change execXsilExpire c s = _
    rw [execXsilExpire, if_pos (by rw [h, hx]; rfl)]
    rfl
  · rw [exec_infofieldSend_count h hx hm, if_neg hsw]
    obtain ⟨a, b, hlink⟩ := s.link_updLink c fun l => { l with xiOut := s.xiSend c }
    obtain ⟨a', b', hlink'⟩ := (s.updLink c fun l => { l with xiOut := s.xiSend c }).link_updLink c fun l =>
      { l with swCnt := l.swCnt - 1 }
    rw [hlink] at hlink'
    exact ⟨_, rfl, rfl, by rw [hlink']; exact hx, by rw [hlink']⟩
  · rw [exec_infofieldSend_count h hx hm, if_pos hsw]
    obtain ⟨hx', htype⟩ := (s.updLink c fun l => { l with xiOut := s.xiSend c }).enterCheck_frame c
    exact ⟨_, rfl, hx', fun hsh => htype (by simpa using hsh)⟩
  · obtain ⟨hst, hsub, hevt, hkept⟩ := (s.atData c r ack).wentUp_frame c
    obtain ⟨htype, hpre⟩ := State.atData_frame (r := r) (ack := ack) h7
    refine ⟨_, exec_linkUp_ieee h hw ht h7, hst, hsub, hevt, fun hsh hlt => (hkept _ rfl).trans (htype hsh hlt),
      fun h3 => ?_⟩
    obtain ⟨htx, hrx⟩ := hpre h3
    exact ⟨fun k hk => (hkept _ rfl).trans (htx k hk), fun hack => (hkept _ rfl).trans (hrx hack)⟩
  · obtain ⟨hst, hsub, hevt, hkept⟩ := s.wentUp_frame c
    rw [exec_linkUp_xt50 h hw ht h7, if_pos hok]
    exact ⟨_, rfl, hst, hsub, hevt, hkept _ rfl⟩
  · rw [exec_linkUp_xt50 h hw ht h7, if_neg (by rw [hok]; exact Bool.false_ne_true)]
  · exact ⟨exec_linkMonitorFail hseg htyp .blockLock, exec_linkMonitorFail hseg htyp .frameSync,
      exec_linkMonitorFail hseg htyp .other⟩

end Sys2Proof.Machine
end

section
namespace Sys2Proof.Machine

@[simp] theorem LinkSt.drop_shift (l : LinkSt) : l.drop.shift = l.shift := by unfold LinkSt.drop; split <;> rfl
@[simp] theorem LinkSt.drop_sent (l : LinkSt) : l.drop.sent = l.sent := by unfold LinkSt.drop; split <;> rfl
@[simp] theorem LinkSt.drop_typ (l : LinkSt) : l.drop.typ = l.typ := by unfold LinkSt.drop; split <;> rfl
@[simp] theorem LinkSt.drop_vnp (l : LinkSt) : l.drop.vnp = l.vnp := by unfold LinkSt.drop; split <;> rfl
@[simp] theorem LinkSt.drop_adv (l : LinkSt) : l.drop.adv = l.adv := by unfold LinkSt.drop; split <;> rfl

section
variable {s : State} {c : Ch} {m : LinkMsg} {h : ShiftSt}

/-! ### The hitless shift's own operations (R98 to R104) -/

theorem State.shiftRun_clocked (hclk : s.clocked c .link = true) (hs : (s.ch c).link.shift = some h) :
    s.shiftRun c = some h := by
  rw [State.shiftRun, if_pos hclk, hs]

/-- A message acted on leaves what the shift's decisions read. -/
theorem State.acted_shift (s : State) (c : Ch) (id : Nat) (m : LinkMsg) :
    ((s.acted c id m).ch c).link.shift = (s.ch c).link.shift ∧ ((s.acted c id m).ch c).link.sent = (s.ch c).link.sent ∧
      ((s.acted c id m).ch c).link.master = (s.ch c).link.master ∧ ((s.acted c id m).ch c).dsp = (s.ch c).dsp ∧
      ∀ f, (s.acted c id m).cg c f = s.cg c f := by
  simp [State.acted]

theorem State.shiftBlock_acted (s : State) (c : Ch) (id : Nat) (m : LinkMsg) (typ : Nat) (off busy : Bool) :
    (s.acted c id m).shiftBlock c typ off busy = s.shiftBlock c typ off busy := by
  have hvnp : ((s.acted c id m).ch c).link.vnp = (s.ch c).link.vnp := by simp [State.acted]
  have hadv : ((s.acted c id m).ch c).link.adv = (s.ch c).link.adv := by simp [State.acted]
  unfold State.shiftBlock
  dsimp only
  rw [hvnp, hadv]
  rfl

/-- The first of the conditions of R97 that fails, for a REQ heard as it arrives. -/
def State.reqBlock (s : State) (c : Ch) (m : LinkMsg) : Nat :=
  s.shiftBlock c m.target (!s.cb c .LINK_CTL_SHIFT_EN)
    (decide ((s.ch c).link.st = .shift) || decide ((s.ch c).sub ≠ .up) || (s.ch c).lpi.sleep.isSome)

theorem State.reqBlock_acted (s : State) (c : Ch) (id : Nat) (m : LinkMsg) :
    (s.acted c id m).reqBlock c m = s.reqBlock c m := by
  obtain ⟨hlpi, -, -, hst, -⟩ := s.acted_frame c id m
  have hsub : ((s.acted c id m).ch c).sub = (s.ch c).sub := by simp [State.acted]
  unfold State.reqBlock
  rw [State.shiftBlock_acted, hst, hsub, hlpi]
  rfl

theorem State.reqBlock_lt (s : State) (c : Ch) (m : LinkMsg) : s.reqBlock c m < 16 := by
  unfold State.reqBlock State.shiftBlock
  dsimp only
  split_ifs <;> omega

theorem State.takeReq_eq (s : State) (c : Ch) (m : LinkMsg) : s.takeReq c m =
    if s.reqBlock c m ≠ 0 then (s.cs c .LINK_SHIFTSTAT_REASON (s.reqBlock c m)).nakShift c m (s.reqBlock c m)
    else ((if (s.ch c).dsp.stbyValid && decide (s.cg c .DSP_BANK_STBY_TYPE = m.target) then s
      else (s.stbyType c m.target).rebase c).beginShift c false m.target m.tid true).ackIfDue c := rfl

/-- A NAK is sent with its reason recorded, and the shift stays as it was. -/
theorem State.nakShift_frame (s : State) (c : Ch) (m : LinkMsg) (k : Nat) (hk : k < 16) :
    ((s.cs c .LINK_SHIFTSTAT_REASON k).nakShift c m k).cg c .LINK_SHIFTSTAT_REASON = k ∧
      (((s.cs c .LINK_SHIFTSTAT_REASON k).nakShift c m k).ch c).link.shift = (s.ch c).link.shift ∧
      (((s.cs c .LINK_SHIFTSTAT_REASON k).nakShift c m k).ch c).link.sent =
        (s.ch c).link.sent ++ [LinkMsg.build 0x12 m.tid m.target m.active k 0] := by
  have hw : (CFld.info .LINK_SHIFTSTAT_REASON).wid = 4 := rfl
  refine ⟨?_, by simp [State.nakShift, State.sayOnce], by simp [State.nakShift, State.sayOnce]⟩
  simp only [State.nakShift, State.sayOnce, State.cg_updLink, State.cg_cs, and_self, if_true, hw]
  omega

/-- A cancelled shift is over, with the link up (R102). -/
theorem State.shiftCancelled_frame (s : State) (c : Ch) (reason : Nat) :
    ((s.shiftCancelled c reason).ch c).link.st = .up ∧ ((s.shiftCancelled c reason).ch c).link.shift = none ∧
      ((s.shiftCancelled c reason).ch c).link.msg = none ∧
      ((s.shiftCancelled c reason).ch c).link.sent = (s.ch c).link.sent ∧
      (s.shiftCancelled c reason).cg c .LINK_EVT_SHIFT_FAIL = 1 := by
  have hw : (CFld.info .LINK_EVT_SHIFT_FAIL).wid = 1 := rfl
  refine ⟨?_, ?_, ?_, ?_, ?_⟩ <;> simp [State.shiftCancelled, LinkSt.drop_st, hw]

/-- A message of the running shift carries the transaction's identifier. -/
theorem State.sendShift_frame (s : State) (c : Ch) (id reason f : Nat) (hid : id < 256) : ∃ r : LinkMsg,
    r.is id = true ∧ r.tid = s.cg c .LINK_SHIFTSTAT_TID % 256 ∧ r.f = f % 65536 ∧
      ((s.sendShift c id reason f).ch c).link.msg = some r ∧
      ((s.sendShift c id reason f).ch c).link.sent = (s.ch c).link.sent ++ [r] ∧
      ((s.sendShift c id reason f).ch c).link.shift = (s.ch c).link.shift ∧
      (s.sendShift c id reason f).regs = s.regs := by
  unfold State.sendShift
  dsimp only
  generalize hr : LinkMsg.build id _ _ _ _ _ = r
  refine ⟨r, hr ▸ LinkMsg.is_build _ _ _ _ _ _ hid, hr ▸ LinkMsg.tid_build .., hr ▸ LinkMsg.f_build .., ?_, ?_, ?_, rfl⟩
  all_goals simp [State.say, State.sayOnce]

/-- The commit point: a message with the frame agreed goes out as the shift commits (R100 step 3). -/
theorem State.commit_frame (hs : (s.ch c).link.shift = some h) (id f : Nat) (hid : id < 256) (hf : f < 65536) :
    let t := (((s.cs c .LINK_SHIFTSTAT_F f).cs c .LINK_SHIFTSTAT_PHASE 3).updShift c fun h =>
      { h with committed := true }).sendShift c id 0 f
    ∃ r : LinkMsg, r.is id = true ∧ r.tid = s.cg c .LINK_SHIFTSTAT_TID % 256 ∧ r.f = f ∧ (t.ch c).link.msg = some r ∧
      (t.ch c).link.shift = some { h with committed := true } ∧ t.cg c .LINK_SHIFTSTAT_F = f ∧
      t.cg c .LINK_SHIFTSTAT_PHASE = 3 := by
  have hw : (CFld.info .LINK_SHIFTSTAT_F).wid = 16 := rfl
  have hw' : (CFld.info .LINK_SHIFTSTAT_PHASE).wid = 3 := rfl
  intro t
  obtain ⟨r, his, htid, hrf, hmsg, -, hshift, hregs⟩ := State.sendShift_frame
    (((s.cs c .LINK_SHIFTSTAT_F f).cs c .LINK_SHIFTSTAT_PHASE 3).updShift c fun h => { h with committed := true })
    c id 0 f hid
  refine ⟨r, his, ?_, by omega, hmsg, ?_, ?_, ?_⟩
  · rw [htid]
    simp [State.updShift]
  · rw [hshift]
    simp [State.updShift, hs]
  · rw [State.cg_of_regs hregs]
    simp only [State.updShift, State.cg_updLink, State.cg_cs, reduceCtorEq, and_false, and_self, if_true, if_false, hw]
    omega
  · rw [State.cg_of_regs hregs]
    simp [State.updShift, hw']

/-- The master's SET (R100 step 3, R101). -/
theorem State.sendSet_frame (hs : (s.ch c).link.shift = some h) : ∃ r : LinkMsg, r.is 0x13 = true ∧
    r.tid = s.cg c .LINK_SHIFTSTAT_TID % 256 ∧ ((s.sendSet c).ch c).link.msg = some r ∧
    ((s.sendSet c).ch c).link.shift = some { h with committed := true } ∧ (s.sendSet c).cg c .LINK_SHIFTSTAT_F = r.f ∧
    (s.sendSet c).cg c .LINK_SHIFTSTAT_PHASE = 3 := by
  obtain ⟨r, his, htid, hrf, hmsg, hshift, hf, hphase⟩ := State.commit_frame hs 0x13
    ((s.txFr c + max (s.cg c .LINK_SHIFTLEAD_LEAD) (leadMin (s.cg c .PCS_CTL_TYPE))) % 65536) (by decide)
    (Nat.mod_lt _ (by decide))
  exact ⟨r, his, htid, hmsg, hshift, hf.trans hrf.symm, hphase⟩

/-! ### A request (R97 to R100, R106) -/

section
variable (hl : s.oamLive c = true) (hh : s.heard c 0x10 m = false)
include hl hh

theorem exec_shiftReqReceive_idle (hs : (s.ch c).link.shift = none) :
    exec (.shiftReqReceive c m) s = .next ((s.acted c 0x10 m).takeReq c m) := by
  change execShiftReqReceive c m s = _
  rw [execShiftReqReceive, if_neg (by rw [hl, hh]; decide)]
  dsimp only
  rw [(s.acted_shift c 0x10 m).1, hs]
  rfl

theorem exec_shiftReqReceive_busy (hs : (s.ch c).link.shift = some h) :
    exec (.shiftReqReceive c m) s = .next (
      if h.init = true ∧ s.cg c .LINK_SHIFTSTAT_PHASE = 1 then
        if (s.ch c).link.master = true then s.acted c 0x10 m
        else ((((s.acted c 0x10 m).cs c .LINK_SHIFTSTAT_CONTEND 1).cs c .LINK_SHIFTSTAT_PHASE 0).updLink c fun l =>
          { l with st := .up, shift := none, msg := none }).takeReq c m
      else ((s.acted c 0x10 m).cs c .LINK_SHIFTSTAT_REASON 4).nakShift c m 4) := by
  obtain ⟨hshift, -, hmaster, -, hcg⟩ := s.acted_shift c 0x10 m
  change execShiftReqReceive c m s = _
  rw [execShiftReqReceive, if_neg (by rw [hl, hh]; decide)]
  dsimp only
  rw [hshift, hs]
  dsimp only
  rw [hmaster, hcg]
  simp only [Bool.and_eq_true, decide_eq_true_eq]
  split
  · split <;> rfl
  · rfl

/-- A REQ that no transaction meets is refused with its code, or answered by a shift. -/
theorem exec_shiftReqReceive_judged (hs : (s.ch c).link.shift = none) :
    (s.reqBlock c m ≠ 0 → ∃ t, exec (.shiftReqReceive c m) s = .next t ∧
      t.cg c .LINK_SHIFTSTAT_REASON = s.reqBlock c m ∧ (t.ch c).link.shift = none ∧
      (t.ch c).link.sent = (s.ch c).link.sent ++ [LinkMsg.build 0x12 m.tid m.target m.active (s.reqBlock c m) 0]) ∧
    (s.reqBlock c m = 0 → (s.ch c).dsp.stbyValid = true → s.cg c .DSP_BANK_STBY_TYPE = m.target →
      exec (.shiftReqReceive c m) s =
        .next (((s.acted c 0x10 m).beginShift c false m.target m.tid true).ackIfDue c)) ∧
    (s.reqBlock c m = 0 → (s.ch c).dsp.stbyValid = false ∨ s.cg c .DSP_BANK_STBY_TYPE ≠ m.target →
      exec (.shiftReqReceive c m) s =
        .next (((((s.acted c 0x10 m).stbyType c m.target).rebase c).beginShift c false m.target m.tid true).ackIfDue c)) := by
  obtain ⟨hshift, hsent, -, hdsp, hcg⟩ := s.acted_shift c 0x10 m
  rw [exec_shiftReqReceive_idle hl hh hs, State.takeReq_eq, State.reqBlock_acted, hdsp, hcg]
  refine ⟨fun hk => ?_, fun hk hv ht => ?_, fun hk hno => ?_⟩
  · obtain ⟨h1, h2, h3⟩ := (s.acted c 0x10 m).nakShift_frame c m (s.reqBlock c m) (s.reqBlock_lt c m)
    rw [if_pos hk]
    exact ⟨_, rfl, h1, by rw [h2, hshift, hs], by rw [h3, hsent]⟩
  · rw [if_neg (not_not.mpr hk), if_pos (by simp [hv, ht])]
  · rw [if_neg (not_not.mpr hk), if_neg (by rcases hno with h | h <;> simp [h])]

end

/-! ### The answers to this end's messages (R99, R100, R102) -/

section
variable (hclk : s.clocked c .link = true) (hs : (s.ch c).link.shift = some h)
include hclk hs

section
variable (htid : s.ourTid c m = true)
include htid

section
variable (hi : h.init = true) (hp : s.cg c .LINK_SHIFTSTAT_PHASE = 1)
include hi hp

theorem exec_shiftAckReceive_own (hh : s.heard c 0x11 m = false) :
    exec (.shiftAckReceive c m) s = .next (if (s.ch c).link.master then
      ((s.acted c 0x11 m).cs c .LINK_SHIFTSTAT_PHASE 2).sendSet c
      else (s.acted c 0x11 m).cs c .LINK_SHIFTSTAT_PHASE 2) := by
  have hmaster : (((s.acted c 0x11 m).cs c .LINK_SHIFTSTAT_PHASE 2).ch c).link.master = (s.ch c).link.master :=
    (s.acted_shift c 0x11 m).2.2.1
  change execShiftAckReceive c m s = _
  rw [execShiftAckReceive, State.shiftRun_clocked hclk hs]
  dsimp only
  rw [if_pos (by rw [hi, hp, htid, hh]; decide), hmaster]
  rfl

theorem exec_shiftAckReceive_master (hh : s.heard c 0x11 m = false) (hm : (s.ch c).link.master = true) :
    ∃ t f, exec (.shiftAckReceive c m) s = .next t ∧
      (t.ch c).link.shift = some { h with committed := true } ∧ t.cg c .LINK_SHIFTSTAT_PHASE = 3 ∧
      t.cg c .LINK_SHIFTSTAT_F = LinkMsg.f f ∧ (t.ch c).link.msg = some f ∧ f.is 0x13 = true ∧ f.tid = m.tid := by
  obtain ⟨hshift, -, -, -, hcg⟩ := s.acted_shift c 0x11 m
  obtain ⟨r, his, hrt, hmsg, hsh, hf, hph⟩ :=
    State.sendSet_frame (s := (s.acted c 0x11 m).cs c .LINK_SHIFTSTAT_PHASE 2) (hshift.trans hs)
  have htid' : s.cg c .LINK_SHIFTSTAT_TID = m.tid := of_decide_eq_true htid
  rw [exec_shiftAckReceive_own hclk hs htid hi hp hh, if_pos hm]
  refine ⟨_, r, rfl, hsh, hph, hf, hmsg, his, ?_⟩
  rw [hrt, State.cg_cs, if_neg (by nofun), hcg, htid', LinkMsg.tid_mod]

theorem exec_shiftNakReceive_own (hh : s.heard c 0x12 m = false) :
    exec (.shiftNakReceive c m) s = .next ((s.acted c 0x12 m).shiftCancelled c m.reason) := by
  change execShiftNakReceive c m s = _
  rw [execShiftNakReceive, State.shiftRun_clocked hclk hs]
  dsimp only
  rw [if_pos (by rw [hi, hp, htid, hh]; decide)]
  rfl

end

theorem exec_shiftSetReceive_slave (hcom : h.committed = false) (hdue : h.ackDue = false)
    (hm : (s.ch c).link.master = false) (hh : s.heard c 0x13 m = false) : ∃ t r, exec (.shiftSetReceive c m) s = .next t ∧
      (t.ch c).link.shift = some { h with committed := true } ∧ t.cg c .LINK_SHIFTSTAT_F = m.f ∧
      t.cg c .LINK_SHIFTSTAT_PHASE = 3 ∧ (t.ch c).link.msg = some r ∧ r.is 0x14 = true ∧ r.f = m.f := by
  have hf : m.f < 65536 := by
    have h6 : m.oct 6 < 256 := Nat.mod_lt _ (by decide)
    have h7 : m.oct 7 < 256 := Nat.mod_lt _ (by decide)
    unfold LinkMsg.f
    omega
  obtain ⟨r, his, -, hrf, hmsg, hsh, hF, hph⟩ :=
    State.commit_frame ((s.acted_shift c 0x13 m).1.trans hs) 0x14 m.f (by decide) hf
  refine ⟨_, r, ?_, hsh, hF, hph, hmsg, his, hrf⟩
  change execShiftSetReceive c m s = _
  rw [execShiftSetReceive, State.shiftRun_clocked hclk hs]
  dsimp only
  rw [if_pos (by rw [hcom, hdue, hm, htid, hh]; decide)]
  rfl

theorem exec_shiftCancelReceive_own (hcom : h.committed = false) (hh : s.heard c 0x16 m = false) :
    exec (.shiftCancelReceive c m) s = .next ((s.acted c 0x16 m).shiftCancelled c m.reason) := by
  change execShiftCancelReceive c m s = _
  rw [execShiftCancelReceive, State.shiftRun_clocked hclk hs]
  dsimp only
  rw [if_pos (by rw [hcom, htid, hh]; decide)]
  rfl

theorem exec_shiftSetackReceive_master (hcom : h.committed = true) (hm : (s.ch c).link.master = true)
    (hh : s.heard c 0x14 m = false) : exec (.shiftSetackReceive c m) s = .next (s.acted c 0x14 m) := by
  change execShiftSetackReceive c m s = _
  rw [execShiftSetackReceive, State.shiftRun_clocked hclk hs]
  dsimp only
  rw [if_pos (by rw [hcom, hm, htid, hh]; decide)]
  rfl

theorem exec_shiftDoneReceive_own (hcom : h.committed = true) (hh : s.heard c 0x15 m = false) :
    exec (.shiftDoneReceive c m) s =
      .next (((s.acted c 0x15 m).updShift c fun h => { h with gotDone := true }).shiftFinish c) := by
  change execShiftDoneReceive c m s = _
  rw [execShiftDoneReceive, State.shiftRun_clocked hclk hs]
  dsimp only
  rw [if_pos (by rw [hcom, htid, hh]; decide)]
  rfl

end

theorem exec_shiftRspTimeout_waiting (hcom : h.committed = false) (hdue : h.ackDue = false) :
    ∃ t r, exec (.shiftRspTimeout c) s = .next t ∧ (t.ch c).link.st = .up ∧ (t.ch c).link.shift = none ∧
      t.cg c .LINK_EVT_SHIFT_FAIL = 1 ∧ (t.ch c).link.msg = none ∧ (t.ch c).link.sent = (s.ch c).link.sent ++ [r] ∧
      LinkMsg.is r 0x16 = true := by
  obtain ⟨r, his, -, -, -, hsent, -⟩ := (s.fresh 4).2.sendShift_frame c 0x16 (s.fresh 4).1 0 (by decide)
  obtain ⟨hst, hsh, hmsg, hsent', hev⟩ :=
    ((s.fresh 4).2.sendShift c 0x16 (s.fresh 4).1 0).shiftCancelled_frame c (s.fresh 4).1
  refine ⟨_, r, ?_, hst, hsh, hev, hmsg, hsent'.trans hsent, his⟩
  change execShiftRspTimeout c s = _
  rw [execShiftRspTimeout, State.shiftRun_clocked hclk hs]
  dsimp only
  rw [if_neg (by rw [hcom, hdue]; decide)]
  rfl

end

/-! ### The switch and the end of a shift (R103 to R105) -/

/-- DONE both ways ends the shift, DONE one way does not. -/
theorem State.shiftFinish_gotDone (hs : (s.ch c).link.shift = some h) :
    let t := (s.updShift c fun h => { h with gotDone := true }).shiftFinish c
    (h.sentDone = true → (t.ch c).link.st = .up ∧ (t.ch c).link.shift = none ∧ t.cg c .LINK_EVT_SHIFT_DONE = 1 ∧
      t.cg c .LINK_SHIFTSTAT_PHASE = 0) ∧
    (h.sentDone = false → (t.ch c).link.shift = some { h with gotDone := true } ∧ t.regs = s.regs) := by
  have hw : (CFld.info .LINK_EVT_SHIFT_DONE).wid = 1 := rfl
  have hx : ((s.updShift c fun h => { h with gotDone := true }).ch c).link.shift = some { h with gotDone := true } := by
    simp [State.updShift, hs]
  unfold State.shiftFinish
  rw [hx]
  refine ⟨fun hd => ?_, fun hd => ?_⟩
  · simp [hd, LinkSt.drop_st, hw]
  · dsimp only
    rw [if_neg (by simp [hd])]
    exact ⟨hx, rfl⟩

theorem State.rx_toData_winN (s : State) (c : Ch) (typ fr : Nat) :
    ((s.toData c typ fr).ch c).rx.winN = (s.ch c).rx.winN := by
  rw [State.toData, State.ch_updLine, if_pos rfl, State.shApply_eq, State.applyTrims, State.restoreD, State.ch_updGraft,
    if_pos rfl, State.ch_foldl_putShadow, State.updCh_same, State.ch_cs]

theorem exec_shiftSwitch_committed (hclk : s.clocked c .link = true) (hs : (s.ch c).link.shift = some h)
    (hcom : h.committed = true) (hsw : h.switched = false) : ∃ t, exec (.shiftSwitch c) s = .next t ∧
      (t.ch c).link.shift = some { h with switched := true } ∧ (t.ch c).link.typ = h.target ∧
      (t.ch c).rx.swapReq = true ∧ (t.ch c).rx.mseSkip = decide ((s.ch c).rx.winN ≠ 0) ∧ t.cg c .PCS_STAT_BLOCK_LOCK = 0 ∧
      t.cg c .PCS_STAT_ALIGNED = 0 ∧ t.cg c .LINK_SHIFTSTAT_PHASE = 4 ∧
      ((s.ch c).shadow = [] → h.target < 16 → t.cg c .PCS_CTL_TYPE = h.target) := by
  have hw : (CFld.info .LINK_SHIFTSTAT_PHASE).wid = 3 := rfl
  have hlink := s.link_toData c h.target (s.cg c .LINK_SHIFTSTAT_F)
  have hwin := s.rx_toData_winN c h.target (s.cg c .LINK_SHIFTSTAT_F)
  have htype := fun hno ht => State.cg_toData_type (s := s) (c := c) (fr := s.cg c .LINK_SHIFTSTAT_F) (typ := h.target) ht hno
  have hexec : exec (.shiftSwitch c) s = execShiftSwitch c s := rfl
  rw [hexec, execShiftSwitch, State.shiftRun_clocked hclk hs]
  dsimp only
  rw [if_pos (by rw [hcom, hsw]; decide)]
  generalize s.toData c h.target (s.cg c .LINK_SHIFTSTAT_F) = x at hlink hwin htype
  refine ⟨_, rfl, ?_, ?_, ?_, ?_, ?_, ?_, ?_, fun h0 ht => ?_⟩
  · simp [State.updShift, hlink, hs]
  · simp [State.updShift]
  · simp [State.updShift]
  · simp [State.updShift, hwin]
  · simp [State.updShift]
  · simp [State.updShift]
  · simp [State.updShift, hw]
  · simp [State.updShift, htype (by simp [h0]) ht]

theorem exec_shiftResumeTimeout_eq (hclk : s.clocked c .link = true) (hs : (s.ch c).link.shift = some h) :
    exec (.shiftResumeTimeout c) s = .next (
      if h.switched = true then (s.cs c .LINK_EVT_SHIFT_FAIL 1).critLoss c 0x40
      else if h.committed = true ∧ (s.ch c).link.master = false then (s.cs c .LINK_EVT_SHIFT_FAIL 1).critLoss c 0x41
      else s) := by
  change execShiftResumeTimeout c s = _
  rw [execShiftResumeTimeout, State.shiftRun_clocked hclk hs]
  simp only [Bool.and_eq_true, Bool.not_eq_true']
  split
  · rfl
  · split <;> rfl

end

/-- Settles O48: each message is one equation of its row, from the frame lemmas of what it sends and records. -/
theorem hitlessShift : Obligations.HitlessShift := by
  unfold Obligations.HitlessShift
  intro s c m l
  refine ⟨fun hl hh => ⟨?_, fun h hs => ⟨fun hi hp hm => ?_, fun hi hp hm => ?_, fun hno => ?_⟩⟩,
    fun h hclk hs => ⟨fun htid hi hp => ⟨fun hh hm => ?_, fun hh hm => ?_, fun hh => ?_⟩,
      fun htid hcom => ⟨fun hdue hm hh => ?_, fun hh => ?_⟩, fun hcom hdue => ?_,
      fun htid hcom => ⟨fun hm hh => ?_, fun hh hd => ?_, fun hh hd => ?_⟩, fun hcom hsw => ?_, fun hsw => ?_,
      fun hsw hcom hm => ?_⟩⟩
  · intro k hs
    exact exec_shiftReqReceive_judged hl hh hs
  · rw [exec_shiftReqReceive_busy hl hh hs, if_pos ⟨hi, hp⟩, if_pos hm]
  · rw [exec_shiftReqReceive_busy hl hh hs, if_pos ⟨hi, hp⟩, if_neg (by rw [hm]; decide)]
  · obtain ⟨hshift, hsent, -⟩ := s.acted_shift c 0x10 m
    obtain ⟨h1, h2, h3⟩ := (s.acted c 0x10 m).nakShift_frame c m 4 (by decide)
    rw [exec_shiftReqReceive_busy hl hh hs, if_neg (by rcases hno with h | h <;> simp [h])]
    exact ⟨_, rfl, h1, by rw [h2, hshift, hs], by rw [h3, hsent]⟩
  · exact exec_shiftAckReceive_master hclk hs htid hi hp hh hm
  · rw [exec_shiftAckReceive_own hclk hs htid hi hp hh, if_neg (by rw [hm]; decide)]
  · obtain ⟨h1, h2, h3, -, h4⟩ := (s.acted c 0x12 m).shiftCancelled_frame c m.reason
    exact ⟨_, exec_shiftNakReceive_own hclk hs htid hi hp hh, h1, h2, h3, h4⟩
  · exact exec_shiftSetReceive_slave hclk hs htid hcom hdue hm hh
  · obtain ⟨h1, h2, -, -, h4⟩ := (s.acted c 0x16 m).shiftCancelled_frame c m.reason
    exact ⟨_, exec_shiftCancelReceive_own hclk hs htid hcom hh, h1, h2, h4⟩
  · exact exec_shiftRspTimeout_waiting hclk hs hcom hdue
  · exact exec_shiftSetackReceive_master hclk hs htid hcom hm hh
  · exact ⟨_, exec_shiftDoneReceive_own hclk hs htid hcom hh,
      (State.shiftFinish_gotDone ((s.acted_shift c 0x15 m).1.trans hs)).1 hd⟩
  · exact ⟨_, exec_shiftDoneReceive_own hclk hs htid hcom hh,
      (State.shiftFinish_gotDone ((s.acted_shift c 0x15 m).1.trans hs)).2 hd⟩
  · exact exec_shiftSwitch_committed hclk hs hcom hsw
  · rw [exec_shiftResumeTimeout_eq hclk hs, if_pos hsw]
  · rw [exec_shiftResumeTimeout_eq hclk hs, if_neg (by rw [hsw]; decide), if_pos ⟨hcom, hm⟩]

end Sys2Proof.Machine
end

section
namespace Sys2Proof.Machine

section
variable {s : State} {c : Ch} {src : Src}

/-! ### Registers of the receive DSP (R82) -/

section
variable (hseg : isSeg c = false)
include hseg

theorem State.writeReg_dspCmd (v : Nat) (p : Bool) : s.writeReg c .dsp 0x40 v p = s.dspCmd c v := by
  simp [State.writeReg, hseg]

theorem State.writeReg_tapdata (v : Nat) (p : Bool) : s.writeReg c .dsp 0x48 v p = s.tapWrite c v := by
  simp [State.writeReg, hseg]

theorem State.writeReg_dspBank (v : Nat) (p : Bool) :
    s.writeReg c .dsp 0x4C v p = if isTrunk c then s.stbyType c (bits v 7 4) else s := by
  simp [State.writeReg, hseg]

theorem State.writeReg_dspStat (v : Nat) (p : Bool) : s.writeReg c .dsp 0x34 v p =
    if v.testBit 0 then (s.putReg c .dsp 0x34 v).clearDiverged c else s.putReg c .dsp 0x34 v := by
  simp [State.writeReg, hseg]

theorem State.writeReg_dspWin (w : Fin 8) (v : Nat) (p : Bool) :
    s.writeReg c .dsp (0x60 + 4 * w.val) v p = s.winWrite c w.val v := by
  fin_cases w <;> simp [State.writeReg, hseg]

section
variable (ha : s.arrives src c .dsp) (hp : (s.ch c).posted = [])
include ha hp

/-- A write of DSP_CMD is its commands. -/
theorem State.rowW_dspCmd (v : Nat) : s.rowW src c .dsp 0x40 v = .next ((s.dspCmd c v).reply 0) := by
  rw [State.rowW_outside s src c .dsp 0x40 v (by decide) (by decide) ha, State.landAll_nil s c hp,
    State.writeReg_dspCmd hseg]

theorem exec_capt : exec (.capt src c) s = .next ((s.capt c).reply 0) := State.rowW_dspCmd hseg ha hp 1

theorem exec_snap : exec (.snap src c) s = .next ((s.snapReq c).reply 0) := State.rowW_dspCmd hseg ha hp 2

theorem exec_clr : exec (.clr src c) s = .next ((s.updRx c fun r => { r with clrReq := true }).reply 0) :=
  State.rowW_dspCmd hseg ha hp 4

theorem exec_rebase : exec (.rebase src c) s = .next ((s.rebase c).reply 0) := State.rowW_dspCmd hseg ha hp 8

theorem exec_probeRst : exec (.probeRst src c) s = .next
    ((s.updRx c fun r => { r with est := [], swept := [], lastSwept := [], pos := denseLen c, dwell := 0 }).reply 0) :=
  State.rowW_dspCmd hseg ha hp 16

theorem exec_dspTapdataWrite (v : Word) :
    exec (.dspTapdataWrite src c v) s = .next ((s.tapWrite c v.toNat).reply 0) := by
  change s.rowW src c .dsp 0x48 v.toNat = _
  rw [State.rowW_outside s src c .dsp 0x48 _ (by decide) (by decide) ha, State.landAll_nil s c hp,
    State.writeReg_tapdata hseg]

theorem exec_dspWinWrite (w : Fin 8) (v : Word) :
    exec (.dspWinWrite src c w v) s = .next ((s.winWrite c w.val v.toNat).reply 0) := by
  have hplain : ∀ w : Fin 8, ∀ f ∈ CFld.at .dsp (0x60 + 4 * w.val), f.info.acc ≠ .rwk ∧ f.info.crc = false := by decide
  change s.rowW src c .dsp (0x60 + 4 * w.val) v.toNat = _
  rw [State.rowW_outside s src c .dsp _ _ (hplain w) (by nofun) ha, State.landAll_nil s c hp,
    State.writeReg_dspWin hseg]

end
end

/-! ### REBASE (R77) -/

/-- The trunk types are those with a symbol rate. -/
theorem rateOf_eq_zero {typ : Nat} : rateOf typ = 0 ↔ typ < 2 ∨ 7 < typ := by
  constructor
  · intro h
    by_contra hno
    have : 2 ≤ typ ∧ typ ≤ 7 := by omega
    obtain ⟨h2, h7⟩ := this
    interval_cases typ <;> simp [rateOf] at h
  · intro h
    unfold rateOf
    split <;> omega

theorem State.rebase_taken (ht : isTrunk c = true) (h2 : 2 ≤ s.cg c .DSP_BANK_STBY_TYPE)
    (h7 : s.cg c .DSP_BANK_STBY_TYPE ≤ 7) (hne : s.cg c .DSP_BANK_STBY_TYPE ≠ (s.ch c).dsp.actType) :
    s.rebase c = s.updRx c fun r => { r with rebasing := true } := by
  have hr : rateOf (s.cg c .DSP_BANK_STBY_TYPE) ≠ 0 := fun h => by have := rateOf_eq_zero.mp h; omega
  unfold State.rebase
  rw [if_pos (by simp [ht, hr, hne])]

theorem State.rebase_rejected (h : isTrunk c = false ∨ s.cg c .DSP_BANK_STBY_TYPE < 2 ∨ 7 < s.cg c .DSP_BANK_STBY_TYPE ∨
    s.cg c .DSP_BANK_STBY_TYPE = (s.ch c).dsp.actType) : s.rebase c = s.cs c .DSP_STAT_CMD_REJ 1 := by
  unfold State.rebase
  rw [if_neg]
  rcases h with h | h | h | h
  · simp [h]
  · simp [rateOf_eq_zero.mpr (.inl h)]
  · simp [rateOf_eq_zero.mpr (.inr h)]
  · simp [h]

/-! ### Window shadows (R61) -/

theorem lookup_filter_of_ne {α : Type} {f g : CFld} (h : g ≠ f) (l : List (CFld × α)) :
    (l.filter fun p => p.1 ≠ f).lookup g = l.lookup g := by
  have hg : (g == f) = false := by simpa using h
  induction l with
  | nil => rfl
  | cons p l ih =>
    by_cases hp : p.1 = f
    · rw [List.filter_cons_of_neg (by simpa using hp), ih, List.lookup, hp, hg]
    · rw [List.filter_cons_of_pos (by simpa using hp), List.lookup, List.lookup, ih]

theorem State.shadow_setSh (s : State) (c : Ch) (f : CFld) (v : Nat) :
    ((s.setSh c f v).ch c).shadow.lookup f = some (v % 2 ^ f.info.wid) ∧
      (∀ g, g ≠ f → ((s.setSh c f v).ch c).shadow.lookup g = (s.ch c).shadow.lookup g) ∧
      ((s.setSh c f v).ch c).dsp = (s.ch c).dsp := by
  refine ⟨by simp [State.setSh], fun g hg => ?_, by simp [State.setSh]⟩
  have hb : (g == f) = false := by simpa using hg
  simp only [State.setSh, State.ch_updCh, if_true, List.lookup, hb]
  exact lookup_filter_of_ne hg _

/-- A trunk or branch channel implements its DSP fields, but for those a branch lacks. -/
theorem implFld_dsp (hseg : isSeg c = false) {f : CFld} (hf : f.blk = .dsp)
    (hb : (∀ {w : Nat}, w < winCount c → w < 4) → branchLacks f = false) : implFld c f = true := by
  unfold implFld
  cases hc : classOf c with
  | trunk => simp [hf]
  | branch =>
    have hw : winCount c = 4 := by simp [winCount, isTrunk, hc]
    simp [hf, hb fun h => hw ▸ h]
  | segment => simp [isSeg, hc] at hseg

/-- A window write outside automatic mode goes to the two shadows of the placement. -/
theorem State.winWrite_shadow (hseg : isSeg c = false) {w : Fin 8} (hw : w.val < winCount c)
    (hauto : s.cb c .DSP_WINCTL_AUTO = false) (v : Nat) :
    s.winWrite c w.val v = (s.setSh c (.DSP_WIN_EN w.val) (bits v 31 31)).setSh c (.DSP_WIN_START w.val) (v % 8192) := by
  have h1 : implFld c (.DSP_WIN_EN w.val) = true := implFld_dsp hseg rfl fun hb => by simpa [branchLacks] using hb hw
  have h2 : implFld c (.DSP_WIN_START w.val) = true := implFld_dsp hseg rfl fun hb => by simpa [branchLacks] using hb hw
  have ha1 : (CFld.info (.DSP_WIN_EN w.val)).acc = .sh := rfl
  have ha2 : (CFld.info (.DSP_WIN_START w.val)).acc = .sh := rfl
  have ho1 : (CFld.info (.DSP_WIN_EN w.val)).of v = bits v 31 31 := rfl
  have ho2 : (CFld.info (.DSP_WIN_START w.val)).of v = v % 8192 := congrArg (· % 8192) (Nat.div_one v)
  have hfld : ∀ w : Fin 8, CFld.at .dsp (0x60 + 4 * w.val) = [.DSP_WIN_EN w.val, .DSP_WIN_START w.val] := by decide
  unfold State.winWrite
  rw [if_neg (by omega), if_neg (by rw [hauto]; decide), State.putReg, hfld]
  simp only [List.foldl_cons, List.foldl_nil, State.putC, h1, h2, ha1, ha2, ho1, ho2, Bool.not_true, Bool.false_eq_true,
    if_false]

/-! ### Coefficient access (R75) -/

theorem State.tapInc_frame (s : State) (c : Ch) : (s.tapInc c).chans = s.chans ∧ (s.tapInc c).cg c .DSP_TAPSEL_INDEX =
    if s.cb c .DSP_TAPSEL_AUTOINC then (s.cg c .DSP_TAPSEL_INDEX + 1) % 1024 else s.cg c .DSP_TAPSEL_INDEX := by
  have hw : (CFld.info .DSP_TAPSEL_INDEX).wid = 10 := rfl
  unfold State.tapInc
  split
  · exact ⟨rfl, by simp [State.cinc, hw]⟩
  · exact ⟨rfl, rfl⟩

theorem tgtAt_tapdata (c : Ch) : tgtAt (chanAddr c .dsp 0x48) = .chan c .dsp .plain 0x48 := by
  have hc := c.isLt
  have ha : chanAddr c .dsp 0x48 = 0x01020048 + c.val * 0x100000 := by
    change 0x01000000 + c.val * 0x100000 + 2 * 0x10000 + 0x48 = _
    omega
  have hch : chOf c.val = c := Fin.ofNat_val_eq_self c
  have hdiv : (0x01020048 + c.val * 0x100000 - 0x01000000) / 0x100000 = c.val := by omega
  have hmod : (0x01020048 + c.val * 0x100000) % 0x100000 = 0x20048 := by omega
  rw [ha, tgtAt, if_neg (by omega), if_pos (by simp; omega), hdiv, hmod, hch]
  rfl

/-- A read of TAPDATA returns the selected coefficient and advances the index. -/
theorem State.readC_tapdata (hseg : isSeg c = false) :
    s.readC c .dsp .plain 0x48 = (s.tapRead c % m32, s.tapInc c) := by
  have hfld : CFld.at .dsp 0x48 = [.DSP_TAPDATA_DATA] := by decide
  have hval : s.cfetch c .DSP_TAPDATA_DATA = (s.tapRead c % m32, s) := by
    change (if implFld c .DSP_TAPDATA_DATA then s.tapRead c % m32 else 0, s) = _
    rw [if_pos (implFld_dsp hseg rfl fun _ => rfl)]
  have heff : s.readEffC c .dsp 0x48 = s.tapInc c := by
    have hrc : ([CFld.DSP_TAPDATA_DATA].filter fun f => f.info.acc = .rc) = [] := rfl
    rw [State.readEffC, hfld, hrc]
    simp [hseg]
  have hreg : s.regC c .dsp 0x48 = (s.tapRead c % m32, s) := by
    have hw : (CFld.info .DSP_TAPDATA_DATA).wid = 32 := rfl
    have hl : (CFld.info .DSP_TAPDATA_DATA).lsb = 0 := rfl
    rw [State.regC, hfld, List.foldl_cons, List.foldl_nil, hval, hw, hl]
    simp [m32]
  have hnone : s.areaC c .dsp 0x48 = none := rfl
  rw [State.readC, hnone, hreg, ← heff]

theorem exec_dspTapdataRead (hseg : isSeg c = false) (ha : s.arrives src c .dsp) (hp : (s.ch c).posted = []) :
    exec (.dspTapdataRead src c) s = .next ((s.tapInc c).reply (s.tapRead c % m32)) := by
  obtain ⟨hsrc, hup, hok, -⟩ := ha
  have hread : s.busUp false = true := by
    simp only [State.busUp, Bool.and_eq_true, Bool.false_and, Bool.not_false] at hup ⊢
    exact ⟨hup.1, trivial⟩
  have hok' : s.srcOk src (.chan c .dsp .plain 0x48) = true := hok
  have hal : chanAddr c .dsp 0x48 % 4 = 0 := by
    unfold chanAddr
    change (0x01000000 + c.val * 0x100000 + 2 * 0x10000 + 0x48) % 4 = 0
    omega
  have hbus : s.busRead src (chanAddr c .dsp 0x48) = (s.tapInc c).reply (s.tapRead c % m32) := by
    unfold State.busRead
    rw [tgtAt_tapdata]
    simp only [Tgt.win, hread, if_true, State.landAll_nil s c hp, hal, hok', State.fetch, State.readC_tapdata hseg]
    rfl
  change ok (s.anyRead src (chanAddr c .dsp 0x48)) = _
  rw [← hbus]
  cases src with
  | prog => exact absurd rfl hsrc
  | sideband => rfl
  | mdio => rfl
  | debug => rfl

/-- A coefficient write: to the standby bank at once, to the active bank only with its engine frozen. -/
theorem State.tapWrite_coef (ha : s.cg c .DSP_TAPSEL_AREA < 4)
    (ht : hasTap c (s.cg c .DSP_TAPSEL_AREA) (s.cg c .DSP_TAPSEL_INDEX) = true)
    (hb : s.cb c .DSP_TAPSEL_BANK = true → isTrunk c = true) (v : Nat) : s.tapWrite c v =
      (if s.cb c .DSP_TAPSEL_BANK = true then s.updStby c fun b => { b with
          taps := tapSet b.taps (tapKey (s.cg c .DSP_TAPSEL_AREA) (s.cg c .DSP_TAPSEL_INDEX)) (sint 16 (v % 65536) * 256) }
        else if (s.ch c).rx.eff.testBit (engineOf (s.cg c .DSP_TAPSEL_AREA) (s.cg c .DSP_TAPSEL_INDEX)).2 = true then
          s.updAct c fun b => { b with
            taps := tapSet b.taps (tapKey (s.cg c .DSP_TAPSEL_AREA) (s.cg c .DSP_TAPSEL_INDEX)) (sint 16 (v % 65536) * 256) }
        else s.cs c .DSP_STAT_TAP_REJ 1).tapInc c := by
  have hno : (s.cb c .DSP_TAPSEL_BANK && !isTrunk c) = false := by
    cases h : s.cb c .DSP_TAPSEL_BANK with
    | false => rfl
    | true => rw [hb h]; rfl
  unfold State.tapWrite
  dsimp only
  rw [if_neg (by rw [hno]; decide), if_neg (by omega), if_neg (by rw [ht]; decide)]

theorem State.updRx_congr {f g : DspRun → DspRun} (h : f (s.ch c).rx = g (s.ch c).rx) : s.updRx c f = s.updRx c g :=
  congrArg (fun y => { s with chans := s.chans.set c.val { s.ch c with rx := y } }) h

/-- A placement word for the active bank, the first since the last boundary, waits for the next one, where EC_W is frozen
and the set it makes is valid. -/
theorem State.tapWrite_place (ha : s.cg c .DSP_TAPSEL_AREA = 4) (hb : s.cb c .DSP_TAPSEL_BANK = false) (v : Nat) :
    (winCount c ≤ s.cg c .DSP_TAPSEL_INDEX ∨ (s.ch c).rx.eff.testBit 1 = false →
      s.tapWrite c v = (s.cs c .DSP_STAT_TAP_REJ 1).tapInc c) ∧
    (s.cg c .DSP_TAPSEL_INDEX < winCount c → (s.ch c).rx.eff.testBit 1 = true → (s.ch c).rx.placeTap = [] →
      s.tapWrite c v = (if Bank.valid c ((s.ch c).dsp.banks[(s.ch c).dsp.active.val].place (s.cg c .DSP_TAPSEL_INDEX)
          (v.testBit 15) (v % 8192)) = true then s.updRx c fun r => { r with placeTap :=
            [((s.ch c).dsp.active, s.cg c .DSP_TAPSEL_INDEX, v.testBit 15, v % 8192)] }
        else s.cs c .DSP_STAT_WIN_REJ 1).tapInc c) := by
  refine ⟨fun h => ?_, fun hi hf hno => ?_⟩
  · simp only [State.tapWrite, hb, ha, Bool.false_and, Bool.false_eq_true, if_true, if_false]
    rw [if_pos (by simpa using h)]
  · simp only [State.tapWrite, hb, ha, Bool.false_and, Bool.false_eq_true, if_true, if_false]
    rw [if_neg (by rw [hf]; simpa using hi)]
    simp only [hno, List.filter_nil, List.foldl_nil, Bool.not_eq_true']
    split
    · next h => rw [if_neg (by rw [h]; decide)]
    · next h =>
      rw [if_pos (by simpa using h)]
      exact congrArg (State.tapInc · c) (State.updRx_congr (by rw [hno]; rfl))

/-! ### The standby type, the end of a divergence, a finished copy, a finished rebase -/

theorem exec_stbyTypeWrite (hseg : isSeg c = false) (ha : s.arrives src c .dsp) (hp : (s.ch c).posted = [])
    (ht : isTrunk c = true) (v : Word) : ∃ t, exec (.stbyTypeWrite src c v) s = .next t ∧
      t.cg c .DSP_BANK_STBY_TYPE = bits v.toNat 7 4 ∧ (t.ch c).dsp = { (s.ch c).dsp with stbyValid := false } := by
  have hw : (CFld.info .DSP_BANK_STBY_TYPE).wid = 4 := rfl
  have hk : ∀ f ∈ CFld.at .dsp 0x4C, f.info.acc ≠ .rwk := by decide
  have hno : ((CFld.at .dsp 0x4C).any fun f => implFld c f && decide (f.info.acc = .rwk)) = false :=
    List.any_eq_false.mpr fun f hf => by simp [hk f hf]
  have hland : s.landReg c .dsp .plain 0x4C v.toNat (chanAddr c .dsp 0x4C) =
      s.cfgPut c .dsp 0x4C fun s => s.writeReg c .dsp 0x4C v.toNat false := by
    simp [State.landReg, State.landC, State.aliasWord, hno]
  have hreg : s.writeReg c .dsp 0x4C v.toNat false = s.stbyType c (bits v.toNat 7 4) := by
    rw [State.writeReg_dspBank hseg, if_pos ht]
  have hbits : bits v.toNat 7 4 < 16 := Nat.mod_lt _ (by decide)
  have hexec : exec (.stbyTypeWrite src c v) s =
      .next ((s.cfgPut c .dsp 0x4C fun s => s.writeReg c .dsp 0x4C v.toNat false).reply 0) := by
    change s.rowW src c .dsp 0x4C v.toNat = _
    rw [State.rowW, State.rowDo_outside s src c .dsp 0x4C v.toNat _ ha, State.landAll_nil s c hp, ← hland]
    rfl
  refine ⟨_, hexec, ?_, ?_⟩
  · rw [State.cg_reply, State.cg_cfgPut s c c .dsp 0x4C _ .DSP_BANK_STBY_TYPE nofun, hreg, State.stbyType, State.cg_updDsp, State.cg_cs, if_pos ⟨rfl, rfl⟩, hw]
    omega
  · rw [State.ch_reply, State.ch_cfgPut, hreg]
    simp [State.stbyType]

theorem exec_divergedClear (hseg : isSeg c = false) (ha : s.arrives src c .dsp) (hp : (s.ch c).posted = []) :
    ∃ t, exec (.divergedClear src c) s = .next t ∧ t.cg c .DSP_STAT_DIVERGED = 0 ∧ t.cg c .DSP_FRZHW_DIV = 0 ∧
      t.chans = s.chans := by
  have hput : ∀ (l : List CFld) (x : State), (∀ f ∈ l, f.info.acc ≠ .sh) →
      (l.foldl (fun s f => s.putC c 1 f) x).chans = x.chans := fun l => by
    induction l with
    | nil => exact fun _ _ => rfl
    | cons f l ih =>
      intro x hl
      refine (ih _ fun g hg => hl g (List.mem_cons_of_mem _ hg)).trans ?_
      have hf := hl f List.mem_cons_self
      dsimp only [State.putC]
      split
      · rfl
      · cases h : f.info.acc <;> first | exact absurd h hf | rfl
  have hexec : exec (.divergedClear src c) s = .next (((s.putReg c .dsp 0x34 1).clearDiverged c).reply 0) := by
    change s.rowW src c .dsp 0x34 1 = _
    rw [State.rowW_outside s src c .dsp 0x34 _ (by decide) (by decide) ha, State.landAll_nil s c hp,
      State.writeReg_dspStat hseg]
    rfl
  refine ⟨_, hexec, ?_, ?_, ?_⟩
  · simp [State.clearDiverged]
  · simp [State.clearDiverged]
  · exact hput _ s (by decide)

theorem exec_captDone_copied (hclk : s.clocked c .dsp = true) {m : Mem} {b : Nat} (hc : (s.ch c).rx.copy = some (m, b)) :
    ∃ t, exec (.captDone c) s = .next t ∧ (t.ch c).rx.copy = none ∧ (t.ch c).rx.buf = m ∧
      t.cg c .DSP_STAT_CAPT_DONE = 1 ∧ t.cg c .DSP_CAPTSTAMP_BLOCK = b % m32 := by
  have hw : (CFld.info .DSP_STAT_CAPT_DONE).wid = 1 := rfl
  have hw' : (CFld.info .DSP_CAPTSTAMP_BLOCK).wid = 32 := rfl
  have hexec : exec (.captDone c) s = execCaptDone c s := rfl
  rw [hexec, execCaptDone, hc]
  dsimp only
  rw [if_pos hclk]
  exact ⟨_, rfl, by simp, by simp, by simp [hw], by simp [hw', m32]⟩

theorem State.resample_snd (s : State) (c : Ch) (b : Bank) (ra rs k : Nat) :
    ∃ n, (s.resample c b ra rs k).2 = { s with free := n } := State.roundFree_snd _ _

/-- A finished rebase changes only the standby bank of the coefficients. -/
theorem State.rebaseDone_frame (s : State) (c : Ch) : ((s.rebaseDone c).ch c).dsp.stbyValid = true ∧
    ((s.rebaseDone c).ch c).rx.rebasing = false ∧ ((s.rebaseDone c).ch c).dsp.act = (s.ch c).dsp.act ∧
    ((s.rebaseDone c).ch c).link = (s.ch c).link := by
  have hfold : ∀ (l : List (Nat × Nat)) (b : Bank) (ra rs : Nat) (a : List (Nat × Int) × State),
      (l.foldl (fun (a : List (Nat × Int) × State) x =>
        let y := a.2.resample c b ra rs x.2
        (tapSet a.1 x.1 y.1, y.2)) a).2.ch c = a.2.ch c := fun l b ra rs => by
    induction l with
    | nil => exact fun _ => rfl
    | cons x l ih =>
      intro a
      obtain ⟨n, hn⟩ := a.2.resample_snd c b ra rs x.2
      refine (ih _).trans ?_
      dsimp only
      rw [hn]
      rfl
  have hswap : ∀ k : Fin 2, (1 - k).val ≠ k.val := by decide
  unfold State.rebaseDone
  extract_lets d ra rs n delays r taps x
  have hr : r.2.ch c = s.ch c := hfold delays d.act ra rs ([], s)
  refine ⟨by simp [x], by simp [x], ?_, by simp [x, State.updStby, hr]⟩
  simp only [x, DspSt.act, State.updStby, State.ch_updRx, State.ch_updDsp, if_true, hr]
  rw [Vector.getElem_set_ne _ _ (hswap _)]

theorem exec_rebaseDone_idle (hclk : s.clocked c .dsp = true) (hr : (s.ch c).rx.rebasing = true)
    (hs : (s.ch c).link.shift = none) : exec (.rebaseDone c) s = .next (s.rebaseDone c) := by
  obtain ⟨-, -, -, hlink⟩ := s.rebaseDone_frame c
  change execRebaseDone c s = _
  rw [execRebaseDone, if_pos (by rw [hr, hclk]; rfl), State.ackIfDue, hlink, hs]
  rfl

end

/-- Settles O44: each register of the block by the equation of its write, the two completions by what they change. -/
theorem commandsOfTheReceiveDsp : Obligations.CommandsOfTheReceiveDsp := by
  unfold Obligations.CommandsOfTheReceiveDsp
  intro s c hseg
  refine ⟨fun src ha hp => ⟨fun h => ?_, fun h => ?_, fun h => ?_, fun h => ?_, exec_clr hseg ha hp,
    exec_probeRst hseg ha hp, ⟨fun ht h2 h7 hne => ?_, fun h => ?_⟩, fun w v hw => ⟨fun h => ?_, fun h => ?_⟩, ?_,
    fun v => ?_, fun v => ?_,
    fun v ht => exec_stbyTypeWrite hseg ha hp ht v, exec_divergedClear hseg ha hp⟩,
    fun hclk => ⟨fun m b hc => exec_captDone_copied hclk hc, fun hr hs => ?_, fun hsnr hdiv hup => ?_⟩⟩
  · rw [exec_capt hseg ha hp, State.capt, if_neg (by simp [h])]
  · rw [exec_capt hseg ha hp, State.capt, if_pos h]
  · rw [exec_snap hseg ha hp, State.snapReq, if_pos h]
  · rw [exec_snap hseg ha hp, State.snapReq, if_neg h]
  · rw [exec_rebase hseg ha hp, State.rebase_taken ht h2 h7 hne]
  · rw [exec_rebase hseg ha hp, State.rebase_rejected h]
  · rw [exec_dspWinWrite hseg ha hp, State.winWrite, if_neg (by omega), if_pos h]
  · have he : (CFld.info (.DSP_WIN_EN w.val)).wid = 1 := rfl
    have hst : (CFld.info (.DSP_WIN_START w.val)).wid = 13 := rfl
    have hbit : bits v.toNat 31 31 < 2 := Nat.mod_lt _ (by decide)
    obtain ⟨hen, -, hdsp⟩ := s.shadow_setSh c (.DSP_WIN_EN w.val) (bits v.toNat 31 31)
    obtain ⟨hstart, hkeep, hdsp'⟩ :=
      (s.setSh c (.DSP_WIN_EN w.val) (bits v.toNat 31 31)).shadow_setSh c (.DSP_WIN_START w.val) (v.toNat % 8192)
    rw [exec_dspWinWrite hseg ha hp, State.winWrite_shadow hseg hw h]
    refine ⟨_, rfl, rfl, hdsp'.trans hdsp, ?_, ?_⟩
    · refine (hkeep (.DSP_WIN_EN w.val) nofun).trans (hen.trans ?_)
      rw [he]
      exact congrArg some (by omega)
    · refine hstart.trans ?_
      rw [hst]
      exact congrArg some (by omega)
  · obtain ⟨h1, h2⟩ := s.tapInc_frame c
    exact ⟨_, exec_dspTapdataRead hseg ha hp, rfl, h1, h2⟩
  · intro a i hlt htap
    rw [exec_dspTapdataWrite hseg ha hp]
    refine ⟨fun hb hf => ?_, fun hb hf => ?_, fun hb ht => ?_⟩
    · rw [State.tapWrite_coef hlt htap fun h => absurd h (by rw [hb]; decide), if_neg (by rw [hb]; decide), if_pos hf]
    · rw [State.tapWrite_coef hlt htap fun h => absurd h (by rw [hb]; decide), if_neg (by rw [hb]; decide), if_neg (by rw [hf]; decide)]
    · rw [State.tapWrite_coef hlt htap fun _ => ht, if_pos hb]
  · intro i w harea hb
    obtain ⟨hrej, hplace⟩ := State.tapWrite_place (c := c) harea hb v.toNat
    rw [exec_dspTapdataWrite hseg ha hp]
    refine ⟨fun h => by rw [hrej h], fun hi hf hno => ⟨fun hval => ?_, fun hval => ?_⟩⟩
    · rw [hplace hi hf hno, if_pos hval]
    · rw [hplace hi hf hno, if_neg (by rw [hval]; decide)]
  · obtain ⟨h1, h2, h3, -⟩ := s.rebaseDone_frame c
    exact ⟨_, exec_rebaseDone_idle hclk hr hs, h1, h2, h3⟩
  · change execSnapPeriodic c s = _
    rw [execSnapPeriodic, if_pos (by rw [hseg, hclk, hdiv]; simpa using hsnr), State.snapReq, if_pos hup]
    rfl

end Sys2Proof.Machine
end

section
namespace Sys2Proof.Machine

/-! ### The figure of an SNR (R70) -/

/-- After `k` steps the search stands at a multiple of what is left, reached by the ratio, with the next such multiple out
of the ratio's reach. -/
theorem db16_search (P : Nat → Prop) [DecidablePred P] (h0 : P 0) (k : Nat) (hk : k ≤ 12) :
    let n := (List.range k).foldl (fun n i => if P (n + 2 ^ (11 - i)) then n + 2 ^ (11 - i) else n) 0
    P n ∧ n + 2 ^ (12 - k) ≤ 4096 ∧ (n + 2 ^ (12 - k) = 4096 ∨ ¬P (n + 2 ^ (12 - k))) := by
  induction k with
  | zero => exact ⟨h0, Nat.le_refl _, .inl rfl⟩
  | succ k ih =>
    obtain ⟨hP, hle, hup⟩ := ih (by omega)
    have h1 : 12 - (k + 1) = 11 - k := by omega
    have h2 : 2 ^ (12 - k) = 2 ^ (11 - k) + 2 ^ (11 - k) := by
      rw [← Nat.two_mul, ← Nat.pow_succ']
      congr 1
      omega
    rw [List.range_succ, List.foldl_append, h1]
    generalize (List.range k).foldl _ 0 = n at hP hle hup
    simp only [List.foldl_cons, List.foldl_nil]
    rw [h2, ← Nat.add_assoc] at hle hup
    split
    · next h => exact ⟨h, hle, hup⟩
    · next h => exact ⟨hP, Nat.le_trans (Nat.le_add_right _ _) hle, .inr h⟩

/-- `db16` is the greatest figure up to 4,095 that the ratio reaches. -/
theorem db16_greatest {num den : Nat} (h : den ≤ num) : 10 ^ db16 num den * den ^ 160 ≤ num ^ 160 ∧ db16 num den ≤ 4095 ∧
    (db16 num den = 4095 ∨ num ^ 160 < 10 ^ (db16 num den + 1) * den ^ 160) := by
  have h0 : 10 ^ 0 * den ^ 160 ≤ num ^ 160 := by simpa using Nat.pow_le_pow_left h 160
  obtain ⟨hP, hle, hup⟩ := db16_search (fun m => 10 ^ m * den ^ 160 ≤ num ^ 160) h0 12 (Nat.le_refl _)
  have hdb : db16 num den = (List.range 12).foldl (fun n i => if 10 ^ (n + 2 ^ (11 - i)) * den ^ 160 ≤ num ^ 160 then
    n + 2 ^ (11 - i) else n) 0 := rfl
  rw [hdb]
  generalize (List.range 12).foldl _ 0 = n at hP hle hup
  exact ⟨hP, by omega, hup.imp (by omega) fun h => Nat.lt_of_not_le h⟩

/-- The figure of a ratio, with its rounding free: what `State.snrOf` makes of its sums. -/
def State.snrRound (s : State) (num den : Nat) : Nat × State :=
  if num < den then s.fresh 12
  else if den = 0 then (4095, s)
  else if db16 num den = 4095 || 10 ^ db16 num den * den ^ 160 = num ^ 160 then (db16 num den, s)
  else (db16 num den + (s.fresh 1).1, (s.fresh 1).2)

theorem State.snrOf_eq (s : State) (pam4 : Bool) (n err : Nat) :
    s.snrOf pam4 n err = s.snrRound ((if pam4 then 5 else 6) * n * 2 ^ 24) (9 * err) := rfl

section
variable {s : State} {c : Ch}

/-- The figure is rounded down or up, but not above 4,095. -/
theorem State.snrRound_figure (s : State) {num den : Nat} (hd : 0 < den) (hle : den ≤ num) : ∃ r < 2,
    (s.snrRound num den).1 = db16 num den + r ∧ (db16 num den = 4095 → r = 0) := by
  unfold State.snrRound
  rw [if_neg (by omega), if_neg (by omega)]
  generalize db16 num den = d
  split
  · exact ⟨0, by decide, rfl, fun _ => rfl⟩
  · next h => exact ⟨_, Nat.mod_lt _ (by decide), rfl,
      fun e => absurd (Bool.or_eq_true_iff.mpr (.inl (decide_eq_true e))) h⟩

/-- A rounded figure lies within one unit of the logarithm. -/
theorem State.snrRound_near (s : State) {num den : Nat} (hd : 0 < den) (hle : den ≤ num) :
    ((s.snrRound num den).1 = 0 ∨ 10 ^ ((s.snrRound num den).1 - 1) * den ^ 160 ≤ num ^ 160) ∧
    ((s.snrRound num den).1 = 4095 ∨ num ^ 160 < 10 ^ ((s.snrRound num den).1 + 1) * den ^ 160) := by
  obtain ⟨hP, -, hup⟩ := db16_greatest hle
  obtain ⟨r, hr, hq, hmax⟩ := s.snrRound_figure hd hle
  rw [hq]
  generalize db16 num den = d at *
  have hmono : ∀ {a b : Nat}, a ≤ b → 10 ^ a * den ^ 160 ≤ 10 ^ b * den ^ 160 := fun h =>
    Nat.mul_le_mul_right _ (Nat.pow_le_pow_right (by decide) h)
  refine ⟨.inr (Nat.le_trans (hmono (by omega)) hP), ?_⟩
  rcases hup with h | h
  · exact .inl (by rw [hmax h, h])
  · exact .inr (Nat.lt_of_lt_of_le h (hmono (by omega)))

/-- The figure fits its field, and only free choices are taken for it. -/
theorem State.snrRound_frame (s : State) (num den : Nat) :
    (s.snrRound num den).1 < 4096 ∧ ∃ k, (s.snrRound num den).2 = { s with free := k } := by
  unfold State.snrRound
  split
  · exact ⟨Nat.mod_lt _ (by decide), s.free + 1, rfl⟩
  · next hle =>
    obtain ⟨-, hmax, -⟩ := db16_greatest (Nat.le_of_not_lt hle)
    generalize db16 num den = d at hmax ⊢
    split
    · exact ⟨Nat.lt_succ_self 4095, s.free, rfl⟩
    · split
      · exact ⟨Nat.lt_succ_of_le hmax, s.free, rfl⟩
      · next h =>
        have hne : d ≠ 4095 := fun e => h (Bool.or_eq_true_iff.mpr (.inl (decide_eq_true e)))
        have h2 : (s.fresh 1).1 < 2 := Nat.mod_lt _ (by decide)
        exact ⟨by change d + (s.fresh 1).1 < 4096; omega, s.free + 1, rfl⟩

/-! ### Update-block boundaries (R69) -/

theorem State.dspRuns_iff : s.dspRuns c = true ↔ isSeg c = false ∧ s.clocked c .dsp = true ∧ s.clocked c .afe = true ∧
    s.cb c .AFE_CTL_ADC_EN = true := by
  simp only [State.dspRuns, Bool.and_eq_true, Bool.not_eq_true', and_assoc]

/-- Without an in-service run the boundary is its six steps. -/
theorem exec_updateBlockBoundary_eq (h : s.dspRuns c = true) (hd : (s.ch c).diag.run = .none) (inp : BlockIn) :
    exec (.updateBlockBoundary c inp) s = .next (s.blockBoundary c inp) := by
  obtain ⟨hseg, -⟩ := State.dspRuns_iff.mp h
  have hno : (s.diagIn c .isrWait && (s.ch c).rx.copy.isNone) = false := by simp [State.diagIn, hd]
  change execUpdateBlockBoundary c inp s = _
  rw [execUpdateBlockBoundary, if_neg (by simp [State.segAgc, hseg]), if_neg (by rw [h]; decide)]
  dsimp only
  rw [hno]
  rfl

/-- A frozen engine moves no coefficient. -/
theorem State.adaptOne_frozen (hf : (s.ch c).rx.eff = 0x7F) (g : Grad) : s.adaptOne c g = s := by
  have hbit : ∀ k < 4, (0x7F : Nat).testBit k = true := by decide
  have hk : (engineOf g.area.val g.index).2 < 4 := by
    unfold engineOf
    split <;> simp
  have hno : s.adapts c (engineOf g.area.val g.index).1 (engineOf g.area.val g.index).2 = false := by
    rw [State.adapts, hf, hbit _ hk]
    rfl
  unfold State.adaptOne
  rw [if_pos (by rw [hno]; simp)]

/-- With everything frozen step 5 changes only the counts of the blocks and the decoder. -/
theorem State.adapt_frozen (hf : (s.ch c).rx.eff = 0x7F) (inp : BlockIn) : (s.adapt c inp).regs = s.regs ∧
    (s.adapt c inp).now = s.now ∧ ((s.adapt c inp).ch c).dsp = (s.ch c).dsp ∧
    ((s.adapt c inp).ch c).rx.block = (s.ch c).rx.block ∧ ((s.adapt c inp).ch c).rx.eff = 0x7F ∧
    ((s.adapt c inp).ch c).rx.captReq = (s.ch c).rx.captReq ∧ ((s.adapt c inp).ch c).rx.snapReq = (s.ch c).rx.snapReq := by
  have hfold : ∀ l : List Grad, l.foldl (fun s g => s.adaptOne c g) s = s := fun l => by
    induction l with
    | nil => rfl
    | cons g l ih => rw [List.foldl_cons, State.adaptOne_frozen hf, ih]
  unfold State.adapt
  rw [hfold]
  extract_lets x moved y z
  have hy : (y.ch c).rx.eff = 0x7F := by simp [y, x, hf]
  have htiming : y.timing c inp.pd = y := by rw [State.timing, if_pos (by rw [hy]; decide)]
  have hz : z = (y.countSat c).decode c inp := by rw [← htiming]
  have hagc : (z.ch c).rx.eff.testBit 5 = true := by
    have : (z.ch c).rx.eff = 0x7F := by
      rw [hz, State.decode]
      split <;> simp [State.countSat, hy]
    rw [this]
    decide
  rw [if_pos hagc, hz, State.decode]
  split
  · simp [State.countSat, y, x, hf]
  · simp [State.countSat, y, x, hf]

/-- Step 6 takes what was requested. -/
theorem State.captSnap_frame (s : State) (c : Ch) : ((s.captSnap c).ch c).rx.block = (s.ch c).rx.block ∧
    ((s.captSnap c).ch c).rx.eff = (s.ch c).rx.eff ∧ ((s.captSnap c).ch c).dsp.act = (s.ch c).dsp.act ∧
    ((s.captSnap c).ch c).rx.captReq = false ∧ ((s.captSnap c).ch c).rx.snapReq = false ∧
    ((s.ch c).rx.captReq = true → ((s.captSnap c).ch c).rx.copy.isSome = true) ∧
    ((s.ch c).rx.snapReq = true → ((s.captSnap c).ch c).dsp.snap = some ⟨(s.ch c).dsp.act, s.cg c .DSP_MSE_SNR, s.now⟩) := by
  unfold State.captSnap
  dsimp only
  generalize s.captMem c = m
  cases hcapt : (s.ch c).rx.captReq <;> cases hsnap : (s.ch c).rx.snapReq <;> simp [hcapt, hsnap, DspSt.act]

/-- With nothing to place, step 3 changes nothing. -/
theorem State.placeAll_none (h1 : (s.ch c).rx.restoreReq = false) (h2 : (s.ch c).rx.clrReq = false)
    (h3 : (s.ch c).rx.winDue = false) (h4 : (s.ch c).rx.placeTap = []) (h5 : (s.ch c).rx.placeAuto = none) :
    s.placeAll c = s.updRx c id := by
  have hsh : s.placeSh c = s := by rw [State.placeSh, if_pos (by rw [h3]; rfl)]
  unfold State.placeAll
  simp only [h1, h2, h4, h5, Bool.false_eq_true, if_false, List.foldl_nil, hsh, State.placeByProbe]
  refine State.updRx_congr ?_
  generalize (s.ch c).rx = r at h1 h2 h4 h5 ⊢
  cases r
  simp_all

/-- The freeze mask of a boundary does not depend on what the receive DSP holds for it. -/
theorem State.frzEff_updRx (s : State) (c : Ch) (g : DspRun → DspRun) : (s.updRx c g).frzEff c = s.frzEff c := by
  have hlink : (s.updRx c g).frzLink c = s.frzLink c := by
    simp only [State.frzLink, State.ch_updRx, if_true, State.cb_cg, State.cg_updRx]
    rfl
  simp only [State.frzEff, hlink, State.ch_updRx, if_true, State.cg_updRx]

/-- A boundary with everything frozen and nothing to place or swap. -/
theorem State.blockBoundary_frozen (h0 : (s.ch c).rx.swapReq = false) (h1 : (s.ch c).rx.restoreReq = false)
    (h2 : (s.ch c).rx.clrReq = false) (h3 : (s.ch c).rx.winDue = false) (h4 : (s.ch c).rx.placeTap = [])
    (h5 : (s.ch c).rx.placeAuto = none) (hf : s.frzEff c = 0x7F) (inp : BlockIn) :
    ∃ x : State, s.blockBoundary c inp = x.captSnap c ∧ x.regs = s.regs ∧ x.now = s.now ∧ (x.ch c).dsp = (s.ch c).dsp ∧
      (x.ch c).rx.block = (s.ch c).rx.block + 1 ∧ (x.ch c).rx.eff = 0x7F ∧
      (x.ch c).rx.captReq = (s.ch c).rx.captReq ∧ (x.ch c).rx.snapReq = (s.ch c).rx.snapReq := by
  unfold State.blockBoundary
  extract_lets y x z m w
  have hx : x = y := by unfold x; rw [if_neg (by simp [y, h0])]
  have hz : z = y.updRx c id := by
    unfold z
    rw [hx]
    exact State.placeAll_none (by simp [y, h1]) (by simp [y, h2]) (by simp [y, h3]) (by simp [y, h4]) (by simp [y, h5])
  have hm : m = 0x7F := by
    unfold m
    rw [hz, State.frzEff_updRx, State.frzEff_updRx, hf]
  have heff : (w.ch c).rx.eff = 0x7F := by simp [w, hm]
  obtain ⟨hregs, hnow, hdsp, hblock, heff', hcapt, hsnap⟩ := State.adapt_frozen heff inp
  refine ⟨(w.adapt c inp), ?_, hregs.trans ?_, hnow.trans ?_, hdsp.trans ?_, hblock.trans ?_, heff', hcapt.trans ?_,
    hsnap.trans ?_⟩
  · rw [State.probeDwell, if_pos (by rw [State.probing, heff']; simp [Nat.testBit])]
  all_goals simp [w, hz, y]

theorem exec_updateBlockBoundary_frozen (h : s.dspRuns c = true) (hd : (s.ch c).diag.run = .none)
    (h0 : (s.ch c).rx.swapReq = false) (h1 : (s.ch c).rx.restoreReq = false) (h2 : (s.ch c).rx.clrReq = false)
    (h3 : (s.ch c).rx.winDue = false) (h4 : (s.ch c).rx.placeTap = []) (h5 : (s.ch c).rx.placeAuto = none)
    (hf : s.frzEff c = 0x7F) (inp : BlockIn) :
    ∃ t, exec (.updateBlockBoundary c inp) s = .next t ∧ (t.ch c).rx.block = (s.ch c).rx.block + 1 ∧
      (t.ch c).rx.eff = 0x7F ∧ (t.ch c).dsp.act = (s.ch c).dsp.act ∧ (t.ch c).rx.captReq = false ∧
      (t.ch c).rx.snapReq = false ∧ ((s.ch c).rx.captReq = true → (t.ch c).rx.copy.isSome = true) ∧
      ((s.ch c).rx.snapReq = true → (t.ch c).dsp.snap = some ⟨(s.ch c).dsp.act, s.cg c .DSP_MSE_SNR, s.now⟩) := by
  obtain ⟨x, hx, hregs, hnow, hdsp, hblock, heff, hcapt, hsnap⟩ := State.blockBoundary_frozen h0 h1 h2 h3 h4 h5 hf inp
  obtain ⟨t1, t2, t3, t4, t5, t6, t7⟩ := x.captSnap_frame c
  rw [hdsp, State.cg_of_regs hregs, hnow, hsnap] at t7
  rw [hcapt] at t6
  exact ⟨_, (exec_updateBlockBoundary_eq h hd inp).trans (by rw [hx]), t1.trans hblock, t2.trans heff,
    t3.trans (congrArg DspSt.act hdsp), t4, t5, t6, t7⟩

/-- The swap puts the banks' types and the snapshot at once (R76). -/
theorem State.bankSwap_frame (s : State) (c : Ch) : ((s.bankSwap c).ch c).dsp.active = 1 - (s.ch c).dsp.active ∧
    ((s.bankSwap c).ch c).dsp.actType = s.cg c .DSP_BANK_STBY_TYPE ∧ ((s.bankSwap c).ch c).dsp.snap = none := by
  unfold State.bankSwap
  dsimp only
  split <;> simp [State.acquireAll, State.updAct]

theorem State.blockBoundary_swap (h : (s.ch c).rx.swapReq = true) (inp : BlockIn) :
    let x := s.updRx c fun r => { r with block := r.block + 1 }
    s.blockBoundary c inp = (((((x.bankSwap c).placeAll c).updRx c fun r =>
      { r with eff := ((x.bankSwap c).placeAll c).frzEff c }).adapt c inp).probeDwell c).captSnap c := by
  have hx : ((s.updRx c fun r => { r with block := r.block + 1 }).ch c).rx.swapReq = true := by simp [h]
  unfold State.blockBoundary
  simp only [hx, if_true]

/-! ### Phases and the probe (R60, R64) -/

theorem engineIx_lt (e : Engine) : engineIx e < 11 := by
  cases e with
  | ecD => decide
  | win w => simp only [engineIx]; omega
  | ffe => decide
  | dfe => decide

theorem getD_setIfInBounds {α : Type} {n : Nat} (v : Vector α n) {i : Nat} (hi : i < n) (a d : α) (k : Nat) :
    (v.setIfInBounds i a).toList.getD k d = if k = i then a else v.toList.getD k d := by
  rw [Vector.toList_setIfInBounds]
  by_cases hk : k = i
  · subst hk
    simp [List.getD_eq_getElem?_getD, hi]
  · rw [if_neg hk, List.getD_eq_getElem?_getD, List.getElem?_set_ne (Ne.symm hk), ← List.getD_eq_getElem?_getD]

theorem exec_acqToTrack_due (h : s.dspRuns c = true) {e : Engine}
    (ht : ((s.ch c).rx.phases.toList.getD (engineIx e) ⟨false, 0⟩).track = false)
    (hn : 2 ^ s.acqLen c e ≤ ((s.ch c).rx.phases.toList.getD (engineIx e) ⟨false, 0⟩).count) :
    ∃ t, exec (.acqToTrack c e) s = .next t ∧ t.regs = s.regs ∧ (t.ch c).dsp = (s.ch c).dsp ∧
      ∀ k, (t.ch c).rx.phases.toList.getD k ⟨false, 0⟩ =
        if k = engineIx e then ⟨true, ((s.ch c).rx.phases.toList.getD k ⟨false, 0⟩).count⟩
        else (s.ch c).rx.phases.toList.getD k ⟨false, 0⟩ := by
  have hexec : exec (.acqToTrack c e) s = execAcqToTrack c e s := rfl
  rw [hexec, execAcqToTrack, if_pos (by rw [h, ht]; simpa using hn)]
  refine ⟨_, rfl, rfl, by simp, fun k => ?_⟩
  rw [State.ch_updRx, if_pos rfl, getD_setIfInBounds _ (engineIx_lt e)]
  by_cases hk : k = engineIx e
  · rw [if_pos hk, if_pos hk, hk]
  · rw [if_neg hk, if_neg hk]

theorem exec_probeDwellEnd_short (l : List Int)
    (hd : (s.ch c).rx.dwell * blockLen c < 2 ^ max 12 (min 24 (s.cg c .DSP_PROBE_DWELL))) :
    exec (.probeDwellEnd c l) s = .next s := by
  have hno : s.dwelt c = false := decide_eq_false (Nat.not_le.mpr hd)
  change execProbeDwellEnd c l s = _
  rw [execProbeDwellEnd, if_pos (by rw [hno]; simp)]
  rfl

/-- The estimates kept for a position that the probe leaves. -/
def State.probeKeep (s : State) (c : Ch) (p : Nat) (l : List Int) : State :=
  (s.updRx c fun r => { r with dwell := 0 }).updRx c fun r => { r with
    est := (p, (List.range 16).map fun i => satS 24 (l.getD i 0)) :: r.est.filter fun x => x.1 ≠ p
    swept := if r.swept.contains p then r.swept else p :: r.swept }

theorem exec_probeDwellEnd_eq (h : s.dspRuns c = true) (hen : s.cb c .DSP_PROBE_EN = true)
    (hf : (s.ch c).rx.eff.testBit 6 = false) (l : List Int) {p : Nat} (hp : s.probePos c = some p)
    (hd : 2 ^ max 12 (min 24 (s.cg c .DSP_PROBE_DWELL)) ≤ (s.ch c).rx.dwell * blockLen c) :
    (∀ q, ((s.ch c).dsp.act.positions c).find? (fun q => p < q) = some q →
      exec (.probeDwellEnd c l) s = .next ((s.probeKeep c p l).updRx c fun r => { r with pos := q })) ∧
    (((s.ch c).dsp.act.positions c).find? (fun q => p < q) = none → ∃ place,
      exec (.probeDwellEnd c l) s = .next (((s.probeKeep c p l).updRx c fun r => { r with
        pos := ((s.ch c).dsp.act.positions c).headD 0, lastSwept := r.swept, swept := [], placeAuto := place }).cinc c
          .DSP_PROBESTAT_SWEEPS)) := by
  obtain ⟨hseg, hclk, -⟩ := State.dspRuns_iff.mp h
  have hdw : s.dwelt c = true := decide_eq_true hd
  have hprobe : s.probing c = true := by rw [State.probing, hen, hf]; rfl
  have hact : ((s.probeKeep c p l).ch c).dsp.act = (s.ch c).dsp.act := by simp [State.probeKeep]
  have hexec : exec (.probeDwellEnd c l) s =
      match ((s.ch c).dsp.act.positions c).find? fun q => p < q with
      | some q => ok ((s.probeKeep c p l).updRx c fun r => { r with pos := q })
      | none => ok (((s.probeKeep c p l).updRx c fun r => { r with
          pos := ((s.ch c).dsp.act.positions c).headD 0, lastSwept := r.swept, swept := []
          placeAuto := if (s.probeKeep c p l).cb c .DSP_WINCTL_AUTO then (s.probeKeep c p l).placer c else none }).cinc c
            .DSP_PROBESTAT_SWEEPS) := by
    rw [← hact]
    change execProbeDwellEnd c l s = _
    rw [execProbeDwellEnd, if_neg (by rw [hseg, hclk, hprobe, hdw]; decide), hp]
    rfl
  rw [hexec]
  refine ⟨fun q hq => by rw [hq]; rfl, fun hno => ?_⟩
  rw [hno]
  exact ⟨_, rfl⟩

/-! ### The signal-quality window (R65, R70, R72, R95) -/

theorem State.setLock_frame (s : State) (c : Ch) (b : Bool) : (s.setLock c b).chans = s.chans ∧
    (s.setLock c b).cg c .DSP_TRSTAT_LOCK = b2n b ∧
    (s.cb c .DSP_TRSTAT_LOCK = true → b = false → (s.setLock c b).cg c .DSP_TRSTAT_LOCK_LOST = 1) ∧
    ∀ f, f ≠ .DSP_TRSTAT_LOCK → f ≠ .DSP_TRSTAT_LOCK_LOST → (s.setLock c b).cg c f = s.cg c f := by
  have hw : (CFld.info .DSP_TRSTAT_LOCK).wid = 1 := rfl
  have hw' : (CFld.info .DSP_TRSTAT_LOCK_LOST).wid = 1 := rfl
  have hbit : b2n b % 2 = b2n b := by cases b <;> rfl
  unfold State.setLock
  dsimp only
  split
  · exact ⟨rfl, by simp [hw, hbit], fun _ _ => by simp [hw'], fun f h1 h2 => by simp [h1, h2]⟩
  · next h =>
    exact ⟨rfl, by simp [hw, hbit], fun h1 h2 => absurd (by rw [h1, h2]; rfl) h, fun f h1 _ => by simp [h1]⟩

/-- In MAINT a window makes no SNR valid and judges neither SQI, training, a shift nor the link. -/
theorem State.mseValid_maint (hsub : (s.ch c).sub = .maint) (snr : Nat) : s.mseValid c snr = s := by
  unfold State.mseValid
  rw [hsub]

theorem State.divWindow_maint (hsub : (s.ch c).sub = .maint) (snr : Nat) :
    s.divWindow c snr = (false, s.updRx c fun r => { r with divRun := 0 }) := by
  unfold State.divWindow
  rw [hsub]
  cases (s.ch c).dsp.snap <;> rfl

theorem State.lossWindow_down (hst : (s.ch c).link.st = .stop) (hseg : isSeg c = false) (snr : Nat) :
    s.lossWindow c snr = (false, s.updRx c fun r => { r with lossRun := 0 }) := by
  have hl : s.linkLive c = false := by rw [State.linkLive, hseg, hst]; rfl
  unfold State.lossWindow
  rw [hl]
  rfl

theorem State.xEval_none (hx : (s.ch c).link.x = .none) : s.xEval c = s := by
  unfold State.xEval
  dsimp only
  rw [hx]

/-- What a window records of itself: its sums begin again, its figure `snr` and its lock are shown. -/
def State.windowSeen (s : State) (c : Ch) (k snr : Nat) : State :=
  ((({ s with free := k } : State).updRx c fun r => { r with winN := 0, winErr := 0, winPd := 0 }).cs c .DSP_MSE_SNR
    snr).setLock c (s.ch c).rx.phaseOk

theorem State.windowSeen_frame (s : State) (c : Ch) (k : Nat) {snr : Nat} (hsnr : snr < 4096) :
    (s.windowSeen c k snr).ch c = { s.ch c with rx := { (s.ch c).rx with winN := 0, winErr := 0, winPd := 0 } } ∧
      (s.windowSeen c k snr).cg c .DSP_MSE_SNR = snr ∧
      (s.windowSeen c k snr).cg c .DSP_MSE_VALID = s.cg c .DSP_MSE_VALID ∧
      (s.windowSeen c k snr).cg c .DSP_TRSTAT_LOCK = b2n (s.ch c).rx.phaseOk ∧
      (s.cb c .DSP_TRSTAT_LOCK = true → (s.ch c).rx.phaseOk = false →
        (s.windowSeen c k snr).cg c .DSP_TRSTAT_LOCK_LOST = 1) := by
  have hw : (CFld.info .DSP_MSE_SNR).wid = 12 := rfl
  unfold State.windowSeen
  generalize hx : (({ s with free := k } : State).updRx c fun r => { r with winN := 0, winErr := 0, winPd := 0 }) = x
  have hch : x.ch c = { s.ch c with rx := { (s.ch c).rx with winN := 0, winErr := 0, winPd := 0 } } := by
    rw [← hx, State.ch_updRx, if_pos rfl]
    rfl
  have hcg : ∀ f, x.cg c f = s.cg c f := fun f => by
    rw [← hx, State.cg_updRx]
    rfl
  obtain ⟨hchans, hlock, hlost, hkeep⟩ := (x.cs c .DSP_MSE_SNR snr).setLock_frame c (s.ch c).rx.phaseOk
  refine ⟨(congrArg (fun v => v[c.val]) hchans).trans hch, ?_, ?_, hlock, fun h1 h2 => hlost ?_ h2⟩
  · rw [hkeep _ (by decide) (by decide), State.cg_cs, if_pos ⟨rfl, rfl⟩, hw]
    omega
  · rw [hkeep _ (by decide) (by decide), State.cg_cs, if_neg fun e => absurd e.2 (by decide), hcg]
  · rw [State.cb_cg, State.cg_cs, if_neg fun e => absurd e.2 (by decide), hcg]
    exact h1

/-- A window in MAINT records its figure and its lock, and nothing follows from them. -/
theorem exec_mseWindowEnd_maint (h : s.dspRuns c = true) (hsub : (s.ch c).sub = .maint) (hst : (s.ch c).link.st = .stop)
    (hv : s.cb c .DSP_MSE_VALID = false) (hs : (s.ch c).link.shift = none) (hx : (s.ch c).link.x = .none)
    (hn : 2 ^ s.cg c .DSP_CTL_MSE_WIN ≤ (s.ch c).rx.winN) : ∃ k snr, snr < 4096 ∧
      snr = (s.snrOf (decide (3 ≤ s.rxType c)) (s.ch c).rx.winN (s.ch c).rx.winErr).1 ∧
      exec (.mseWindowEnd c) s = .next (((s.windowSeen c k snr).updRx c fun r => { r with divRun := 0 }).updRx c fun r =>
        { r with lossRun := 0 }) := by
  obtain ⟨hseg, -⟩ := State.dspRuns_iff.mp h
  have hq := s.snrOf_eq (decide (3 ≤ s.rxType c)) (s.ch c).rx.winN (s.ch c).rx.winErr
  obtain ⟨hlt, k, hk⟩ := s.snrRound_frame ((if decide (3 ≤ s.rxType c) then 5 else 6) * (s.ch c).rx.winN * 2 ^ 24)
    (9 * (s.ch c).rx.winErr)
  rw [← hq] at hk hlt
  clear hq
  refine ⟨k, _, hlt, rfl, ?_⟩
  change execMseWindowEnd c s = _
  unfold execMseWindowEnd
  dsimp only
  rw [if_neg (by rw [h]; simpa using hn), hk]
  generalize (s.snrOf (decide (3 ≤ s.rxType c)) (s.ch c).rx.winN (s.ch c).rx.winErr).1 = snr at hlt ⊢
  obtain ⟨hch, -, hvalid, -⟩ := s.windowSeen_frame c k hlt
  have hseen : (((({ s with free := k } : State).updRx c fun r => { r with winN := 0, winErr := 0, winPd := 0 }).cs c
    .DSP_MSE_SNR snr).setLock c (s.ch c).rx.phaseOk) = s.windowSeen c k snr := rfl
  rw [hseen]
  generalize s.windowSeen c k snr = y at hch hvalid ⊢
  have hyv : y.cb c .DSP_MSE_VALID = false := by
    rw [State.cb_cg, hvalid]
    exact hv
  rw [State.mseValid_maint (by rw [hch]; exact hsub), hyv, Bool.false_and, if_neg Bool.false_ne_true,
    State.divWindow_maint (by rw [hch]; exact hsub)]
  dsimp only
  rw [State.xEval_none (by simp [hch, hx]), State.shiftQualify_idle (by simp [hch, hs]),
    State.lossWindow_down (by simp [hch, hst]) hseg]
  rfl

/-- A window below SNR_MIN that is the last of LOSS_N is a loss of the link. -/
theorem State.lossWindow_due {n : Nat} (hl : s.linkLive c = true) (hn : n < s.cg c .LINK_LOSSCFG_SNR_MIN)
    (hr : max 1 (s.cg c .LINK_LOSSCFG_LOSS_N) ≤ (s.ch c).rx.lossRun + 1) :
    s.lossWindow c n = (true, s.updRx c fun r => { r with lossRun := 0 }) := by
  have hlow : (s.linkLive c && decide (n < s.cg c .LINK_LOSSCFG_SNR_MIN)) = true := by simp [hl, hn]
  unfold State.lossWindow
  dsimp only
  rw [hlow, if_pos rfl, Bool.true_and, decide_eq_true hr]
  rfl

theorem byClass_single {α : Type} {cls : α → Nat} {a : α} (ha : cls a < 4) : byClass cls [a] = [a] := by
  unfold byClass
  interval_cases h : cls a <;> simp [h]

/-- Of two the one of the higher class comes first, and the listed first in one class. -/
theorem byClass_pair {α : Type} {cls : α → Nat} {a b : α} (ha : cls a < 4) (hb : cls b < 4) :
    byClass cls [a, b] = if cls a < cls b then [b, a] else [a, b] := by
  unfold byClass
  interval_cases h : cls a <;> interval_cases h' : cls b <;> simp [h, h']

/-- Divergence and link loss in the order of their classes (R334). -/
theorem State.windowFaults_loss (s : State) (c : Ch) (d : Bool) : s.windowFaults c d true =
    if s.classOfSrc (.ch c 2) < s.classOfSrc (.ch c 4) then (if d then (s.critLoss c 0x30).diverge c 0 else s.critLoss c 0x30)
    else (if d then s.diverge c 0 else s).critLoss c 0x30 := by
  have hlt : ∀ k : Fin 12, s.classOfSrc (.ch c k) < 4 := fun k => Nat.mod_lt _ (by decide)
  unfold State.windowFaults
  cases d with
  | false =>
    have hl := byClass_single (cls := fun k => s.classOfSrc (.ch c k)) (hlt 4)
    simp only [Bool.false_eq_true, if_false, if_true, List.nil_append, ite_self]
    rw [hl]
    rfl
  | true =>
    have hl := byClass_pair (cls := fun k => s.classOfSrc (.ch c k)) (hlt 2) (hlt 4)
    simp only [if_true, List.singleton_append]
    rw [hl]
    split <;> rfl

theorem exec_tapSatCountExpire_eq (h : s.dspRuns c = true) (hu : (s.ch c).sub = .up)
    (hd : s.cb c .DSP_DIVCFG_SAT_DIV = true) (hr : ∃ p ∈ (s.ch c).rx.satRun, 4096 ≤ p.2) :
    exec (.tapSatCountExpire c) s = .next (s.diverge c 1) := by
  change execTapSatCountExpire c s = _
  rw [execTapSatCountExpire, if_pos]
  · rfl
  · rw [h, hu, hd]
    simpa using hr

theorem State.diverge_again (hd : s.cb c .DSP_STAT_DIVERGED = true) (kind : Nat) : s.diverge c kind = s := by
  rw [State.diverge, if_pos hd]

/-- A divergence that is not yet noted. -/
theorem State.diverge_first (hd : s.cb c .DSP_STAT_DIVERGED = false) (kind : Nat) : s.diverge c kind =
    (if (s.ch c).dsp.snap.isSome then ((s.cs c .DSP_STAT_DIVERGED 1).cs c .DSP_FRZHW_DIV 0x6F).updRx c fun r =>
        { r with restoreReq := true }
      else (s.cs c .DSP_STAT_DIVERGED 1).cs c .DSP_FRZHW_DIV 0x6F).assertSrc (.ch c 2) kind 0 := by
  rw [State.diverge, if_neg (by rw [hd]; decide)]
  rfl

end

/-- Settles O45: the boundary by its six steps, the search of the figure by its invariant, and each monitor by the equation
of its window. -/
theorem convergenceOfTheReceiveDsp : Obligations.ConvergenceOfTheReceiveDsp := by
  unfold Obligations.ConvergenceOfTheReceiveDsp
  intro s c h
  obtain ⟨hact, htype, hsnap⟩ := s.bankSwap_frame c
  refine ⟨fun inp hd h0 h1 h2 h3 h4 h5 hf => exec_updateBlockBoundary_frozen h hd h0 h1 h2 h3 h4 h5 hf inp,
    fun inp hd hsw => (exec_updateBlockBoundary_eq h hd inp).trans (congrArg _ (State.blockBoundary_swap hsw inp)),
    hact, htype, hsnap, fun e ht hn => exec_acqToTrack_due h ht hn, fun l p hen hf hp => ?_,
    fun hsub hst hv hs hx => ⟨fun hn => ?_, fun hn => ?_⟩, fun pam4 n err he => ?_,
    fun n hl hn hr => State.lossWindow_due hl hn hr, fun d => s.windowFaults_loss c d,
    fun hu hd hr => ⟨fun hdiv => ?_, fun hdiv hs => ?_, fun hdiv hs => ?_⟩⟩
  · intro ps
    have hwid : ∀ x : State, (x.cinc c .DSP_PROBESTAT_SWEEPS).cg c .DSP_PROBESTAT_SWEEPS =
        (x.cg c .DSP_PROBESTAT_SWEEPS + 1) % 2 ^ (CFld.info .DSP_PROBESTAT_SWEEPS).wid := fun x => by simp [State.cinc]
    refine ⟨exec_probeDwellEnd_short l, fun hd => ⟨fun q hq => ?_, fun hq => ?_⟩⟩
    · refine ⟨_, (exec_probeDwellEnd_eq h hen hf l hp hd).1 q hq, rfl, by simp, ?_⟩
      simp [State.probeKeep]
    · obtain ⟨place, hexec⟩ := (exec_probeDwellEnd_eq h hen hf l hp hd).2 hq
      exact ⟨_, hexec, by simp [State.cinc, ps], by simp [State.cinc], by rw [hwid]; rfl⟩
  · obtain ⟨k, snr, hlt, hsnr, hexec⟩ := exec_mseWindowEnd_maint h hsub hst hv hs hx hn
    obtain ⟨hch, hfig, hvalid, hlock, hlost⟩ := s.windowSeen_frame c k hlt
    refine ⟨_, hexec, hfig.trans hsnr, hlock, fun h1 h2 => hlost h1 (decide_eq_false (Nat.not_lt.mpr h2)), ?_, ?_⟩
    · exact hvalid.trans (by simpa using hv)
    · simp [hch]
  · change execMseWindowEnd c s = _
    unfold execMseWindowEnd
    dsimp only
    rw [if_pos (by simp [hn])]
    rfl
  · intro num hle q
    have hq : q = (s.snrRound num (9 * err)).1 := congrArg Prod.fst (s.snrOf_eq pam4 n err)
    rw [hq]
    exact s.snrRound_near (by omega) hle
  · rw [exec_tapSatCountExpire_eq h hu hd hr, State.diverge_again hdiv]
  · rw [exec_tapSatCountExpire_eq h hu hd hr, State.diverge_first hdiv, if_neg (by simp [hs])]
  · rw [exec_tapSatCountExpire_eq h hu hd hr, State.diverge_first hdiv, if_pos hs]

end Sys2Proof.Machine
end

section
namespace Sys2Proof.Machine

/-! ### What a reaction leaves of a supply warning -/

/-- The device fields that tell of a supply warning (R290, R306): the event of its start, the count of dips, and the
supply-warning source 384's stickiness and word of live levels. -/
def DFld.tellsWarn : DFld → Bool
  | .PWR_EVT_DIP_START | .TAP_DIPCNT_COUNT | .FC_LIVE_BITS 0 | .FC_SRC_STICKY 0 => true
  | _ => false

/-- As `DFld.tellsWarn`, for a channel: its SUPPLY freeze mask and its event. -/
def CFld.tellsWarn : CFld → Bool
  | .DSP_FRZHW_SUPPLY | .SEQ_SYSEVT_SUPPLY_WARN => true
  | _ => false

/-- The supply-warning source. -/
def SrcId.tellsWarn : SrcId → Bool
  | .dev 0 => true
  | _ => false

theorem DFld.tellsWarn_iff {f : DFld} : f.tellsWarn = true ↔
    f = .PWR_EVT_DIP_START ∨ f = .TAP_DIPCNT_COUNT ∨ f = .FC_LIVE_BITS 0 ∨ f = .FC_SRC_STICKY 0 := by
  unfold DFld.tellsWarn
  split <;> simp_all

theorem CFld.tellsWarn_iff {f : CFld} : f.tellsWarn = true ↔ f = .DSP_FRZHW_SUPPLY ∨ f = .SEQ_SYSEVT_SUPPLY_WARN := by
  unfold CFld.tellsWarn
  split <;> simp_all

/-- What the reactions to an assertion (R337) and the end of what a supply warning cuts leave of it: the rails in a warning,
the dip record, the device calibration, and the fields that tell of it; a channel whose domain goes off, and only such a
one, may lose its fields to their reset value. -/
structure WarnKept (s t : State) : Prop where
  cal : t.cal = s.cal
  warn : t.power.warn = s.power.warn
  dip : t.power.dip = s.power.dip
  dev : ∀ f, f.tellsWarn = true → t.dg f = s.dg f
  on : ∀ c, (t.ch c).on → (s.ch c).on
  ch : ∀ c f, f.tellsWarn = true → t.cg c f = s.cg c f ∨ ¬(t.ch c).on ∧ t.cg c f = 0

section
variable {s₀ s x y t : State} {c : Ch}

theorem WarnKept.refl (s : State) : WarnKept s s := ⟨rfl, rfl, rfl, fun _ _ => rfl, fun _ => id, fun _ _ _ => .inl rfl⟩

theorem WarnKept.trans (hx : WarnKept s₀ x) (hy : WarnKept x y) : WarnKept s₀ y where
  cal := hy.cal.trans hx.cal
  warn := hy.warn.trans hx.warn
  dip := hy.dip.trans hx.dip
  dev f hf := (hy.dev f hf).trans (hx.dev f hf)
  on c := hx.on c ∘ hy.on c
  ch c f hf := by
    rcases hy.ch c f hf with h | h
    · exact (hx.ch c f hf).imp h.trans fun ⟨hoff, h0⟩ => ⟨hoff ∘ hy.on c, h.trans h0⟩
    · exact .inr h

/-- A change of nothing that `WarnKept` speaks of. -/
theorem WarnKept.frame (h : WarnKept s₀ x) (hregs : t.regs = x.regs) (hchans : t.chans = x.chans)
    (hwarn : t.power.warn = x.power.warn) (hdip : t.power.dip = x.power.dip) (hcal : t.cal = x.cal) : WarnKept s₀ t :=
  h.trans
    { cal := hcal
      warn := hwarn
      dip := hdip
      dev := fun f _ => State.dg_of_regs hregs f
      on := fun c hc => by simpa only [State.ch, hchans] using hc
      ch := fun c f _ => .inl (State.cg_of_regs hregs c f) }

theorem WarnKept.canopy {v} (h : WarnKept s₀ s) : WarnKept s₀ { s with canopy := v } := h.frame rfl rfl rfl rfl rfl
theorem WarnKept.host {v} (h : WarnKept s₀ s) : WarnKept s₀ { s with host := v } := h.frame rfl rfl rfl rfl rfl
theorem WarnKept.heart {v} (h : WarnKept s₀ s) : WarnKept s₀ { s with heart := v } := h.frame rfl rfl rfl rfl rfl
theorem WarnKept.integ {v} (h : WarnKept s₀ s) : WarnKept s₀ { s with integ := v } := h.frame rfl rfl rfl rfl rfl
theorem WarnKept.free {v} (h : WarnKept s₀ s) : WarnKept s₀ { s with free := v } := h.frame rfl rfl rfl rfl rfl
theorem WarnKept.updOtp {g} (h : WarnKept s₀ s) : WarnKept s₀ (s.updOtp g) := h.frame rfl rfl rfl rfl rfl

theorem WarnKept.ds {f v} (h : WarnKept s₀ s) (hf : f.tellsWarn = false) : WarnKept s₀ (s.ds f v) :=
  h.trans
    { cal := rfl
      warn := rfl
      dip := rfl
      dev := fun g hg => by
        have hne : g ≠ f := fun e => by simp [e, hf] at hg
        simp [hne]
      on := fun _ => id
      ch := fun d g _ => .inl (by simp) }

theorem WarnKept.cs {f v} (h : WarnKept s₀ s) (hf : f.tellsWarn = false) : WarnKept s₀ (s.cs c f v) :=
  h.trans
    { cal := rfl
      warn := rfl
      dip := rfl
      dev := fun g _ => by simp
      on := fun _ => id
      ch := fun d g hg => .inl (by
        have hne : g ≠ f := fun e => by simp [e, hf] at hg
        simp [hne]) }

/-- A domain that is off stays off. -/
theorem WarnKept.off (h : WarnKept s t) (hc : ¬(s.ch c).on) : ¬(t.ch c).on := fun ht => hc (h.on c ht)

/-- A domain that is on may go off. -/
theorem WarnKept.updCh_on {g} (h : WarnKept s₀ s) (hg : (g (s.ch c)).on → (s.ch c).on) : WarnKept s₀ (s.updCh c g) :=
  h.trans
    { cal := rfl
      warn := rfl
      dip := rfl
      dev := fun f _ => State.dg_of_regs rfl f
      on := fun d hd => by
        by_cases hdc : d = c
        · subst hdc
          exact hg (by simpa using hd)
        · simpa [hdc] using hd
      ch := fun d f _ => .inl (State.cg_of_regs rfl d f) }

theorem WarnKept.updCh {g} (h : WarnKept s₀ s) (hg : ∀ x : Chan, (g x).on → x.on) :
    WarnKept s₀ (s.updCh c g) := h.updCh_on (hg _)

/-- A field after a clear reads as before, or as at reset. -/
theorem State.rd_clearFields (s : State) (p : Fld → Bool) (f : Fld) :
    (s.clearFields p).rd f = s.rd f ∨ (s.clearFields p).rd f = f.reset := by
  cases hp : p f with
  | false => exact .inl (State.rd_clearFields_of_not hp)
  | true =>
    have hnone : (s.regs.filter fun r => !p r.1).lookup f = none := List.lookup_eq_none_iff.mpr fun r hr => by
      have hr' := (List.mem_filter.mp hr).2
      by_contra hne
      have hf : f = r.1 := by simpa using hne
      simp [← hf, hp] at hr'
    refine .inr ?_
    unfold State.rd State.clearFields
    rw [hnone]

/-- Fields are cleared that do not tell of the warning, or tell it of a channel whose domain is off. -/
theorem WarnKept.clearFields {p} (h : WarnKept s₀ s)
    (hdev : p (.dev .PWR_EVT_DIP_START) = false ∧ p (.dev .TAP_DIPCNT_COUNT) = false ∧
      p (.dev (.FC_LIVE_BITS 0)) = false ∧ p (.dev (.FC_SRC_STICKY 0)) = false)
    (hch : ∀ c, (s.ch c).on → p (.ch c .DSP_FRZHW_SUPPLY) = false ∧ p (.ch c .SEQ_SYSEVT_SUPPLY_WARN) = false) :
    WarnKept s₀ (s.clearFields p) :=
  h.trans
    { cal := rfl
      warn := rfl
      dip := rfl
      dev := fun f hf => by
        obtain ⟨hstart, hcount, hlive, hsticky⟩ := hdev
        refine State.rd_clearFields_of_not ?_
        rcases DFld.tellsWarn_iff.mp hf with rfl | rfl | rfl | rfl
        · exact hstart
        · exact hcount
        · exact hlive
        · exact hsticky
      on := fun _ => id
      ch := fun c f hf => by
        by_cases hon : (s.ch c).on
        · obtain ⟨hmask, hevt⟩ := hch c hon
          refine .inl (State.rd_clearFields_of_not ?_)
          rcases CFld.tellsWarn_iff.mp hf with rfl | rfl
          · exact hmask
          · exact hevt
        · have h0 : (Fld.ch c f).reset = 0 := by rcases CFld.tellsWarn_iff.mp hf with rfl | rfl <;> rfl
          exact (s.rd_clearFields p (.ch c f)).imp id fun e => ⟨hon, e.trans h0⟩ }

theorem WarnKept.ite {p : Prop} {_ : Decidable p} (hx : WarnKept s₀ x) (hy : WarnKept s₀ y) :
    WarnKept s₀ (if p then x else y) := iteInduction (fun _ => hx) fun _ => hy

theorem WarnKept.ite_fst {α : Type} {p : Prop} {_ : Decidable p} {a b : State × α} (ha : WarnKept s₀ a.1)
    (hb : WarnKept s₀ b.1) : WarnKept s₀ (if p then a else b).1 :=
  iteInduction (motive := fun r : State × α => WarnKept s₀ r.1) (fun _ => ha) fun _ => hb

theorem WarnKept.ite_snd {α : Type} {p : Prop} {_ : Decidable p} {a b : α × State} (ha : WarnKept s₀ a.2)
    (hb : WarnKept s₀ b.2) : WarnKept s₀ (if p then a else b).2 :=
  iteInduction (motive := fun r : α × State => WarnKept s₀ r.2) (fun _ => ha) fun _ => hb

theorem WarnKept.fst {α : Type} {a : α} (h : WarnKept s₀ x) : WarnKept s₀ (x, a).1 := h

theorem WarnKept.foldl {α : Type} {g : State → α → State} {l : List α} (h : WarnKept s₀ s)
    (hg : ∀ {x a}, WarnKept s₀ x → WarnKept s₀ (g x a)) : WarnKept s₀ (l.foldl g s) :=
  List.foldlRecOn l g h fun _ hx _ _ => hg hx

end

section
variable {s₀ s x y t : State} {c : Ch}

theorem WarnKept.cinc {f n} (h : WarnKept s₀ s) (hf : f.tellsWarn = false) : WarnKept s₀ (s.cinc c f n) :=
  h.cs hf
theorem WarnKept.dinc {f n} (h : WarnKept s₀ s) (hf : f.tellsWarn = false) : WarnKept s₀ (s.dinc f n) :=
  h.ds hf

theorem WarnKept.forCh {g : State → Ch → State} (h : WarnKept s₀ s)
    (hg : ∀ {x a2}, WarnKept s₀ x → WarnKept s₀ (g x a2)) : WarnKept s₀ (s.forCh g) :=
  h.foldl hg

theorem WarnKept.sysEvt {bit} (h : WarnKept s₀ s) (hbit : bit ≠ 0) : WarnKept s₀ (s.sysEvt c bit) :=
  .ite
    (match bit with
      | 1 | 2 | 3 | 4 | 5 | 6 | 7 => h.cs rfl
      | 0 => nomatch hbit
      | _ + 8 => h) h

theorem WarnKept.sysEvtAll {bit} (h : WarnKept s₀ s) (hbit : bit ≠ 0) : WarnKept s₀ (s.sysEvtAll bit) :=
  h.forCh fun h => h.sysEvt hbit
/-- The width of a free value is no matter. -/
theorem WarnKept.fresh (h : WarnKept s₀ s) : WarnKept s₀ { s with free := s.free + 1 } := h.free

theorem WarnKept.roundFree {num den} (h : WarnKept s₀ s) : WarnKept s₀ (s.roundFree num den).2 := by
  unfold State.roundFree
  split
  · exact h
  · exact h.fresh

theorem WarnKept.updQ {g} (h : WarnKept s₀ s) : WarnKept s₀ (s.updQ c g) := h.updCh fun _ => id
theorem WarnKept.updF {g} (h : WarnKept s₀ s) : WarnKept s₀ (s.updF c g) := h.updCh fun _ => id
theorem WarnKept.acctEg {g} (h : WarnKept s₀ s) : WarnKept s₀ (s.acctEg c g) := h.updF
theorem WarnKept.acctIn {g} (h : WarnKept s₀ s) : WarnKept s₀ (s.acctIn c g) := h.updF
theorem WarnKept.updPair {k g} (h : WarnKept s₀ s) : WarnKept s₀ (s.updPair c k g) := h.host
theorem WarnKept.hostActive (h : WarnKept s₀ s) : WarnKept s₀ s.hostActive := h.host.ds rfl
theorem WarnKept.send {m} (h : WarnKept s₀ s) : WarnKept s₀ (s.send m) :=
  .host (by split; exacts [h.ds rfl |>.hostActive, h])
theorem WarnKept.announce {k} (h : WarnKept s₀ s) : WarnKept s₀ (s.announce c k) := h.updPair.send
theorem WarnKept.announceDue {k} (h : WarnKept s₀ s) : WarnKept s₀ (s.announceDue c k) := .ite h.announce h
theorem WarnKept.issueCls {k} (h : WarnKept s₀ s) : WarnKept s₀ (s.issueCls c k) := .ite h.updPair.announceDue h
theorem WarnKept.issue (h : WarnKept s₀ s) : WarnKept s₀ (s.issue c) := .ite h (h.foldl (fun h => h.issueCls))
theorem WarnKept.retTokens {k n} (h : WarnKept s₀ s) : WarnKept s₀ (s.retTokens c k n) := h.updPair
theorem WarnKept.trySync {k} (h : WarnKept s₀ s) : WarnKept s₀ (s.trySync c k) := .ite h.updPair.send h
theorem WarnKept.freeCells {k n} (h : WarnKept s₀ s) : WarnKept s₀ (s.freeCells c k n) := h.retTokens.issue.trySync
theorem WarnKept.resync (h : WarnKept s₀ s) : WarnKept s₀ (s.resync c) := h.foldl fun h => h.updPair.trySync
theorem WarnKept.dropEgCls {k r} (h : WarnKept s₀ s) : WarnKept s₀ (s.dropEgCls c k r) := h.updQ.acctEg.freeCells
theorem WarnKept.atBoundary (h : WarnKept s₀ s) : WarnKept s₀ (s.atBoundary c) := .ite h.updQ h

theorem WarnKept.dropLine {r} (h : WarnKept s₀ s) : WarnKept s₀ (s.dropLine c r) := by
  unfold State.dropLine
  split
  · exact h
  · exact h.updQ.atBoundary.acctEg.freeCells

theorem WarnKept.dropInCls {k p} (h : WarnKept s₀ s) : WarnKept s₀ (s.dropInCls c k p) := by
  unfold State.dropInCls
  exact h.updQ.acctIn

theorem WarnKept.dropAll (h : WarnKept s₀ s) : WarnKept s₀ (s.dropAll c) :=
  h.dropLine.foldl fun h => h.dropEgCls.dropInCls
theorem WarnKept.answerFlush (h : WarnKept s₀ s) : WarnKept s₀ (s.answerFlush c) :=
  .ite h ((h.updQ.cs rfl).foldl fun h => h.send)

theorem WarnKept.setRecWord {j w v} (h : WarnKept s₀ s) : WarnKept s₀ (s.setRecWord j w v) := by
  unfold State.setRecWord
  split
  · exact h.cs rfl
  · exact h.ds rfl

theorem WarnKept.countSrc {x kind} (h : WarnKept s₀ s) (hx : x.tellsWarn = false) :
    WarnKept s₀ (s.countSrc x kind) := by
  cases x with
  | ch c k =>
    unfold State.countSrc
    exact (h.cinc rfl |>.cs rfl |>.cs rfl).updCh fun _ => id
  | dev i =>
    have hi : (DFld.FC_SRC_STICKY i).tellsWarn = false := by
      unfold SrcId.tellsWarn at hx
      unfold DFld.tellsWarn
      split at hx
      · nomatch hx
      · split <;> simp_all
    exact h.dinc rfl |>.ds hi |>.ds rfl |>.canopy

theorem WarnKept.pend {cl w0 w1 w2 w3} (h : WarnKept s₀ s) : WarnKept s₀ (s.pend cl w0 w1 w2 w3) :=
  .ite (.ite (h.ds rfl |>.canopy) (h.ds rfl)) h

/-- All that an assertion's record writes of the temperature is that its source is sticky. -/
theorem WarnKept.record_of_countSrc {x kind addr forced} (h : WarnKept s₀ (s.countSrc x kind)) :
    WarnKept s₀ (s.record x kind addr forced).1 := by
  unfold State.record
  extract_lets cl dry t w0 s1
  have h1 : WarnKept s₀ s1 := h
  clear_value s1
  split
  · cases x with
    | ch c k => exact h1.setRecWord.cinc rfl |>.cs rfl
    | dev i => exact h1.setRecWord.dinc rfl |>.ds rfl
  · refine .ite_fst (.fst ?_) (.fst ?_)
    · cases x with
      | ch c k => exact h1.cinc rfl |>.cs rfl |>.pend.sysEvt nofun
      | dev i => exact h1.dinc rfl |>.ds rfl |>.pend
    · cases x with
      | ch c k =>
        refine .sysEvt (.pend (.updCh ?_ fun _ => id)) nofun
        exact h1.setRecWord.setRecWord.setRecWord.setRecWord.cinc rfl
      | dev i => exact (h1.setRecWord.setRecWord.setRecWord.setRecWord.dinc rfl).canopy.pend

theorem WarnKept.record {x kind addr forced} (h : WarnKept s₀ s) (hx : x.tellsWarn = false) :
    WarnKept s₀ (s.record x kind addr forced).1 := (h.countSrc hx).record_of_countSrc

theorem WarnKept.setLive {k b} (h : WarnKept s₀ s) : WarnKept s₀ (s.setLive (.ch c k) b) := by
  unfold State.setLive
  dsimp -zeta only
  extract_lets was s1 s2
  have h1 : WarnKept s₀ s1 := h.cs rfl
  have h2 : WarnKept s₀ s2 := .ite (h1.cs rfl) h1
  exact .ite (.ite h2 (h2.cs rfl)) h1

theorem WarnKept.updDiag {g} (h : WarnKept s₀ s) : WarnKept s₀ (s.updDiag c g) := h.updCh fun _ => id

theorem WarnKept.predWarn {i v} (h : WarnKept s₀ s) : WarnKept s₀ (s.predWarn c i v) := by
  unfold State.predWarn
  exact .updDiag (.ite (h.cs rfl) h)

theorem WarnKept.predictions (h : WarnKept s₀ s) : WarnKept s₀ (s.predictions c) := by
  unfold State.predictions
  extract_lets log tl n s1 s2 pts target v f r s3
  have h1 : WarnKept s₀ s1 := by
    refine h.foldl fun h => .predWarn (h.cs ?_)
    rfl
  have h2 : WarnKept s₀ s2 := h1.cs rfl
  have h3 : WarnKept s₀ s3 := .ite h2 (h2.roundFree.cs rfl)
  exact .predWarn (h3.cs rfl)

theorem WarnKept.trendClear (h : WarnKept s₀ s) : WarnKept s₀ (s.trendClear c) := by
  unfold State.trendClear
  extract_lets s1 s2 s3
  have h1 : WarnKept s₀ s1 := h.cs rfl |>.cs rfl
  have h2 : WarnKept s₀ s2 := by
    refine h1.foldl fun h => h.cs ?_
    rfl
  exact (h2.cs rfl |>.cs rfl).updDiag

theorem WarnKept.writeRecord {iv t isrOk up gam} (h : WarnKept s₀ s) : WarnKept s₀ (s.writeRecord c iv t isrOk up gam) := by
  refine .ite h.updDiag.trendClear ?_
  extract_lets f r m s1 snr rec s2 nx s3 s4
  have hr : WarnKept s₀ r.2 := .ite_snd h.fresh h.roundFree
  have h1 : WarnKept s₀ s1 := .ite_snd hr.fresh hr
  have h3 : WarnKept s₀ s3 := h1.updDiag.cs rfl
  have h4 : WarnKept s₀ s4 := .ite (h3.cs rfl) h3
  exact .ite h4 h4.predictions

theorem WarnKept.diagStop {status} (h : WarnKept s₀ s) : WarnKept s₀ (s.diagStop c status) := by
  unfold State.diagStop
  split
  · exact h
  · have hevt : (if status = 2 then CFld.DIAG_EVT_PARTNER_ACTIVE else .DIAG_EVT_ABORTED).tellsWarn = false := by
      split <;> rfl
    dsimp only
    split
    · exact (h.cinc rfl |>.cs rfl |>.cs rfl |>.cs rfl |>.cs rfl |>.cs hevt).updDiag.writeRecord
    · exact (h.cinc rfl |>.cs rfl |>.cs rfl |>.cs rfl |>.cs rfl |>.cs hevt).updDiag

theorem WarnKept.diagMoved {o n} (h : WarnKept s₀ s) : WarnKept s₀ (s.diagMoved c o n) := by
  unfold State.diagMoved
  extract_lets live s1 s2 run
  have h2 : WarnKept s₀ s2 := .ite (.updDiag (.ite h.updDiag h)) (.ite h.updDiag h)
  clear_value s2
  cases n with
  | off => exact h2.updDiag
  | maint => exact h2.diagStop
  | quarantine => exact h2.diagStop
  | training => exact .ite h2.diagStop h2
  | idle => exact .ite h2.diagStop h2
  | up => exact .ite h2.diagStop h2
  | lpi => exact .ite h2.diagStop h2
  | sleep => exact .ite h2.diagStop h2

theorem WarnKept.voteBit {bit b} (h : WarnKept s₀ s) : WarnKept s₀ (s.voteBit c bit b) := h.cs rfl

theorem WarnKept.blkOff {p} (h : WarnKept s₀ s) : WarnKept s₀ (s.blkOff p) := by
  unfold State.blkOff
  exact h.integ.clearFields ⟨rfl, rfl, rfl, rfl⟩ fun _ _ => ⟨rfl, rfl⟩

theorem WarnKept.mmLevel (h : WarnKept s₀ s) : WarnKept s₀ (s.mmLevel c) := h.setLive

theorem WarnKept.dbgPower (h : WarnKept s₀ s) : WarnKept s₀ s.dbgPower := by
  refine .ite h ?_
  extract_lets s1
  have h1 : WarnKept s₀ s1 := h.blkOff.clearFields ⟨rfl, rfl, rfl, rfl⟩ fun _ _ => ⟨rfl, rfl⟩
  clear_value s1
  exact h1.frame rfl rfl rfl rfl rfl

theorem WarnKept.dropNonce (h : WarnKept s₀ s) : WarnKept s₀ s.dropNonce :=
  h.ds rfl |>.clearFields ⟨rfl, rfl, rfl, rfl⟩ fun _ _ => ⟨rfl, rfl⟩
theorem WarnKept.clearToken (h : WarnKept s₀ s) : WarnKept s₀ s.clearToken :=
  h.clearFields ⟨rfl, rfl, rfl, rfl⟩ fun _ _ => ⟨rfl, rfl⟩

theorem WarnKept.closeSession {cause} (h : WarnKept s₀ s) : WarnKept s₀ (s.closeSession cause) := by
  unfold State.closeSession
  extract_lets mask s1 s2 s3 d j s4
  have h1 : WarnKept s₀ s1 := h.ds rfl |>.ds rfl |>.ds rfl |>.ds rfl |>.ds rfl
  have h2 : WarnKept s₀ s2 := h1.ds rfl |>.ds rfl |>.ds rfl
  have h3 : WarnKept s₀ s3 := h2.forCh fun h => h.voteBit
  have h4 : WarnKept s₀ s4 := h3.frame rfl rfl rfl rfl rfl
  exact h4.record rfl

theorem WarnKept.updHeart {g} (h : WarnKept s₀ s) : WarnKept s₀ (s.updHeart g) := h.heart
theorem WarnKept.heartRes {op status reason} (h : WarnKept s₀ s) : WarnKept s₀ (s.heartRes op status reason) :=
  .ite (h.ds rfl |>.ds rfl |>.ds rfl |>.ds rfl |>.ds rfl) (h.ds rfl |>.ds rfl |>.ds rfl |>.ds rfl)
theorem WarnKept.clearStaging (h : WarnKept s₀ s) : WarnKept s₀ s.clearStaging :=
  h.updHeart.clearFields ⟨rfl, rfl, rfl, rfl⟩ fun _ _ => ⟨rfl, rfl⟩
theorem WarnKept.lcStep {lc} (h : WarnKept s₀ s) : WarnKept s₀ (s.lcStep lc) :=
  h.updOtp.ds rfl

theorem WarnKept.lcCut {op} (h : WarnKept s₀ s) : WarnKept s₀ (s.lcCut op) := by
  unfold State.lcCut
  split
  · exact h.fresh.updOtp.lcStep
  · exact h.lcStep
  · exact h

theorem WarnKept.rbCut {cnt v} (h : WarnKept s₀ s) : WarnKept s₀ (s.rbCut cnt v) :=
  .ite (h.fresh.updOtp.ds rfl) h.fresh.updOtp
theorem WarnKept.updPol {g} (h : WarnKept s₀ s) : WarnKept s₀ (s.updPol c g) := h.updCh fun _ => id

theorem WarnKept.polStop (h : WarnKept s₀ s) : WarnKept s₀ (s.polStop c) := by
  unfold State.polStop
  exact h.updPol

theorem WarnKept.updGraft {g} (h : WarnKept s₀ s) : WarnKept s₀ (s.updGraft c g) := h.updCh fun _ => id

theorem WarnKept.endCalCh {status} (h : WarnKept s₀ s) : WarnKept s₀ (s.endCalCh c status) := by
  unfold State.endCalCh
  split
  · exact .ite h.updGraft (.updGraft (.ite (h.cs rfl |>.cs rfl |>.cs rfl) (h.cs rfl |>.cs rfl |>.cs rfl |>.cs rfl)))
  · exact h

theorem WarnKept.swapRecord (h : WarnKept s₀ s) : WarnKept s₀ (s.swapRecord c) := by
  unfold State.swapRecord
  split
  · exact .ite h.updGraft h
  · exact h

theorem WarnKept.swapDefer {supply} (h : WarnKept s₀ s) : WarnKept s₀ (s.swapDefer c supply) := by
  unfold State.swapDefer
  extract_lets s1
  have h1 : WarnKept s₀ s1 := .ite (h.updGraft.cs rfl) h
  clear_value s1
  split
  · exact .ite (h1.updGraft.cs rfl) h1
  · exact h1

theorem WarnKept.swapMoved (h : WarnKept s₀ s) : WarnKept s₀ (s.swapMoved c) :=
  .ite h.updGraft (.ite h.swapRecord h.swapDefer)

theorem WarnKept.setSub {n} (h : WarnKept s₀ s) : WarnKept s₀ (s.setSub c n) := by
  unfold State.setSub
  extract_lets o s1 live s2 s3
  have h1 : WarnKept s₀ s1 := .updCh (h.cs rfl |>.cs rfl) fun _ => id
  have h2 : WarnKept s₀ s2 := .ite (h1.cs rfl) h1
  have h3 : WarnKept s₀ s3 := .swapMoved (.diagMoved (.ite h2.endCalCh h2))
  exact .ite h (.ite (h3.cs rfl |>.cs rfl |>.cs rfl |>.cs rfl) h3)

theorem WarnKept.padLatch (h : WarnKept s₀ s) : WarnKept s₀ (s.padLatch c) := by
  unfold State.padLatch
  exact h.updCh fun _ => id

theorem WarnKept.updSeq {g} (h : WarnKept s₀ s) : WarnKept s₀ (s.updSeq c g) := h.updCh fun _ => id
theorem WarnKept.updLink {g} (h : WarnKept s₀ s) : WarnKept s₀ (s.updLink c g) := h.updCh fun _ => id
theorem WarnKept.updSeg {g} (h : WarnKept s₀ s) : WarnKept s₀ (s.updSeg c g) := h.updCh fun _ => id
theorem WarnKept.updLpi {g} (h : WarnKept s₀ s) : WarnKept s₀ (s.updLpi c g) := h.updCh fun _ => id

theorem WarnKept.seqQHalt (h : WarnKept s₀ s) : WarnKept s₀ (s.seqQHalt c) := by
  unfold State.seqQHalt
  split
  · exact h.updSeq.cs rfl
  · exact h.updSeq.cs rfl
  all_goals exact h

theorem WarnKept.seqStop (h : WarnKept s₀ s) : WarnKept s₀ (s.seqStop c) := h.updSeq
theorem WarnKept.setLpiMask (h : WarnKept s₀ s) : WarnKept s₀ (s.setLpiMask c) := h.cs rfl
theorem WarnKept.endLine (h : WarnKept s₀ s) : WarnKept s₀ (s.endLine c) :=
  have h := h.cs rfl |>.cs rfl |>.cs rfl |>.cs rfl |>.updLpi.setLpiMask.updLink
  .dropLine (.updCh (h.cs rfl |>.cs rfl |>.cs rfl) fun _ => id)
theorem WarnKept.noteLoss {cause} (h : WarnKept s₀ s) : WarnKept s₀ (s.noteLoss c cause) :=
  .ite (h.updDiag.cs rfl |>.cinc rfl |>.cs rfl) (h.updDiag.cs rfl |>.cs rfl |>.cinc rfl |>.cs rfl)
theorem WarnKept.toStop (h : WarnKept s₀ s) : WarnKept s₀ (s.toStop c) := .ite h.polStop.updSeg h.polStop.updLink
theorem WarnKept.forceStop {cause} (h : WarnKept s₀ s) : WarnKept s₀ (s.forceStop c cause) :=
  .toStop (.endLine (by split; exacts [h.noteLoss, h]))

theorem WarnKept.zeroKeys (h : WarnKept s₀ s) : WarnKept s₀ (s.zeroKeys c) := by
  unfold State.zeroKeys
  exact h.updF.clearFields ⟨rfl, rfl, rfl, rfl⟩ fun _ _ => ⟨rfl, rfl⟩

theorem WarnKept.loseE {keepRetain} (h : WarnKept s₀ s) (hc : ¬(s.ch c).on) : WarnKept s₀ (s.loseE c keepRetain) := by
  unfold State.loseE
  extract_lets s1
  have h1 : WarnKept s₀ s1 := h.zeroKeys.clearFields ⟨rfl, rfl, rfl, rfl⟩ fun d hd => by
    have hdc : d ≠ c := fun e => (WarnKept.refl s).zeroKeys.off hc (e ▸ hd)
    simp [hdc]
  exact h1.updCh fun _ => id

theorem WarnKept.loseF (h : WarnKept s₀ s) (hc : ¬(s.ch c).on) : WarnKept s₀ (s.loseF c) := by
  unfold State.loseF
  extract_lets s1
  have h1 : WarnKept s₀ s1 := h.clearFields ⟨rfl, rfl, rfl, rfl⟩ fun d hd => by
    have hdc : d ≠ c := fun e => hc (e ▸ hd)
    simp [hdc]
  exact h1.updCh fun _ => id

theorem WarnKept.cancelDrain (h : WarnKept s₀ s) : WarnKept s₀ (s.cancelDrain c) := by
  unfold State.cancelDrain
  split
  · next hd =>
    have hon : (s.ch c).on := by simp_all [Chan.on]
    exact (h.updCh_on fun _ => hon).issue
  · exact h

theorem WarnKept.voteUp (h : WarnKept s₀ s) : WarnKept s₀ (s.voteUp c) := by
  unfold State.voteUp
  split
  · exact .ite (h.updCh fun _ hx => hx.elim nofun nofun) h
  · exact h.cancelDrain
  all_goals exact h

theorem WarnKept.startLoad {l} (h : WarnKept s₀ s) : WarnKept s₀ (s.startLoad c l) := h.updSeq

theorem WarnKept.feed (h : WarnKept s₀ s) : WarnKept s₀ s.feed := by
  unfold State.feed
  split
  · exact h
  · exact
      have h := h.voteBit.voteUp
      .ite h.startLoad h
  · exact h.heartRes.clearStaging.updHeart

theorem WarnKept.abandonLoad (h : WarnKept s₀ s) : WarnKept s₀ (s.abandonLoad c) :=
  .ite
    h
    (have h := h.updSeq.voteBit.cs rfl
     .ite h.updHeart.feed h)

theorem WarnKept.offBegin (h : WarnKept s₀ s) : WarnKept s₀ (s.offBegin c) := by
  unfold State.offBegin
  extract_lets s1 s2
  have h2 : WarnKept s₀ s2 := h.forceStop.dropAll.answerFlush.setSub.seqStop.zeroKeys.padLatch
  exact h2.updCh fun _ hx => hx.elim nofun nofun

theorem WarnKept.powerOff (h : WarnKept s₀ s) (hc : ¬(s.ch c).on) : WarnKept s₀ (s.powerOff c) := by
  unfold State.powerOff
  extract_lets s1 s2 s3 s4 s5 s6 s7 s8
  have h0 : WarnKept s ((s.resync c).voteBit c 6 false) := (WarnKept.refl s).resync.voteBit
  have h1 : WarnKept s s1 := h0.loseF (h0.off hc)
  have h2 : WarnKept s s2 := (h1.loseE (h1.off hc)).updGraft
  have h4 : WarnKept s s4 := h2.blkOff.foldl fun h => h.setLive
  have h6 : WarnKept s s6 := h4.mmLevel.updCh fun _ hx => hx.elim nofun nofun
  have h8 : WarnKept s s8 := .ite (h6.ds rfl |>.ds rfl) (h6.ds rfl)
  exact h.trans (h8.cs rfl).abandonLoad

theorem WarnKept.offNow (h : WarnKept s₀ s) : WarnKept s₀ (s.offNow c) := by
  unfold State.offNow
  extract_lets s1
  have h1 : WarnKept s₀ s1 := h.offBegin
  have hoff : ¬(s1.ch c).on := State.offBegin_off
  exact .ite (h1.powerOff hoff) h1

theorem WarnKept.startDrain (h : WarnKept s₀ s) (hc : (s.ch c).on) : WarnKept s₀ (s.startDrain c) :=
  (h.updCh_on fun _ => hc).atBoundary

theorem WarnKept.evalVote (h : WarnKept s₀ s) : WarnKept s₀ (s.evalVote c) := by
  refine .ite h.voteUp ?_
  split
  · exact h
  · exact h
  · exact h
  · exact h.updCh fun _ hx => hx.elim nofun nofun
  · next hpst =>
    split
    · exact .ite (h.startDrain (.inl hpst)) h
    · exact h.offNow
    · exact h.offNow
    · exact h.offNow
    · exact h.offNow
    all_goals exact h

theorem WarnKept.voteChanged (h : WarnKept s₀ s) : WarnKept s₀ (s.voteChanged c) :=
  .evalVote (h.updCh fun _ => id)

theorem WarnKept.endSession {cause} (h : WarnKept s₀ s) : WarnKept s₀ (s.endSession cause) := by
  unfold State.endSession
  exact .ite (.dbgPower (h.closeSession.forCh fun h => .ite h.voteChanged h)) h

theorem WarnKept.endHeart (h : WarnKept s₀ s) : WarnKept s₀ s.endHeart := by
  unfold State.endHeart
  refine .updHeart (.ds ?_ rfl)
  split
  · exact h.rbCut
  · exact .ite h.fresh.updOtp h.fresh
  · exact .ite (.ite h.fresh.updOtp.endSession h.fresh.updOtp) h.fresh
  · exact .ite (h.fresh.updOtp.ds rfl).endSession h.fresh
  · exact .ite h.fresh.lcCut.endSession h.fresh
  · exact .ite h.fresh.lcCut.endSession h.fresh
  all_goals exact h

theorem WarnKept.clearKeyHash (h : WarnKept s₀ s) : WarnKept s₀ s.clearKeyHash :=
  h.clearFields ⟨rfl, rfl, rfl, rfl⟩ fun _ _ => ⟨rfl, rfl⟩
theorem WarnKept.clearAnonce (h : WarnKept s₀ s) : WarnKept s₀ s.clearAnonce :=
  h.clearFields ⟨rfl, rfl, rfl, rfl⟩ fun _ _ => ⟨rfl, rfl⟩

theorem WarnKept.clearStaged (h : WarnKept s₀ s) : WarnKept s₀ s.clearStaged := by
  unfold State.clearStaged
  extract_lets s1
  have h1 : WarnKept s₀ s1 := h.clearKeyHash
  clear_value s1
  split
  · exact h1.clearStaging.clearAnonce
  · exact h1.clearStaging.clearAnonce
  · exact h1.clearToken.clearStaging
  · exact .ite h1.clearToken.clearStaging.clearAnonce h1.clearToken.clearAnonce
  all_goals exact h1.clearToken.clearStaging.clearAnonce

theorem WarnKept.resetDebug (h : WarnKept s₀ s) : WarnKept s₀ s.resetDebug := h.endSession.dropNonce.clearStaged.ds rfl

theorem WarnKept.beginReset (h : WarnKept s₀ s) : WarnKept s₀ (s.beginReset c) :=
  have h := h.abandonLoad.resetDebug
  .ite h.voteChanged (h.forceStop.dropAll.answerFlush.resync.padLatch.setSub.seqStop.updCh fun _ => id)

theorem WarnKept.toQuarantine (h : WarnKept s₀ s) : WarnKept s₀ (s.toQuarantine c) := h.forceStop.setSub.seqQHalt
theorem WarnKept.setMode {m} (h : WarnKept s₀ s) : WarnKept s₀ (s.setMode m) := by
  unfold State.setMode
  extract_lets o p s1
  have h1 : WarnKept s₀ s1 := h.frame rfl rfl rfl rfl rfl
  exact .dbgPower (.sysEvtAll (h1.ds rfl |>.ds rfl) nofun)

theorem WarnKept.domainOff (h : WarnKept s₀ s) : WarnKept s₀ (s.domainOff c) := by
  unfold State.domainOff
  split
  · exact h.offNow
  · exact h.offNow
  · exact h.updCh fun _ hx => hx.elim nofun nofun
  all_goals exact h

theorem WarnKept.lockOut (h : WarnKept s₀ s) : WarnKept s₀ s.lockOut := by
  unfold State.lockOut
  extract_lets s1 s2 p s3
  have h2 : WarnKept s₀ s2 := h.endHeart.endSession.forCh fun h => h.domainOff
  clear_value s2
  have h3 : WarnKept s₀ s3 := h2.frame rfl rfl rfl rfl rfl
  exact h3.setMode

theorem WarnKept.endDrvHold (h : WarnKept s₀ s) : WarnKept s₀ (s.endDrvHold c) := .ite (h.updCh fun _ => id) h
theorem WarnKept.relock (h : WarnKept s₀ s) : WarnKept s₀ s.relock :=
  .ite h (.forCh (h.ds rfl |>.ds rfl) fun h => .ite h.endDrvHold h)
theorem WarnKept.leaveL2 (h : WarnKept s₀ s) : WarnKept s₀ s.leaveL2 := h.ds rfl |>.hostActive
theorem WarnKept.reportLoss {addr} (h : WarnKept s₀ s) : WarnKept s₀ (s.reportLoss c addr) :=
  .ite (h.record rfl) (.ite (h.record rfl).lockOut (.ite (h.record rfl).voteBit.cancelDrain.beginReset (h.record rfl)))

theorem WarnKept.quarantine (h : WarnKept s₀ s) : WarnKept s₀ (s.quarantine c) :=
  .ite
    h
    (have h := h.voteBit.cancelDrain.toQuarantine
     .ite h.reportLoss h)

theorem WarnKept.enterSafe (h : WarnKept s₀ s) : WarnKept s₀ s.enterSafe := by
  unfold State.enterSafe
  extract_lets s1 s2 p s3 s4
  have h1 : WarnKept s₀ s1 := .ite h.leaveL2 h
  have h2 : WarnKept s₀ s2 := .ite h1.relock h1
  have h3 : WarnKept s₀ s3 := h2.frame rfl rfl rfl rfl rfl
  have h4 : WarnKept s₀ s4 := h3.forCh fun h => h.quarantine
  clear_value s4
  split
  · exact h4
  all_goals exact h4.setMode.forCh fun h => .ite h.cancelDrain h

theorem WarnKept.react {x cl} (h : WarnKept s₀ s) : WarnKept s₀ (s.react x cl) := by
  unfold State.react
  split
  · split
    · exact h
    · exact h
    all_goals exact h.lockOut
  · cases x with
    | ch c k =>
      have hv := h.voteBit (c := c) (bit := 7) (b := true) |>.cancelDrain (c := c)
      refine .ite h (.ite ?_ h.quarantine)
      dsimp only
      split
      · exact .ite hv.reportLoss hv.reportLoss.beginReset
      · exact .ite hv hv.beginReset
    | dev i =>
      dsimp only
      split
      · exact h.enterSafe
      · exact h.enterSafe
      · exact h.enterSafe
      · exact h.enterSafe
      all_goals exact h
  · exact h

/-- An assertion of a source, once it is counted. -/
theorem WarnKept.assertSrc_of_countSrc {x kind addr} (h : WarnKept s₀ (s.countSrc x kind)) :
    WarnKept s₀ (s.assertSrc x kind addr) := .ite h.record_of_countSrc h.record_of_countSrc.react

theorem WarnKept.assertSrc {x kind addr} (h : WarnKept s₀ s) (hx : x.tellsWarn = false) :
    WarnKept s₀ (s.assertSrc x kind addr) := .assertSrc_of_countSrc (h.countSrc hx)

/-! Deferred swaps (R322) -/

theorem WarnKept.swapDue {pool elem reason} (h : WarnKept s₀ s) : WarnKept s₀ (s.swapDue c pool elem reason) := by
  unfold State.swapDue
  split
  · exact .ite ((h.cs rfl).updGraft.assertSrc rfl) (h.cs rfl).updGraft
  · exact .ite h.updGraft.swapRecord (h.updGraft.cs rfl)

theorem WarnKept.trigger (h : WarnKept s₀ s) (n : Nat) : WarnKept s₀ (s.trigger c n) := by
  induction n generalizing s with
  | zero => exact h
  | succ n ih =>
    unfold State.trigger
    dsimp only
    split
    · exact h
    · split
      · exact .ite (ih h.swapDue) h
      · split
        · exact h
        · exact .ite (ih (h.cs rfl).swapDue) (h.cs rfl).updGraft

theorem WarnKept.swapRetry (h : WarnKept s₀ s) : WarnKept s₀ s.swapRetry :=
  h.forCh fun h => h.updGraft.swapRecord.trigger _

/-! What the warning cuts (R290, R354, R355) -/

theorem WarnKept.heartEnd {op : HeartOp} {st reason} (h : WarnKept s₀ s) :
    WarnKept s₀ ((s.heartRes op.code st reason).updHeart HeartSt.done) := h.heartRes.updHeart

theorem WarnKept.heartWarn (h : WarnKept s₀ s) : WarnKept s₀ s.heartWarn := by
  unfold State.heartWarn
  extract_lets stop
  have hstop : ∀ {x : State} {op : HeartOp} {st : Nat}, WarnKept s₀ x → WarnKept s₀ (stop x op st) := fun h => h.heartEnd
  clear_value stop
  split
  · exact hstop h.rbCut
  · exact .ite (hstop h.fresh) h.fresh
  · exact .ite (hstop h.fresh).clearStaging h.fresh
  · exact .ite (hstop h.fresh) h.fresh
  · exact .ite (hstop h.fresh) (hstop h.fresh.lcCut.fresh).endSession
  · exact .ite (hstop h.fresh) (hstop h.fresh.lcCut.fresh).endSession
  all_goals exact h

theorem WarnKept.endCalDev {status precond} (h : WarnKept s₀ s) : WarnKept s₀ (s.endCalDev status precond) :=
  have h := h.ds (f := .CAL_RES_STATUS) (v := status) rfl |>.ds (f := .CAL_RES_PRECOND) (v := precond) rfl |>.ds
    (f := .CAL_EVT_DONE) (v := 1) rfl
  .ite h (h.ds rfl)

/-- Every calibration ends and every swap before its commit point waits; beside them the warning stays as it is. -/
theorem State.supplyAbort_frame (s : State) : ∃ k : CalSt, k.run = none ∧ WarnKept { s with cal := k } s.supplyAbort := by
  have hcal : ∃ k : CalSt, k.run = none ∧ WarnKept { s with cal := k } (s.stopCalDev 2) := by
    unfold State.stopCalDev
    split
    · exact ⟨{ s.cal with run := none }, rfl, (WarnKept.refl _).endCalDev⟩
    · next h => exact ⟨s.cal, by simpa using h, .refl s⟩
  obtain ⟨k, hk, h⟩ := hcal
  exact ⟨k, hk, h.forCh fun h => h.endCalCh.swapDefer⟩

end

/-! ### A warning starts (R289, R290) -/

section
variable {s : State} {rail : Fin 6} {mv : Nat}

/-- The dip record as a warning starts. -/
def State.dipStart (s : State) (rail : Fin 6) (mv : Nat) : Dip :=
  match s.power.dip with
  | some d => { s.dipMin d rail mv with hold := false }
  | none => ⟨rail, mv, s.now, false⟩

theorem State.dipStart_of_none (h : s.power.dip = none) : s.dipStart rail mv = ⟨rail, mv, s.now, false⟩ := by
  rw [State.dipStart, h]

/-- The warning is listed, and its dip recorded and counted. -/
def State.listWarn (s : State) (rail : Fin 6) (mv : Nat) : State :=
  let s := s.updPower fun p => { p with warn := rail.val :: p.warn, dip := some (s.dipStart rail mv) }
  if rail.val ≤ 1 then s.dinc .TAP_DIPCNT_COUNT else s

/-- The warning is reported at Canopy. -/
def State.reportWarn (s : State) (rail : Fin 6) (mv : Nat) : State :=
  ((s.ds .PWR_EVT_DIP_START 1).setLive (.dev 0) true).assertSrc (.dev 0) rail mv

/-- The SUPPLY freeze mask of every powered channel. -/
def State.supplyMask (s : State) (v : Nat) : State :=
  s.forCh fun s c => if s.powered c then s.cs c .DSP_FRZHW_SUPPLY v else s

theorem belowLevel_of_lt {level mv : Nat} (h : mv * 10 < level) : belowLevel level mv = true := decide_eq_true (by omega)

theorem State.servicesUp_listWarn : (s.listWarn rail mv).servicesUp = s.servicesUp := by
  unfold State.listWarn
  dsimp only
  split <;> rfl

theorem exec_supplyWarnStart_eq (hm : s.monitored rail = true) (hw : s.power.warn.contains rail.val = false)
    (hl : mv * 10 < s.warnLevel rail) : exec (.supplyWarnStart rail mv) s = .next (
      if s.servicesUp then ((((s.listWarn rail mv).reportWarn rail mv).supplyMask 0x6F).sysEvtAll 0).supplyAbort.heartWarn
      else s.listWarn rail mv) := by
  change execSupplyWarnStart rail mv s = _
  rw [execSupplyWarnStart, if_neg (by rw [hm, hw, belowLevel_of_lt hl]; decide), ← State.servicesUp_listWarn (mv := mv)]
  change (if !(s.listWarn rail mv).servicesUp then ok (s.listWarn rail mv) else
    ok ((((s.listWarn rail mv).reportWarn rail mv).supplyMask 0x6F).sysEvtAll 0).supplyAbort.heartWarn) = _
  cases (s.listWarn rail mv).servicesUp
  · rfl
  · rw [if_neg (by decide), if_pos rfl]
    rfl

theorem State.listWarn_frame (s : State) (rail : Fin 6) (mv : Nat) :
    (s.listWarn rail mv).power.warn = rail.val :: s.power.warn ∧
      (s.listWarn rail mv).power.dip = some (s.dipStart rail mv) ∧ (s.listWarn rail mv).chans = s.chans ∧
      (rail.val ≤ 1 → (s.listWarn rail mv).dg .TAP_DIPCNT_COUNT =
        (s.dg .TAP_DIPCNT_COUNT + 1) % 2 ^ (DFld.info .TAP_DIPCNT_COUNT).wid) := by
  unfold State.listWarn
  dsimp only
  split
  · exact ⟨rfl, rfl, rfl, fun _ => by simp [State.dinc]⟩
  · next h => exact ⟨rfl, rfl, rfl, fun hr => absurd hr h⟩

/-- The report leaves the list, the record and the count, with its event, its source and its source's level set. -/
theorem State.reportWarn_frame (s : State) (rail : Fin 6) (mv : Nat) :
    (s.reportWarn rail mv).power.warn = s.power.warn ∧ (s.reportWarn rail mv).power.dip = s.power.dip ∧
      (s.reportWarn rail mv).dg .PWR_EVT_DIP_START = 1 ∧
      (s.reportWarn rail mv).dg .TAP_DIPCNT_COUNT = s.dg .TAP_DIPCNT_COUNT ∧
      (s.reportWarn rail mv).live (.dev 0) = true ∧ (s.reportWarn rail mv).dg (.FC_SRC_STICKY 0) = 1 := by
  have hw : (DFld.info .PWR_EVT_DIP_START).wid = 1 := rfl
  unfold State.reportWarn
  generalize hx : s.ds .PWR_EVT_DIP_START 1 = x
  have hk : WarnKept ((x.setLive (.dev 0) true).countSrc (.dev 0) rail) ((x.setLive (.dev 0) true).assertSrc (.dev 0) rail
    mv) := .assertSrc_of_countSrc (.refl _)
  have hd : DevOnly (·.ofSrc 0) x ((x.setLive (.dev 0) true).countSrc (.dev 0) rail) :=
    State.setLive_dev.trans State.countSrc_dev
  have hpow : x.power = s.power := by rw [← hx]; rfl
  refine ⟨?_, ?_, ?_, ?_, ?_, ?_⟩
  · rw [hk.warn, hd.power, hpow]
  · rw [hk.dip, hd.power, hpow]
  · rw [hk.dev _ rfl, hd.dg _ id, ← hx]
    simp [hw]
  · rw [hk.dev _ rfl, hd.dg _ id, ← hx]
    simp
  · calc (State.assertSrc _ (.dev 0) rail mv).live (.dev 0)
      _ = ((x.setLive (.dev 0) true).countSrc (.dev 0) rail).live (.dev 0) := by
        simp only [State.live, hk.dev (.FC_LIVE_BITS (0 / 32)) rfl]
      _ = (x.setLive (.dev 0) true).live (.dev 0) := State.live_countSrc_dev
      _ = true := State.live_setLive_dev
  · exact (hk.dev (.FC_SRC_STICKY 0) rfl).trans State.dg_sticky_countSrc_dev

theorem State.supplyMask_frame (s : State) (v : Nat) : (s.supplyMask v).power = s.power ∧
    (s.supplyMask v).chans = s.chans ∧ ∀ f, (s.supplyMask v).dg f = s.dg f := by
  refine State.forCh_inv (fun t => t.power = s.power ∧ t.chans = s.chans ∧ ∀ f, t.dg f = s.dg f) s _
    ⟨rfl, rfl, fun _ => rfl⟩ fun x c hx => ?_
  split
  · simpa using hx
  · exact hx

theorem State.cg_supplyMask (s : State) (v : Nat) {c : Ch} (hc : s.powered c = true) :
    (s.supplyMask v).cg c .DSP_FRZHW_SUPPLY = v % 256 := by
  have hw : (CFld.info .DSP_FRZHW_SUPPLY).wid = 8 := rfl
  have hpow : ∀ (x : State) (d e : Ch), (if x.powered d then x.cs d .DSP_FRZHW_SUPPLY v else x).powered e = x.powered e :=
    fun x d e => by split <;> rfl
  refine State.forCh_forall (P := fun c t => t.powered c = true → t.cg c .DSP_FRZHW_SUPPLY = v % 256) (fun x c hon => ?_)
    (fun x d c hx hon => ?_) s c ((State.powered_of_chans (s.supplyMask_frame v).2.1 c).trans hc)
  · rw [if_pos ((hpow x c c).symm.trans hon), State.cg_cs, if_pos ⟨rfl, rfl⟩, hw]
    rfl
  · have hd := hx ((hpow x d c).symm.trans hon)
    split
    · rw [State.cg_cs]
      split
      · rw [hw]
        rfl
      · exact hd
    · exact hd

theorem testBit_foldl_or (l : List Nat) (m k : Nat) :
    (l.foldl (fun m r => m ||| 2 ^ r) m).testBit k = (m.testBit k || decide (k ∈ l)) := by
  induction l generalizing m with
  | nil => simp
  | cons r l ih =>
    rw [List.foldl_cons, ih, Nat.testBit_or, Nat.testBit_two_pow]
    rcases eq_or_ne k r with rfl | h
    · simp
    · simp [h, h.symm]

/-- A listed rail shows in PWR_SUPSTAT. -/
theorem State.supstat_warn (h : rail.val ∈ s.power.warn) : (s.dval .PWR_SUPSTAT_WARN).testBit rail.val = true := by
  have hval : s.dval .PWR_SUPSTAT_WARN = s.power.warn.foldl (fun m r => m ||| 2 ^ r) 0 % 2 ^ 6 := rfl
  rw [hval, Nat.testBit_mod_two_pow, testBit_foldl_or]
  simp [h]

theorem State.cg_sysEvtAll_supply (s : State) (bit : Nat) (c : Ch) :
    (s.sysEvtAll bit).cg c .DSP_FRZHW_SUPPLY = s.cg c .DSP_FRZHW_SUPPLY := by
  refine State.forCh_inv (fun t => t.cg c .DSP_FRZHW_SUPPLY = s.cg c .DSP_FRZHW_SUPPLY) s _ rfl fun x d hx => ?_
  unfold State.sysEvt
  split
  · split <;> simpa using hx
  · exact hx

theorem exec_supplyWarnStart_up (hm : s.monitored rail = true) (hw : s.power.warn.contains rail.val = false)
    (hl : mv * 10 < s.warnLevel rail) (hup : s.servicesUp = true) :
    ∃ t, exec (.supplyWarnStart rail mv) s = .next t ∧ t.power.warn = rail.val :: s.power.warn ∧
      t.power.dip = some (s.dipStart rail mv) ∧ t.dg .PWR_EVT_DIP_START = 1 ∧
      (rail.val ≤ 1 → t.dg .TAP_DIPCNT_COUNT = (s.dg .TAP_DIPCNT_COUNT + 1) % 2 ^ (DFld.info .TAP_DIPCNT_COUNT).wid) ∧
      t.live (.dev 0) = true ∧ t.dg (.FC_SRC_STICKY 0) = 1 ∧ t.cal.run = none ∧
      ∀ c, t.powered c = true → t.cg c .DSP_FRZHW_SUPPLY = 0x6F ∧ t.cg c .SEQ_SYSEVT_SUPPLY_WARN = 1 := by
  rw [exec_supplyWarnStart_eq hm hw hl, if_pos hup]
  obtain ⟨hwarn, hdip, -, hcount⟩ := s.listWarn_frame rail mv
  obtain ⟨hwarn', hdip', hstart, hcount', hlive, hsticky⟩ := (s.listWarn rail mv).reportWarn_frame rail mv
  generalize (s.listWarn rail mv).reportWarn rail mv = x at hwarn' hdip' hstart hcount' hlive hsticky ⊢
  obtain ⟨hpow, hch, hdg⟩ := x.supplyMask_frame 0x6F
  obtain ⟨hpow', hch', -, hdg'⟩ := State.sysEvtAll_frame (s := x.supplyMask 0x6F) (bit := 0)
  have hmask : ∀ c, x.powered c = true → ((x.supplyMask 0x6F).sysEvtAll 0).cg c .DSP_FRZHW_SUPPLY = 0x6F := fun c hc =>
    ((x.supplyMask 0x6F).cg_sysEvtAll_supply 0 c).trans (x.cg_supplyMask 0x6F hc)
  have hevt : ∀ c, x.powered c = true → ((x.supplyMask 0x6F).sysEvtAll 0).cg c .SEQ_SYSEVT_SUPPLY_WARN = 1 := fun c hc =>
    State.sysEvtAll_sets (fun y d hd => by rw [State.sysEvt, if_pos hd]) rfl ((State.powered_of_chans hch c).trans hc)
  have hchans := hch'.trans hch
  have hpower := hpow'.trans hpow
  generalize (x.supplyMask 0x6F).sysEvtAll 0 = y at hpower hchans hdg' hmask hevt ⊢
  obtain ⟨k, hk, hkept⟩ := y.supplyAbort_frame
  have hfin := hkept.heartWarn
  have hy : ∀ f, f.tellsWarn = true → y.supplyAbort.heartWarn.dg f = x.dg f := fun f hf =>
    (hfin.dev f hf).trans ((hdg' f).trans (hdg f))
  refine ⟨_, rfl, ?_, ?_, (hy _ rfl).trans hstart, fun hr => (hy _ rfl).trans (hcount'.trans (hcount hr)), ?_,
    (hy _ rfl).trans hsticky, by rw [hfin.cal]; exact hk, fun c hc => ?_⟩
  · rw [hfin.warn]
    exact (congrArg PowerSt.warn hpower).trans (hwarn'.trans hwarn)
  · rw [hfin.dip]
    exact (congrArg PowerSt.dip hpower).trans (hdip'.trans hdip)
  · rw [← hlive]
    simp only [State.live, hy (.FC_LIVE_BITS (0 / 32)) rfl]
  · have hon := State.powered_iff.mp hc
    have hx : x.powered c = true := (State.powered_of_chans hchans c).symm.trans (State.powered_iff.mpr (hfin.on c hon))
    exact ⟨((hfin.ch c _ rfl).resolve_right fun h => h.1 hon).trans (hmask c hx),
      ((hfin.ch c _ rfl).resolve_right fun h => h.1 hon).trans (hevt c hx)⟩

end

/-! ### A warning ends, and its hold (R290) -/

section
variable {s : State} {rail : Fin 6} {mv : Nat}

/-- The last warning ends: the hold of its record starts, and the record is written. -/
def State.dipHeld (s : State) (d : Dip) : State :=
  (s.updPower fun p => { p with warn := [], dip := some { d with hold := true } }).writeDip d

theorem State.dipHeld_frame (s : State) (d : Dip) :
    (s.dipHeld d).power = { s.power with warn := [], dip := some { d with hold := true } } ∧
      (s.dipHeld d).chans = s.chans ∧ (s.dipHeld d).dg .TAP_DIPDUR_US = min ((s.now - d.start) / 25) (2 ^ 32 - 1) ∧
      (s.dipHeld d).dg .TAP_DIPLOG_RAIL = d.rail % 2 ^ (DFld.info .TAP_DIPLOG_RAIL).wid := by
  have hw : (DFld.info .TAP_DIPDUR_US).wid = 32 := rfl
  refine ⟨rfl, rfl, ?_, by simp [State.dipHeld, State.writeDip]⟩
  have hnow : (s.updPower fun p => { p with warn := [], dip := some { d with hold := true } }).now = s.now := rfl
  rw [State.dipHeld, State.writeDip, State.dg_ds, if_pos rfl, hw, hnow]
  exact Nat.mod_eq_of_lt ((Nat.min_le_right _ _).trans_lt (by decide))

theorem State.dipMin_start (s : State) (d : Dip) (rail mv : Nat) : (s.dipMin d rail mv).start = d.start := by
  unfold State.dipMin
  split <;> rfl

theorem exec_supplyWarnEnd_eq {d : Dip} (hw : s.power.warn = [rail.val]) (hd : s.power.dip = some d) :
    exec (.supplyWarnEnd rail mv) s = .next (
      if s.servicesUp then (((s.dipHeld (s.dipMin d rail mv)).ds .PWR_EVT_DIP_END 1).fallLevel (.dev 0)).sysEvtAll 1
      else s.dipHeld (s.dipMin d rail mv)) := by
  have hempty : s.power.warn.filter (· ≠ rail.val) = [] := by simp [hw]
  change execSupplyWarnEnd rail mv s = _
  rw [execSupplyWarnEnd, if_neg (by simp [hw])]
  dsimp only [State.updPower]
  rw [hd, hempty]
  change (if s.servicesUp = true then _ else _) = _
  split <;> rfl

theorem exec_supplyWarnEnd_last {d : Dip} (hw : s.power.warn = [rail.val]) (hd : s.power.dip = some d) :
    ∃ t, exec (.supplyWarnEnd rail mv) s = .next t ∧ t.power.warn = [] ∧
      t.power.dip = some { s.dipMin d rail mv with hold := true } ∧
      t.dg .TAP_DIPDUR_US = min ((s.now - d.start) / 25) (2 ^ 32 - 1) ∧
      t.dg .TAP_DIPLOG_RAIL = (s.dipMin d rail mv).rail % 2 ^ (DFld.info .TAP_DIPLOG_RAIL).wid ∧
      (s.servicesUp = true → t.dg .PWR_EVT_DIP_END = 1 ∧
        ∀ c, s.powered c = true → t.cg c .SEQ_SYSEVT_SUPPLY_OK = 1) := by
  rw [exec_supplyWarnEnd_eq hw hd, ← s.dipMin_start d rail mv]
  obtain ⟨hpow, hch, hdur, hrail⟩ := s.dipHeld_frame (s.dipMin d rail mv)
  generalize s.dipHeld (s.dipMin d rail mv) = x at hpow hch hdur hrail ⊢
  split
  case isFalse hup => exact ⟨x, rfl, by rw [hpow], by rw [hpow], hdur, hrail, fun h => absurd h hup⟩
  case isTrue =>
    have hw1 : (DFld.info .PWR_EVT_DIP_END).wid = 1 := rfl
    have hf : DevOnly (·.ofSrc 0) (x.ds .PWR_EVT_DIP_END 1) ((x.ds .PWR_EVT_DIP_END 1).fallLevel (.dev 0)) := State.setLive_dev
    generalize (x.ds .PWR_EVT_DIP_END 1).fallLevel (.dev 0) = y at hf ⊢
    obtain ⟨hpow', hch', -, hdg'⟩ := State.sysEvtAll_frame (s := y) (bit := 1)
    have hpower : (y.sysEvtAll 1).power = x.power := hpow'.trans hf.power
    refine ⟨_, rfl, by rw [hpower, hpow], by rw [hpower, hpow], ?_, ?_, fun _ => ⟨?_, fun c hc => ?_⟩⟩
    · rw [hdg', hf.dg _ id, ← hdur]
      simp
    · rw [hdg', hf.dg _ id, ← hrail]
      simp
    · rw [hdg', hf.dg _ id]
      simp [hw1]
    · exact State.sysEvtAll_sets (fun z d hd => by rw [State.sysEvt, if_pos hd]) rfl
        ((State.powered_of_chans (hf.chans.trans hch) c).trans hc)

theorem exec_dipholdExpire_held {d : Dip} (hd : s.power.dip = some d) (hh : d.hold = true) :
    ∃ t, exec .dipholdExpire s = .next t ∧ t.power.dip = none ∧
      ∀ c, s.powered c = true → t.cg c .DSP_FRZHW_SUPPLY = 0 := by
  have hexec : exec .dipholdExpire s =
      .next ((s.updPower fun p => { p with dip := none }).supplyMask 0).swapRetry := by
    change execDipholdExpire s = _
    rw [execDipholdExpire, hd]
    dsimp only
    rw [if_pos hh]
    rfl
  have hk := (WarnKept.refl ((s.updPower fun p => { p with dip := none }).supplyMask 0)).swapRetry
  obtain ⟨hpow, -, -⟩ := (s.updPower fun p => { p with dip := none }).supplyMask_frame 0
  refine ⟨_, hexec, ?_, fun c hc => ?_⟩
  · rw [hk.dip, hpow]
    rfl
  · have h0 := (s.updPower fun p => { p with dip := none }).cg_supplyMask 0 (c := c) hc
    rcases hk.ch c .DSP_FRZHW_SUPPLY rfl with h | ⟨-, h⟩
    · exact h.trans h0
    · exact h

end

/-- Settles O14: what the reactions and the aborted swaps leave of a warning is `WarnKept`; before them, and where a
warning or its hold ends, each step of the command says what it writes. -/
theorem supplyWarningsAreRecordedAndReported : Obligations.SupplyWarningsAreRecordedAndReported := by
  unfold Obligations.SupplyWarningsAreRecordedAndReported
  intro s
  refine ⟨fun rail mv hm hw hl => ⟨fun hdown => ?_, fun hup => ?_⟩, fun rail mv d hw hd => exec_supplyWarnEnd_last hw hd,
    fun d hd hh => exec_dipholdExpire_held hd hh⟩
  · obtain ⟨hwarn, hdip, hch, hcount⟩ := s.listWarn_frame rail mv
    exact ⟨_, (exec_supplyWarnStart_eq hm hw hl).trans (by rw [hdown]; rfl), hwarn,
      fun h => hdip.trans (congrArg some (State.dipStart_of_none h)), hch, hcount⟩
  · obtain ⟨t, hexec, hwarn, hdip, hstart, hcount, hlive, hsticky, hcal, hmask⟩ := exec_supplyWarnStart_up hm hw hl hup
    exact ⟨t, hexec, hwarn, fun h => hdip.trans (congrArg some (State.dipStart_of_none h)),
      State.supstat_warn (hwarn ▸ List.mem_cons_self), hstart, hcount, hlive, hsticky, hcal, hmask⟩

end Sys2Proof.Machine
end

section
namespace Sys2Proof.Machine

/-! ### Port accesses of a program -/

/-- A stall is a free value of six bits. -/
theorem State.stall_lt (s : State) : s.stall.1 < 64 := Nat.mod_lt _ (by decide)

theorem State.trace_of_not_tracing {s : State} (h : s.dbgr.tracing = false) (c : Ch) (kind pc : Nat) :
    s.trace c kind pc = s := by
  simp [State.trace, h]

theorem State.updSeq_self (s : State) (c : Ch) : (s.updSeq c fun q => q) = s := by
  change { s with chans := s.chans.set c.val s.chans[c.val] } = s
  rw [Vector.set_getElem_self]

/-- A write of a general register is one update of the sequencer, s0 included. -/
theorem State.setSReg_eq_updSeq (s : State) (c : Ch) (d : Fin 16) (v : Word) :
    s.setSReg c d v = s.updSeq c fun q => q.put d v := by
  unfold State.setSReg SeqSt.put
  split
  · exact (s.updSeq_self c).symm
  · rfl

theorem State.sReg_setSReg (s : State) (c : Ch) {d : Fin 16} (hd : d ≠ 0) (v : Word) : (s.setSReg c d v).sReg c d = v := by
  simp [State.setSReg, State.sReg, hd]

theorem State.sReg_seqCycles (s : State) (c : Ch) (n : Nat) (d : Ch) (r : Fin 16) :
    (s.seqCycles c n).sReg d r = s.sReg d r := by
  simp [State.sReg]

theorem State.sReg_advance (s : State) (c : Ch) (pc : Nat) (r : Fin 16) : (s.advance c pc).sReg c r = s.sReg c r := by
  unfold State.advance
  split
  · simp [State.sReg]
  · rfl

/-- An instruction's completion changes no general register. -/
theorem State.sReg_finish_next (s t : State) (c : Ch) (w : Word) (n : Nat) (r : Fin 16) :
    (s.finish c w false (.next t n)).sReg c r = t.sReg c r :=
  (State.sReg_advance _ c _ r).trans (t.sReg_seqCycles c n c r)

/-! #### What a port answers (R164, R165, R168, R190, R197) -/

theorem State.portRead_devstat (s : State) (c : Ch) (i : Nat) :
    s.portRead c 20 i = (if 16384 ≤ i then 0 else s.devStat i, s) := by
  unfold State.portRead
  split <;> rfl

/-- HOSTEV maps no block and reads 0. -/
theorem State.portRead_hostev (s : State) (c : Ch) (i : Nat) : s.portRead c 18 i = (0, s) := by
  unfold State.portRead
  split <;> rfl

theorem State.pwrCause_unassigned (s : State) (c : Ch) {p : Nat} (i : Nat) (h : 21 ≤ p) : s.pwrCause c p i = 2 :=
  if_pos h

theorem State.pwrCause_no_cap (s : State) (c : Ch) {p : Nat} (i : Nat) (h0 : p ≠ 0) (hp : p < 21)
    (hc : s.cap c p = false) : s.pwrCause c p i = 3 := by
  simp [State.pwrCause, h0, hc, Nat.not_le.mpr hp]

/-- Ports 14 and 16 to 20 own no register for writing. -/
theorem ownsFor_readonly (c : Ch) {p : Nat} (o : Nat) (h : p = 14 ∨ 16 ≤ p) (hp : p < 21) : ownsFor c p o = false := by
  obtain rfl | rfl | rfl | rfl | rfl | rfl : p = 14 ∨ p = 16 ∨ p = 17 ∨ p = 18 ∨ p = 19 ∨ p = 20 := by omega
  all_goals rfl

theorem State.pwrCause_readonly (s : State) (c : Ch) {p : Nat} (i : Nat) (h : p = 14 ∨ 16 ≤ p) (hp : p < 21)
    (hc : s.cap c p = true) : s.pwrCause c p i = 4 := by
  have hblk : portBlk c p = none → 18 ≤ p := by
    intro hn
    by_contra hlt
    obtain rfl | rfl | rfl : p = 14 ∨ p = 16 ∨ p = 17 := by omega
    all_goals cases hn
  unfold State.pwrCause
  rw [if_neg (by omega), if_neg (by simp [hc])]
  split
  case h_1 hn => exact if_pos (hblk hn)
  case h_2 => simp [ownsFor_readonly c _ h hp]

/-- Of a custom program every write comes about. -/
theorem State.portMakes_of_custom {s : State} {c : Ch} (h : s.romRuns c = none) (b : CBlk) (i v : Nat) :
    s.portMakes c b i v = s.portWrite c b i v := by
  unfold State.portMakes
  split
  case isTrue hgate => simp only [State.portWrite, Bool.not_eq_true'] at hgate ⊢; simp [hgate]
  case isFalse =>
    dsimp only
    split
    · simp [State.progMakes, State.progMade, h]
    · rfl

/-! #### The two instructions -/

theorem exec_prd_unassigned {s : State} {c : Ch} {w : Word} (h : s.issues c .prd w) (hp : 21 ≤ fPort w) :
    exec (.prd c) s = .next (s.seqTrap c 2 (s.ch c).seq.pc w.toNat true) := by
  change s.issueMn c .prd (insPrd c) = _
  rw [State.issueMn_issues h, insPrd, if_pos hp]
  rfl

/-- A prd of an assigned port completes with what the port returned in sd, after its stall. -/
theorem exec_prd_assigned {s : State} {c : Ch} {w : Word} (h : s.issues c .prd w) (hp : fPort w < 21) :
    exec (.prd c) s = .next (s.finish c w false (.next
      ((s.portRead c (fPort w) (fIndex w)).2.stall.2.setSReg c (fD w)
        (BitVec.ofNat 32 (s.portRead c (fPort w) (fIndex w)).1))
      (2 + (s.portRead c (fPort w) (fIndex w)).2.stall.1))) := by
  change s.issueMn c .prd (insPrd c) = _
  rw [State.issueMn_issues h, insPrd, if_neg (Nat.not_le.mpr hp)]

/-- A prd whose port changes nothing completes in place, with `v` in sd. -/
theorem exec_prd_seqDone {s : State} {c : Ch} {w : Word} {v : Nat} (h : s.issues c .prd w) (hp : fPort w < 21)
    (hread : s.portRead c (fPort w) (fIndex w) = (v, s)) :
    ∃ t k, exec (.prd c) s = .next t ∧ k < 64 ∧
      State.seqDone { s with free := s.free + 1 } t c (2 + k) ((s.ch c).seq.put (fD w) (BitVec.ofNat 32 v)) := by
  refine ⟨_, s.stall.1, exec_prd_assigned h hp, s.stall_lt, ?_⟩
  have hput : ((s.ch c).seq.put (fD w) (BitVec.ofNat 32 v)).st = (s.ch c).seq.st ∧
      ((s.ch c).seq.put (fD w) (BitVec.ofNat 32 v)).pc = (s.ch c).seq.pc := by
    unfold SeqSt.put
    split <;> exact ⟨rfl, rfl⟩
  obtain ⟨hst, hpc⟩ := hput
  rw [hread, State.setSReg_eq_updSeq]
  exact State.seqDone_of { s with free := s.free + 1 } c _ _ (fun q => q.put (fD w) (BitVec.ofNat 32 v)) rfl
    (hst.trans h.running) hpc w

theorem exec_pwr_trap {s : State} {c : Ch} {w : Word} (h : s.issues c .pwr w)
    (hc : s.pwrCause c (fPort w) (fIndex w) ≠ 0) :
    exec (.pwr c) s = .next (s.seqTrap c (s.pwrCause c (fPort w) (fIndex w)) (s.ch c).seq.pc w.toNat true) := by
  change s.issueMn c .pwr (insPwr c) = _
  simp only [State.issueMn_issues h, insPwr, if_pos hc]
  rfl

/-- A pwr that passes its checks, in a channel that is not traced, lands after its stall where the program makes it. -/
theorem exec_pwr_lands {s : State} {c : Ch} {w : Word} {b : CBlk} (h : s.issues c .pwr w)
    (hc : s.pwrCause c (fPort w) (fIndex w) = 0) (hb : portBlk c (fPort w) = some b) (ht : s.dbgr.tracing = false) :
    exec (.pwr c) s = .next (s.finish c w false (.next
      ({ s with free := s.free + 1 }.portMakes c b (fIndex w) (s.sReg c (fD w)).toNat) (2 + s.stall.1))) := by
  change s.issueMn c .pwr (insPwr c) = _
  simp only [State.issueMn_issues h, insPwr, hc, hb, State.trace_of_not_tracing ht]
  rfl

/-- Settles O35: a prd is `exec_prd_assigned` with what its port returns, and a pwr lands as `State.portMakes` says, which
for a custom program is `State.portWrite`. -/
theorem portAccessesOfAProgram : Obligations.PortAccessesOfAProgram := by
  intro s c w
  refine ⟨exec_prd_unassigned, fun h hp hd => ?_, fun h hp => ?_, fun h hp => ?_, exec_pwr_trap,
    fun b h hc hb ht => ⟨s.stall.1, s.stall_lt, fun hcustom => ?_, fun _ => exec_pwr_lands h hc hb ht⟩,
    s.pwrCause_unassigned c _, s.pwrCause_no_cap c _, s.pwrCause_readonly c _⟩
  · exact ⟨_, exec_prd_assigned h hp, (State.sReg_finish_next ..).trans (State.sReg_setSReg _ c hd _)⟩
  · exact exec_prd_seqDone h (by omega) (hp ▸ s.portRead_devstat c (fIndex w))
  · exact exec_prd_seqDone h (by omega) (hp ▸ s.portRead_hostev c (fIndex w))
  · have hcustom' : { s with free := s.free + 1 }.romRuns c = none := hcustom
    rw [exec_pwr_lands h hc hb ht, State.portMakes_of_custom hcustom']

end Sys2Proof.Machine
end

section
namespace Sys2Proof.Machine

section
variable {s₀ s x t : State} {c : Ch}

/-! ### The segment state after a change, and the turn of an opportunity (R115, R125) -/

theorem SegSt.drop_copies (g : SegSt) : ∃ a b, g.drop = { g with llPma := a, llPcs := b } := by
  unfold SegSt.drop
  split
  · exact ⟨_, _, rfl⟩
  · exact ⟨_, _, rfl⟩

/-- A change of the segment state shows in it, but for the latching-low copies (R380). -/
theorem State.ch_updSeg_copies (s : State) (c : Ch) (g : SegSt → SegSt) :
    ∃ a b, (s.updSeg c g).ch c = { s.ch c with seg := { g (s.ch c).seg with llPma := a, llPcs := b } } := by
  obtain ⟨a, b, h⟩ := (g (s.ch c).seg).drop_copies
  exact ⟨a, b, by rw [State.ch_updSeg, if_pos rfl, h]⟩

/-- The fields that the end of an opportunity and of a cycle may write. -/
def CFld.byTurn : CFld → Bool
  | .SEG_PLCASTAT_LAST_CYCLE | .SEG_PLCASTAT_CUR_TO | .SEG_BCNTX_COUNT => true
  | _ => false

/-- From `g` to `h` no more than the cycle, the opportunity that runs and the latching-low copies change. -/
def SegSt.Turned (g h : SegSt) : Prop :=
  ∃ cycle burst commit toT0 a b,
    h = { g with cycle := cycle, burst := burst, commit := commit, toT0 := toT0, llPma := a, llPcs := b }

theorem SegSt.Turned.refl (g : SegSt) : g.Turned g := ⟨_, _, _, _, _, _, rfl⟩

theorem SegSt.Turned.trans {g h k : SegSt} (hg : g.Turned h) (hk : h.Turned k) : g.Turned k := by
  obtain ⟨_, _, _, _, _, _, rfl⟩ := hg
  obtain ⟨_, _, _, _, _, _, rfl⟩ := hk
  exact ⟨_, _, _, _, _, _, rfl⟩

theorem SegSt.Turned.drop {g h : SegSt} (hg : g.Turned h) : g.Turned h.drop := by
  obtain ⟨_, _, hd⟩ := h.drop_copies
  exact hg.trans ⟨_, _, _, _, _, _, hd⟩

/-- An operation on channel `c` that, of the channel, changes no more than what `SegSt.Turned` and `CFld.byTurn` name. -/
structure Turns (c : Ch) (s t : State) : Prop extends Local c CFld.byTurn s t where
  ch_c : ∃ g, (s.ch c).seg.Turned g ∧ t.ch c = { s.ch c with seg := g }

theorem Turns.refl (s : State) : Turns c s s := ⟨.refl s, _, .refl _, rfl⟩

theorem Turns.cs {f v} (h : Turns c s₀ s) (hf : f.byTurn = true) : Turns c s₀ (s.cs c f v) := ⟨h.toLocal.cs hf, h.ch_c⟩

theorem Turns.updSeg {g} (h : Turns c s₀ s) (hg : ∀ y, SegSt.Turned y (g y)) : Turns c s₀ (s.updSeg c g) := by
  obtain ⟨k, hk, hch⟩ := h.ch_c
  refine ⟨h.toLocal.updCh, _, hk.trans (hg k).drop, ?_⟩
  rw [State.ch_updSeg, if_pos rfl, hch]

theorem Turns.ite {p : Prop} {_ : Decidable p} (hx : Turns c s₀ x) (ht : Turns c s₀ t) :
    Turns c s₀ (if p then x else t) := by
  split
  · exact hx
  · exact ht

theorem Turns.newCycle (h : Turns c s₀ s) : Turns c s₀ (s.newCycle c) := by
  unfold State.newCycle
  extract_lets x
  have hx : Turns c s₀ x := by
    unfold x
    split
    · exact h.cs rfl
    · exact h
  exact (hx.cs rfl).updSeg fun y => ⟨_, _, _, _, _, _, rfl⟩

theorem Turns.sendBeacon (h : Turns c s₀ s) : Turns c s₀ (s.sendBeacon c) := .newCycle (.ite h (h.cs rfl))

theorem Turns.plcaNext (h : Turns c s₀ s) : Turns c s₀ (s.plcaNext c) := by
  have hx := h.updSeg (g := fun g => { g with burst := 0, commit := false, toT0 := s.now })
    fun y => ⟨_, _, _, _, _, _, rfl⟩
  exact .ite h (.ite hx.sendBeacon (hx.cs rfl))

theorem State.cg_newCycle_curTo (s : State) (c : Ch) : (s.newCycle c).cg c .SEG_PLCASTAT_CUR_TO = 0 := by
  rw [State.newCycle, State.cg_updSeg, State.cg_cs, if_pos ⟨rfl, rfl⟩]
  rfl

theorem State.cg_sendBeacon_curTo (s : State) (c : Ch) : (s.sendBeacon c).cg c .SEG_PLCASTAT_CUR_TO = 0 :=
  State.cg_newCycle_curTo _ c

/-- The opportunity that runs is over: no burst, no commitment, and a silence that starts now. -/
def State.openTurn (s : State) (c : Ch) : State :=
  s.updSeg c fun g => { g with burst := 0, commit := false, toT0 := s.now }

/-- A counted opportunity ends: after the last one a coordinator sends a BEACON, else the next one runs. -/
theorem State.plcaNext_counted (hst : (s.ch c).seg.st = .up) (hcyc : (s.ch c).seg.cycle.isSome = true) :
    s.plcaNext c = if (s.ch c).seg.coord = true ∧ (s.ch c).seg.ncnt ≤ s.cg c .SEG_PLCASTAT_CUR_TO + 1 then
      (s.openTurn c).sendBeacon c
      else (s.openTurn c).cs c .SEG_PLCASTAT_CUR_TO (min 255 (s.cg c .SEG_PLCASTAT_CUR_TO + 1)) := by
  rw [State.plcaNext, if_neg (by simp [SegSt.counts, hst, hcyc])]
  exact if_congr (Bool.and_eq_true_iff.trans (and_congr_right' decide_eq_true_iff)) rfl rfl

theorem State.plcaNext_last (hst : (s.ch c).seg.st = .up) (hcyc : (s.ch c).seg.cycle.isSome = true)
    (hcoord : (s.ch c).seg.coord = true) (hlast : (s.ch c).seg.ncnt ≤ s.cg c .SEG_PLCASTAT_CUR_TO + 1) :
    s.plcaNext c = (s.openTurn c).sendBeacon c := by
  rw [State.plcaNext_counted hst hcyc, if_pos ⟨hcoord, hlast⟩]

theorem State.plcaNext_inner (hst : (s.ch c).seg.st = .up) (hcyc : (s.ch c).seg.cycle.isSome = true)
    (h : (s.ch c).seg.coord = false ∨ s.cg c .SEG_PLCASTAT_CUR_TO + 1 < (s.ch c).seg.ncnt) : s.plcaNext c =
      (s.openTurn c).cs c .SEG_PLCASTAT_CUR_TO (min 255 (s.cg c .SEG_PLCASTAT_CUR_TO + 1)) := by
  rw [State.plcaNext_counted hst hcyc, if_neg]
  rintro ⟨hcoord, hlast⟩
  rcases h with h | h
  · exact absurd (h.symm.trans hcoord) nofun
  · omega

theorem State.cg_plcaNext_curTo (hst : (s.ch c).seg.st = .up) (hcyc : (s.ch c).seg.cycle.isSome = true) :
    (s.plcaNext c).cg c .SEG_PLCASTAT_CUR_TO =
      if (s.ch c).seg.coord = true ∧ (s.ch c).seg.ncnt ≤ s.cg c .SEG_PLCASTAT_CUR_TO + 1 then 0
      else min 255 (s.cg c .SEG_PLCASTAT_CUR_TO + 1) := by
  have hw : (CFld.info .SEG_PLCASTAT_CUR_TO).wid = 8 := rfl
  rw [State.plcaNext_counted hst hcyc]
  split
  · exact State.cg_sendBeacon_curTo _ c
  · rw [State.cg_cs, if_pos ⟨rfl, rfl⟩, hw]
    omega

/-- A counter of 32 bits counts one (R26). -/
theorem State.cg_cinc_count {f : CFld} (hw : f.info.wid = 32 := by rfl) :
    (s.cinc c f).cg c f = (s.cg c f + 1) % m32 := by
  rw [State.cinc, State.cg_cs, if_pos ⟨rfl, rfl⟩, hw]
  rfl

/-! ### Segment link control goes up and comes back to PLCA (R112, R116) -/

theorem State.segIn_st {st : SState} (h : s.segIn c st = true) : (s.ch c).seg.st = st := by
  simp only [State.segIn, Bool.and_eq_true, decide_eq_true_eq] at h
  exact h.2

/-- What a segment that goes up shows; a change of sub-state writes no field of the segment's block. -/
theorem State.segUp_frame (s : State) (c : Ch) (csma coord : Bool) :
    ((s.segUp c csma coord).ch c).seg.st = .up ∧ ((s.segUp c csma coord).ch c).sub = .up ∧
      ((s.segUp c csma coord).ch c).seg.csma = csma ∧ ((s.segUp c csma coord).ch c).seg.plcaOk = !csma ∧
      (s.segUp c csma coord).cg c .SEG_EVT_UP = 1 ∧
      ∀ f, f.bySub = false → f ≠ .SEG_EVT_UP → (s.segUp c csma coord).cg c f = s.cg c f := by
  unfold State.segUp
  extract_lets x
  obtain ⟨a, b, hx⟩ : ∃ a b, x.ch c = { s.ch c with seg := { (s.ch c).seg with
      st := .up, csma := csma, coord := coord, plcaOk := !csma, llPma := a, llPcs := b } } := s.ch_updSeg_copies c _
  have hcg : ∀ f, x.cg c f = s.cg c f := fun f => State.cg_updSeg ..
  obtain ⟨d, g, hsub⟩ := x.ch_setSub c .up
  have hloc : Local c CFld.bySub x (x.setSub c .up) := (Local.refl x).setSub fun _ => id
  rw [State.ch_cs, hsub, hx]
  refine ⟨rfl, rfl, rfl, rfl, State.cg_cs_flag _ rfl, fun f hf hne => ?_⟩
  rw [State.cg_cs, if_neg fun h => hne h.2, hloc.cg f hf, hcg]

/-- No attempt is in progress, so that PLCA resumes at once. -/
theorem State.plcaBack_idle (hto : (s.ch c).seg.toPlca = true) (hline : (s.ch c).queue.line = none) :
    ((s.plcaBack c).ch c).seg.csma = false ∧ ((s.plcaBack c).ch c).seg.plcaOk = true ∧
      (s.plcaBack c).cg c .SEG_EVT_BCN_FOUND = 1 := by
  obtain ⟨a, b, hch⟩ := s.ch_updSeg_copies c fun g => { g with toPlca := false, csma := false, plcaOk := true }
  rw [State.plcaBack, if_pos (by simp [State.attempting, hto, hline]), State.ch_cs, hch]
  exact ⟨rfl, rfl, State.cg_cs_flag _ rfl⟩

theorem State.queue_plcaBack (s : State) (c : Ch) : ((s.plcaBack c).ch c).queue = (s.ch c).queue := by
  unfold State.plcaBack
  split
  · simp
  · rfl

/-! ### The registers of the segment block (R109, R113) -/

theorem State.rowW_segCmd {src : Src} (hseg : isSeg c = true) (ha : s.arrives src c .seg) (hp : (s.ch c).posted = [])
    (v : Nat) : s.rowW src c .seg 0xC v = .next ((s.segCmd c v false).reply 0) := by
  rw [State.rowW_outside s src c .seg 0xC v (by decide) (by decide) ha, State.landAll_nil s c hp]
  simp [State.writeReg, hseg]

theorem exec_segStart {src : Src} (hseg : isSeg c = true) (ha : s.arrives src c .seg) (hp : (s.ch c).posted = []) :
    exec (.segStart src c) s = .next ((s.segStart c).reply 0) :=
  State.rowW_segCmd hseg ha hp 1

theorem exec_segStop {src : Src} (hseg : isSeg c = true) (ha : s.arrives src c .seg) (hp : (s.ch c).posted = []) :
    exec (.segStop src c) s = .next ((s.segStop c false).reply 0) :=
  State.rowW_segCmd hseg ha hp 2

/-- Of the channel the switch to data leaves all but the shadows, the receiver, the spare resources and the line. -/
theorem State.ch_toData (s : State) (c : Ch) (typ fr : Nat) : ∃ sh rx gr li,
    (s.toData c typ fr).ch c = { s.ch c with shadow := sh, rx := rx, graft := gr, line := li } := by
  rw [State.toData, State.ch_updLine, if_pos rfl, State.shApply_eq, State.applyTrims, State.restoreD, State.ch_updGraft,
    if_pos rfl, State.ch_foldl_putShadow, State.updCh_same]
  exact ⟨_, _, _, _, rfl⟩

/-- The segment state as START latches it (R109, R383). -/
def State.segLatched (s : State) (c : Ch) : SegSt :=
  { (s.ch c).seg with
    st := .join, mode := s.cg c .SEG_CTL_MODE, ext := s.cb c .SEG_CTL_EXT, term := s.cb c .SEG_CTL_TERM
    nid := s.cg c .SEG_PLCA_NODE_ID, ncnt := max 1 (s.cg c .SEG_PLCA_NODE_CNT)
    toTmr := max 1 (s.cg c .SEG_PLCA_TO_TO_TMR), maxBc := s.cg c .SEG_PLCA_MAX_BC
    burstTmr := s.cg c .SEG_PLCA_BURST_TMR, csma := false, coord := false, plcaOk := false, toPlca := false
    cycle := none }

theorem State.segStart_taken (hst : (s.ch c).seg.st = .stop) (hsub : (s.ch c).sub = .idle)
    (hok : s.cg c .SEG_CTL_MODE ≠ 0 ∨ s.cg c .SEG_PLCA_NODE_ID ≠ 255) :
    ((s.segStart c).ch c).sub = .training ∧
      ∃ a b, ((s.segStart c).ch c).seg = { s.segLatched c with llPma := a, llPcs := b } := by
  rw [State.segStart, if_pos (by simpa [hst, hsub, ← imp_iff_not_or] using hok)]
  extract_lets x tm y
  obtain ⟨a, b, hx⟩ : ∃ a b, x.ch c = { s.ch c with seg := { s.segLatched c with llPma := a, llPcs := b } } :=
    s.ch_updSeg_copies c _
  have hy : (y.ch c).seg = (x.ch c).seg := by simp [y]
  obtain ⟨d, g, hsub⟩ := y.ch_setSub c .training
  obtain ⟨sh, rx, gr, li, hdata⟩ := (y.setSub c .training).ch_toData c 8 0
  rw [hdata, hsub]
  exact ⟨rfl, a, b, by rw [hy, hx]⟩

theorem State.segStart_ignored (h : (s.ch c).seg.st ≠ .stop ∨ (s.ch c).sub ≠ .idle ∨
    s.cg c .SEG_CTL_MODE = 0 ∧ s.cg c .SEG_PLCA_NODE_ID = 255) : s.segStart c = s.segRej c := by
  rw [State.segStart, if_neg]
  rcases h with h | h | ⟨hmode, hnid⟩
  · simp [h]
  · simp [h]
  · simp [hmode, hnid]

/-- STOP by the state it finds (R113, R114, R128). -/
theorem State.segStop_host (s : State) (c : Ch) :
    ((s.ch c).seg.st = .stop → s.segStop c false = s.segRej c) ∧
      ((s.ch c).seg.st = .join → s.segStop c false = (s.toStop c).setSub c .idle) ∧
      ((s.ch c).seg.st = .up → s.segStop c false = s.linkLoss c 0x01 false) := by
  refine ⟨fun h => ?_, fun h => ?_, fun h => ?_⟩
  · rw [State.segStop, h]
  · rw [State.segStop, h]
  · rw [State.segStop, h]
    rfl

/-- A plain write from outside of a register that is not behind the gate shows in the fields what its register does. -/
theorem State.rowW_shows {src : Src} {b : CBlk} {o : Nat} (v : Nat) (hk : ∀ f ∈ CFld.at b o, f.info.acc ≠ .rwk)
    (hb : b ≠ .seq) (ha : s.arrives src c b) (hp : (s.ch c).posted = []) :
    ∃ t, s.rowW src c b o v = .next t ∧ ∀ f, f ≠ .tr b .REF_ARMED → t.cg c f = (s.writeReg c b o v false).cg c f := by
  refine ⟨_, State.rowDo_outside s src c b o v _ ha, fun f hf => ?_⟩
  rw [State.landAll_nil s c hp, ← State.cg_landC_plain v (chanAddr c b o) false hk hf]
  simp [State.landReg, hb]

theorem exec_segCtlWrite {src : Src} {v : Word} (hseg : isSeg c = true) (ha : s.arrives src c .seg)
    (hp : (s.ch c).posted = []) : ∃ t, exec (.segCtlWrite src c v) s = .next t ∧
      ∀ f, f ≠ .tr .seg .REF_ARMED → t.cg c f = (s.segCtl c v.toNat).cg c f := by
  have hreg : s.writeReg c .seg 0 v.toNat false = s.segCtl c v.toNat := by simp [State.writeReg, hseg]
  rw [← hreg]
  exact State.rowW_shows v.toNat (by decide) (by decide) ha hp

/-- What a write of `SEG_CTL` leaves in its fields, each cut to its width. -/
theorem State.segCtl_frame (s : State) (c : Ch) (v : Nat) :
    (s.segCtl c v).cg c .SEG_CTL_ATTEMPTS = bits v 20 16 ∧ (s.segCtl c v).cg c .SEG_CTL_FALLBACK = bits v 11 11 ∧
      (s.segCtl c v).cg c .SEG_CTL_EXT = bits v 10 10 ∧ (s.segCtl c v).cg c .SEG_CTL_TERM = bits v 8 8 ∧
      (v % 4 ≠ 3 → (s.segCtl c v).cg c .SEG_CTL_MODE = v % 4) ∧
      (v % 4 = 3 → (s.segCtl c v).cg c .SEG_CTL_MODE = s.cg c .SEG_CTL_MODE ∧ (s.segCtl c v).cg c .SEG_EVT_CMD_REJ = 1) := by
  have hatt : (CFld.info .SEG_CTL_ATTEMPTS).wid = 5 := rfl
  have hfb : (CFld.info .SEG_CTL_FALLBACK).wid = 1 := rfl
  have hext : (CFld.info .SEG_CTL_EXT).wid = 1 := rfl
  have hterm : (CFld.info .SEG_CTL_TERM).wid = 1 := rfl
  have hmode : (CFld.info .SEG_CTL_MODE).wid = 2 := rfl
  have hrej : (CFld.info .SEG_EVT_CMD_REJ).wid = 1 := rfl
  by_cases h : v % 4 = 3
  · simp [State.segCtl, State.segRej, h, bits, hatt, hfb, hext, hterm, hrej]
  · simp [State.segCtl, h, bits, hatt, hfb, hext, hterm, hmode]

/-! ### JOIN (R112, R284) -/

theorem SegSt.coordinator_eq {g : SegSt} (h : g.mode = 0) : g.coordinator = decide (g.nid = 0) := by
  simp [SegSt.coordinator, h]

theorem exec_segJoinExpire_lost (hr : s.db .CLK_REFSTAT_REF_LOST = true) : exec (.segJoinExpire c) s = .next s := by
  change execSegJoinExpire c s = _
  rw [execSegJoinExpire, if_pos (by rw [hr, Bool.or_true])]
  rfl

theorem exec_segJoinTimeout_lost (hr : s.db .CLK_REFSTAT_REF_LOST = true) : exec (.segJoinTimeout c) s = .next s := by
  change execSegJoinTimeout c s = _
  rw [execSegJoinTimeout, if_neg (by rw [hr]; simp)]
  rfl

/-- The end of t_SEGJOIN, by the mode and the node's number. -/
theorem exec_segJoinExpire_eq (h : s.segIn c .join = true) (hr : s.db .CLK_REFSTAT_REF_LOST = false) :
    exec (.segJoinExpire c) s = .next (
      if (s.ch c).seg.mode ≠ 0 then s.segUp c true false
      else if (s.ch c).seg.nid = 0 then (s.segUp c false true).sendBeacon c
      else if s.cb c .SEG_CTL_FALLBACK then s.segUp c true false
      else s) := by
  change execSegJoinExpire c s = _
  rw [execSegJoinExpire, if_neg (by rw [h, hr]; decide)]
  dsimp only
  split
  case isTrue => rfl
  case isFalse hmode =>
    rw [SegSt.coordinator_eq (not_not.mp hmode)]
    simp only [decide_eq_true_eq]
    split
    · rfl
    · split <;> rfl

theorem exec_segJoinExpire_follower (h : s.segIn c .join = true) (hmode : (s.ch c).seg.mode = 0)
    (hnid : (s.ch c).seg.nid ≠ 0) (hfb : s.cb c .SEG_CTL_FALLBACK = false) : exec (.segJoinExpire c) s = .next s := by
  cases hr : s.db .CLK_REFSTAT_REF_LOST with
  | true => exact exec_segJoinExpire_lost hr
  | false => rw [exec_segJoinExpire_eq h hr, if_neg (not_not.mpr hmode), if_neg hnid, if_neg (by rw [hfb]; decide)]

theorem exec_segJoinTimeout_follower (h : s.segIn c .join = true) (hr : s.db .CLK_REFSTAT_REF_LOST = false)
    (hmode : (s.ch c).seg.mode = 0) (hnid : (s.ch c).seg.nid ≠ 0) (hfb : s.cb c .SEG_CTL_FALLBACK = false) :
    exec (.segJoinTimeout c) s = .next (((s.cs c .SEG_EVT_JOIN_TMO 1).toStop c).setSub c .idle) := by
  change execSegJoinTimeout c s = _
  rw [execSegJoinTimeout, SegSt.coordinator_eq hmode, if_pos (by simp only [h, hr, hmode, hnid, hfb]; decide)]
  rfl

/-! ### BEACONs (R112, R115 to R117) -/

theorem exec_beaconReceive_unheard {mv : Nat} (h : s.segHears c mv = false) : exec (.beaconReceive c mv) s = .next s := by
  change execBeaconReceive c mv s = _
  rw [execBeaconReceive]
  dsimp only
  rw [if_pos (by rw [h]; rfl)]
  rfl

/-- A BEACON that is heard in MODE 0, by the node's number and state. -/
theorem exec_beaconReceive_eq {mv : Nat} (hmode : (s.ch c).seg.mode = 0) (h : s.segHears c mv = true) :
    exec (.beaconReceive c mv) s = .next (
      if (s.ch c).seg.nid = 0 then ((s.cinc c .SEG_BCNRX_COUNT).cinc c .SEG_DUPCOORD_COUNT).cs c .SEG_EVT_DUP_COORD 1
      else if (s.ch c).seg.st = .join then ((s.cinc c .SEG_BCNRX_COUNT).newCycle c).segUp c false false
      else if (s.ch c).seg.csma then
        (((s.cinc c .SEG_BCNRX_COUNT).newCycle c).updSeg c fun g => { g with toPlca := true }).plcaBack c
      else (s.cinc c .SEG_BCNRX_COUNT).newCycle c) := by
  change execBeaconReceive c mv s = _
  rw [execBeaconReceive]
  dsimp only
  rw [if_neg (by simp [h, hmode]), SegSt.coordinator_eq hmode]
  simp only [decide_eq_true_eq]
  split
  · rfl
  · split
    · rfl
    · split <;> rfl

theorem exec_beaconReceive_coordinator {mv : Nat} (hmode : (s.ch c).seg.mode = 0) (hnid : (s.ch c).seg.nid = 0)
    (hm : s.segHears c mv = true) : ∃ t, exec (.beaconReceive c mv) s = .next t ∧ t.chans = s.chans ∧
      t.cg c .SEG_EVT_DUP_COORD = 1 ∧ t.cg c .SEG_DUPCOORD_COUNT = (s.cg c .SEG_DUPCOORD_COUNT + 1) % m32 := by
  refine ⟨_, exec_beaconReceive_eq hmode hm, ?_⟩
  rw [if_pos hnid]
  refine ⟨rfl, State.cg_cs_flag _ rfl, ?_⟩
  rw [State.cg_cs, if_neg (by nofun), State.cg_cinc_count, State.cinc, State.cg_cs, if_neg (by nofun)]

theorem exec_beaconReceive_join {mv : Nat} (h : s.segIn c .join = true) (hmode : (s.ch c).seg.mode = 0)
    (hnid : (s.ch c).seg.nid ≠ 0) (hm : s.segHears c mv = true) : ∃ t, exec (.beaconReceive c mv) s = .next t ∧
      (t.ch c).seg.st = .up ∧ (t.ch c).sub = .up ∧ (t.ch c).seg.csma = false ∧ (t.ch c).seg.plcaOk = true ∧
      t.cg c .SEG_EVT_UP = 1 ∧ t.cg c .SEG_BCNRX_COUNT = (s.cg c .SEG_BCNRX_COUNT + 1) % m32 := by
  obtain ⟨hst, hsub, hcsma, hok, hup, hcg⟩ := ((s.cinc c .SEG_BCNRX_COUNT).newCycle c).segUp_frame c false false
  have hcyc : ((s.cinc c .SEG_BCNRX_COUNT).newCycle c).cg c .SEG_BCNRX_COUNT = (s.cinc c .SEG_BCNRX_COUNT).cg c
    .SEG_BCNRX_COUNT := (Turns.refl _).newCycle.cg _ rfl
  refine ⟨_, exec_beaconReceive_eq hmode hm, ?_⟩
  rw [if_neg hnid, if_pos (State.segIn_st h)]
  exact ⟨hst, hsub, hcsma, hok, hup, (hcg .SEG_BCNRX_COUNT rfl nofun).trans (hcyc.trans State.cg_cinc_count)⟩

theorem exec_beaconReceive_fallback {mv : Nat} (h : s.segIn c .up = true) (hmode : (s.ch c).seg.mode = 0)
    (hnid : (s.ch c).seg.nid ≠ 0) (hm : s.segHears c mv = true) (hcsma : (s.ch c).seg.csma = true)
    (hline : (s.ch c).queue.line = none) : ∃ t, exec (.beaconReceive c mv) s = .next t ∧ (t.ch c).seg.csma = false ∧
      (t.ch c).seg.plcaOk = true ∧ t.cg c .SEG_EVT_BCN_FOUND = 1 := by
  refine ⟨_, exec_beaconReceive_eq hmode hm, ?_⟩
  rw [if_neg hnid, if_neg (by rw [State.segIn_st h]; nofun), if_pos hcsma]
  obtain ⟨g, -, hch⟩ := (Turns.refl (c := c) (s.cinc c .SEG_BCNRX_COUNT)).newCycle.ch_c
  generalize (s.cinc c .SEG_BCNRX_COUNT).newCycle c = y at hch
  obtain ⟨a, b, hz⟩ := y.ch_updSeg_copies c fun g => { g with toPlca := true }
  exact State.plcaBack_idle (by rw [hz]) (by rw [hz, hch]; exact hline)

theorem exec_beaconLoss_lost (hr : s.db .CLK_REFSTAT_REF_LOST = true) : exec (.beaconLoss c) s = .next s := by
  change execBeaconLoss c s = _
  rw [execBeaconLoss]
  dsimp only
  rw [if_pos (by simp only [hr, Bool.or_true, Bool.true_or])]
  rfl

/-- The loss of the BEACON of a follower, by FALLBACK. -/
theorem exec_beaconLoss_eq (h : s.segIn c .up = true) (hr : s.db .CLK_REFSTAT_REF_LOST = false)
    (hmode : (s.ch c).seg.mode = 0) (hnid : (s.ch c).seg.nid ≠ 0) : exec (.beaconLoss c) s = .next (
      if s.cb c .SEG_CTL_FALLBACK = false then s.linkLoss c 0x50 false
      else if (s.ch c).seg.csma then s
      else ((s.updSeg c fun g => { g with csma := true, plcaOk := false, cycle := none }).cs c .SEG_EVT_BCN_LOST 1).cinc c
        .SEG_BCNLOST_COUNT) := by
  change execBeaconLoss c s = _
  rw [execBeaconLoss]
  dsimp only
  rw [SegSt.coordinator_eq hmode, if_neg (by simp only [h, hr, hmode, hnid]; decide)]
  simp only [Bool.not_eq_true']
  split
  · rfl
  · split <;> rfl

theorem exec_beaconLoss_fallback (h : s.segIn c .up = true) (hr : s.db .CLK_REFSTAT_REF_LOST = false)
    (hmode : (s.ch c).seg.mode = 0) (hnid : (s.ch c).seg.nid ≠ 0) (hfb : s.cb c .SEG_CTL_FALLBACK = true)
    (hcsma : (s.ch c).seg.csma = false) : ∃ t, exec (.beaconLoss c) s = .next t ∧ (t.ch c).seg.csma = true ∧
      (t.ch c).seg.plcaOk = false ∧ t.cg c .SEG_EVT_BCN_LOST = 1 ∧
      t.cg c .SEG_BCNLOST_COUNT = (s.cg c .SEG_BCNLOST_COUNT + 1) % m32 := by
  obtain ⟨_, _, hx⟩ := s.ch_updSeg_copies c fun g => { g with csma := true, plcaOk := false, cycle := none }
  refine ⟨_, exec_beaconLoss_eq h hr hmode hnid, ?_⟩
  rw [if_neg (by rw [hfb]; decide), if_neg (by rw [hcsma]; decide), State.ch_cinc, State.ch_cs, hx]
  refine ⟨rfl, rfl, ?_, ?_⟩
  · rw [State.cinc, State.cg_cs, if_neg (by nofun), State.cg_cs_flag _ rfl]
  · rw [State.cg_cinc_count, State.cg_cs, if_neg (by nofun), State.cg_updSeg]

/-! ### The end of an opportunity (R115) -/

theorem exec_plcaToExpire_early (h : s.plcaDue c = false) : exec (.plcaToExpire c) s = .next s := by
  change execPlcaToExpire c s = _
  rw [execPlcaToExpire, if_pos (by rw [h]; simp)]
  rfl

theorem exec_plcaToExpire_due (h : s.segIn c .up = true) (hd : s.plcaDue c = true)
    (hidle : (s.ch c).queue.line = none ∨ (s.ch c).seg.retry = true) :
    exec (.plcaToExpire c) s = .next (s.plcaNext c) := by
  have hbusy : ((s.ch c).queue.line.isSome && !(s.ch c).seg.retry) = false := by
    rcases hidle with hi | hi <;> simp [hi]
  change execPlcaToExpire c s = _
  rw [execPlcaToExpire, if_neg (by simp only [h, hd, hbusy]; decide)]
  rfl

/-! ### Collisions and retries (R118, R119, R123) -/

/-- The node sees a collision: of a signal above the collision threshold, or under PLCA (R124). -/
def State.seesCollision (s : State) (c : Ch) (diff : Option Nat) : Bool :=
  match diff with
  | some mv => decide (Config.collisionMv (s.ch c).seg.extended < mv)
  | none => s.plcaRuns c

theorem State.seesCollision_iff {diff : Option Nat} : s.seesCollision c diff = true ↔
    (∃ mv, diff = some mv ∧ Config.collisionMv (s.ch c).seg.extended < mv) ∨ diff = none ∧ s.plcaRuns c = true := by
  cases diff <;> simp [State.seesCollision]

/-- A collision is counted, and as a late one after the first 512 bit times. -/
def State.collided (s : State) (c : Ch) (bitTime : Nat) : State :=
  if 512 < bitTime then (s.cinc c .SEG_COLCNT_COUNT).cinc c .SEG_LATECOL_COUNT else s.cinc c .SEG_COLCNT_COUNT

theorem State.collided_frame (s : State) (c : Ch) (b : Nat) : (s.collided c b).chans = s.chans ∧
    (s.collided c b).otp = s.otp ∧ (s.collided c b).cg c .SEG_PLCASTAT_CUR_TO = s.cg c .SEG_PLCASTAT_CUR_TO ∧
    (s.collided c b).cg c .SEG_CTL_ATTEMPTS = s.cg c .SEG_CTL_ATTEMPTS ∧
    (s.collided c b).cg c .SEG_COLCNT_COUNT = (s.cg c .SEG_COLCNT_COUNT + 1) % m32 ∧
    (512 < b → (s.collided c b).cg c .SEG_LATECOL_COUNT = (s.cg c .SEG_LATECOL_COUNT + 1) % m32) := by
  unfold State.collided
  split
  case isTrue =>
    refine ⟨rfl, rfl, by simp [State.cinc], by simp [State.cinc], ?_, fun _ => ?_⟩
    · exact (by simp [State.cinc] : _ = (s.cinc c .SEG_COLCNT_COUNT).cg c .SEG_COLCNT_COUNT).trans State.cg_cinc_count
    · rw [State.cg_cinc_count]
      simp [State.cinc]
  case isFalse h => exact ⟨rfl, rfl, by simp [State.cinc], by simp [State.cinc], State.cg_cinc_count, fun h' => absurd h' h⟩

/-- A retry is due, with a backoff before it or without one. -/
def State.retryDue (s : State) (c : Ch) (back : Option Nat) : State :=
  s.updSeg c fun g => { g with retry := true, back := back }

theorem exec_collision_unseen {b : Nat} {d : Option Nat} (h : s.seesCollision c d = false) :
    exec (.collision c b d) s = .next s := by
  change (if !(s.segIn c .up) || (s.ch c).queue.line.isNone || (s.ch c).seg.retry || !s.seesCollision c d then ok s
    else _) = _
  rw [if_pos (by simp [h])]
  rfl

/-- A collision that is seen, by the attempts that are left and the access method. -/
theorem exec_collision_seen {b : Nat} {d : Option Nat} (h : s.segIn c .up = true) (hl : (s.ch c).queue.line.isSome = true)
    (hr : (s.ch c).seg.retry = false) (hseen : s.seesCollision c d = true) : exec (.collision c b d) s = .next (
      if s.maxAtt c ≤ (s.ch c).seg.att then
        (if (s.collided c b).plcaRuns c then (s.collided c b).plcaNext c else s.collided c b).segDiscard c 14
      else if (s.ch c).seg.csma then ((s.collided c b).drawBackoff c (s.ch c).seg.att).2.retryDue c
        (some ((s.collided c b).drawBackoff c (s.ch c).seg.att).1)
      else ((s.collided c b).retryDue c none).plcaNext c) := by
  obtain ⟨-, -, -, hatt, -, -⟩ := s.collided_frame c b
  have hmax : (s.collided c b).maxAtt c = s.maxAtt c := by rw [State.maxAtt, State.maxAtt, hatt]
  change (if !(s.segIn c .up) || (s.ch c).queue.line.isNone || (s.ch c).seg.retry || !s.seesCollision c d then ok s
    else _) = _
  rw [if_neg (by simp [h, ← Option.not_isSome, hl, hr, hseen])]
  by_cases hlast : s.maxAtt c ≤ (s.ch c).seg.att
  · rw [if_pos hlast]
    exact if_pos (hmax.trans_le hlast)
  · rw [if_neg hlast]
    refine (if_neg fun hle => hlast (hmax.symm.trans_le hle)).trans ?_
    split <;> rfl

/-- Under CSMA/CD the retry waits for the next draw. -/
theorem State.retryDue_drawn (s : State) (c : Ch) (n : Nat) :
    ∃ a b, ((s.drawBackoff c n).2.retryDue c (some (s.drawBackoff c n).1)).ch c = { s.ch c with seg := { (s.ch c).seg with
      retry := true, back := some (Config.backoffDraw s.otp.did c.val (s.ch c).seg.draws % 2 ^ min n 10)
      draws := (s.ch c).seg.draws + 1, llPma := a, llPcs := b } } := by
  obtain ⟨_, _, hx⟩ := s.ch_updSeg_copies c fun g => { g with draws := g.draws + 1 }
  obtain ⟨_, _, ht⟩ := (s.drawBackoff c n).2.ch_updSeg_copies c fun g =>
    { g with retry := true, back := some (s.drawBackoff c n).1 }
  rw [State.retryDue, ht, State.drawBackoff, hx]
  exact ⟨_, _, rfl⟩

/-- Under PLCA the retry waits for the node's own opportunity, and the one that runs ends. -/
theorem State.retryDue_turned (hst : (s.ch c).seg.st = .up) :
    (∃ g, { (s.ch c).seg with retry := true, back := none }.Turned g ∧
      ((s.retryDue c none).plcaNext c).ch c = { s.ch c with seg := g }) ∧
    (∀ f, f.byTurn = false → ((s.retryDue c none).plcaNext c).cg c f = s.cg c f) ∧
    ((s.ch c).seg.cycle.isSome = true → ((s.retryDue c none).plcaNext c).cg c .SEG_PLCASTAT_CUR_TO =
      if (s.ch c).seg.coord = true ∧ (s.ch c).seg.ncnt ≤ s.cg c .SEG_PLCASTAT_CUR_TO + 1 then 0
      else min 255 (s.cg c .SEG_PLCASTAT_CUR_TO + 1)) := by
  obtain ⟨_, _, hx⟩ : ∃ a b, (s.retryDue c none).ch c = { s.ch c with seg := { (s.ch c).seg with
    retry := true, back := none, llPma := a, llPcs := b } } := s.ch_updSeg_copies c _
  have hreg : ∀ f, (s.retryDue c none).cg c f = s.cg c f := fun f => State.cg_updSeg ..
  generalize s.retryDue c none = x at hx hreg
  have hturn : Turns c x (x.plcaNext c) := (Turns.refl x).plcaNext
  obtain ⟨g, hg, hch⟩ := hturn.ch_c
  refine ⟨⟨g, .trans ⟨_, _, _, _, _, _, rfl⟩ (hx ▸ hg), by rw [hch, hx]⟩, fun f hf => (hturn.cg f hf).trans (hreg f),
    fun hcyc => ?_⟩
  rw [State.cg_plcaNext_curTo (by rw [hx]; exact hst) (by rw [hx]; exact hcyc), hx, hreg]

/-- What a collision leaves where an attempt is left: its counts, a retry that is due, and under CSMA/CD a backoff drawn. -/
theorem exec_collision_retries {b : Nat} {d : Option Nat} (h : s.segIn c .up = true)
    (hl : (s.ch c).queue.line.isSome = true) (hr : (s.ch c).seg.retry = false) (hseen : s.seesCollision c d = true)
    (hatt : (s.ch c).seg.att < s.maxAtt c) : ∃ t, exec (.collision c b d) s = .next t ∧ (t.ch c).seg.retry = true ∧
      (t.ch c).seg.back = (if (s.ch c).seg.csma then
        some (Config.backoffDraw s.otp.did c.val (s.ch c).seg.draws % 2 ^ min (s.ch c).seg.att 10) else none) ∧
      (t.ch c).seg.draws = (if (s.ch c).seg.csma then (s.ch c).seg.draws + 1 else (s.ch c).seg.draws) ∧
      ((s.ch c).seg.csma = false → (s.ch c).seg.cycle.isSome = true → t.cg c .SEG_PLCASTAT_CUR_TO =
        if (s.ch c).seg.coord = true ∧ (s.ch c).seg.ncnt ≤ s.cg c .SEG_PLCASTAT_CUR_TO + 1 then 0
        else min 255 (s.cg c .SEG_PLCASTAT_CUR_TO + 1)) ∧
      t.cg c .SEG_COLCNT_COUNT = (s.cg c .SEG_COLCNT_COUNT + 1) % m32 ∧
      (512 < b → t.cg c .SEG_LATECOL_COUNT = (s.cg c .SEG_LATECOL_COUNT + 1) % m32) := by
  obtain ⟨hchans, hotp, hcur, -, hcol, hlate⟩ := s.collided_frame c b
  refine ⟨_, exec_collision_seen h hl hr hseen, ?_⟩
  rw [if_neg (by omega)]
  generalize s.collided c b = x at hchans hotp hcur hcol hlate ⊢
  have hch : x.ch c = s.ch c := by rw [State.ch, State.ch, hchans]
  cases hcsma : (s.ch c).seg.csma with
  | true =>
    obtain ⟨_, _, ht⟩ := x.retryDue_drawn c (s.ch c).seg.att
    rw [if_pos rfl, ht, hch, hotp]
    exact ⟨rfl, rfl, rfl, nofun, hcol, hlate⟩
  | false =>
    obtain ⟨⟨_, hg, ht⟩, hcg, hto⟩ := State.retryDue_turned (s := x) (by rw [hch]; exact State.segIn_st h)
    rw [hch] at hg hto
    obtain ⟨_, _, _, _, _, _, rfl⟩ := hg
    rw [if_neg (by decide), ht, ← hcur]
    exact ⟨rfl, rfl, rfl, fun _ => hto, (hcg _ rfl).trans hcol, fun hb => (hcg _ rfl).trans (hlate hb)⟩

/-- A time stamp takes no more than free choices. -/
theorem State.stampNow_frame (s : State) (c : Ch) (egress : Bool) :
    (s.stampNow c egress).2.regs = s.regs ∧ (s.stampNow c egress).2.chans = s.chans := by
  obtain ⟨-, hchans, -, hregs⟩ := s.frame_roundFree
    (sint 16 (s.cg c (if egress then .TS_LAT_EG else .TS_LAT_IN)) * 65536) 1000
  exact ⟨hregs, hchans⟩

theorem State.line_segDiscard (s : State) (c : Ch) (r : Nat) : ((s.segDiscard c r).ch c).queue.line = none := by
  rw [State.segDiscard, State.queue_plcaBack]
  exact (s.dropLine_lineEnded c r).line

theorem exec_backoffExpire_ends (h : s.segIn c .up = true) (hl : (s.ch c).queue.line.isSome = true)
    (hb : (s.ch c).seg.back.isSome = true) :
    exec (.backoffExpire c) s = .next ((s.updSeg c fun g => { g with back := none }).plcaBack c) := by
  change execBackoffExpire c s = _
  rw [execBackoffExpire, if_pos (by rw [h, hl, hb]; rfl)]
  rfl

/-- A retry that starts: one more attempt, counted. -/
def State.retried (s : State) (c : Ch) : State :=
  (s.updSeg c fun g => { g with retry := false, att := g.att + 1, commit := false }).cinc c .SEG_RETX_COUNT

/-- A retry is held neither by its backoff, nor by a lost reference, nor under PLCA until the node's own opportunity. -/
structure RetryOpen (s : State) (c : Ch) : Prop where
  up : s.segIn c .up = true
  line : (s.ch c).queue.line.isSome = true
  retry : (s.ch c).seg.retry = true
  back : (s.ch c).seg.back = none
  ref : s.db .CLK_REFSTAT_REF_LOST = false
  turn : s.plcaRuns c = false ∨ s.plcaTurn c = true

/-- The frame on the line is stamped anew where it is stamped (R222). -/
def State.restamp (s : State) (c : Ch) : State :=
  match (s.ch c).queue.line with
  | some l =>
    if l.stamp.isSome then
      (s.stampNow c true).2.updQ c fun q => { q with line := some { l with stamp := some (s.stampNow c true).1 } }
    else s
  | none => s

theorem State.restamp_frame (s : State) (c : Ch) :
    (s.restamp c).regs = s.regs ∧ ((s.restamp c).ch c).seg = (s.ch c).seg := by
  unfold State.restamp
  split
  · split
    · obtain ⟨hregs, hchans⟩ := s.stampNow_frame c true
      exact ⟨hregs, by rw [State.ch_updQ, if_pos rfl, State.ch, hchans]; rfl⟩
    · exact ⟨rfl, rfl⟩
  · exact ⟨rfl, rfl⟩

/-- A retry starts from the mark, and without the mark the frame is discarded. -/
theorem exec_retryStart_eq (h : RetryOpen s c) : exec (.retryStart c) s = .next (
    if (s.ch c).seg.mark then ((s.retried c).updQ c fun q =>
      { q with line := q.line.map fun l => { l with t0 := s.now } }).restamp c
    else s.segDiscard c 15) := by
  obtain ⟨hup, hl, hr, hb, hlost, hturn⟩ := h
  have hwait : (s.plcaRuns c && !s.plcaTurn c) = false := by
    rcases hturn with ht | ht <;> rw [ht] <;> simp
  change execRetryStart c s = _
  rw [execRetryStart]
  extract_lets x y t
  rw [if_neg (by simp [hup, ← Option.not_isSome, hl, hr, hb]), if_neg (by rw [hlost, hwait]; decide)]
  change _ = Host.Outcome.next (if (s.ch c).seg.mark then y.restamp c else s.segDiscard c 15)
  cases hm : (s.ch c).seg.mark with
  | false => rfl
  | true =>
    simp only [State.restamp, Bool.not_true, Bool.false_eq_true, if_false, if_true]
    cases (y.ch c).queue.line with
    | none => rfl
    | some l =>
      dsimp only
      split <;> rfl

theorem exec_retryStart_unmarked (h : RetryOpen s c) (hm : (s.ch c).seg.mark = false) :
    exec (.retryStart c) s = .next (s.segDiscard c 15) := by
  rw [exec_retryStart_eq h, if_neg (by rw [hm]; decide)]

theorem exec_retryStart_marked (h : RetryOpen s c) (hm : (s.ch c).seg.mark = true) : ∃ t,
    exec (.retryStart c) s = .next t ∧ (t.ch c).seg.retry = false ∧ (t.ch c).seg.att = (s.ch c).seg.att + 1 ∧
      t.cg c .SEG_RETX_COUNT = (s.cg c .SEG_RETX_COUNT + 1) % m32 := by
  refine ⟨_, exec_retryStart_eq h, ?_⟩
  obtain ⟨_, _, hx⟩ := s.ch_updSeg_copies c fun g => { g with retry := false, att := g.att + 1, commit := false }
  obtain ⟨hregs, hseg⟩ := ((s.retried c).updQ c fun q =>
      { q with line := q.line.map fun l => { l with t0 := s.now } }).restamp_frame c
  rw [if_pos hm, hseg, State.cg_of_regs hregs, State.ch_updQ, if_pos rfl, State.cg_updQ, State.retried, State.ch_cinc, hx]
  exact ⟨rfl, rfl, State.cg_cinc_count⟩

/-! ### The buffer is full (R122) -/

/-- A sent cell of an incomplete frame is freed, and the first one clears the mark. -/
theorem exec_rewindOvertake_marked {l : LineEg} (h : s.segIn c .up = true) (hl : (s.ch c).queue.line = some l)
    (hr : (s.ch c).seg.retry = false) (hc : l.frame.complete = false) (h0 : l.frame.cells ≠ 0)
    (hs : l.freed < s.cellsSent l) (hb : bufferCells c ≤ (s.ch c).queue.egHeld) (hm : (s.ch c).seg.mark = true) :
    ∃ t, exec (.rewindOvertake c) s = .next t ∧ (t.ch c).seg.mark = false ∧ t.cg c .SEG_EVT_REWIND_REL = 1 ∧
      t.cg c .SEG_RWDREL_COUNT = (s.cg c .SEG_RWDREL_COUNT + 1) % m32 ∧ (t.ch c).queue.line =
        some { l with freed := l.freed + 1, frame := { l.frame with cells := l.frame.cells - 1 } } := by
  have hw : (CFld.info .SEG_EVT_REWIND_REL).wid = 1 := rfl
  have hrel : exec (.rewindOvertake c) s = .next (((((s.updSeg c fun g => { g with mark := false }).cs c
      .SEG_EVT_REWIND_REL 1).cinc c .SEG_RWDREL_COUNT).updQ c fun q => { q with
        line := some { l with freed := l.freed + 1, frame := { l.frame with cells := l.frame.cells - 1 } } }).freeCells c
      l.cls 1) := by
    change execRewindOvertake c s = _
    rw [execRewindOvertake, hl]
    dsimp only
    rw [if_pos (by simp [h, hr, hc, h0, hs, hb]), if_pos hm]
    rfl
  obtain ⟨_, _, hx⟩ := s.ch_updSeg_copies c fun g => { g with mark := false }
  refine ⟨_, hrel, ?_⟩
  rw [State.ch_freeCells, (Sends.refl _).freeCells.cg, (Sends.refl _).freeCells.cg, State.ch_updQ, if_pos rfl,
    State.cg_updQ, State.cg_updQ, State.cg_cinc_count, State.ch_cinc, State.ch_cs, hx]
  exact ⟨rfl, by simp [State.cinc, hw], by simp, rfl⟩

end

/-- Settles O49: each command is one equation with the guards that the hypotheses decide; what a turn, a change of
sub-state, the switch to data, a freed cell and a time stamp leave alone comes from their frame lemmas. -/
theorem segmentsJoinShareAndRetry : Obligations.SegmentsJoinShareAndRetry := by
  unfold Obligations.SegmentsJoinShareAndRetry
  intro s c hseg g
  obtain ⟨hst, hsub, -⟩ := s.segUp_frame c true false
  refine ⟨fun src ha hp => ?commands, fun hj => ?join, fun mv => exec_beaconReceive_unheard, fun hu => ?up,
    hst, hsub, s.cg_sendBeacon_curTo c⟩
  case commands =>
    obtain ⟨hstop, hjoin, hup⟩ := s.segStop_host c
    refine ⟨fun hst hsub hok => ?_, fun h => ?_, fun h => ?_, fun h => ?_, fun h => ?_, fun v => ?_⟩
    · obtain ⟨hsub, _, _, hlatch⟩ := State.segStart_taken hst hsub hok
      refine ⟨_, exec_segStart hseg ha hp, ?_⟩
      rw [State.ch_reply, hlatch]
      exact ⟨rfl, hsub, rfl, rfl, rfl, rfl, rfl, rfl, rfl, rfl⟩
    · rw [exec_segStart hseg ha hp, State.segStart_ignored h, State.segRej]
    · rw [exec_segStop hseg ha hp, hstop h, State.segRej]
    · rw [exec_segStop hseg ha hp, hjoin h]
    · rw [exec_segStop hseg ha hp, hup h]
    · obtain ⟨t, ht, hcg⟩ := exec_segCtlWrite (v := v) hseg ha hp
      refine ⟨t, ht, ?_⟩
      rw [hcg _ (by nofun), hcg _ (by nofun), hcg _ (by nofun), hcg _ (by nofun), hcg _ (by nofun), hcg _ (by nofun)]
      exact s.segCtl_frame c v.toNat
  case join =>
    refine ⟨fun hr => ⟨exec_segJoinExpire_lost hr, exec_segJoinTimeout_lost hr⟩,
      fun hr => ⟨fun hm => ?_, fun hm hn => ?_, fun hm hn hf => ?_⟩,
      fun hm hn hf => ⟨exec_segJoinExpire_follower hj hm hn hf, fun hr => exec_segJoinTimeout_follower hj hr hm hn hf⟩,
      fun mv hm hn hh => exec_beaconReceive_join hj hm hn hh⟩
    · rw [exec_segJoinExpire_eq hj hr, if_pos hm]
    · rw [exec_segJoinExpire_eq hj hr, if_neg (not_not.mpr hm), if_pos hn]
    · rw [exec_segJoinExpire_eq hj hr, if_neg (not_not.mpr hm), if_neg hn, if_pos hf]
  case up =>
    refine ⟨fun mv hm hn hh => exec_beaconReceive_coordinator hm hn hh,
      fun mv hm hn hh hc hl => exec_beaconReceive_fallback hu hm hn hh hc hl, exec_beaconLoss_lost,
      fun hr hm hn hf => ?_, fun hr hm hn hf hc => exec_beaconLoss_fallback hu hr hm hn hf hc, exec_plcaToExpire_early,
      fun hd hcyc hl => ?_, fun l hl => ?_⟩
    · rw [exec_beaconLoss_eq hu hr hm hn, if_pos hf]
    · rw [exec_plcaToExpire_due hu hd hl]
      exact ⟨fun hco hlast => congrArg _ (State.plcaNext_last (State.segIn_st hu) hcyc hco hlast),
        fun h => congrArg _ (State.plcaNext_inner (State.segIn_st hu) hcyc h)⟩
    · have hsome : (s.ch c).queue.line.isSome = true := by rw [hl]; rfl
      refine ⟨fun b d hr => ⟨fun hseen hatt => ?_, fun hseen hatt => ?_, fun hseen => ?_⟩,
        exec_backoffExpire_ends hu hsome, fun hr hb hlost hturn => ?_, fun hr hb hlost hturn => ?_,
        fun hr hc h0 hs hb hm => exec_rewindOvertake_marked hu hl hr hc h0 hs hb hm⟩
      · exact exec_collision_retries hu hsome hr (State.seesCollision_iff.mpr hseen) hatt
      · refine ⟨_, exec_collision_seen hu hsome hr (State.seesCollision_iff.mpr hseen), ?_⟩
        rw [if_pos hatt]
        exact State.line_segDiscard ..
      · exact exec_collision_unseen (Bool.eq_false_iff.mpr fun h => hseen (State.seesCollision_iff.mp h))
      · exact exec_retryStart_unmarked ⟨hu, hsome, hr, hb, hlost, hturn⟩
      · exact exec_retryStart_marked ⟨hu, hsome, hr, hb, hlost, hturn⟩

end Sys2Proof.Machine
end

section
namespace Sys2Proof.Machine

/-! ### What diagnostics write (R134 to R138) -/

/-- A prediction of a tracked entry (R138). -/
def CFld.isPred : CFld → Bool
  | .DIAG_TRACKB_PRED _ => true
  | _ => false

/-- The fields that the predictions write (R138). -/
def CFld.byForecast (f : CFld) : Bool :=
  f.isPred || match f with
    | .DIAG_TRSTAT_PRED_MIN | .DIAG_SNRPRED_SLOPE | .DIAG_SNRPRED_HOURS | .DIAG_EVT_PRED_WARN => true
    | _ => false

/-- The fields that an emptied trend log sets again (R136). -/
def CFld.byClear (f : CFld) : Bool :=
  f.isPred || match f with
    | .DIAG_TRSTAT_NEXT | .DIAG_TRSTAT_WRAPPED | .DIAG_TRSTAT_PRED_MIN | .DIAG_SNRPRED_HOURS => true
    | _ => false

/-- The fields that a trend record, or its loss to a TREND_CLR, may write. -/
def CFld.byTrend (f : CFld) : Bool := f.byForecast || f.byClear

/-- The fields of the tracked features and of the feature list, with the events of tracking (R137, R142). -/
def CFld.byFeatures : CFld → Bool
  | .DIAG_TRACKA_VALID _ | .DIAG_TRACKA_DIST _ | .DIAG_TRACKA_CLASS _ | .DIAG_TRACKB_GAMMA_C _ => true
  | .DIAG_FEATA_TRACKED _ | .DIAG_FEATA_TRK _ | .DIAG_FEATA_CLASS _ | .DIAG_FEATA_DIST _ => true
  | .DIAG_FEATB_GAMMA_C _ | .DIAG_FEATB_GAMMA_RAW _ | .DIAG_EVT_CLASS_CHANGE | .DIAG_EVT_NEW_FEATURE => true
  | _ => false

theorem CFld.isPred_of_byClear {f : CFld} (h : f.byClear = false) : f.isPred = false := (Bool.or_eq_false_iff.mp h).1

theorem CFld.byForecast_of_byTrend {f : CFld} (h : f.byTrend = false) : f.byForecast = false :=
  (Bool.or_eq_false_iff.mp h).1

theorem CFld.byClear_of_byTrend {f : CFld} (h : f.byTrend = false) : f.byClear = false :=
  (Bool.or_eq_false_iff.mp h).2

/-- An operation on channel `c` that writes no field but the predictions', and of its diagnostics changes no more than which
predictions warn. -/
structure Forecasts (c : Ch) (s t : State) : Prop extends Local c CFld.byForecast s t where
  diag : ∃ a, (t.ch c).diag = { (s.ch c).diag with armed := a }

section
variable {s₀ s x t : State} {c : Ch} {p : CFld → Bool}

/-! ### The cycle of an operation (R140) -/

/-- The state in a cycle that holds `k`. -/
def State.atCyc (s : State) (k : CycSt) : State := { s with cyc := k }

@[simp] theorem State.regs_atCyc (s : State) (k : CycSt) : (s.atCyc k).regs = s.regs := rfl
@[simp] theorem State.ch_atCyc (s : State) (k : CycSt) (d : Ch) : (s.atCyc k).ch d = s.ch d := rfl
@[simp] theorem State.cg_atCyc (s : State) (k : CycSt) (d : Ch) (f : CFld) : (s.atCyc k).cg d f = s.cg d f := rfl

/-! ### Predictions (R138) -/

theorem Forecasts.refl (s : State) : Forecasts c s s := ⟨.refl s, _, rfl⟩

theorem Forecasts.cs {f v} (h : Forecasts c s₀ s) (hf : f.byForecast = true) : Forecasts c s₀ (s.cs c f v) :=
  ⟨h.toLocal.cs hf, h.diag⟩

theorem Forecasts.roundFree {num den} (h : Forecasts c s₀ s) : Forecasts c s₀ (s.roundFree num den).2 := by
  obtain ⟨k, hk⟩ := s.roundFree_snd num den
  rw [hk]
  exact ⟨h.toLocal.frame rfl rfl rfl rfl rfl, h.diag⟩

theorem Forecasts.ite {b : Prop} {_ : Decidable b} (hx : Forecasts c s₀ x) (ht : Forecasts c s₀ t) :
    Forecasts c s₀ (if b then x else t) := by
  split
  · exact hx
  · exact ht

theorem Forecasts.foldl {α : Type} {g : State → α → State} {l : List α} (h : Forecasts c s₀ s)
    (hg : ∀ {x a}, Forecasts c s₀ x → Forecasts c s₀ (g x a)) : Forecasts c s₀ (l.foldl g s) := by
  induction l generalizing s with
  | nil => exact h
  | cons a l ih => exact ih (hg h)

theorem Forecasts.predWarn {i v} (h : Forecasts c s₀ s) : Forecasts c s₀ (s.predWarn c i v) := by
  unfold State.predWarn
  extract_lets low y
  obtain ⟨hloc, a, ha⟩ : Forecasts c s₀ y := .ite (h.cs rfl) h
  exact ⟨hloc.updCh, _, by rw [State.ch_updDiag, if_pos rfl, ha]⟩

theorem Forecasts.predictions (h : Forecasts c s₀ s) : Forecasts c s₀ (s.predictions c) := by
  unfold State.predictions
  extract_lets log tl n s1 s2 pts target v f r s3
  have h1 : Forecasts c s₀ s1 := h.foldl fun h => .predWarn (h.cs rfl)
  have h2 : Forecasts c s₀ s2 := h1.cs rfl
  have h3 : Forecasts c s₀ s3 := .ite h2 (h2.roundFree.cs rfl)
  exact .predWarn (h3.cs rfl)

/-! ### The trend log (R136) -/

/-- Every prediction of a tracked entry starts again. -/
def State.predsReset (s : State) (c : Ch) : State :=
  (List.range 8).foldl (fun s j => s.cs c (.DIAG_TRACKB_PRED j) 0xFFFF) s

theorem State.ch_foldl_cs {α : Type} (g : α → CFld) (v : Nat) (l : List α) (s : State) (c d : Ch) :
    (l.foldl (fun s a => s.cs c (g a) v) s).ch d = s.ch d := by
  induction l generalizing s with
  | nil => rfl
  | cons a l ih => exact ih _

theorem State.predsReset_frame (s : State) (c : Ch) :
    Local c CFld.isPred s (s.predsReset c) ∧ (s.predsReset c).ch c = s.ch c :=
  ⟨(Local.refl s).foldl fun h => h.cs rfl, State.ch_foldl_cs ..⟩

/-- An emptied log: its place and the least prediction start again, and all predictions may warn. -/
theorem State.trendClear_frame (s : State) (c : Ch) : Local c CFld.byClear s (s.trendClear c) ∧
    ((s.trendClear c).ch c).diag = { (s.ch c).diag with log := [], armed := List.replicate 9 true } ∧
    (s.trendClear c).cg c .DIAG_TRSTAT_NEXT = 0 ∧ (s.trendClear c).cg c .DIAG_TRSTAT_WRAPPED = 0 ∧
    (s.trendClear c).cg c .DIAG_TRSTAT_PRED_MIN = 0xFFFF := by
  have hmin : (CFld.info .DIAG_TRSTAT_PRED_MIN).wid = 16 := rfl
  have heq : s.trendClear c = (((((s.cs c .DIAG_TRSTAT_NEXT 0).cs c .DIAG_TRSTAT_WRAPPED 0).predsReset c).cs c
      .DIAG_TRSTAT_PRED_MIN 0xFFFF).cs c .DIAG_SNRPRED_HOURS 0xFFFF).updDiag c fun d =>
        { d with log := [], armed := List.replicate 9 true } := rfl
  obtain ⟨hloc, hch⟩ := ((s.cs c .DIAG_TRSTAT_NEXT 0).cs c .DIAG_TRSTAT_WRAPPED 0).predsReset_frame c
  have hclear : Local c CFld.byClear s ((s.cs c .DIAG_TRSTAT_NEXT 0).cs c .DIAG_TRSTAT_WRAPPED 0) :=
    ((Local.refl s).cs rfl).cs rfl
  have hpreds := hclear.trans (hloc.mono fun _ => CFld.isPred_of_byClear)
  rw [heq]
  refine ⟨((hpreds.cs rfl).cs rfl).updCh, ?_, ?_, ?_, ?_⟩
  · rw [State.ch_updDiag, if_pos rfl, State.ch_cs, State.ch_cs, hch]
    rfl
  · simp [hloc.cg .DIAG_TRSTAT_NEXT rfl]
  · simp [hloc.cg .DIAG_TRSTAT_WRAPPED rfl]
  · simp [hmin]

/-- A field that an emptied log does not set again keeps its value. -/
theorem State.cg_trendClear (s : State) (c : Ch) {f : CFld} (hf : f.byClear = false) :
    (s.trendClear c).cg c f = s.cg c f :=
  (s.trendClear_frame c).1.cg f hf

/-- In the cycle of a TREND_CLR a record is lost (R140). -/
theorem State.writeRecord_lost (h : s.cyc.trClr = true) (iv : Interval) (tm : Nat) (isrOk up : Bool)
    (gam : List (Option Int)) :
    s.writeRecord c iv tm isrOk up gam = (s.updDiag c fun d => { d with closed := none }).trendClear c := by
  rw [State.writeRecord, if_pos h]

/-- A record is written: the log grows by one, up to its 64 records, and its place goes on. -/
theorem State.writeRecord_kept (h : s.cyc.trClr = false) (iv : Interval) (tm : Nat) (isrOk up : Bool)
    (gam : List (Option Int)) :
    Local c CFld.byTrend s (s.writeRecord c iv tm isrOk up gam) ∧
    (∃ r a, ((s.writeRecord c iv tm isrOk up gam).ch c).diag =
      { (s.ch c).diag with log := (r :: (s.ch c).diag.log).take 64, closed := none, armed := a }) ∧
    (s.writeRecord c iv tm isrOk up gam).cg c .DIAG_TRSTAT_NEXT = (s.cg c .DIAG_TRSTAT_NEXT + 1) % 64 := by
  have hw : (CFld.info .DIAG_TRSTAT_NEXT).wid = 6 := rfl
  rw [State.writeRecord, if_neg (by rw [h]; decide)]
  extract_lets f r m s1 snr rec s2 nx s3 s4
  obtain ⟨k, hk⟩ : ∃ k, s1 = { s with free := k } := by
    unfold s1 m r f
    split
    · exact ⟨_, rfl⟩
    · exact s.roundFree_snd _ _
  clear_value rec s1
  subst hk
  have h1 : Local c CFld.byTrend s { s with free := k } := (Local.refl s).frame rfl rfl rfl rfl rfl
  have h3 : Local c CFld.byTrend s s3 := h1.updCh.cs rfl
  have h4 : Local c CFld.byTrend s s4 := .ite (h3.cs rfl) h3
  have hch : s4.ch c = s3.ch c := by
    unfold s4
    split <;> rfl
  have hnext : s4.cg c .DIAG_TRSTAT_NEXT = nx := by
    have hnx : nx < 64 := Nat.mod_lt _ (by decide)
    unfold s4
    split <;> simp [s3, hw, Nat.mod_eq_of_lt hnx]
  obtain ⟨hloc, a, ha⟩ : Forecasts c s4 (if isSeg c then s4 else s4.predictions c) :=
    .ite (.refl s4) (Forecasts.refl s4).predictions
  refine ⟨h4.trans (hloc.mono fun _ => CFld.byForecast_of_byTrend), ⟨rec, a, ?_⟩, (hloc.cg _ rfl).trans hnext⟩
  rw [ha, hch, State.ch_cs, State.ch_updDiag, if_pos rfl]
  rfl

/-- Whether it is written or lost, a record leaves the run alone. -/
theorem State.writeRecord_frame (s : State) (c : Ch) (iv : Interval) (tm : Nat) (isrOk up : Bool) (gam : List (Option Int)) :
    Local c CFld.byTrend s (s.writeRecord c iv tm isrOk up gam) ∧
    ((s.writeRecord c iv tm isrOk up gam).ch c).diag.run = (s.ch c).diag.run := by
  cases h : s.cyc.trClr with
  | true =>
    obtain ⟨hloc, hdiag, -⟩ := (s.updDiag c fun d => { d with closed := none }).trendClear_frame c
    rw [State.writeRecord_lost h, hdiag, State.ch_updDiag, if_pos rfl]
    exact ⟨(Local.refl s).updCh.trans (hloc.mono fun _ => CFld.byClear_of_byTrend), rfl⟩
  | false =>
    obtain ⟨hloc, ⟨r, a, hdiag⟩, -⟩ := State.writeRecord_kept (c := c) h iv tm isrOk up gam
    exact ⟨hloc, by rw [hdiag]⟩

/-! ### A run that does not complete (R129, R135) -/

/-- A run that is stopped leaves the header's status without a feature, and its event. -/
theorem State.diagStop_aborted (h : (s.ch c).diag.run ≠ .none) :
    ((s.diagStop c 1).ch c).diag.run = .none ∧ (s.diagStop c 1).cg c .DIAG_EVT_ABORTED = 1 ∧
    (s.diagStop c 1).cg c .DIAG_RES_HDR_STATUS = 1 ∧ (s.diagStop c 1).cg c .DIAG_RES_HDR_NFEAT = 0 := by
  have hevt : (CFld.info .DIAG_EVT_ABORTED).wid = 1 := rfl
  have hstat : (CFld.info .DIAG_RES_HDR_STATUS).wid = 3 := rfl
  unfold State.diagStop
  split
  · contradiction
  · extract_lets s1 s2 s3 s4
    have hrun : (s4.ch c).diag.run = .none := by rw [State.ch_updDiag, if_pos rfl]
    have hshow : s4.cg c .DIAG_EVT_ABORTED = 1 ∧ s4.cg c .DIAG_RES_HDR_STATUS = 1 ∧ s4.cg c .DIAG_RES_HDR_NFEAT = 0 := by
      simp [s4, s3, s2, s1, hevt, hstat]
    clear_value s4
    split
    · next iv tm _ =>
      obtain ⟨hloc, hr⟩ := s4.writeRecord_frame c iv tm false true []
      rw [hr, hloc.cg _ rfl, hloc.cg _ rfl, hloc.cg _ rfl]
      exact ⟨hrun, hshow⟩
    · exact ⟨hrun, hshow⟩

/-! ### The commands of the block (R129) -/

theorem State.atCyc_self (s : State) : s.atCyc s.cyc = s := rfl

/-- A write without TREND_CLR adds nothing to its cycle. -/
theorem State.atCyc_noClr (s : State) : s.atCyc { s.cyc with trClr := s.cyc.trClr || false } = s := by
  rw [Bool.or_false]
  rfl

/-- A command alone in its write does no more than it says. -/
theorem State.diagCmd_tdr (s : State) (c : Ch) : s.diagCmd c 1 = s.tdrCmd c := by
  change ((s.atCyc { s.cyc with trClr := s.cyc.trClr || false }).tdrCmd c).atCyc s.cyc = _
  rw [State.atCyc_noClr, State.tdrCmd]
  split <;> rfl

@[inherit_doc State.diagCmd_tdr]
theorem State.diagCmd_isr (s : State) (c : Ch) : s.diagCmd c 2 = s.isrCmd c := by
  change ((s.atCyc { s.cyc with trClr := s.cyc.trClr || false }).isrCmd c).atCyc s.cyc = _
  rw [State.atCyc_noClr, State.isrCmd]
  split <;> rfl

@[inherit_doc State.diagCmd_tdr]
theorem State.diagCmd_abort (s : State) (c : Ch) : s.diagCmd c 4 = (s.diagStop c 1).atCyc s.cyc := by
  change ((s.atCyc { s.cyc with trClr := s.cyc.trClr || false }).diagStop c 1).atCyc s.cyc = _
  rw [State.atCyc_noClr]

@[inherit_doc State.diagCmd_tdr]
theorem State.diagCmd_sqiRst (s : State) (c : Ch) : s.diagCmd c 16 = s.sqiRst c := by
  change ((s.atCyc { s.cyc with trClr := s.cyc.trClr || false }).sqiRst c).atCyc s.cyc = _
  rw [State.atCyc_noClr, State.sqiRst]
  split <;> rfl

/-- TREND_CLR alone empties the log, in a cycle in which no record is written (R140). -/
theorem State.diagCmd_trendClr (s : State) (c : Ch) : s.diagCmd c 8 =
    ((s.atCyc { s.cyc with trClr := s.cyc.trClr || true }).trendClear c).atCyc s.cyc :=
  rfl

theorem State.diagStop_idle (h : (s.ch c).diag.run = .none) (status : Nat) : s.diagStop c status = s := by
  rw [State.diagStop, h]

/-- As `State.cg_landC_plain`, for what a channel holds beside its fields. -/
theorem State.ch_landC_plain {b : CBlk} {o : Nat} (v a : Nat) (p : Bool) (hk : ∀ f ∈ CFld.at b o, f.info.acc ≠ .rwk) :
    (s.landC c b .plain o v p a).ch c = (s.writeReg c b o v p).ch c := by
  have hno : ((CFld.at b o).any fun f => implFld c f && decide (f.info.acc = .rwk)) = false :=
    List.any_eq_false.mpr fun f hf => by simp [hk f hf]
  have hput : s.landC c b .plain o v p a = s.cfgPut c b o fun s => s.writeReg c b o v p := by
    simp [State.landC, State.aliasWord, hno]
  rw [hput, State.ch_cfgPut]

/-- DIAG_CTL takes its fields; the log stays unless TREND_INT changes (R136). -/
theorem State.diagCtl_frame (s : State) (c : Ch) (v : Nat) :
    (s.diagCtl c v).cg c .DIAG_CTL_TREND_FIT = bits v 21 16 ∧ (s.diagCtl c v).cg c .DIAG_CTL_TREND_INT = bits v 11 8 ∧
    (s.diagCtl c v).cg c .DIAG_CTL_AUTO_TRACK = bits v 1 1 ∧ (s.diagCtl c v).cg c .DIAG_CTL_TREND_EN = bits v 0 0 ∧
    ((s.diagCtl c v).ch c).diag.log =
      if bits v 11 8 = s.cg c .DIAG_CTL_TREND_INT then (s.ch c).diag.log else [] := by
  have hfit : (CFld.info .DIAG_CTL_TREND_FIT).wid = 6 := rfl
  have hint : (CFld.info .DIAG_CTL_TREND_INT).wid = 4 := rfl
  have hauto : (CFld.info .DIAG_CTL_AUTO_TRACK).wid = 1 := rfl
  have hen : (CFld.info .DIAG_CTL_TREND_EN).wid = 1 := rfl
  unfold State.diagCtl
  extract_lets was on s1 s2
  have h1 : s1.cg c .DIAG_CTL_TREND_FIT = bits v 21 16 ∧ s1.cg c .DIAG_CTL_TREND_INT = bits v 11 8 ∧
      s1.cg c .DIAG_CTL_AUTO_TRACK = bits v 1 1 ∧ s1.cg c .DIAG_CTL_TREND_EN = bits v 0 0 := by
    simp [s1, bits, hfit, hint, hauto, hen]
  have hch : s1.ch c = s.ch c := rfl
  obtain ⟨hloc, hlog⟩ : Local c CFld.byClear s1 s2 ∧
      (s2.ch c).diag.log = if bits v 11 8 = was then (s.ch c).diag.log else [] := by
    obtain ⟨hloc, hdiag, -⟩ := s1.trendClear_frame c
    unfold s2
    by_cases h : bits v 11 8 = was
    · rw [if_neg (not_not.mpr h), if_pos h, hch]
      exact ⟨.refl s1, rfl⟩
    · rw [if_pos h, if_neg h, hdiag]
      exact ⟨hloc, rfl⟩
  rw [← hloc.cg .DIAG_CTL_TREND_FIT rfl, ← hloc.cg .DIAG_CTL_TREND_INT rfl, ← hloc.cg .DIAG_CTL_AUTO_TRACK rfl,
    ← hloc.cg .DIAG_CTL_TREND_EN rfl] at h1
  obtain ⟨hf, hi, hau, he⟩ := h1
  clear_value s2
  split
  · refine ⟨hf, hi, hau, he, ?_⟩
    rw [State.newInterval, State.ch_updDiag, if_pos rfl]
    exact hlog
  · exact ⟨hf, hi, hau, he, hlog⟩

section
variable {src : Src} (ha : s.arrives src c .diag) (hp : (s.ch c).posted = [])
include ha hp

/-- A write of DIAG_CMD is its commands. -/
theorem State.rowW_diagCmd (v : Nat) : s.rowW src c .diag 0x14 v = .next ((s.diagCmd c v).reply 0) := by
  rw [State.rowW_outside s src c .diag 0x14 v (by decide) (by decide) ha, State.landAll_nil s c hp]
  rfl

theorem exec_tdr : exec (.tdr src c) s =
    .next ((if s.tdrOk c then s.updDiag c fun d => { d with run := .listen } else s.cs c .DIAG_EVT_CMD_REJ 1).reply 0) := by
  change s.rowW src c .diag 0x14 1 = _
  rw [State.rowW_diagCmd ha hp, State.diagCmd_tdr]
  rfl

theorem exec_isr : exec (.isr src c) s =
    .next ((if s.isrOk c then s.updDiag c fun d => { d with run := .isrWait } else s.cs c .DIAG_EVT_CMD_REJ 1).reply 0) := by
  change s.rowW src c .diag 0x14 2 = _
  rw [State.rowW_diagCmd ha hp, State.diagCmd_isr]
  rfl

theorem exec_diagAbort :
    exec (.diagAbort src c) s = .next (((s.diagStop c 1).atCyc s.cyc).reply 0) := by
  change s.rowW src c .diag 0x14 4 = _
  rw [State.rowW_diagCmd ha hp, State.diagCmd_abort]

theorem exec_trendClr : exec (.trendClr src c) s = .next
    ((((s.atCyc { s.cyc with trClr := s.cyc.trClr || true }).trendClear c).atCyc s.cyc).reply 0) := by
  change s.rowW src c .diag 0x14 8 = _
  rw [State.rowW_diagCmd ha hp, State.diagCmd_trendClr]

theorem exec_sqiRst : exec (.sqiRst src c) s = .next ((s.sqiRst c).reply 0) := by
  change s.rowW src c .diag 0x14 16 = _
  rw [State.rowW_diagCmd ha hp, State.diagCmd_sqiRst]

/-- A write of DIAG_CTL leaves the channel as `State.diagCtl` does, but for the comparison of its configuration. -/
theorem exec_diagCtlWrite (v : Word) : ∃ t, exec (.diagCtlWrite src c v) s = .next t ∧
    t.ch c = (s.diagCtl c v.toNat).ch c ∧ ∀ f, f ≠ .tr .diag .REF_ARMED → t.cg c f = (s.diagCtl c v.toNat).cg c f := by
  have hk : ∀ f ∈ CFld.at .diag 0, f.info.acc ≠ .rwk := by decide
  have hland : exec (.diagCtlWrite src c v) s =
      .next ((s.landC c .diag .plain 0 v.toNat false (chanAddr c .diag 0)).reply 0) := by
    change s.rowW src c .diag 0 v.toNat = _
    rw [State.rowW, State.rowDo_outside s src c .diag 0 v.toNat _ ha, State.landAll_nil s c hp]
    rfl
  exact ⟨_, hland, State.ch_landC_plain v.toNat _ false hk, fun f => State.cg_landC_plain v.toNat _ false hk⟩

end

/-! ### The features of a profile (R132 to R135) -/

/-- An operation that takes no more than free choices. -/
def FreeOnly (s t : State) : Prop := ∃ k, t = { s with free := k }

theorem FreeOnly.refl (s : State) : FreeOnly s s := ⟨_, rfl⟩

theorem FreeOnly.trans (h : FreeOnly s x) (h' : FreeOnly x t) : FreeOnly s t := by
  obtain ⟨_, rfl⟩ := h
  obtain ⟨k, rfl⟩ := h'
  exact ⟨k, rfl⟩

theorem FreeOnly.foldl_snd {α β : Type} {g : β × State → α → β × State} (hg : ∀ a y, FreeOnly a.2 (g a y).2) (l : List α)
    (a : β × State) : FreeOnly a.2 (l.foldl g a).2 := by
  induction l generalizing a with
  | nil => exact .refl _
  | cons y l ih => exact (hg a y).trans (ih _)

theorem State.nearest_free (s : State) (num : Int) (den : Nat) : FreeOnly s (s.nearest num den).2 := by
  unfold State.nearest
  split
  · exact ⟨_, rfl⟩
  · exact .refl s

theorem State.distOf_free (s : State) (c : Ch) (typ : Nat) (k : Peak) : FreeOnly s (s.distOf c typ k).2 := by
  unfold State.distOf
  dsimp only
  split
  · exact .refl s
  · exact s.nearest_free _ _

theorem State.features_free (s : State) (c : Ch) (typ : Nat) (isr : Bool) (n : Nat) (l : List Peak) :
    FreeOnly s (s.features c typ isr n l).2 := by
  refine FreeOnly.foldl_snd (a := (([] : List (Int × Feat)), s)) (fun a y => ?_) l
  exact ((a.2.distOf_free c typ y).trans (State.roundFree_snd _ _)).trans (State.roundFree_snd _ _)

theorem State.rawKept_free (s : State) (c : Ch) (n : Nat) (l : List (Option Int)) : FreeOnly s (s.rawKept c n l).2 := by
  unfold State.rawKept
  generalize List.range 2048 = idx
  refine FreeOnly.foldl_snd (a := (([] : List (BitVec 16)), s)) (fun a i => ?_) idx
  exact State.roundFree_snd _ _

/-! ### Tracked features and the feature list (R135, R137) -/

theorem Local.foldl_fst {α β : Type} {g : State × β → α → State × β} {l : List α} {a : State × β} (h : Local c p s₀ a.1)
    (hg : ∀ {a y}, Local c p s₀ a.1 → Local c p s₀ (g a y).1) : Local c p s₀ (l.foldl g a).1 := by
  induction l generalizing a with
  | nil => exact h
  | cons y l ih => exact ih (hg h)

theorem Local.takeEntry {j f cls} (h : Local c CFld.byFeatures s₀ s) :
    Local c CFld.byFeatures s₀ (s.takeEntry c j f cls) :=
  (((h.cs rfl).cs rfl).cs rfl).cs rfl

theorem State.trackMatch_local (s : State) (c : Ch) (res : Nat) (l : List (Feat × Nat)) :
    Local c CFld.byFeatures s (s.trackMatch c res l).1 := by
  have h0 : Local c CFld.byFeatures s (s.updDiag c fun d => { d with firstIsr := false }) := (Local.refl s).updCh
  unfold State.trackMatch
  extract_lets none8 auto empty s0 cand strong take r
  split
  · exact Local.foldl_fst h0 fun h => h.takeEntry
  · refine Local.foldl_fst h0 fun {a y} h => ?_
    dsimp only
    split
    · exact .cs (.cs (.ite (h.cs rfl) h) rfl) rfl
    · split
      · exact h
      · have hnew := h.cs (f := .DIAG_EVT_NEW_FEATURE) (v := 1) rfl
        split
        · exact hnew.takeEntry
        · exact hnew

theorem Local.putFeat {i f trk} (h : Local c CFld.byFeatures s₀ s) : Local c CFld.byFeatures s₀ (s.putFeat c i f trk) :=
  (((((h.cs rfl).cs rfl).cs rfl).cs rfl).cs rfl).cs rfl

/-- What a result that replaces the visible one shows of its run. -/
structure ResultShown (c : Ch) (isr partial' beyond : Bool) (seq : Nat) (t : State) : Prop where
  done : t.cg c .DIAG_EVT_DONE = 1
  kind : t.cg c .DIAG_RES_HDR_KIND = if isr then 2 else 1
  status : t.cg c .DIAG_RES_HDR_STATUS = 0
  seq : t.cg c .DIAG_RES_HDR_SEQ = (seq + 1) % 2 ^ (CFld.info .DIAG_RES_HDR_SEQ).wid
  beyond : t.cg c .DIAG_RES_HDR_BEYOND = b2n beyond
  part : t.cg c .DIAG_RES_HDR_PARTIAL = b2n partial'

theorem ResultShown.updDiag {isr partial' beyond seq g} (h : ResultShown c isr partial' beyond seq s) :
    ResultShown c isr partial' beyond seq (s.updDiag c g) :=
  ⟨h.done, h.kind, h.status, h.seq, h.beyond, h.part⟩

theorem ResultShown.atCyc {isr partial' beyond seq k} (h : ResultShown c isr partial' beyond seq s) :
    ResultShown c isr partial' beyond seq (s.atCyc k) :=
  ⟨h.done, h.kind, h.status, h.seq, h.beyond, h.part⟩

theorem b2n_lt_two (b : Bool) : b2n b < 2 := by cases b <;> decide

theorem State.putResult_shown (s : State) (c : Ch) (isr : Bool) (typ : Nat) (partial' beyond : Bool)
    (l : List (Feat × Nat)) (trk : List (Option Nat)) :
    ResultShown c isr partial' beyond (s.cg c .DIAG_RES_HDR_SEQ) (s.putResult c isr typ partial' beyond l trk) := by
  have hkind : (CFld.info .DIAG_RES_HDR_KIND).wid = 2 := rfl
  have hbey : (CFld.info .DIAG_RES_HDR_BEYOND).wid = 1 := rfl
  have hpart : (CFld.info .DIAG_RES_HDR_PARTIAL).wid = 1 := rfl
  unfold State.putResult
  extract_lets has s1 s2 s3 s4 ra s5 s6
  have h6 : Local c CFld.byFeatures s5 s6 := (Local.refl s5).foldl fun h => h.putFeat
  have hk : ∀ f, f.byFeatures = false → f ≠ .DIAG_EVT_DONE → (s6.cs c .DIAG_EVT_DONE 1).cg c f = s5.cg c f :=
    fun f hf hne => by rw [State.cg_cs, if_neg fun h => hne h.2, h6.cg f hf]
  constructor
  · exact State.cg_cs_flag _ rfl
  · rw [hk .DIAG_RES_HDR_KIND rfl nofun]
    cases isr <;> simp [s5, s4, s3, s2, s1, hkind]
  · rw [hk .DIAG_RES_HDR_STATUS rfl nofun]
    simp [s5, s4, s3, s2, s1]
  · rw [hk .DIAG_RES_HDR_SEQ rfl nofun]
    simp [s5, s4, s3, s2, s1, State.cinc]
  · rw [hk .DIAG_RES_HDR_BEYOND rfl nofun]
    simp [s5, s4, s3, hbey, Nat.mod_eq_of_lt (b2n_lt_two beyond)]
  · rw [hk .DIAG_RES_HDR_PARTIAL rfl nofun]
    simp [s5, s4, s3, hpart, Nat.mod_eq_of_lt (b2n_lt_two partial')]

/-! ### The end of a run (R130, R131) -/

theorem State.tdrDone_shown (s : State) (c : Ch) (bursts : List (List Int)) :
    ((s.tdrDone c bursts).ch c).diag.run = .none ∧
    ResultShown c false false (s.beyond c (s.avgBursts c * 1023) (s.magnitudes c 0 false
      (cleaned c false (s.avgBursts c * 1023) (tdrProfile c bursts)))) (s.cg c .DIAG_RES_HDR_SEQ) (s.tdrDone c bursts) := by
  unfold State.tdrDone
  extract_lets n prof mags f raw l
  obtain ⟨k, hk⟩ : FreeOnly s raw.2 := (s.features_free ..).trans (State.rawKept_free ..)
  have hseq : raw.2.cg c .DIAG_RES_HDR_SEQ = s.cg c .DIAG_RES_HDR_SEQ := by rw [hk]; rfl
  have hres := raw.2.putResult_shown c false 0 false (s.beyond c n mags) l []
  rw [hseq] at hres
  exact ⟨by rw [State.ch_updDiag, if_pos rfl], hres.updDiag⟩

theorem State.isrDone_shown (h : (s.ch c).diag.closed = none) :
    ((s.isrDone c).ch c).diag.run = .none ∧
    ResultShown c true (unmeasured c (s.ch c).diag.cover (denseLen c - 1))
      (s.beyond c 1 (s.magnitudes c (s.ch c).diag.isrTyp true (cleaned c true 1 (s.ch c).diag.prof)))
      (s.cg c .DIAG_RES_HDR_SEQ) (s.isrDone c) := by
  unfold State.isrDone
  extract_lets d prof mags f l t part s1
  have hseq : t.1.cg c .DIAG_RES_HDR_SEQ = s.cg c .DIAG_RES_HDR_SEQ := by
    obtain ⟨k, hk⟩ : FreeOnly s f.2 := s.features_free ..
    rw [(State.trackMatch_local ..).cg _ rfl, hk]
    rfl
  have hres := t.1.putResult_shown c true d.isrTyp part (s.beyond c 1 mags) l t.2.2
  rw [hseq] at hres
  have hclosed : d.closed = none := h
  rw [hclosed]
  exact ⟨by rw [State.ch_updDiag, if_pos rfl], hres.updDiag⟩

/-- A cycle without a TREND_CLR. -/
theorem State.withClr_none (s : State) (c : Ch) (g : State → State) :
    s.withClr c false g = (g (s.atCyc CycSt.none)).atCyc CycSt.none :=
  rfl

/-- A TREND_CLR in the cycle empties the log at its end (R140). -/
theorem State.withClr_clears (s : State) (c : Ch) (g : State → State) : s.withClr c true g =
    ((g (s.atCyc { CycSt.none with trClr := true })).atCyc CycSt.none).trendClear c :=
  rfl

/-! ### The phases of a run (R130, R131) -/

theorem State.diagIn_eq_true {r : DRun} (hclk : s.clocked c .diag = true) (hr : (s.ch c).diag.run = r) :
    s.diagIn c r = true := by
  simp [State.diagIn, hclk, hr]

theorem State.diagIn_eq_false {r : DRun} (hr : (s.ch c).diag.run ≠ r) : s.diagIn c r = false := by
  simp [State.diagIn, hr]

theorem exec_tdrActivityDetect_listening (hclk : s.clocked c .diag = true) (hr : (s.ch c).diag.run = .listen) :
    exec (.tdrActivityDetect c) s = .next (s.diagStop c 2) :=
  if_pos (State.diagIn_eq_true hclk hr)

theorem exec_tdrListenEnd_listening (hclk : s.clocked c .diag = true) (hr : (s.ch c).diag.run = .listen) :
    exec (.tdrListenEnd c) s = .next (s.updDiag c fun d => { d with run := .acquire }) :=
  if_pos (State.diagIn_eq_true hclk hr)

theorem exec_tdrAcquireEnd_acquiring (hclk : s.clocked c .diag = true) (hr : (s.ch c).diag.run = .acquire) :
    exec (.tdrAcquireEnd c) s = .next (s.updDiag c fun d => { d with run := .process }) :=
  if_pos (State.diagIn_eq_true hclk hr)

/-- A link-down run that launches has the hybrid off. -/
theorem State.hybridOn_launched (h : (s.ch c).diag.run.launches = true) : s.hybridOn c = false := by
  rw [State.hybridOn, h, Bool.not_true, Bool.and_false]

/-- With fewer bursts than it averages a link-down run goes on. -/
theorem exec_diagRunComplete_short {bursts : List (List Int)} (hr : (s.ch c).diag.run = .process)
    (hlen : bursts.length ≠ s.avgBursts c) (clr : Bool) : exec (.diagRunComplete c bursts clr) s = .next s := by
  change execDiagRunComplete c bursts clr s = _
  rw [execDiagRunComplete, if_neg (by simp [hlen]), if_neg (by rw [State.diagIn_eq_false (by rw [hr]; nofun)]; decide)]
  rfl

theorem exec_diagRunComplete_tdr {bursts : List (List Int)} (hclk : s.clocked c .diag = true)
    (hr : (s.ch c).diag.run = .process) (hlen : bursts.length = s.avgBursts c) :
    ∃ t, exec (.diagRunComplete c bursts false) s = .next t ∧ (t.ch c).diag.run = .none ∧
      ResultShown c false false (s.beyond c (s.avgBursts c * 1023) (s.magnitudes c 0 false
        (cleaned c false (s.avgBursts c * 1023) (tdrProfile c bursts)))) (s.cg c .DIAG_RES_HDR_SEQ) t := by
  have hrun : exec (.diagRunComplete c bursts false) s = .next (s.withClr c false fun s => s.tdrDone c bursts) := by
    change execDiagRunComplete c bursts false s = _
    rw [execDiagRunComplete, if_pos (by rw [State.diagIn_eq_true hclk hr, hlen]; simp)]
    rfl
  obtain ⟨hnone, hres⟩ := (s.atCyc CycSt.none).tdrDone_shown c bursts
  rw [State.withClr_none] at hrun
  exact ⟨_, hrun, (congrArg (·.diag.run) (State.ch_atCyc ..)).trans hnone, hres.atCyc⟩

theorem exec_diagRunComplete_isr (hclk : s.clocked c .diag = true) (hr : (s.ch c).diag.run = .isrCap)
    (hcl : (s.ch c).diag.closed = none) (bursts : List (List Int)) :
    ∃ t, exec (.diagRunComplete c bursts false) s = .next t ∧ (t.ch c).diag.run = .none ∧
      ResultShown c true (unmeasured c (s.ch c).diag.cover (denseLen c - 1))
        (s.beyond c 1 (s.magnitudes c (s.ch c).diag.isrTyp true (cleaned c true 1 (s.ch c).diag.prof)))
        (s.cg c .DIAG_RES_HDR_SEQ) t := by
  have hrun : exec (.diagRunComplete c bursts false) s = .next (s.withClr c false fun s => s.isrDone c) := by
    change execDiagRunComplete c bursts false s = _
    rw [execDiagRunComplete, if_neg (by rw [State.diagIn_eq_false (by rw [hr]; nofun)]; simp),
      if_pos (State.diagIn_eq_true hclk hr)]
    rfl
  obtain ⟨hnone, hres⟩ := State.isrDone_shown (s := s.atCyc CycSt.none) hcl
  rw [State.withClr_none] at hrun
  exact ⟨_, hrun, (congrArg (·.diag.run) (State.ch_atCyc ..)).trans hnone, hres.atCyc⟩

/-! ### The end of a trend interval (R136, R140) -/

/-- The interval that runs ends at its time, and a fresh one begins. -/
def State.nextInterval (s : State) (c : Ch) : State :=
  (s.updDiag c fun d =>
    { d with opTicks := max d.opTicks (d.ivT0 + 2 ^ s.cg c .DIAG_CTL_TREND_INT * 25000000) }).newInterval c

theorem State.nextInterval_frame (s : State) (c : Ch) : (s.nextInterval c).regs = s.regs ∧ ∃ a b n,
    (s.nextInterval c).ch c = { s.ch c with diag := { (s.ch c).diag with iv := a, ivT0 := b, opTicks := n } } := by
  refine ⟨rfl, ?_⟩
  rw [State.nextInterval, State.newInterval, State.ch_updDiag, if_pos rfl, State.ch_updDiag, if_pos rfl]
  exact ⟨_, _, _, rfl⟩

theorem exec_trendIntervalEnd (hclk : s.clocked c .diag = true) (hen : s.cb c .DIAG_CTL_TREND_EN = true)
    (hcl : (s.ch c).diag.closed = none) (clr : Bool) : exec (.trendIntervalEnd c clr) s =
      .next ((s.nextInterval c).withClr c clr fun y => y.closeInterval c (s.ch c).diag.iv) := by
  change execTrendIntervalEnd c clr s = _
  rw [execTrendIntervalEnd, if_neg (by rw [hclk, hen, hcl]; decide)]
  dsimp only
  rw [State.ch_updDiag, if_pos rfl]
  rfl

/-- Without the link throughout a record is written at once. -/
theorem State.closeInterval_down {iv : Interval} (h : iv.up = false) :
    s.closeInterval c iv = s.writeRecord c iv (s.opTime c) false false [] := by
  rw [State.closeInterval, if_pos (by rw [h]; rfl)]

/-- With the link up throughout the interval waits for its in-service run. -/
theorem State.closeInterval_isr {iv : Interval} (h : iv.up = true) (hok : s.isrOk c = true) : s.closeInterval c iv =
    s.updDiag c fun d => { d with closed := some (iv, s.opTime c), run := .isrWait } := by
  obtain ⟨⟨⟨hseg, hrun⟩, -⟩, -⟩ : ((isSeg c = false ∧ (s.ch c).diag.run = .none) ∧ (s.ch c).link.st = .up) ∧
      ((s.ch c).sub = .up ∨ (s.ch c).sub = .lpi) := by simpa [State.isrOk] using hok
  rw [State.closeInterval, h, hrun, if_neg (by decide), if_neg (by rw [hseg]; decide), if_neg (by decide), if_pos hok]

/-- An interval with the link up throughout is kept, with its time, until its run is done. -/
theorem exec_trendIntervalEnd_up (hclk : s.clocked c .diag = true) (hen : s.cb c .DIAG_CTL_TREND_EN = true)
    (hcl : (s.ch c).diag.closed = none) (hup : (s.ch c).diag.iv.up = true) (hok : s.isrOk c = true) :
    ∃ t, exec (.trendIntervalEnd c false) s = .next t ∧ t.regs = s.regs ∧ (t.ch c).diag.run = .isrWait ∧
      (t.ch c).diag.closed.map Prod.fst = some (s.ch c).diag.iv ∧ (t.ch c).diag.log = (s.ch c).diag.log := by
  obtain ⟨hregs, a, b, n, hch⟩ := s.nextInterval_frame c
  refine ⟨_, exec_trendIntervalEnd hclk hen hcl false, ?_⟩
  rw [State.withClr_none]
  have hok' : ((s.nextInterval c).atCyc CycSt.none).isrOk c = true := by
    rw [State.isrOk, State.ch_atCyc, hch]
    exact hok
  rw [State.closeInterval_isr hup hok', State.ch_atCyc, State.ch_updDiag, if_pos rfl, State.ch_atCyc, hch]
  exact ⟨hregs, rfl, rfl, rfl⟩

theorem exec_trendIntervalEnd_down (hclk : s.clocked c .diag = true) (hen : s.cb c .DIAG_CTL_TREND_EN = true)
    (hcl : (s.ch c).diag.closed = none) (hup : (s.ch c).diag.iv.up = false) :
    ∃ t, exec (.trendIntervalEnd c false) s = .next t ∧ (t.ch c).diag.run = (s.ch c).diag.run ∧
      (t.ch c).diag.log.length = min 64 ((s.ch c).diag.log.length + 1) ∧
      t.cg c .DIAG_TRSTAT_NEXT = (s.cg c .DIAG_TRSTAT_NEXT + 1) % 64 := by
  obtain ⟨hregs, a, b, n, hch⟩ := s.nextInterval_frame c
  refine ⟨_, exec_trendIntervalEnd hclk hen hcl false, ?_⟩
  rw [State.withClr_none, State.closeInterval_down hup]
  obtain ⟨-, ⟨r, m, hdiag⟩, hnext⟩ := State.writeRecord_kept (s := (s.nextInterval c).atCyc CycSt.none) (c := c) rfl
    (s.ch c).diag.iv (((s.nextInterval c).atCyc CycSt.none).opTime c) false false []
  rw [State.ch_atCyc, State.cg_atCyc, hdiag, hnext, State.ch_atCyc, hch, State.cg_atCyc, State.cg_of_regs hregs]
  exact ⟨rfl, List.length_take, rfl⟩

theorem exec_trendIntervalEnd_lost (hclk : s.clocked c .diag = true) (hen : s.cb c .DIAG_CTL_TREND_EN = true)
    (hcl : (s.ch c).diag.closed = none) (hup : (s.ch c).diag.iv.up = false) :
    ∃ t, exec (.trendIntervalEnd c true) s = .next t ∧ (t.ch c).diag.log = [] ∧
      t.cg c .DIAG_EVT_PRED_WARN = s.cg c .DIAG_EVT_PRED_WARN := by
  obtain ⟨hregs, -⟩ := s.nextInterval_frame c
  refine ⟨_, exec_trendIntervalEnd hclk hen hcl true, ?_⟩
  rw [State.withClr_clears, State.closeInterval_down hup, State.writeRecord_lost rfl]
  obtain ⟨-, hdiag, -⟩ := State.trendClear_frame _ c
  rw [hdiag, State.cg_trendClear _ c rfl, State.cg_atCyc, State.cg_trendClear _ c rfl]
  exact ⟨rfl, State.cg_of_regs hregs c _⟩

end

/-- Settles O50: each command of DIAG_CMD is one equation, a stopped or completed run shows what its header says, and a
record is the log's next one or, in a TREND_CLR's cycle, the loss of the log. -/
theorem diagnosticRunsAndTrends : Obligations.DiagnosticRunsAndTrends := by
  unfold Obligations.DiagnosticRunsAndTrends
  intro s c d
  refine ⟨fun src ha hp => ?commands, fun hclk => ⟨fun hrun => ?listen, fun hrun => ?hybrid, fun hrun => ?acquire,
    fun bursts clr hrun hlen => ?short, fun bursts hrun => ?complete, fun hen hcl => ?trend⟩⟩
  case commands =>
    refine ⟨fun h => ?_, fun h => ?_, fun h => ?_, fun h => ?_, fun h => ?_, fun h => ?_, ?_, fun hseg => ?_, fun v => ?_⟩
    · rw [exec_tdr ha hp, if_pos h]
    · rw [exec_tdr ha hp, if_neg (by rw [h]; decide)]
    · rw [exec_isr ha hp, if_pos h]
    · rw [exec_isr ha hp, if_neg (by rw [h]; decide)]
    · rw [exec_diagAbort ha hp, State.diagStop_idle h, State.atCyc_self]
    · refine ⟨_, exec_diagAbort ha hp, ?_⟩
      simpa using State.diagStop_aborted h
    · obtain ⟨-, hclr⟩ := (s.atCyc { s.cyc with trClr := s.cyc.trClr || true }).trendClear_frame c
      refine ⟨_, exec_trendClr ha hp, ?_⟩
      simpa using hclr
    · rw [exec_sqiRst ha hp, State.sqiRst, if_neg (by rw [hseg]; decide)]
    · obtain ⟨t, ht, hch, hcg⟩ := exec_diagCtlWrite ha hp v
      refine ⟨t, ht, ?_⟩
      rw [hcg .DIAG_CTL_TREND_FIT nofun, hcg .DIAG_CTL_TREND_INT nofun, hcg .DIAG_CTL_AUTO_TRACK nofun,
        hcg .DIAG_CTL_TREND_EN nofun, hch]
      exact s.diagCtl_frame c v.toNat
  case listen => exact ⟨exec_tdrActivityDetect_listening hclk hrun, exec_tdrListenEnd_listening hclk hrun⟩
  case hybrid => exact State.hybridOn_launched (by rcases hrun with h | h <;> rw [h] <;> rfl)
  case acquire => exact exec_tdrAcquireEnd_acquiring hclk hrun
  case short => exact exec_diagRunComplete_short hrun hlen clr
  case complete =>
    intro n tdr
    rcases hrun with ⟨hrun, hlen⟩ | ⟨hrun, hclosed⟩
    · obtain ⟨t, ht, hnone, hres⟩ := exec_diagRunComplete_tdr hclk hrun hlen
      refine ⟨t, ht, hnone, hres.done, ?_, hres.status, hres.seq, fun _ => ⟨hres.beyond, hres.part⟩, fun h => ?_⟩
      · rw [if_pos hrun]
        exact hres.kind
      · exact absurd (hrun.symm.trans h) nofun
    · obtain ⟨t, ht, hnone, hres⟩ := exec_diagRunComplete_isr hclk hrun hclosed bursts
      refine ⟨t, ht, hnone, hres.done, ?_, hres.status, hres.seq, fun h => ?_, fun _ => ⟨hres.beyond, hres.part⟩⟩
      · rw [if_neg (by rw [hrun]; nofun)]
        exact hres.kind
      · exact absurd (hrun.symm.trans h) nofun
  case trend =>
    exact ⟨fun _ hup hok => exec_trendIntervalEnd_up hclk hen hcl hup hok,
      fun hup => exec_trendIntervalEnd_down hclk hen hcl hup, fun hup => exec_trendIntervalEnd_lost hclk hen hcl hup⟩

end Sys2Proof.Machine
end
